-- ==== Sys2Proof/Word.lean ====
section
/-! DEFINITION. The word types. Bit 0 is the least significant bit and multi-byte quantities are little-endian (R4). -/
namespace Sys2Proof

/-- A byte. -/
abbrev Byte := BitVec 8

/-- A 32-bit word: a predicate word, a bit-block, half a register. -/
abbrev Word32 := BitVec 32

/-- A 64-bit word: a register (R8), a general register (R143), an instruction (R147). -/
abbrev Word64 := BitVec 64

end Sys2Proof
end

