-- ==== Sys2Proof/Machine/Assoc.lean ====
section
/-! DEFINITION. Tables keyed by a number, as lists of pairs with rising keys: registers by offset, tiles by number,
memory bytes by address. -/
namespace Sys2Proof.Machine

/-- A table keyed by a number. -/
abbrev Assoc (α : Type) := List (Nat × α)

/-- The entry of key `k`. -/
def aget {α : Type} : Assoc α → Nat → Option α
  | [], _ => none
  | (j, v) :: t, k => if j = k then some v else aget t k

/-- The entry of key `k`, or a default. -/
def agetD {α : Type} (t : Assoc α) (k : Nat) (d : α) : α := (aget t k).getD d

/-- The table with key `k` set to `v`, keys kept rising. -/
def aset {α : Type} : Assoc α → Nat → α → Assoc α
  | [], k, v => [(k, v)]
  | (j, w) :: t, k, v => if k < j then (k, v) :: (j, w) :: t else if k = j then (k, v) :: t else (j, w) :: aset t k v

/-- The table without key `k`. -/
def adel {α : Type} : Assoc α → Nat → Assoc α
  | [], _ => []
  | (j, w) :: t, k => if j = k then t else (j, w) :: adel t k

/-- Whether key `k` is listed. -/
def ahas {α : Type} (t : Assoc α) (k : Nat) : Bool := (aget t k).isSome

/-- The table with key `k` set to `v`, where an entry equal to the default `d` is not listed. -/
def aput {α : Type} [DecidableEq α] (d : α) (t : Assoc α) (k : Nat) (v : α) : Assoc α :=
  if v = d then adel t k else aset t k v

/-- The table without the keys that `p` names. -/
def adrop {α : Type} (p : Nat → Bool) (t : Assoc α) : Assoc α := t.filter fun e => !p e.1

/-- The keys of a table rise. -/
def Rising {α : Type} : Assoc α → Prop
  | [] => True
  | [_] => True
  | a :: b :: t => a.1 < b.1 ∧ Rising (b :: t)

/-- A list with the element at position `i` replaced. -/
def lset {α : Type} : List α → Nat → α → List α
  | [], _, _ => []
  | _ :: t, 0, v => v :: t
  | a :: t, i + 1, v => a :: lset t i v

/-- A list with the element at position `i` taken out. -/
def ldel {α : Type} : List α → Nat → List α
  | [], _ => []
  | _ :: t, 0 => t
  | a :: t, i + 1 => a :: ldel t i

/-- The element at position `i`, or a default. -/
def lget {α : Type} (l : List α) (i : Nat) (d : α) : α := (l[i]?).getD d

/-- The position of the first element that `p` accepts. -/
def lfind {α : Type} (p : α → Bool) : List α → Option Nat
  | [] => none
  | a :: t => if p a then some 0 else (lfind p t).map (· + 1)

end Sys2Proof.Machine
end

