-- ==== Sys2Proof/Machine/BootTypes.lean ====
section
/-! DEFINITION. What fuses hold (R1, R20, R404), and the state of bring-up. -/
namespace Sys2Proof.Machine

/-- The fuse record: variant code (0x0C PQ-4812, 0x0A PQ-4810, 0x08 PQ-4808), stepping, the tiles and stacks fused off,
the fused Fmax of each tile in 25 MHz units (136 where unlisted), and the serial number. -/
structure FuseRecord where
  variant : Nat
  stepping : Nat
  tilesOff : List Nat
  stacksOff : List Nat
  fmax : Assoc Nat
  serial : Word64
  /-- The ports and fold units fused off (R414); the key digests, revocation fuses and security-version counter (R487). -/
  portsOff : List Nat
  foldsOff : List Nat
  keys : List (BitVec 512)
  revoked : Nat
  svn : Nat
  /-- The identity seed (R487), which never leaves the root of trust. -/
  seed : BitVec 256
  deriving DecidableEq, Repr

/-- The variant quantities of R1, R41 and R213. -/
def FuseRecord.tilesGrade (f : FuseRecord) : Nat :=
  if f.variant = 0x0C then 128 else if f.variant = 0x0A then 112 else 96
def FuseRecord.stacks (f : FuseRecord) : Nat :=
  if f.variant = 0x0C then 12 else if f.variant = 0x0A then 10 else 8
def FuseRecord.sustainedW (f : FuseRecord) : Nat :=
  if f.variant = 0x0C then 3200 else if f.variant = 0x0A then 2800 else 2400
def FuseRecord.burstW (f : FuseRecord) : Nat :=
  if f.variant = 0x0C then 3600 else if f.variant = 0x0A then 3150 else 2700

/-- The interleave length L of R213. -/
def FuseRecord.ilvLength (f : FuseRecord) : Nat :=
  if f.variant = 0x0C then 3072 else if f.variant = 0x0A then 3840 else 4096

end Sys2Proof.Machine
end

