-- ==== Sys2Proof/Machine/Bits.lean ====
section
/-! DEFINITION. Bit fields, sign extension and byte order (R4), on natural numbers below a power of two. -/
namespace Sys2Proof.Machine

/-- The value of bits `[hi:lo]` of `v`. -/
def bitsOf (v hi lo : Nat) : Nat := (v >>> lo) % 2 ^ (hi + 1 - lo)

/-- Bit `i` of `v`. -/
def bitAt (v i : Nat) : Bool := (v >>> i) % 2 == 1

/-- `v` with bits `[hi:lo]` replaced by the low bits of `x`. -/
def withBits (v hi lo x : Nat) : Nat :=
  v - (bitsOf v hi lo <<< lo) + ((x % 2 ^ (hi + 1 - lo)) <<< lo)

/-- `v` with bit `i` set, or cleared. -/
def withBit (v i : Nat) (b : Bool) : Nat := withBits v i i (if b then 1 else 0)

/-- The value of a flag as a number. -/
def natOfBool (b : Bool) : Nat := if b then 1 else 0

/-- The number that `v` stands for in `w`-bit two's complement. -/
def signedOf (w v : Nat) : Int :=
  if v % 2 ^ w < 2 ^ (w - 1) then (v % 2 ^ w : Nat) else ((v % 2 ^ w : Nat) : Int) - (2 ^ w : Nat)

/-- `x` in `w`-bit two's complement: the remainder of `x` by `2 ^ w`. -/
def twosOf (w : Nat) (x : Int) : Nat := (x % ((2 ^ w : Nat) : Int)).toNat

/-- A `w`-bit value sign-extended to 64 bits. -/
def sext64 (w v : Nat) : Nat := twosOf 64 (signedOf w v)

/-- Byte `k` of `v`. -/
def byteAt (v k : Nat) : Byte := BitVec.ofNat 8 (v >>> (8 * k))

/-- The first `n` bytes of `v`, least significant first. -/
def bytesOf : Nat → Nat → List Byte
  | 0, _ => []
  | n + 1, v => BitVec.ofNat 8 v :: bytesOf n (v / 256)

/-- The number a list of bytes spells, least significant first. -/
def ofBytes : List Byte → Nat
  | [] => 0
  | b :: bs => b.toNat + 256 * ofBytes bs

/-- The bytes of a list of 64-bit words. -/
def bytesOfWords (ws : List Word64) : List Byte := ws.flatMap fun w => bytesOf 8 w.toNat

/-- A list of bytes cut into 64-bit words; a last short word is filled with zeros. The first argument bounds the
number of words. -/
def wordsOfBytesAux : Nat → List Byte → List Word64
  | 0, _ => []
  | _ + 1, [] => []
  | n + 1, bs => BitVec.ofNat 64 (ofBytes (bs.take 8)) :: wordsOfBytesAux n (bs.drop 8)

/-- A list of bytes as 64-bit words. -/
def wordsOfBytes (bs : List Byte) : List Word64 := wordsOfBytesAux (bs.length / 8 + 1) bs

/-- The number of one bits among the low `n` bits. -/
def popCount : Nat → Nat → Nat
  | 0, _ => 0
  | n + 1, v => v % 2 + popCount n (v / 2)

/-- The number of leading zeros of `v` in `w` bits. -/
def leadingZeros (w v : Nat) : Nat := if v % 2 ^ w = 0 then w else w - 1 - Nat.log2 (v % 2 ^ w)

/-- The number of trailing zeros of `v`, at most the first argument. -/
def trailingZeros : Nat → Nat → Nat
  | 0, _ => 0
  | n + 1, v => if v % 2 = 1 then 0 else 1 + trailingZeros n (v / 2)

/-- The bitwise complement in `w` bits. -/
def notBits (w v : Nat) : Nat := 2 ^ w - 1 - v % 2 ^ w

/-- The positions below `n` whose bit in `v` is 1, lowest first. -/
def setBitsBelow (n v : Nat) : List Nat := (List.range n).filter fun i => bitAt v i

/-- Addition that stops at `m`. -/
def satAdd (m a b : Nat) : Nat := if a + b ≤ m then a + b else m

/-- `n` rounded up to a multiple of `k`. -/
def roundUp (k n : Nat) : Nat := (n + k - 1) / k * k

end Sys2Proof.Machine
end

