-- ==== Sys2Proof/Machine/Packet.lean ====
section
/-! DEFINITION. Packets: the common header (R255), the type codes (R259), the payload control word (R257) and the
packets' words. -/
namespace Sys2Proof.Machine

/-- A packet: the fields of the common header of R255, and the 64-bit words that follow the header. Reserved header
bits have no field: a packet carries zeros there. -/
structure Packet where
  dst : Nat
  src : Nat
  length : Nat
  vc : Nat
  type : Nat
  status : Nat
  flagged : Bool
  raddle : Bool
  mcast : Bool
  sequence : Nat
  epoch : Nat
  partition : Nat
  domain : Nat
  operation : Nat
  body : List Word64
  deriving DecidableEq, Repr

/-- A packet with a header of zeros. -/
def Packet.blank : Packet := ⟨0, 0, 1, 0, 0, 0, false, false, false, 0, 0, 0, 0, 0, []⟩

-- The type codes of R259.
def tTOKEN : Nat := 0x01
def tCREDIT : Nat := 0x02
def tTOKEN_NAK : Nat := 0x03
def tINTAKE_REQ : Nat := 0x04
def tINTAKE_GRANT : Nat := 0x05
def tGET_REQ : Nat := 0x06
def tCOMPLETION : Nat := 0x07
def tWRITE : Nat := 0x08
def tFLAGGED_WRITE : Nat := 0x09
def tGET_DATA : Nat := 0x0A
def tGRAPH : Nat := 0x0B
def tFOLD_DATA : Nat := 0x0C
def tFOLD_CTRL : Nat := 0x0D
def tMGMT_REQ : Nat := 0x0E
def tMGMT_RESP : Nat := 0x0F
def tHEFT : Nat := 0x10
def tBELL : Nat := 0x11
def tPEER_STATE : Nat := 0x12
def tEPOCH : Nat := 0x13
def tMUSTER : Nat := 0x14

/-- Whether a type's class is control (R259). -/
def isControlType (t : Nat) : Bool :=
  (1 ≤ t && t ≤ 7) || (0x0D ≤ t && t ≤ 0x13)

/-- Whether the table of R259 allows a type on a virtual channel; a reserved type is allowed on none. -/
def vcAllowed (t vc : Nat) : Bool :=
  if 1 ≤ t && t ≤ 6 then vc == 0
  else if t == tCOMPLETION || t == tFLAGGED_WRITE then vc == 1
  else if t == tWRITE then vc == 2 || vc == 3 || vc == 4 || vc == 7
  else if t == tGET_DATA || t == tGRAPH then vc == 2 || vc == 3 || vc == 7
  else if t == tFOLD_DATA || t == tFOLD_CTRL then vc == 5
  else if 0x0E ≤ t && t ≤ 0x14 then vc == 6
  else false

/-- Word `i` of the packet, counted from the start of the header's 16 bytes: word 2 is the first after the header. -/
def Packet.word (p : Packet) (i : Nat) : Nat := ((p.body[i - 2]?).getD 0).toNat

/-- Word 0 of the common header. -/
def headerWord0 (p : Packet) : Word64 :=
  BitVec.ofNat 64 (p.dst % 65536 + (p.src % 65536) <<< 16 + (p.length % 16384) <<< 32 + (p.vc % 8) <<< 46
    + (p.type % 32) <<< 49 + (p.status % 4) <<< 54 + (natOfBool p.flagged) <<< 56 + (natOfBool p.raddle) <<< 57
    + (natOfBool p.mcast) <<< 63)

/-- Word 1 of the common header. -/
def headerWord1 (p : Packet) : Word64 :=
  BitVec.ofNat 64 (p.sequence % 65536 + (p.epoch % 65536) <<< 16 + (p.partition % 4096) <<< 32
    + (p.domain % 1024) <<< 44 + (p.operation % 64) <<< 54)

/-- The words of a packet on the wire, filled with zeros to whole 16-byte units. -/
def packetWords (p : Packet) : List Word64 :=
  let ws := headerWord0 p :: headerWord1 p :: p.body
  ws ++ List.replicate (2 * p.length - ws.length) 0

/-- The packet that a list of words spells. -/
def packetOfWords : List Word64 → Option Packet
  | w0 :: w1 :: body =>
    let a := w0.toNat
    let b := w1.toNat
    some ⟨bitsOf a 15 0, bitsOf a 31 16, bitsOf a 45 32, bitsOf a 48 46, bitsOf a 53 49, bitsOf a 55 54, bitAt a 56,
      bitAt a 57, bitAt a 63, bitsOf b 15 0, bitsOf b 31 16, bitsOf b 43 32, bitsOf b 53 44, bitsOf b 59 54, body⟩
  | _ => none

/-- The length in 16-byte units of a packet with `n` words after the header (R255). -/
def unitsFor (n : Nat) : Nat := 1 + (n + 1) / 2

/-- A packet with its length field set from its body, and the body filled to whole units. -/
def Packet.sized (p : Packet) : Packet :=
  { p with length := unitsFor p.body.length,
           body := p.body ++ List.replicate (p.body.length % 2) 0 }

-- The payload control word of R257: word 3 of a data packet, word 2 of a completion.
def pcSrcTile (w : Nat) : Nat := bitsOf w 7 0
def pcChan (w : Nat) : Nat := bitsOf w 9 8
def pcAckDom (w : Nat) : Nat := bitsOf w 19 10
def pcAckEn (w : Nat) : Bool := bitAt w 20
def pcNeedCpl (w : Nat) : Bool := bitAt w 21
def pcCause (w : Nat) : Nat := bitsOf w 27 24
def pcExt (w : Nat) : Nat := bitsOf w 63 32

/-- A payload control word. -/
def payloadControl (tile chan ackDom : Nat) (ackEn needCpl : Bool) (cause ext : Nat) : Word64 :=
  BitVec.ofNat 64 (tile % 256 + (chan % 4) <<< 8 + (ackDom % 1024) <<< 10 + (natOfBool ackEn) <<< 20
    + (natOfBool needCpl) <<< 21 + (cause % 16) <<< 24 + (ext % 2 ^ 32) <<< 32)

/-- The destination address of a data packet (word 2, the address extension of R256). -/
def Packet.addr (p : Packet) : Nat := p.word 2

/-- The payload control word of a data packet. -/
def Packet.control (p : Packet) : Nat := p.word 3

/-- The payload words of a WRITE, FLAGGED_WRITE or GET_DATA packet. -/
def Packet.payload (p : Packet) : List Word64 := p.body.drop 2

/-- The cause that a packet carries: of a data packet in its payload control word, of a completion in word 2 (R258). -/
def Packet.cause (p : Packet) : Nat :=
  if p.status = 1 then (if p.type = tCOMPLETION then pcCause (p.word 2) else pcCause p.control) else 0

-- The space and offset fields of a global address (R24).
def gaNode (a : Nat) : Nat := bitsOf a 63 48
def gaSpace (a : Nat) : Nat := bitsOf a 47 46
def gaHbm (a : Nat) : Nat := bitsOf a 39 0
def gaTile (a : Nat) : Nat := bitsOf a 45 38
def gaSpad (a : Nat) : Nat := bitsOf a 22 0
def gaReg (a : Nat) : Nat := bitsOf a 25 0

/-- A global address of HBM (R24). -/
def hbmAddr (node off : Nat) : Nat := (node % 65536) <<< 48 + off % 2 ^ 40

/-- A global address of a tile's scratchpad (R24). -/
def spadAddr (node tile off : Nat) : Nat := (node % 65536) <<< 48 + 1 <<< 46 + (tile % 256) <<< 38 + off % 2 ^ 23

/-- A global address of a register (R24). -/
def regAddr (node off : Nat) : Nat := (node % 65536) <<< 48 + 2 <<< 46 + off % 2 ^ 26

/-- R25: the space is reserved, or a bit that R24 shows as zero is not. -/
def malformed (a : Nat) : Bool :=
  match gaSpace a with
  | 0 => bitsOf a 45 40 != 0
  | 1 => bitsOf a 37 23 != 0
  | 2 => bitsOf a 45 26 != 0
  | _ => true

end Sys2Proof.Machine
end

