-- ==== Sys2Proof/Machine/NetTypes.lean ====
section
/-! DEFINITION. The state of the graph intake, the flag-hold buffer, the get responder and the router's buffers. -/
namespace Sys2Proof.Machine

/-- A TOKEN_NAK (R64) as its command gives it: the packet, and for each of its entries which record of the tile's list it
refuses once more, as its place plus 1, or 0 for a first refusal (log entry 101). -/
structure RefusalPacket where
  packet : Packet
  which : List Nat
  deriving DecidableEq, Repr

/-- An intake request that waits in a paddock's request FIFO (R48): its header, the units and the sender's tag. -/
structure IntakeRequest where
  header : Packet
  units : Nat
  tag : Nat
  deriving DecidableEq, Repr

/-- A grant that no graph packet has used (R50): ticket, source node, partition, paddock and units. -/
structure Grant where
  ticket : Nat
  src : Nat
  partition : Nat
  pad : Nat
  units : Nat
  deriving DecidableEq, Repr

/-- A graph packet in a paddock's queue (R51, R55): its header, the preamble's fields, the descriptors that remain, the
number of the next one, the units held, and the placed and refused descriptors so far (R52). -/
structure QueuedGraph where
  header : Packet
  count : Nat
  reply : Bool
  graphId : Nat
  replyAddr : Nat
  replyDomain : Nat
  rest : List (List Word64)
  next : Nat
  units : Nat
  placed : Nat
  refusedMap : Nat
  firstCause : Nat
  deriving DecidableEq, Repr

/-- A paddock's part of the graph intake: its queue, its request FIFO, whether the saturated event may fire (R69), and
the queue bytes retired with the time of each retirement (R77). -/
structure Paddock where
  queue : List QueuedGraph
  requests : List IntakeRequest
  satArmed : Bool
  retired : List (Nat × Nat)
  /-- When its queue last became non-empty, and when a descriptor was last placed (R378). -/
  queueAt : Nat
  placeAt : Nat
  deriving DecidableEq, Repr

/-- A paddock with nothing queued. -/
def Paddock.empty : Paddock := ⟨[], [], true, [], 0, 0⟩

/-- An entry of the flag-hold buffer (R200): the flagged packet and the paddock it counts against. -/
structure HeldFlag where
  packet : Packet
  pad : Nat
  deriving DecidableEq, Repr

/-- A request of the get responder (R261): the GET_REQ, the bytes returned so far and the number of the next packet. -/
structure GetEntry where
  req : Packet
  off : Nat
  seq : Nat
  deriving DecidableEq, Repr

/-- A packet at a router input port (R265): the port, the packet, the virtual channel on which its units come, how many
have come so far (R267), whether it waits for a route (R273), whether the VC7 rate limiter holds it (R279), and whether
it came while the port's heft entry was not AGREED (R343). -/
structure InPacket where
  port : Nat
  packet : Packet
  wire : Nat
  came : Nat
  held : Bool
  limited : Bool
  early : Bool
  deriving DecidableEq, Repr

/-- A packet that has been looked up and is leaving (R267): the port it leaves by, the packet, the 16-byte units already
sent, the input port and virtual channel in whose buffer it stands, the virtual channel on which its units come, how
many have come, the number of its lookup, and whether that lookup made several copies (R272). Port 8 stands for the
delivery on this node and port 9 for a discard, of a packet whose units are still coming. -/
structure OutPacket where
  port : Nat
  packet : Packet
  sent : Nat
  inPort : Nat
  inVc : Nat
  wire : Nat
  came : Nat
  tag : Nat
  multi : Bool
  deriving DecidableEq, Repr

/-- A rate-limiter entry (R279): its number, destination, rate in 1/10,000, the bucket's bytes and the time of its last
refill, whether a marked completion arrived in the window, and the time of last use. -/
structure LimiterEntry where
  number : Nat
  dst : Nat
  rate : Nat
  bucket : Nat
  filledAt : Nat
  marked : Bool
  lastUse : Nat
  deriving DecidableEq, Repr

/-- Where a register access comes from (R28, R31, R33, R153). -/
inductive AccessSource where
  | pcie | mgmt | sLevel (tile : Nat)
  deriving DecidableEq, Repr

end Sys2Proof.Machine
end

