-- ==== Sys2Proof/Machine/Formats.lean ====
section
/-! DEFINITION. The number formats of R110 to R116: codes, layouts, decoding to exact values. -/
namespace Sys2Proof.Machine

/-- The layout of a floating-point format (R112). `hasInf` tells whether all-ones exponents encode infinity and NaN;
`hasNan` whether a NaN exists at all. -/
structure FpFormat where
  expBits : Nat
  fracBits : Nat
  bias : Nat
  hasInf : Bool
  hasNan : Bool
  nan : Nat
  deriving DecidableEq, Repr

/-- The floating-point formats by the code of R110, with the canonical NaN of R114. -/
def fpFormat : Nat → Option FpFormat
  | 0 => some ⟨11, 52, 1023, true, true, 0x7FF8000000000000⟩
  | 1 => some ⟨8, 23, 127, true, true, 0x7FC00000⟩
  | 2 => some ⟨5, 10, 15, true, true, 0x7E00⟩
  | 3 => some ⟨8, 7, 127, true, true, 0x7FC0⟩
  | 4 => some ⟨4, 3, 7, false, true, 0x7F⟩
  | 5 => some ⟨5, 2, 15, true, true, 0x7E⟩
  | 6 => some ⟨3, 2, 3, false, false, 0⟩
  | 7 => some ⟨2, 3, 1, false, false, 0⟩
  | 8 => some ⟨2, 1, 1, false, false, 0⟩
  | _ => none

/-- The bits of an element of a format (R110); 0 for a reserved code. -/
def formatBits : Nat → Nat
  | 0 => 64 | 1 => 32 | 2 => 16 | 3 => 16 | 4 => 8 | 5 => 8 | 6 => 6 | 7 => 6 | 8 => 4 | 9 => 8 | 10 => 4 | 11 => 128
  | _ => 0

/-- Whether a format may be a matrix input (R110). -/
def isMatrixInput (f : Nat) : Bool := 1 ≤ f && f ≤ 10

/-- Whether a format may be a drain target (R110). -/
def isDrainTarget (f : Nat) : Bool := f ≤ 11

/-- Whether a format may be MX-scaled (R110). -/
def isMxFormat (f : Nat) : Bool := 4 ≤ f && f ≤ 9

/-- Whether the fold engine takes a format (R110). -/
def isFoldFormat (f : Nat) : Bool := f ≤ 5 || f == 9 || f == 11

/-- Whether a format is an integer format (R115). -/
def isIntFormat (f : Nat) : Bool := f == 9 || f == 10

/-- Whether a format is FP6, with its packed and unpacked forms (R111). -/
def isFp6 (f : Nat) : Bool := f == 6 || f == 7

/-- Whether a format belongs to the exact-mode set of R124. -/
def isExactFormat (f : Nat) : Bool := 4 ≤ f && f ≤ 10

/-- An exact value: NaN, an infinity, or a sign with a magnitude `m * 2 ^ e`. -/
inductive Num where
  | nan
  | inf (neg : Bool)
  | fin (neg : Bool) (m : Nat) (e : Int)
  deriving DecidableEq, Repr

/-- Whether an encoding is a signalling NaN: a NaN whose leading fraction bit is 0. Only the formats with infinities
have more than one NaN. -/
def isSignalling (f : FpFormat) (bits : Nat) : Bool :=
  f.hasInf && bitsOf bits (f.fracBits + f.expBits - 1) f.fracBits == 2 ^ f.expBits - 1
    && bits % 2 ^ f.fracBits != 0 && !bitAt bits (f.fracBits - 1)

/-- The value that `bits` encodes (R112, R113). -/
def decodeFp (f : FpFormat) (bits : Nat) : Num :=
  let frac := bits % 2 ^ f.fracBits
  let e := bitsOf bits (f.fracBits + f.expBits - 1) f.fracBits
  let neg := bitAt bits (f.fracBits + f.expBits)
  let ones := 2 ^ f.expBits - 1
  if f.hasInf && e == ones then (if frac = 0 then .inf neg else .nan)
  else if !f.hasInf && f.hasNan && e == ones && frac == 2 ^ f.fracBits - 1 then .nan
  else if e = 0 then .fin neg frac (1 - (f.bias : Int) - f.fracBits)
  else .fin neg (2 ^ f.fracBits + frac) ((e : Int) - f.bias - f.fracBits)

/-- The exact value of an element of a format: floating point, or an integer (R115) with the implicit factor 2⁻⁶ of
MXINT8 where `mx` is set. -/
def decodeElem (fmt : Nat) (mx : Bool) (bits : Nat) : Num :=
  match fpFormat fmt with
  | some f => decodeFp f bits
  | none =>
    let v := signedOf (formatBits fmt) bits
    .fin (v < 0) v.natAbs (if mx && fmt == 9 then -6 else 0)

/-- The largest finite magnitude of a format, as its encoding without sign (R112). -/
def maxFiniteCode (f : FpFormat) : Nat :=
  if f.hasInf then (2 ^ f.expBits - 1) * 2 ^ f.fracBits - 1
  else if f.hasNan then 2 ^ (f.expBits + f.fracBits) - 2
  else 2 ^ (f.expBits + f.fracBits) - 1

/-- The encoding of an infinity, without sign, in a format that has one. -/
def infCode (f : FpFormat) : Nat := (2 ^ f.expBits - 1) * 2 ^ f.fracBits

/-- `m * 2 ^ s` rounded down, for a shift of either sign. -/
def shiftInt (m : Nat) (s : Int) : Nat := if s < 0 then m >>> s.natAbs else m <<< s.toNat

/-- The magnitude of a decoded element at the exponent `e`, for comparison (`e` at most its own). -/
def atExp (m : Nat) (e0 e : Int) : Nat := m <<< (e0 - e).toNat

/-- The order of two finite magnitudes `m1 * 2 ^ e1` and `m2 * 2 ^ e2`. -/
def magLt (m1 : Nat) (e1 : Int) (m2 : Nat) (e2 : Int) : Bool :=
  let e := min e1 e2
  atExp m1 e1 e < atExp m2 e2 e

/-- A finite value as an integer multiple of `2 ^ e`, for an `e` at most its own exponent. -/
def scaledInt (neg : Bool) (m : Nat) (e0 e : Int) : Int :=
  if neg then -((atExp m e0 e : Nat) : Int) else ((atExp m e0 e : Nat) : Int)

/-- The sum of two finite values, exact; a zero sum takes the sign `zneg` unless both are zero of one sign. -/
def addFin (n1 : Bool) (m1 : Nat) (e1 : Int) (n2 : Bool) (m2 : Nat) (e2 : Int) (zneg : Bool) : Num :=
  let e := min e1 e2
  let s := scaledInt n1 m1 e1 e + scaledInt n2 m2 e2 e
  if s = 0 then .fin (if m1 = 0 && m2 = 0 && n1 == n2 then n1 else zneg) 0 e
  else .fin (s < 0) s.natAbs e

/-- The exact product of two values; zero times infinity is NaN. -/
def mulNum : Num → Num → Num
  | .nan, _ => .nan
  | _, .nan => .nan
  | .inf a, .inf b => .inf (a != b)
  | .inf a, .fin n m _ => if m = 0 then .nan else .inf (a != n)
  | .fin n m _, .inf a => if m = 0 then .nan else .inf (a != n)
  | .fin n1 m1 e1, .fin n2 m2 e2 => .fin (n1 != n2) (m1 * m2) (e1 + e2)

/-- The exact sum of two values; infinities of opposite sign give NaN. -/
def addNum (zneg : Bool) : Num → Num → Num
  | .nan, _ => .nan
  | _, .nan => .nan
  | .inf a, .inf b => if a == b then .inf a else .nan
  | .inf a, .fin _ _ _ => .inf a
  | .fin _ _ _, .inf a => .inf a
  | .fin n1 m1 e1, .fin n2 m2 e2 => addFin n1 m1 e1 n2 m2 e2 zneg

/-- The value with the opposite sign. -/
def negNum : Num → Num
  | .nan => .nan
  | .inf a => .inf (!a)
  | .fin n m e => .fin (!n) m e

/-- The hash of R132, modulo 2⁶⁴. -/
def srHash (seed idx : Nat) : Nat :=
  let m := 2 ^ 64
  let z := (seed % m) ^^^ ((idx * 0x9E3779B97F4A7C15) % m)
  let z := ((z ^^^ (z >>> 30)) * 0xBF58476D1CE4E5B9) % m
  let z := ((z ^^^ (z >>> 27)) * 0x94D049BB133111EB) % m
  let z := z ^^^ (z >>> 31)
  z >>> 32

end Sys2Proof.Machine
end

