-- ==== Sys2Proof/Machine/Round.lean ====
section
/-! DEFINITION. Rounding and conversion (R129 to R132), the exception flags of R137, and the IEEE 754 operations of R135. -/
namespace Sys2Proof.Machine

/-- A result with its exception flags, in the order of VXFLAGS (R146): 1 invalid, 2 division by zero, 4 overflow,
8 underflow, 16 inexact. -/
structure FpResult where
  bits : Nat
  flags : Nat
  deriving DecidableEq, Repr

/-- The integer quotient of `m * 2 ^ e` by `2 ^ lsb`, whether anything was lost, and the decision data: the remainder
and its width in bits. `sticky` stands for further bits below. -/
structure Cut where
  q : Nat
  rem : Nat
  width : Nat
  lost : Bool
  deriving DecidableEq, Repr

/-- `m * 2 ^ e` cut at the weight `2 ^ lsb`. -/
def cutAt (m : Nat) (e lsb : Int) (sticky : Bool) : Cut :=
  if lsb ≤ e then ⟨m <<< (e - lsb).toNat, 0, 0, sticky⟩
  else
    let w := (lsb - e).toNat
    ⟨m >>> w, m % 2 ^ w, w, sticky || m % 2 ^ w != 0⟩

/-- Whether a cut magnitude rounds up under the rounding mode `rm` of R130; `h` is the hash of R132 for mode 4. -/
def roundsUp (rm : Nat) (neg : Bool) (h : Nat) (c : Cut) (sticky : Bool) : Bool :=
  match rm with
  | 0 => c.width != 0 && (2 ^ (c.width - 1) < c.rem || (c.rem == 2 ^ (c.width - 1) && (sticky || c.q % 2 == 1)))
  | 1 => false
  | 2 => c.lost && !neg
  | 3 => c.lost && neg
  | 4 => 2 ^ 32 ≤ ((c.rem <<< 32) >>> c.width) + h
  | _ => false

/-- The rounded integer multiple of `2 ^ lsb`. -/
def roundCut (rm : Nat) (neg : Bool) (h : Nat) (m : Nat) (e lsb : Int) (sticky : Bool) : Nat × Bool :=
  let c := cutAt m e lsb sticky
  (if roundsUp rm neg h c sticky then c.q + 1 else c.q, c.lost)

/-- The weight of the last place of a format for a magnitude whose leading bit has the weight `2 ^ top`. -/
def lsbFor (f : FpFormat) (top : Int) : Int := max top (1 - (f.bias : Int)) - f.fracBits

/-- The encoding of the magnitude `q * 2 ^ lsb` with `q` of at most `fracBits + 1` bits plus a carry. -/
def encodeMag (f : FpFormat) (q : Nat) (lsb : Int) : Nat :=
  if q < 2 ^ f.fracBits then q
  else
    let base := (lsb + f.bias + f.fracBits).toNat
    base * 2 ^ f.fracBits + (q - 2 ^ f.fracBits)

/-- The encoding with a sign bit. -/
def withSign (f : FpFormat) (neg : Bool) (mag : Nat) : Nat :=
  mag + (if neg then 2 ^ (f.expBits + f.fracBits) else 0)

/-- The outcome of a finite value beyond the largest finite magnitude (R131). -/
def overflowCode (f : FpFormat) (rm : Nat) (sat neg atLeastHalf : Bool) : Nat :=
  let big := maxFiniteCode f
  if sat || !f.hasInf then big
  else
    match rm with
    | 0 => if atLeastHalf then infCode f else big
    | 1 => big
    | 2 => if neg then big else infCode f
    | 3 => if neg then infCode f else big
    | _ => infCode f

/-- A finite value rounded to a floating-point format, once (R129 to R132, R137). -/
def roundFp (f : FpFormat) (rm : Nat) (sat : Bool) (h : Nat) (neg : Bool) (m : Nat) (e : Int) (sticky : Bool) :
    FpResult :=
  if m = 0 then ⟨withSign f neg 0, if sticky then 16 else 0⟩
  else
    let top : Int := (Nat.log2 m : Int) + e
    let lsb := lsbFor f top
    let r := roundCut rm neg h m e lsb sticky
    let code := encodeMag f r.1 lsb
    -- the largest finite magnitude and half a unit beyond it
    let bigTop : Int := ((maxFiniteCode f >>> f.fracBits : Nat) : Int) - f.bias
    let bigLsb := bigTop - f.fracBits
    let bigQ := 2 ^ f.fracBits + maxFiniteCode f % 2 ^ f.fracBits
    let beyond := magLt bigQ bigLsb m e
    let half := !magLt m e (2 * bigQ + 1) (bigLsb - 1)
    if maxFiniteCode f < code || (beyond && rm == 4) then
      ⟨withSign f neg (overflowCode f rm sat neg half), 4 + 16⟩
    else if beyond && (sat || !f.hasInf) then ⟨withSign f neg (maxFiniteCode f), 4 + 16⟩
    else
      let wide := roundCut rm neg h m e (top - f.fracBits) sticky
      let tiny := magLt wide.1 (top - f.fracBits) 1 (1 - (f.bias : Int))
      ⟨withSign f neg code, (if r.2 then 16 else 0) + (if r.2 && tiny then 8 else 0)⟩

/-- A finite value rounded to an integer of `w` bits at the weight `2 ^ lsb`, clamped to the range (R131). -/
def roundInt (w : Nat) (lsb : Int) (rm h : Nat) (neg : Bool) (m : Nat) (e : Int) (sticky : Bool) : FpResult :=
  let r := roundCut rm neg h m e lsb sticky
  let lim := if neg then 2 ^ (w - 1) else 2 ^ (w - 1) - 1
  if lim < r.1 then ⟨twosOf w (if neg then -(lim : Int) else lim), 4 + 16⟩
  else ⟨twosOf w (if neg then -(r.1 : Int) else r.1), if r.2 then 16 else 0⟩

/-- A value converted to the format `fmt` (R129 to R131). A NaN becomes the canonical NaN, or +0 where the format has
none; an infinity follows the saturate bit where the format has infinities. -/
def convertNum (fmt rm : Nat) (sat : Bool) (h : Nat) (x : Num) (sticky : Bool) : FpResult :=
  match fpFormat fmt with
  | some f =>
    match x with
    | .nan => ⟨f.nan, 0⟩
    | .inf neg => ⟨withSign f neg (if f.hasInf && !sat then infCode f else maxFiniteCode f), 0⟩
    | .fin neg m e => roundFp f rm sat h neg m e sticky
  | none =>
    let w := formatBits fmt
    match x with
    | .nan => ⟨0, 0⟩
    | .inf neg => ⟨if neg then 2 ^ (w - 1) else 2 ^ (w - 1) - 1, 0⟩
    | .fin neg m e => roundInt w 0 rm h neg m e sticky

/-- The integer square root by binary digits; the first argument is the number of result bits still to find. -/
def sqrtBits : Nat → Nat → Nat → Nat
  | 0, _, r => r
  | k + 1, n, r => if (r + 2 ^ k) * (r + 2 ^ k) ≤ n then sqrtBits k n (r + 2 ^ k) else sqrtBits k n r

/-- The integer square root of `n`. -/
def natSqrt (n : Nat) : Nat := sqrtBits (Nat.log2 n / 2 + 1) n 0

/-- The invalid result. -/
def invalidResult (f : FpFormat) : FpResult := ⟨f.nan, 1⟩

/-- An arithmetic result rounded in an IEEE mode. -/
def finishNum (f : FpFormat) (rm : Nat) (x : Num) (sticky : Bool) : FpResult :=
  match x with
  | .nan => ⟨f.nan, 0⟩
  | .inf neg => ⟨withSign f neg (infCode f), 0⟩
  | .fin neg m e => roundFp f rm false 0 neg m e sticky

/-- The flag of a signalling NaN operand. -/
def snanFlag (f : FpFormat) (bs : List Nat) : Nat := if bs.any (isSignalling f) then 1 else 0

/-- Addition (R135), one rounding; an exact zero sum is −0 only toward −∞. -/
def fpAdd (f : FpFormat) (rm : Nat) (a b : Nat) : FpResult :=
  let x := decodeFp f a
  let y := decodeFp f b
  match addNum (rm == 3) x y with
  | .nan => ⟨f.nan, if x = .nan || y = .nan then snanFlag f [a, b] else 1⟩
  | z => finishNum f rm z false

/-- Negation of an encoding: the sign bit turned. -/
def fpNeg (f : FpFormat) (a : Nat) : Nat := withBit a (f.expBits + f.fracBits) (!bitAt a (f.expBits + f.fracBits))

/-- Subtraction. -/
def fpSub (f : FpFormat) (rm : Nat) (a b : Nat) : FpResult :=
  let x := decodeFp f a
  let y := decodeFp f b
  match addNum (rm == 3) x (negNum y) with
  | .nan => ⟨f.nan, if x = .nan || y = .nan then snanFlag f [a, b] else 1⟩
  | z => finishNum f rm z false

/-- Multiplication. -/
def fpMul (f : FpFormat) (rm : Nat) (a b : Nat) : FpResult :=
  let x := decodeFp f a
  let y := decodeFp f b
  match mulNum x y with
  | .nan => ⟨f.nan, if x = .nan || y = .nan then snanFlag f [a, b] else 1⟩
  | z => finishNum f rm z false

/-- Fused multiply-add `a * b + c`, one rounding. Zero times infinity is invalid whatever `c` is. -/
def fpFma (f : FpFormat) (rm : Nat) (a b c : Nat) : FpResult :=
  let x := decodeFp f a
  let y := decodeFp f b
  let z := decodeFp f c
  let p := mulNum x y
  if x != .nan && y != .nan && p == .nan then invalidResult f
  else
    match addNum (rm == 3) p z with
    | .nan => ⟨f.nan, if x = .nan || y = .nan || z = .nan then snanFlag f [a, b, c] else 1⟩
    | r => finishNum f rm r false

/-- Division, correctly rounded. -/
def fpDiv (f : FpFormat) (rm : Nat) (a b : Nat) : FpResult :=
  match decodeFp f a, decodeFp f b with
  | .nan, _ => ⟨f.nan, snanFlag f [a, b]⟩
  | _, .nan => ⟨f.nan, snanFlag f [a, b]⟩
  | .inf _, .inf _ => invalidResult f
  | .inf s, .fin n _ _ => ⟨withSign f (s != n) (infCode f), 0⟩
  | .fin n _ _, .inf s => ⟨withSign f (s != n) 0, 0⟩
  | .fin n1 m1 e1, .fin n2 m2 e2 =>
    if m2 = 0 then
      if m1 = 0 then invalidResult f else ⟨withSign f (n1 != n2) (infCode f), 2⟩
    else
      -- a quotient with at least fracBits + 3 significant bits, and a sticky bit
      let k := f.fracBits + 3 + Nat.log2 m2 + 1
      let q := (m1 <<< k) / m2
      roundFp f rm false 0 (n1 != n2) q (e1 - e2 - k) ((m1 <<< k) % m2 != 0)

/-- Square root, correctly rounded. -/
def fpSqrt (f : FpFormat) (rm : Nat) (a : Nat) : FpResult :=
  match decodeFp f a with
  | .nan => ⟨f.nan, snanFlag f [a]⟩
  | .inf s => if s then invalidResult f else ⟨infCode f, 0⟩
  | .fin n m e =>
    if m = 0 then ⟨withSign f n 0, 0⟩
    else if n then invalidResult f
    else
      let k := 2 * (f.fracBits + 3)
      let k := if (e - k) % 2 = 0 then k else k + 1
      let r := natSqrt (m <<< k)
      roundFp f rm false 0 false r ((e - k) / 2) (r * r != m <<< k)

/-- The order of two values that are not NaN: less, equal, greater. −0 equals +0 (R113). -/
def cmpNum : Num → Num → Ordering
  | .inf a, .inf b => if a == b then .eq else if a then .lt else .gt
  | .inf a, _ => if a then .lt else .gt
  | _, .inf a => if a then .gt else .lt
  | .fin n1 m1 e1, .fin n2 m2 e2 =>
    let e := min e1 e2
    compare (scaledInt n1 m1 e1 e) (scaledInt n2 m2 e2 e)
  | _, _ => .eq

/-- An encoding with a NaN made canonical (R114). -/
def canonical (f : FpFormat) (a : Nat) : Nat := if decodeFp f a = .nan then f.nan else a

/-- minimumNumber and maximumNumber of IEEE 754-2019: a NaN loses to a number, and −0 is below +0. -/
def fpMinMax (f : FpFormat) (takeMax : Bool) (a b : Nat) : FpResult :=
  let x := decodeFp f a
  let y := decodeFp f b
  let fl := snanFlag f [a, b]
  match x, y with
  | .nan, .nan => ⟨f.nan, fl⟩
  | .nan, _ => ⟨b, fl⟩
  | _, .nan => ⟨a, fl⟩
  | _, _ =>
    match cmpNum x y with
    | .lt => ⟨if takeMax then b else a, fl⟩
    | .gt => ⟨if takeMax then a else b, fl⟩
    | .eq =>
      let an := bitAt a (f.expBits + f.fracBits)
      ⟨if takeMax then (if an then b else a) else (if an then a else b), fl⟩

/-- The comparison relations. -/
inductive Rel where
  | eq | ne | lt | le | gt | ge | ltu | geu | unordered
  deriving DecidableEq, Repr

/-- A floating-point comparison, quiet or signalling: a signalling one is invalid on any NaN, a quiet one on a
signalling NaN. -/
def fpCompare (f : FpFormat) (r : Rel) (signalling : Bool) (a b : Nat) : Bool × Nat :=
  let x := decodeFp f a
  let y := decodeFp f b
  if x = .nan || y = .nan then
    (r == .ne || r == .unordered, if signalling then 1 else snanFlag f [a, b])
  else
    let o := cmpNum x y
    (match r with
      | .eq => o == .eq
      | .ne => o != .eq
      | .lt => o == .lt
      | .ltu => o == .lt
      | .le => o != .gt
      | .gt => o == .gt
      | .ge => o != .lt
      | .geu => o != .lt
      | .unordered => false, 0)

end Sys2Proof.Machine
end

