-- ==== Sys2Proof/Machine/Wide.lean ====
section
/-! DEFINITION. The 96-bit accumulators (R120 to R127), WA96 storage (R122), addition outside the matrix engine (R133),
and the OCP MX block scaling (R116 to R119). -/
namespace Sys2Proof.Machine

/-- A cell of an accumulator plane: the 96-bit value V and the five sticky flags, in the order of R122:
[0] inexact, [1] overflow, [2] invalid, [3] pos_inf, [4] neg_inf. -/
structure Cell where
  v : BitVec 96
  flags : BitVec 5
  deriving DecidableEq, Repr

/-- A cleared cell. -/
def Cell.zero : Cell := ⟨0, 0⟩

/-- The integer V. -/
def cellInt (c : Cell) : Int := signedOf 96 c.v.toNat

/-- A cell holding an integer in range. -/
def cellOfInt (x : Int) (fl : Nat) : Cell := ⟨BitVec.ofNat 96 (twosOf 96 x), BitVec.ofNat 5 fl⟩

/-- sat of R125: the value limited to 96 bits, and the overflow flag. -/
def satWide (s : Int) : Int × Nat :=
  if 2 ^ 95 - 1 < s then (2 ^ 95 - 1, 2) else if s < -(2 ^ 95) then (-(2 ^ 95), 2) else (s, 0)

/-- round_half_even of `m * 2 ^ s`, with whether bits were lost. -/
def halfEven (neg : Bool) (m : Nat) (s : Int) : Int × Bool :=
  let r := roundCut 0 false 0 m s 0 false
  (if neg then -(r.1 : Int) else r.1, r.2)

/-- The realignment of a cell from one anchor to another (R125). -/
def realign (c : Cell) (aOld aNew : Nat) : Cell :=
  let x := cellInt c
  if aOld < aNew then
    let r := halfEven (x < 0) x.natAbs ((aOld : Int) - aNew)
    cellOfInt r.1 (c.flags.toNat ||| (if r.2 then 1 else 0))
  else if aNew < aOld then
    let r := satWide (x * 2 ^ (aOld - aNew))
    cellOfInt r.1 (c.flags.toNat ||| r.2)
  else c

/-- The addition of an exact addend to a cell at anchor `a` (R125). -/
def addAddend (c : Cell) (x : Num) (a : Nat) : Cell :=
  let fl := c.flags.toNat
  match x with
  | .nan => ⟨c.v, BitVec.ofNat 5 (fl ||| 4)⟩
  | .inf neg => ⟨c.v, BitVec.ofNat 5 (fl ||| (if neg then 16 else 8) ||| 2)⟩
  | .fin neg m e =>
    let r := halfEven neg m (e - ((a : Int) - 128))
    let fl := fl ||| (if r.2 then 1 else 0)
    if 2 ^ 95 - 1 < r.1 then cellOfInt (2 ^ 95 - 1) (fl ||| 2)
    else if r.1 < -(2 ^ 95) then cellOfInt (-(2 ^ 95)) (fl ||| 2)
    else
      let s := satWide (cellInt c + r.1)
      cellOfInt s.1 (fl ||| s.2)

/-- The value of a cell (R120, R123). -/
def cellNum (c : Cell) (a : Nat) : Num :=
  let f := c.flags.toNat
  if bitAt f 2 || (bitAt f 3 && bitAt f 4) then .nan
  else if bitAt f 3 then .inf false
  else if bitAt f 4 then .inf true
  else
    let x := cellInt c
    .fin (x < 0) x.natAbs ((a : Int) - 128)

/-- WA96 as a 128-bit number (R122); reserved bits are written as zero. -/
def wa96Bits (c : Cell) (a : Nat) : Nat := c.v.toNat + (a % 256) <<< 96 + c.flags.toNat <<< 104

/-- A WA96 value read from 128 bits: the cell and its anchor; reserved bits are ignored. -/
def wa96Read (b : Nat) : Cell × Nat :=
  (⟨BitVec.ofNat 96 b, BitVec.ofNat 5 (b >>> 104)⟩, bitsOf b 103 96)

/-- The addition of two WA96 values at a result anchor (R133). -/
def wa96Add (x y : Cell × Nat) (a : Nat) : Cell :=
  let p := realign x.1 x.2 a
  let q := realign y.1 y.2 a
  let s := satWide (cellInt p + cellInt q)
  cellOfInt s.1 (p.flags.toNat ||| q.flags.toNat ||| s.2)

/-- A value converted to WA96 at an anchor, as one addend into a cleared cell (R133). -/
def wa96OfNum (x : Num) (a : Nat) : Cell := addAddend Cell.zero x a

/-- One 32-element block of an MX-scaled product (R118): the block's one addend. -/
def mxBlock (ps : List Num) (sa sb : Nat) : Num :=
  if sa = 0xFF || sb = 0xFF then .nan
  else
    let hasPos := ps.any (· == .inf false)
    let hasNeg := ps.any (· == .inf true)
    if ps.any (· == .nan) || (hasPos && hasNeg) then .nan
    else if hasPos then .inf false
    else if hasNeg then .inf true
    else
      match ps.foldl (addNum false) (.fin false 0 0) with
      | .fin n m e => .fin n m (e + sa + sb - 254)
      | z => z

/-- The emax of an MX element format (R119). -/
def mxEmax : Nat → Int
  | 4 => 8 | 5 => 15 | 6 => 4 | 7 => 2 | 8 => 2 | _ => 0

/-- The magnitude's exponent floor(log2 |x|) of a non-zero finite value. -/
def floorLog2 (m : Nat) (e : Int) : Int := (Nat.log2 m : Int) + e

/-- The largest exponent among the non-zero elements of a block. -/
def maxLog2 : List Num → Option Int
  | [] => none
  | .fin _ m e :: t =>
    if m = 0 then maxLog2 t
    else
      match maxLog2 t with
      | none => some (floorLog2 m e)
      | some x => some (max x (floorLog2 m e))
  | _ :: t => maxLog2 t

/-- The E8M0 scale code of a block (R119). -/
def mxScale (fmt : Nat) (xs : List Num) : Nat :=
  if xs.any (fun x => match x with | .fin _ _ _ => false | _ => true) then 0xFF
  else
    match maxLog2 xs with
    | none => 0
    | some l => (max 0 (min 254 (l - mxEmax fmt + 127))).toNat

/-- An element of an MX block converted under its scale code (R119): divided by the scale and rounded; a magnitude
beyond the largest finite value saturates. -/
def mxElem (fmt rm h code : Nat) (x : Num) : FpResult :=
  if code = 0xFF then ⟨0, 0⟩
  else
    match x with
    | .fin n m e =>
      let e' := e - ((code : Int) - 127)
      match fpFormat fmt with
      | some f => roundFp f rm true h n m e' false
      | none => roundInt 8 (-6) rm h n m e' false
    | _ => ⟨0, 0⟩

end Sys2Proof.Machine
end

