-- ==== Sys2Proof/Machine/TileTypes.lean ====
section
/-! DEFINITION. The state of a tile (R79, R142) and the operand types of the tile's commands. -/
namespace Sys2Proof.Machine

/-- The slot states of R58. -/
inductive SlotState where
  | free | wait | ready | run | retire | abort
  deriving DecidableEq, Repr

/-- The code of a slot state in TL_SLOT_STATE (R58). -/
def SlotState.code : SlotState → Nat
  | .free => 0 | .wait => 1 | .ready => 2 | .run => 3 | .retire => 4 | .abort => 5

/-- A task slot (R53, R58, R108): its state, its descriptor (16 words; none listed while FREE), the input counters, the
credit pools, the ready stamp, the start count of R60, the token-overflow status, and the time at which its watch timer last
started: it became READY or RUN, or fired as starved (R378, R380). -/
structure Slot where
  state : SlotState
  desc : List Word64
  cnt : List Nat
  pool : List Nat
  stamp : Nat
  startCount : Nat
  tokOvf : Bool
  since : Nat
  deriving DecidableEq, Repr

/-- An empty slot. -/
def Slot.empty : Slot := ⟨.free, [], [0, 0, 0, 0, 0, 0, 0, 0], [0, 0, 0, 0], 0, 0, false, 0⟩

-- The fields of a task descriptor (R53).
def dWord (d : List Word64) (i : Nat) : Nat := (lget d i 0).toNat
def dTaskId (d : List Word64) : Nat := bitsOf (dWord d 0) 31 0
def dTile (d : List Word64) : Nat := bitsOf (dWord d 0) 39 32
def dPrio (d : List Word64) : Nat := bitsOf (dWord d 0) 42 40
def dPersistent (d : List Word64) : Bool := bitAt (dWord d 0) 43
def dNIn (d : List Word64) : Nat := bitsOf (dWord d 0) 47 44
def dNOut (d : List Word64) : Nat := bitsOf (dWord d 0) 50 48
def dEntry (d : List Word64) : Nat := bitsOf (dWord d 1) 39 0
def dArg (d : List Word64) (i : Nat) : Word64 := lget d (2 + i) 0
def dThr (d : List Word64) (i : Nat) : Nat := bitsOf (dWord d (6 + i / 4)) (16 * (i % 4) + 15) (16 * (i % 4))
def dInit (d : List Word64) (j : Nat) : Nat := bitsOf (dWord d (8 + j / 2)) (32 * (j % 2) + 15) (32 * (j % 2))
def dNeed (d : List Word64) (j : Nat) : Nat := bitsOf (dWord d (8 + j / 2)) (32 * (j % 2) + 31) (32 * (j % 2) + 16)
def dExitTask (d : List Word64) : Nat := bitsOf (dWord d 10) 31 0
def dExitTile (d : List Word64) : Nat := bitsOf (dWord d 10) 39 32
def dExitInput (d : List Word64) : Nat := bitsOf (dWord d 10) 42 40
def dExitEn (d : List Word64) : Bool := bitAt (dWord d 10) 43
def dExitCount (d : List Word64) : Nat := bitsOf (dWord d 10) 63 48
def dExitNode (d : List Word64) : Nat := bitsOf (dWord d 11) 15 0

/-- An early-token entry (R65): key (task, kind, index), count, and whether it saturated. -/
structure EarlyToken where
  task : Nat
  credit : Bool
  index : Nat
  count : Nat
  overflowed : Bool
  deriving DecidableEq, Repr

/-- An entry of a TOKEN or CREDIT packet as its tile remembers it (R61, R64): the target node, kind, entry word, the
flagged fields and the partition of its packet. -/
structure TokenEntry where
  node : Nat
  credit : Bool
  entry : Word64
  flagged : Bool
  domain : Nat
  expect : Nat
  partition : Nat
  deriving DecidableEq, Repr

/-- An entry that the tile sent and that no TOKEN_NAK has named: the entry, the producer word and the number of the command
that queued it (R360), and its place in the packet. -/
structure SentToken where
  token : TokenEntry
  producer : Nat
  number : Nat
  place : Nat
  deriving DecidableEq, Repr

/-- An entry refused with "retry" (R64): the entry, the retry interval in µs, whether it waits to be sent again, the
producer word and number of its command, and the number of its next packet (R360). -/
structure RefusedToken where
  token : TokenEntry
  interval : Nat
  waiting : Bool
  producer : Nat
  number : Nat
  seq : Nat
  deriving DecidableEq, Repr

/-- A packet of the outbound token queue (R61), with the producer word and the number of its command (R360). -/
structure QueuedToken where
  packet : Packet
  producer : Nat
  number : Nat
  deriving DecidableEq, Repr

/-- A buffered store (R154): own-node address, size in bytes, data, and the PC of its instruction. -/
structure BufStore where
  addr : Nat
  size : Nat
  data : Nat
  pc : Nat
  deriving DecidableEq, Repr

/-- A data-cache line (R94): its set and way, the HBM line it holds, the valid and dirty masks per byte, its 64 bytes,
and the error that a read of it meets (R96). -/
structure DLine where
  set : Nat
  way : Nat
  line : Nat
  valid : BitVec 64
  dirty : BitVec 64
  data : BitVec 512
  ce : Bool
  ue : Bool
  deriving DecidableEq, Repr

/-- An instruction-cache line (R97): the HBM line it holds, its 64 bytes, and whether it has a parity error. -/
structure ILine where
  line : Nat
  data : BitVec 512
  parity : Bool
  deriving DecidableEq, Repr

/-- An accumulator plane (R84): the cells that are not cleared, the anchor, and the flag summary of R128 as of the last
completed command. -/
structure Plane where
  cells : Assoc Cell
  anchor : Nat
  summary : Nat
  deriving DecidableEq, Repr

/-- A plane that a reset has zeroed: the exact anchor 96 (R120). -/
def Plane.zero : Plane := ⟨[], 96, 0⟩

/-- The matrix commands (R156). -/
inductive MatKind where
  | mclr | macc | mdrn | mldp
  deriving DecidableEq, Repr

/-- A queued matrix command: kind, the ctl field, the four operand values, its PC, and the slot of its task. -/
structure MatCmd where
  kind : MatKind
  ctl : Nat
  r1 : Nat
  r2 : Nat
  r3 : Nat
  r4 : Nat
  pc : Nat
  slot : Nat
  deriving DecidableEq, Repr

/-- The operations of the vector engine that the opcode groups of R162 name. The spec gives the groups and no function
code, so the command names the operation (log entry 5). -/
inductive VecOp where
  | fadd | fsub | fmul | ffma | fdiv | fsqrt | fmin | fmax
  | fcmp (r : Rel) (signalling : Bool)
  | iadd | isub | imul | isll | isrl | isra | iand | ior | ixor
  | icmp (r : Rel)
  | recip | rsqrt | exp2 | log2 | sin | cos
  | waAdd
  | conv (src dst : Nat) (mx : Bool)
  | sum | rmin | rmax | permute | broadcast | moveToG
  | vld | vst
  deriving DecidableEq, Repr

/-- A queued vector command: the operation, its instruction word, the scalar operands read at issue, its PC and slot, and
whether it issued at S level, which chooses the bank of a g register that it writes (R144). -/
structure VecCmd where
  op : VecOp
  word : Nat
  x : Nat
  y : Nat
  pc : Nat
  slot : Nat
  sup : Bool
  deriving DecidableEq, Repr

/-- The DMA commands (R163). -/
inductive DmaKind where
  | copy | copy2d | fill | graphSend | flaggedWrite
  deriving DecidableEq, Repr

/-- Where a graph-send stands (R166): its request is to be sent, is outstanding, waits to be repeated, or was granted. -/
inductive GraphPhase where
  | toRequest | requested | retryWait | granted
  deriving DecidableEq, Repr

/-- A DMA command in its channel's queue: the operands and ctl fields of R163, its PC, the slot of its task, the producer
word and command index of R360, whether it has started, the progress of its packets (row, byte offset in the row, packet
number), and a graph-send's phase, request tag, ticket and last wait in µs. -/
structure DmaCmd where
  kind : DmaKind
  r1 : Nat
  r2 : Nat
  r3 : Nat
  r4 : Nat
  dstDom : Nat
  ackDom : Nat
  ackEn : Bool
  flen : Nat
  pc : Nat
  slot : Nat
  key : Nat
  number : Nat
  started : Bool
  row : Nat
  off : Nat
  seq : Nat
  phase : GraphPhase
  tag : Nat
  ticket : Nat
  wait : Nat
  deriving DecidableEq, Repr

/-- A GET_REQ or a local copy's packet whose data is not yet written (R164, R170, R261): the command it belongs to (slot,
producer word, index), the packet without payload, the bytes due, the last retry wait in µs, whether it waits to be sent
again, and whether its command was discarded. The slot is 32 once the task has left it by retirement. -/
structure DmaAwait where
  slot : Nat
  key : Nat
  number : Nat
  packet : Packet
  due : Nat
  interval : Nat
  waiting : Bool
  gone : Bool
  deriving DecidableEq, Repr

/-- A flagged write sent and not yet answered (R201): the command it belongs to, the packet, the last retry wait in µs,
whether it waits to be sent again, and whether its command was discarded. -/
structure SentFlag where
  slot : Nat
  key : Nat
  number : Nat
  packet : Packet
  interval : Nat
  waiting : Bool
  gone : Bool
  deriving DecidableEq, Repr

/-- A DMA channel (R98): its queue, the data it awaits, its flagged writes not yet answered, and the time at which its watch
timer last started: it became active, a packet left, or get data arrived (R378). -/
structure DmaChan where
  queue : List DmaCmd
  awaits : List DmaAwait
  flags : List SentFlag
  since : Nat
  deriving DecidableEq, Repr

/-- An empty channel. -/
def DmaChan.empty : DmaChan := ⟨[], [], [], 0⟩

/-- A put whose completion has not returned (R165, R171): a number of its own, its channel, the packet without payload,
and whether its destination lies on the own node. -/
structure OutPut where
  id : Nat
  chan : Nat
  packet : Packet
  own : Bool
  deriving DecidableEq, Repr

/-- What the sequencer waits for at its PC. -/
inductive WaitKind where
  | load | lda | amo | fence | ewait | rel | str | acq | cwait | taskEnd (retire : Bool)
  deriving DecidableEq, Repr

/-- A wait of the sequencer: its kind, the waiting instruction's word, for a release the puts it waits for, and whether it
has lasted longer than PWR_FOLLOW.dwell_ns (R439). -/
structure SeqWait where
  kind : WaitKind
  word : Nat
  puts : List Nat
  dwelt : Bool
  deriving DecidableEq, Repr

/-- The four engines (R15). -/
inductive Engine where
  | sequencer | matrix | vector | dma
  deriving DecidableEq, Repr

/-- The times at which the watch timers of a tile's units last started (R378): a task started or left RUN, the sequencer
entered S level, the matrix queue, the vector queue and the outbound token queue became busy or let something go. -/
structure TileWatch where
  task : Nat
  sup : Nat
  mat : Nat
  vec : Nat
  tok : Nat
  deriving DecidableEq, Repr

/-- The state of a tile. -/
structure Tile where
  /-- The 32 task slots (R58). -/
  slots : List Slot
  /-- g0–g31, with the T bank of g24–g31 (R142); entry 0 is never read. -/
  g : List Word64
  /-- The S bank of g24–g31 (R144). -/
  gS : List Word64
  /-- p0–p7 (R142); entry 0 is never read. -/
  p : List Word64
  /-- v0–v31, 2,048 bits each (R142). -/
  v : List (BitVec 2048)
  /-- acc0–acc3 (R84). -/
  planes : List Plane
  /-- PC, 40 bits (R142). -/
  pc : BitVec 40
  /-- S level is active (R144). -/
  sLevel : Bool
  /-- VXFLAGS, five bits (R146). -/
  vxflags : BitVec 5
  /-- EPC (R146). -/
  epc : BitVec 40
  /-- ESTAT.prev (R146). -/
  prev : Bool
  /-- ESTAT.ie, 1 after reset (R146). -/
  ie : Bool
  /-- ESTAT.cause (R146). -/
  ecause : BitVec 16
  /-- ESCR0 and ESCR1 (R146). -/
  escr0 : Word64
  escr1 : Word64
  /-- What the sequencer waits for. -/
  wait : Option SeqWait
  /-- The store buffer, oldest first, at most 8 (R154). -/
  stores : List BufStore
  /-- The data cache's lines (R94). -/
  dcache : List DLine
  /-- The tree pseudo-LRU bits of each data-cache set, 7 bits (R94); an unlisted set has zeros. -/
  plru : Assoc (BitVec 7)
  /-- The evicted dirty lines whose write-back is not done, oldest first (R96). -/
  wb : List DLine
  /-- The instruction cache's lines (R97). -/
  icache : List ILine
  /-- The matrix queue, at most 16 (R79). -/
  matq : List MatCmd
  /-- The vector queue, at most 32 (R79). -/
  vecq : List VecCmd
  /-- The four DMA channels (R98). -/
  dma : List DmaChan
  /-- The channel that the hub link served last (R99). -/
  dmaLast : Nat
  /-- The outbound token queue, at most 64 packets (R61). -/
  tokq : List QueuedToken
  /-- The early-token buffer, at most 256 (R65). -/
  etb : List EarlyToken
  /-- The entries sent and not refused so far (R64). -/
  tokSent : List SentToken
  /-- The entries refused with "retry" (R64). -/
  refused : List RefusedToken
  /-- The outstanding put completions (R171). -/
  puts : List OutPut
  /-- The number the next put takes. -/
  putNo : Nat
  /-- A TL_CMD cache operation in progress: instruction cache, data cache (R105). -/
  icOp : Bool
  dcOp : Bool
  /-- The engines held in engine reset (R102). -/
  inReset : List Engine
  /-- TALLY_CYC at the last change of the tile clock, and the time of that change (R469). -/
  cycBase : Nat
  cycAt : Nat
  /-- Scratchpad words with a double-bit error, by word number (R93). -/
  spadUe : List Nat
  /-- Scratchpad words with a single-bit error not yet rewritten, by word number (R93). -/
  spadCe : List Nat
  /-- Scratchpad words whose corrected value waits to be rewritten, by word number (R93). -/
  spadRewrite : List Nat
  /-- The engine commands that the running task has issued since its start (R360). -/
  cmdNo : Nat
  /-- The tag sampler's 32-bit LFSR (R471), and the records that wait to be written, oldest first, at most 2 (R472). -/
  tagLfsr : BitVec 32
  tagQueue : List (List Word64)
  /-- The watch timers of the tile's units (R378). -/
  watch : TileWatch
  deriving DecidableEq, Repr

/-- A tile after reset: empty slots and queues, registers, planes and caches cleared (R60, R102). -/
def Tile.reset : Tile where
  slots := List.replicate 32 Slot.empty
  g := List.replicate 32 0
  gS := List.replicate 8 0
  p := List.replicate 8 0
  v := List.replicate 32 0
  planes := List.replicate 4 Plane.zero
  pc := 0
  sLevel := false
  vxflags := 0
  epc := 0
  prev := false
  ie := true
  ecause := 0
  escr0 := 0
  escr1 := 0
  wait := none
  stores := []
  dcache := []
  plru := []
  wb := []
  icache := []
  matq := []
  vecq := []
  dma := List.replicate 4 DmaChan.empty
  dmaLast := 3
  tokq := []
  etb := []
  tokSent := []
  refused := []
  puts := []
  putNo := 0
  icOp := false
  dcOp := false
  inReset := []
  cycBase := 0
  cycAt := 0
  spadUe := []
  spadCe := []
  spadRewrite := []
  cmdNo := 0
  tagLfsr := 1
  tagQueue := []
  watch := ⟨0, 0, 0, 0, 0⟩

/-- The operations of the ALU instructions (R151). The spec gives no function codes, so the command names the operation
that its word's code stands for (log entry 5). `sel` selects on bit 0 of predicate `p`. -/
inductive AluOp where
  | add | sub | and | or | xor | andn | sll | srl | sra
  | cmp (r : Rel) | cmpP (r : Rel)
  | minS | maxS | minU | maxU
  | sel (p : Nat)
  | clz | ctz | cpop
  | extract (pos width : Nat) (signed : Bool) | insert (pos width : Nat)
  | mul | mulhS | mulhU | divS | divU | remS | remU
  deriving DecidableEq, Repr

/-- The operations of the predicate instructions (R151). -/
inductive PredOp where
  | and | or | xor | not | fromG | toG | cmp (r : Rel)
  deriving DecidableEq, Repr

end Sys2Proof.Machine
end

