-- ==== Sys2Proof/Machine/CloneTypes.lean ====
section
/-! DEFINITION. What a clone copies to its target (R374). -/
namespace Sys2Proof.Machine

/-- The part of a clone that belongs to a tile: planes, v and p registers, slots and the early-token buffer. -/
structure CloneTile where
  tile : Nat
  planes : List Plane
  v : List (BitVec 2048)
  p : List Word64
  slots : List Slot
  etb : List EarlyToken
  deriving DecidableEq, Repr

/-- What arrives at the target of a clone: the bytes of the HBM windows and scratchpads, the tiles' parts, the
completion domains by number, the flag-hold entries, the intake queues by paddock, and each fold entry's instance and
next_expect. -/
structure CloneImage where
  mem : List Host.Cell
  tiles : List CloneTile
  domains : List (Nat × Word64)
  flagHold : List HeldFlag
  queues : List (Nat × List QueuedGraph)
  folds : List (Nat × Nat × Nat)
  deriving DecidableEq, Repr

end Sys2Proof.Machine
end

