-- ==== Sys2Proof/Machine/LinkTypes.lean ====
section
/-! DEFINITION. The state of the serial lanes, the link layer (R229 to R246) and the beat timer (R284 to R299). -/
namespace Sys2Proof.Machine

/-- A serial lane: the transmitter's five taps pre2, pre1, main, post1, post2 in units of 1/128 (R238), what it answers
to tap requests (ack_seq, status, preset_done), whether its receiver is ready (R235), the latest frame's ready, lane,
port, state and reach fields, the latest probe with its arrival, and block 2 of the frames it sends. -/
structure Lane where
  taps : List Int
  ackSeq : Nat
  status : Nat
  presetDone : Bool
  ready : Bool
  farReady : Bool
  farLane : Nat
  farPort : Nat
  farState : Nat
  farReach : Bool
  probe : Nat
  probeAt : Nat
  request : Word64
  frame : Nat
  deriving DecidableEq, Repr

/-- A lane after reset. -/
def Lane.reset : Lane := ⟨[0, -8, 112, -8, 0], 0, 0, false, false, false, 8, 0, 0, false, 0, 0, 0, 0⟩

/-- A 66-bit block of a lane (R229): the sync header and the payload before scrambling. -/
structure LaneBlock where
  sync : Nat
  payload : Word64
  deriving DecidableEq, Repr

/-- What the receiver of a logical lane brings of a link block (R230, R233, R240): its blocks, each with whether it lies
in an uncorrectable codeword. -/
abbrev RxLane := List (LaneBlock × Bool)

/-- What the codewords of a lane in reach mode showed: the symbols corrected and the uncorrectable codewords (R233). -/
structure FecErrs where
  corrected : Nat
  uncorrectable : Nat
  deriving DecidableEq, Repr

/-- What the receiver of one lane brings over a run of blocks: the blocks, and what their codewords showed. -/
structure RxRun where
  blocks : RxLane
  fec : FecErrs
  deriving DecidableEq, Repr

/-- A filler group as the receiver of a port meets it (R231): the FILLER blocks that it would have to insert or delete, and
what came on each active lane, by logical lane. -/
structure RxFillers where
  adjust : Nat
  lanes : List RxRun
  deriving DecidableEq, Repr

/-- A data block in the replay buffer (R241): its sequence, its words, how many packets end in it, and the circuit whose
VC4 units it carries, with the partition that owns them (R294, R300). -/
structure StoredBlock where
  seq : Nat
  words : List Word64
  ends : Nat
  circuit : Option (Nat × Nat)
  deriving DecidableEq, Repr

/-- A deficit round robin (R267, R268, R282): the turn, the deficits in bytes, and the weights of the present round. -/
structure Drr where
  turn : Nat
  deficit : List Nat
  weights : List Nat
  deriving DecidableEq, Repr

/-- The link layer of an external port. -/
structure LinkPort where
  /-- The replay buffer, oldest first, at most 4,096 blocks (R241). -/
  replay : List StoredBlock
  /-- The sequence from which stored blocks are being sent again (R241). -/
  resendAt : Option Nat
  /-- The expected sequence of the receiver, and whether it waits after a RESEND (R241). -/
  expect : Nat
  waiting : Bool
  /-- Ignored acks in a row; the start and the count of the resends in a row from one sequence (R241). -/
  badRun : Nat
  resendSeq : Nat
  resendRun : Nat
  /-- An unanswered PWR_REQ, and the power state that the next filler group brings (R242, R246). -/
  pwrAsked : Option Nat
  pwrNext : Option Nat
  /-- An unanswered DEGRADE, and the half that the next filler group keeps (R244). -/
  degAsked : Option Nat
  degNext : Option Nat
  /-- RETRAIN was sent and the far end is not known to have left ACTIVE (R242). -/
  retrainAsked : Bool
  /-- RTR_LINK_CTRL.reach as it was when the latest training began (R234). -/
  reachAsk : Bool
  /-- The training is a Dormant exit (R246); the training keeps the link state (R244). -/
  dormantExit : Bool
  kept : Bool
  /-- The filler-group counter (R231). -/
  group : Nat
  /-- The probes of CONFIRM: sum of the round trips in 100 ps, and their number (R236). -/
  rttSum : Nat
  rttCount : Nat
  /-- Credit owed to the far end for each virtual channel, and the channels served last for credit and for lending
  (R266). -/
  owed : List Nat
  crdLast : Nat
  lendLast : Nat
  /-- Which of the last 63 data blocks with data waiting were of VC6, VC1 or VC0 (R267). -/
  ctrlHist : List Bool
  /-- Deficit round robin (R267, R268): of VC2, VC5 and VC7 for each of the five partition classes and, as the sixth, for
  a port that partitions do not share; and of the partition classes. -/
  vcRounds : List Drr
  partRound : Drr
  /-- The slot of the last block (beat × 256 + slot), its owning circuit where it is claimed, whether a VC4 block of it
  was ready, and whether it counted a credit stall (R297). -/
  slotKey : Nat
  slotCircuit : Option Nat
  slotReady : Bool
  slotStalled : Bool
  /-- Bells sent on the port (R288). -/
  bells : Nat
  /-- The port has entered ACTIVE since power was applied (R347). -/
  wasActive : Bool
  /-- A hello was received since the latest entry to ACTIVE; one with heard = 1 was; the last hello was sent (R340). -/
  heard : Bool
  farHeard : Bool
  helloDone : Bool
  deriving DecidableEq, Repr

/-- A port with no link state. -/
def LinkPort.reset : LinkPort where
  replay := []
  resendAt := none
  expect := 0
  waiting := false
  badRun := 0
  resendSeq := 0
  resendRun := 0
  pwrAsked := none
  pwrNext := none
  degAsked := none
  degNext := none
  retrainAsked := false
  reachAsk := false
  dormantExit := false
  kept := false
  group := 0
  rttSum := 0
  rttCount := 0
  owed := List.replicate 8 0
  crdLast := 7
  lendLast := 7
  ctrlHist := []
  vcRounds := List.replicate 6 ⟨0, [0, 0, 0], [128, 64, 32]⟩
  partRound := ⟨0, [0, 0, 0, 0, 0], [0, 0, 0, 0, 16]⟩
  slotKey := 0
  slotCircuit := none
  slotReady := false
  slotStalled := false
  bells := 0
  wasActive := false
  heard := false
  farHeard := false
  helloDone := false

/-- The beat timer (R284): machine time T in 100 ps with its 16-bit fraction, the rate offset of a slew in 2⁻¹⁶ of T's
unit, the time for which T still stands still after a backward step (R293), the grid's n_b and t_b, the test count of
R289, T at the last parent bell, the beats at which the armed routing flip, the armed slot flip, the pending period and
the armed clone take effect (R285), T at the last flip of each kind, and the beat and slot that had begun at the latest
step (R293). -/
structure BeatTimer where
  t : Nat
  frac : Nat
  rate : Int
  still : Nat
  nb : Nat
  tb : Nat
  good : Nat
  lastBell : Nat
  rtrFlip : Nat
  slotFlip : Nat
  periodBeat : Nat
  cloneBeat : Nat
  rtrFlipAt : Option Nat
  slotFlipAt : Option Nat
  stepBeat : Nat
  stepSlot : Nat
  deriving DecidableEq, Repr

/-- The timer at a cold boot: T and the grid at zero (R284). -/
def BeatTimer.reset : BeatTimer := ⟨0, 0, 0, 0, 0, 0, 0, 0, 0, 0, 0, 0, none, none, 0, 0⟩

end Sys2Proof.Machine
end

