-- ==== Sys2Proof/Machine/OutTypes.lean ====
section
/-! DEFINITION. What leaves the module by other ways than a packet, the management cores' interrupt state, and the PCI
Express function's configuration state. -/
namespace Sys2Proof.Machine

/-- What the module answers to an MCTP control request (R492): its endpoint ID, the versions it supports, its message types,
its vendor-defined messages. -/
inductive CtrlReply where
  | endpointId (eid : Nat)
  | versions (word : Nat)
  | types (l : List Nat)
  | vendor (id : Nat)
  /-- A control command that the module does not support. -/
  | unknown (command : Nat)
  deriving DecidableEq, Repr

/-- The identity in the configuration space of the PCI Express function (R484). -/
structure PcieIdentity where
  vendor : Nat
  device : Nat
  class_ : Nat
  revision : Nat
  deriving DecidableEq, Repr

/-- The PLDM requests that the module answers with a completion code (R500). -/
inductive PldmOp where
  | requestUpdate | passComponentTable | updateComponent | activateFirmware | cancelUpdateComponent | cancelUpdate
  deriving DecidableEq, Repr

/-- The completion of a PLDM request: success, ALREADY_IN_UPDATE_MODE, or another refusal (R500). -/
inductive PldmCode where
  | success | alreadyInUpdateMode | refused
  deriving DecidableEq, Repr

/-- What the module sends as a PLDM firmware device (R498 to R503). -/
inductive PldmMsg where
  | identifiers (id : PcieIdentity)
  /-- Per component: its classification and code, the running version and the version that was applied and waits for
  activation. -/
  | parameters (l : List ((Nat × Nat) × Nat × Nat))
  | answer (op : PldmOp) (code : PldmCode)
  | activating (ms : Nat)
  | status (state component : Nat)
  | requestData (offset length : Nat)
  | transferComplete (result : Nat)
  | verifyComplete (result : Nat)
  | applyComplete
  /-- The answers of PLDM type 0 (R492): the PLDM types, and what another base command returns. -/
  | types (l : List Nat)
  | base (command : Nat) (value : Word64)
  /-- A command of PLDM type 5 that the module does not support. -/
  | unsupported (command : Nat)
  deriving DecidableEq, Repr

/-- What the module sends on a bus that is not the fabric. -/
inductive Output where
  /-- An MSI-X message (R466): the vector's address and data. -/
  | msix (addr data : Nat)
  /-- A link block on an external port (R240): the data blocks of each active physical lane. -/
  | linkBlock (port : Nat) (lanes : List (Nat × List LaneBlock))
  /-- IDLE blocks on the physical lanes of an external port (R236, R245). -/
  | idle (port : Nat) (lanes : List (Nat × List LaneBlock))
  /-- A training period on a lane (R235): the four blocks of the frame and the 60 that follow it. -/
  | frame (lane : Nat) (blocks : List LaneBlock)
  /-- A filler group on an external port (R231): each active physical lane and its four blocks. -/
  | filler (port : Nat) (lanes : List (Nat × List LaneBlock))
  /-- What the source of a clone copies to its target's own ID (R374). -/
  | clone (dst : Nat) (image : CloneImage)
  /-- A wake pattern on a Dormant port (R245). -/
  | wake (port : Nat)
  /-- What a register read returns to PCI Express (R32): the offset and the value. -/
  | regRead (offset : Nat) (value : Word64)
  /-- An Unsupported Request completion on PCI Express (R8, R31, R485). -/
  | unsupported (offset : Nat)
  /-- A Halduc message (R493) on a binding, 0 PCI Express and 1 I3C. -/
  | mctp (binding : Nat) (bytes : List Byte)
  | control (binding : Nat) (reply : CtrlReply)
  | pldm (binding : Nat) (msg : PldmMsg)
  /-- The bytes of an I3C telemetry read (R496), and the refusal of an I3C write. -/
  | i3c (bytes : List Byte)
  | i3cNack
  /-- The provisioned IDs of the I3C targets that take part in ENTDAA, and the Hot-Join request (R496, R524). -/
  | entdaa (ids : List Nat)
  | hotJoin
  deriving DecidableEq, Repr

/-- A management core as far as the interrupt controller acts on it (R463, R464): PC, mepc, mcause, mstatus.MIE and
MPIE, mie.MEIE, and the sources in service on it with the group field of their delivery. -/
structure MgtCore where
  pc : Nat
  mepc : Nat
  mcause : Nat
  mie : Bool
  mpie : Bool
  meie : Bool
  insvc : List (Nat × Nat)
  deriving DecidableEq, Repr

/-- A core after reset. -/
def MgtCore.reset : MgtCore := ⟨0, 0, 0, false, false, false, []⟩

/-- The PCI Express function (R466, R485): D3hot, MSI-X Enable, Function Mask. -/
structure PcieFn where
  d3hot : Bool
  msixEnable : Bool
  functionMask : Bool
  deriving DecidableEq, Repr

/-- The two kinds of hold-off group (R459): of a tile's controller, and of the chip controller. -/
inductive HoldGroup where
  | tile (t g : Nat)
  | chip (g : Nat)
  deriving DecidableEq, Repr

/-- The level monitors (R474): of a tile, of an HBM stack, of the fabric die. -/
inductive Monitor where
  | tile (t : Nat)
  | hbm (s : Nat)
  | fabric (m : Nat)
  deriving DecidableEq, Repr

end Sys2Proof.Machine
end

