-- ==== Sys2Proof/Machine/PlatTypes.lean ====
section
/-! DEFINITION. The state of recovery (R378 to R397), the power controller (R430 to R450), bring-up (R404 to R425), the
management complex and its flash (R486 to R511), and the connectors (R516 to R537). -/
namespace Sys2Proof.Machine

/-! ### Recovery -/

/-- A watched unit: a slot; the sequencer, matrix engine, vector engine, a DMA channel or the outbound token queue of a
tile (unit codes 0, 1, 2, 3 to 6, 7); a paddock; a heartbeat source, 0 to 17 cluster hubs, 18 to 29 HBM controllers,
30 to 34 bridges. -/
inductive WatchUnit where
  | slot (tile slot : Nat)
  | engine (tile unit : Nat)
  | paddock (p : Nat)
  | heartbeat (n : Nat)
  deriving DecidableEq, Repr

/-- A reset that has completed (R382): its level, the unit it reached, and the time. -/
structure ResetNote where
  level : Nat
  unit : Nat
  at_ : Nat
  deriving DecidableEq, Repr

/-- A reset or power-cycle request that waits for its dump (R393), or runs: its level and the unit it reaches. The unit is
tile × 32 + slot, tile × 8 + the unit code of R400, the paddock, or 0; with the beat and T at its start. -/
structure ResetJob where
  level : Nat
  unit : Nat
  beat : Nat
  t : Nat
  deriving DecidableEq, Repr

/-- A dump being taken (R393 to R395): level code, cause, the paddocks in scope, the beat and T at its start, and the
units (by the BAR0 offset where their block starts) whose accesses timed out, with the offset at which each did. -/
structure DumpJob where
  level : Nat
  cause : Nat
  pads : List Nat
  beat : Nat
  t : Nat
  missed : List (Nat × Nat)
  deriving DecidableEq, Repr

structure Recovery where
  /-- The latest completed reset of each level and unit (R382). -/
  done : List ResetNote
  /-- The 1 MiB HBM regions that wait to be zeroed, as ranges of numbers from the first up to the second (R387). -/
  zero : List (Nat × Nat)
  /-- The time of each heartbeat source's latest heartbeat (R378), and when each level's timers last started anew because a
  window was written (R379): context, engine, partition, chip. -/
  heart : Assoc Nat
  winAt : List Nat
  /-- Resets that wait for their dump, and those that run, deepest last. -/
  waiting : List ResetJob
  running : List ResetJob
  dumping : Option DumpJob
  /-- The dump in the dump area, and the sequence number of the next one (R395, R396). -/
  held : List Word64
  dumpSeq : Nat
  /-- The held dump was taken before a power-cycle request, and is drained to flash in any case (R397). -/
  mustDrain : Bool
  /-- A chip reset was retried (R382); a power-cycle request waits for a drain (R397), was made, and was accepted
  (R383, R495); its message waits for new management firmware to confirm (R512). -/
  retried : Bool
  pcWaits : Bool
  pcSent : Bool
  pcTaken : Bool
  pcHeld : Bool
  /-- A structure reload runs with the chip reset, and the copy it selected (R413). -/
  reload : Option Nat
  deriving DecidableEq, Repr

def Recovery.reset : Recovery := ⟨[], [], [], [0, 0, 0, 0], [], [], none, [], 0, false, false, false, false, false, false, none⟩

/-! ### Power and temperature -/

/-- A spot of the sensors (R445): its accepted temperature, the thermal model's estimate, whether it is suspect, and since
when its readings have differed by 4 °C or less. -/
structure Spot where
  accepted : Int
  estimate : Int
  suspect : Bool
  calmSince : Option Nat
  deriving DecidableEq, Repr

def Spot.reset : Spot := ⟨0, 0, false, none⟩

structure Power where
  /-- The module is parked (R444); it climbs back, and the limit of the climb in mW (R442, R444). -/
  parked : Bool
  climbing : Bool
  ramp : Nat
  /-- The internal fast throttle holds (R446). -/
  brake : Bool
  /-- A Sprint burst runs; one may start, since the 1 s average allows it (R438). -/
  burst : Bool
  mayBurst : Bool
  spots : Assoc Spot
  /-- The thermal ceilings of the tiles, 136 where unlisted, and the stacks' command rates in 1/16, 16 where unlisted
  (R446). -/
  ceilings : Assoc Nat
  hbmRate : Assoc Nat
  /-- The waiting tiles that run at f_wait, with their former frequency (R439). -/
  former : Assoc Nat
  /-- Since when every reading has been below target − 10 °C (R444). -/
  coolSince : Option Nat
  /-- The time of the last coolant report (R448). -/
  coolAt : Option Nat
  /-- The limiter bits seen in the pacing window, and the pace-setter of the latest fold instance (R440). -/
  limited : Nat
  pace : Nat
  /-- The refresh count of the telemetry record (R496). -/
  refreshes : Nat
  /-- When the module last left Park or a chip reset: no watch timer started before (R379). -/
  upAt : Nat
  deriving DecidableEq, Repr

def Power.reset : Power := ⟨false, false, 0, false, false, true, [], [], [], [], none, none, 0, 0, 0, 0⟩

/-! ### Bring-up and muster -/

structure Boot where
  /-- The step of R404 that runs: 1 boot ROM … 10 muster; 11 when the boot has ended. -/
  step : Nat
  /-- ROM recovery mode (R508). -/
  recovery : Bool
  /-- The interleave element kept in management SRAM, as register writes (R406). -/
  ilv : List (Nat × Word64)
  /-- Units to be enabled again at the next chip reset: kind and index (R417). -/
  enable : List (Nat × Nat)
  /-- The ports that the structure image enables, until the links train (R404). -/
  ports : List Nat
  deriving DecidableEq, Repr

def Boot.reset : Boot := ⟨1, false, [], [], []⟩

/-- A muster session at the originator (R423): the receivers with the blocks each still misses, those that have not
answered the present poll, and those that never answered. -/
structure MusterTx where
  missing : List (Nat × List Nat)
  unanswered : List Nat
  never : List Nat
  deriving DecidableEq, Repr

structure Muster where
  /-- The blocks received, by receive entry (R422). -/
  got : Assoc (List Nat)
  tx : Option MusterTx
  deriving DecidableEq, Repr

def Muster.reset : Muster := ⟨[], none⟩

/-! ### The management complex -/

/-- A settings slot (R507): sequence number, settings_format, whether its CRC passes, and the values by id. -/
structure SettingsSlot where
  seq : Nat
  format : Nat
  good : Bool
  values : List (Nat × Word64)
  deriving DecidableEq, Repr

/-- A half of the persistent record (R432, R489): sequence number, whether its CRC-32C passes, the accumulated powered time
in 100 ps, and fmax_now by tile. -/
structure RecordHalf where
  seq : Nat
  good : Bool
  powered : Nat
  fmax : Assoc Nat
  deriving DecidableEq, Repr

def RecordHalf.erased : RecordHalf := ⟨0, false, 0, []⟩

/-- The dump slot (R489): the magic number, length in bytes, seq and CRC-32C of its header, and the dump. -/
structure DumpSlot where
  magic : Nat
  length : Nat
  seq : Nat
  crc : Nat
  body : List Word64
  deriving DecidableEq, Repr

/-- A part of the flash that is written as a whole: a slot of a component, a settings slot, a half of the record. -/
inductive FlashPart where
  | slot (component k : Nat)
  | settings (k : Nat)
  | half (k : Nat)
  deriving DecidableEq, Repr

/-- The flash (R489): the containers in the structure image slots A and B and in the slots of components 1 to 3 (A and B of
each in order), these with their activation numbers, the settings slots, the two halves of the persistent record, the dump
slot, and the part that was written last, whose write a loss of power may cut.
The directory is write-protected: its certificate is a constant of Config. -/
structure Flash where
  si : List (List Byte)
  fw : List (List Byte)
  actNo : List Nat
  settings : List SettingsSlot
  record : List RecordHalf
  dump : Option DumpSlot
  last : Option FlashPart
  deriving DecidableEq, Repr

/-- An erased flash. -/
def Flash.erased : Flash where
  si := [[], []]
  fw := [[], [], [], [], [], []]
  actNo := [0, 0, 0, 0, 0, 0]
  settings := [⟨0, 0, false, []⟩, ⟨0, 0, false, []⟩]
  record := [RecordHalf.erased, RecordHalf.erased]
  dump := none
  last := none

/-- A firmware update in progress (R500 to R506): the agent's binding and requester, the transfer size, the component
and slot, the announced size and the bytes received, the block requested again with the bytes of it that have come, the
failures of the present block, the components applied and not activated with their slots, those that the running
activation still has to take, the ports that a lane-firmware activation still has to take with the one in training, the
paddocks whose run it restores, whether the microcode broadcast runs, the slot of management firmware that has yet to
confirm, and the svn that the root of trust is blowing fuses for. -/
structure Update where
  agent : Option (Nat × Nat)
  mts : Nat
  component : Nat
  slot : Nat
  size : Nat
  bytes : List Byte
  redo : Option (Nat × List Byte)
  tries : Nat
  applied : List (Nat × Nat)
  queue : List (Nat × Nat)
  ports : List Nat
  training : Option Nat
  runs : List Nat
  loading : Bool
  proving : Option Nat
  advance : Option Nat
  deriving DecidableEq, Repr

def Update.none : Update :=
  ⟨Option.none, 0, 0, 0, 0, [], Option.none, 0, [], [], [], Option.none, [], false, Option.none, Option.none⟩

/-- An ATTEST that the root of trust is signing (R511): its binding, instance, index mask and nonce. -/
structure AttestJob where
  binding : Nat
  inst : Nat
  mask : Nat
  nonce : List Byte
  deriving DecidableEq, Repr

structure Mgmt where
  /-- The endpoint ID of each MCTP binding, 0 PCI Express and 1 I3C (R491). -/
  eid : List Nat
  /-- Messages being assembled: binding, requester, tag, bytes (R491). -/
  part : List (Nat × Nat × Nat × List Byte)
  /-- Assembled requests that no command has taken: binding, requester, tag and bytes. -/
  inbox : List (Nat × Nat × Nat × List Byte)
  /-- The dynamic addresses of the MCTP and telemetry targets, 0 where a target has none (R496, R524). -/
  i3c : Nat × Nat
  /-- The eight measurements (R509). -/
  meas : List (BitVec 512)
  update : Update
  /-- The powered time that had accumulated before this power-up, in 100 ps, as the boot restored it (R432). -/
  powered : Nat
  /-- The svn of the lane firmware that a port's lanes run, and the ports that take the lane firmware in use at their next
  training (R502, R504). -/
  laneFw : Assoc Nat
  laneDue : List Nat
  /-- The attestations in progress, at most one a binding (R511). -/
  signing : List AttestJob
  deriving DecidableEq, Repr

def Mgmt.reset : Mgmt where
  eid := [0, 0]
  part := []
  inbox := []
  i3c := (0, 0)
  meas := List.replicate 8 0
  update := Update.none
  powered := 0
  laneFw := []
  laneDue := List.range 8
  signing := []

/-! ### The connectors -/

structure Tray where
  /-- The mate level reached, 0 to 4 (R520). -/
  mate : Nat
  /-- The input switch is closed (R521). -/
  switch : Bool
  pwrEn : Bool
  /-- PWR_EN must be deasserted before the stage starts again (R447, R450, R537). -/
  mustCycle : Bool
  /-- The 6 V stage ramps; PWR_GOOD; a Release is under way (R521, R525). -/
  ramping : Bool
  good : Bool
  releasing : Bool
  /-- THERMTRIP_N (R447). -/
  trip : Bool
  pos : Nat
  rcvr : Bool
  /-- P3V3_AUX is present; the 50 V input has been at or above 40.0 V for 10 ms (R523). -/
  aux : Bool
  vin : Bool
  /-- The time at which PWR_GOOD has been deasserted for 100 ms (R523). -/
  ready : Nat
  /-- FT_N is asserted (R442, R540); the ports whose PORT_PRESENT_N is low (R541). -/
  ft : Bool
  cables : List Nat
  deriving DecidableEq, Repr

/-- A seated module with main power on. -/
def Tray.on : Tray := ⟨4, true, true, false, false, true, false, false, 0, false, true, true, 0, false, []⟩

end Sys2Proof.Machine
end

