-- ==== Sys2Proof/Syntax.lean ====
section
/-! DEFINITION. The commands of the block: one constructor for each row of spec/opcode_table.json, with the operands the
row's rule gives it. A command arrives from outside the block or names an event of one of its units. -/
namespace Sys2Proof

open Sys2Proof.Machine in
/-- A command. -/
inductive Instr where
  /-- REGISTER_WRITE (R9): A host, management or S-level write reaches a register field that has no behaviour of its own and acts by its access code. -/
  | registerWrite (offset size : Nat) (data : Option Word64)
  /-- MGMT_REQ (R262): A management request packet arrives and performs a register read or write in arrival order. -/
  | mgmtReq (p : Packet)
  /-- INTAKE_REQ (R48): An intake request arrives and enters the paddock's request FIFO in arrival order. -/
  | intakeReq (p : Packet)
  /-- INTAKE_GRANT (R48): Once the queue has the requested units free, the intake grants the head request and counts the units as occupied. -/
  | intakeGrant (pad : Nat)
  /-- GRANT_EXPIRED (R50): A grant not used within grant_timeout_us is reclaimed, its ticket invalidated and GI_EVT.grant_expired set. -/
  | grantExpired (ticket : Nat)
  /-- GRAPH (R51): A graph packet arrives at the intake, uses its ticket and enters the paddock's queue or is refused whole. -/
  | graph (p : Packet)
  /-- DESCRIPTOR_PLACE (R55): The intake takes the head descriptor of a paddock queue, checks it and places it in the lowest free slot of its tile once one is free. -/
  | descriptorPlace
  /-- TASK_SELECT (R67): With the sequencer idle, the ready logic marks ready slots and starts the highest-priority oldest ready task. -/
  | taskSelect (tile : Nat)
  /-- TOKEN (R63): A TOKEN packet arrives and its entries are added to the named input counters of live tasks. -/
  | token (p : Packet)
  /-- CREDIT (R63): A CREDIT packet arrives and its entries are added to the named output pools of live tasks. -/
  | credit (p : Packet)
  /-- TOKEN_NAK (R64): A TOKEN_NAK reaches the sending tile, which schedules a re-send or records the refusal in TL_NAK_LAST. -/
  | tokenNak (p : RefusalPacket)
  /-- TOKEN_RESEND (R64): An entry's retry interval ends and the tile re-sends the refused entry in a new packet. -/
  | tokenResend (tile k : Nat)
  /-- EARLY_TOKEN_EXPIRY (R66): An early-token entry unclaimed for early_timeout_ms is discarded and the stale-token status set. -/
  | earlyTokenExpiry (tile k : Nat)
  /-- INTAKE_SATURATED (R69): Occupancy held at or above high_units for the hold-off fires the intake-saturated event. -/
  | intakeSaturated (pad : Nat)
  /-- GI_PAD_CFG_WRITE (R45): A write of a paddock configuration is applied, or ignored with GI_EVT.bad_config when it would break uniqueness. -/
  | giPadCfgWrite (pad : Nat) (data : Word64)
  /-- GI_PAD_DOM_WRITE (R209): A write of a paddock's domain range is applied, or ignored with GI_CD_EVT.bad_dom on overlap or overflow. -/
  | giPadDomWrite (pad : Nat) (data : Word64)
  /-- TL_CMD_ABORT (R105): A TL_CMD write requests a context abort of the named slot. -/
  | tlCmdAbort (tile slot : Nat)
  /-- SLOT_CLEARED (R58): An aborting slot finishes clearing within 5 µs and becomes FREE. -/
  | slotCleared (tile slot : Nat)
  /-- TL_CMD_ICACHE_INV (R105): A TL_CMD write starts invalidation of the instruction cache. -/
  | tlCmdIcacheInv (tile : Nat)
  /-- TL_CMD_DCACHE_FLUSH (R105): A TL_CMD write starts a write-back and invalidation of the whole data cache. -/
  | tlCmdDcacheFlush (tile : Nat)
  /-- CACHE_OP_DONE (R105): A TL_CMD cache operation ends and TL_STATUS.cache_op clears. -/
  | cacheOpDone (tile : Nat)
  /-- SPAD_CE_REWRITE (R93): A scratchpad bank rewrites a corrected word in its next idle cycle. -/
  | spadCeRewrite (tile word : Nat)
  /-- ALU (R151): An ALU register or immediate instruction computes its result into a g register or predicate. -/
  | alu (tile : Nat) (op : AluOp)
  /-- LI (R148): A long-immediate instruction writes or inserts an immediate into rd. -/
  | li (tile : Nat)
  /-- PREDICATE (R151): A predicate instruction combines, moves or sets whole predicates. -/
  | predicate (tile : Nat) (op : PredOp)
  /-- BR (R152): A conditional branch compares registers or tests a predicate and branches. -/
  | br (tile : Nat)
  /-- J (R152): A jump writes the link and jumps PC-relative. -/
  | j (tile : Nat)
  /-- JR (R152): A jump-register writes the link and jumps to ra plus imm. -/
  | jr (tile : Nat)
  /-- LD (R153): A scalar load reads the own scratchpad, own HBM through the data cache, or own register block at S level. -/
  | ld (tile : Nat)
  /-- ST (R153): A scalar store enters the store buffer after its address checks. -/
  | st (tile : Nat)
  /-- STORE_PERFORMED (R154): A buffered store leaves the store buffer and is performed at its bank or data cache. -/
  | storePerformed (tile : Nat)
  /-- LOAD_MISS_FILL (R94): A data-cache or instruction-cache miss is filled from the stack controller and the waiting access completes. -/
  | loadMissFill (tile : Nat)
  /-- LDA (R173): A load-acquire writes back and invalidates the line and reads the word at the HBM controller or bank. -/
  | lda (tile : Nat)
  /-- LDA_DONE (R173): The load-acquire returns its value and later memory reads of the task may proceed. -/
  | ldaDone (tile : Nat)
  /-- STR (R173): A store-release completes as a zero-length REL and then writes its word past the data cache. -/
  | str (tile : Nat)
  /-- AMO (R155): An atomic instruction drains the store buffer and starts its read-modify-write at the bank or HBM controller. -/
  | amo (tile : Nat)
  /-- AMO_DONE (R155): The atomic operation is performed and its old value written to rd. -/
  | amoDone (tile : Nat)
  /-- VLD (R161): A vector load is checked and queued to the vector engine. -/
  | vld (tile : Nat)
  /-- VST (R161): A vector store is checked and queued to the vector engine. -/
  | vst (tile : Nat)
  /-- VARITH (R162): A vector arithmetic instruction queues an FP, integer, transcendental or WA96 command. -/
  | varith (tile : Nat) (op : VecOp)
  /-- VCONV (R162): A vector conversion instruction queues a format conversion, with MX scale generation where named. -/
  | vconv (tile : Nat) (op : VecOp)
  /-- VREDUCE (R162): A vector reduction, permutation or move instruction queues its command. -/
  | vreduce (tile : Nat) (op : VecOp)
  /-- VECTOR_CMD_DONE (R81): A vector command finishes, its writes are performed and its queue entry frees. -/
  | vectorCmdDone (tile : Nat)
  /-- MCLR (R159): A plane clear is queued, zeroing a plane's values and flags and setting its anchor. -/
  | mclr (tile : Nat)
  /-- MACC (R157): A matrix accumulate is checked and queued to add A times B into a plane. -/
  | macc (tile : Nat)
  /-- MDRN (R159): A drain is queued to convert a plane to a format and write it to the scratchpad. -/
  | mdrn (tile : Nat)
  /-- MLDP (R159): A plane load is queued to read WA96 values into a plane. -/
  | mldp (tile : Nat)
  /-- MATRIX_CMD_DONE (R86): A matrix command completes, updates the plane flag summary and frees its queue entry. -/
  | matrixCmdDone (tile k : Nat)
  /-- MSTAT (R160): The sequencer writes a plane's flag summary, anchor and busy bit to rd. -/
  | mstat (tile : Nat)
  /-- DMA_COPY (R164): A copy command is checked and queued on a DMA channel as a put, get or local copy. -/
  | dmaCopy (tile : Nat)
  /-- DMA_COPY_2D (R164): A two-dimensional strided copy is checked and queued on a DMA channel. -/
  | dmaCopy2d (tile : Nat)
  /-- DMA_FILL (R164): A fill command is checked and queued on a DMA channel. -/
  | dmaFill (tile : Nat)
  /-- GRAPH_SEND (R166): A graph-send command is checked and queued to perform the intake sequence in hardware. -/
  | graphSend (tile : Nat)
  /-- FLAGGED_WRITE_CMD (R167): A flagged-write command is checked and queued to send one flagged data packet. -/
  | flaggedWriteCmd (tile : Nat)
  /-- DMA_CMD_START (R100): A DMA channel starts its next command, checking its own-node ranges before sending anything. -/
  | dmaCmdStart (tile chan : Nat)
  /-- DMA_PACKET_SEND (R99): A channel sends its next packet on the hub link when its round-robin turn and the destination allow. -/
  | dmaPacketSend (tile chan : Nat)
  /-- INTAKE_GRANT_RECEIVE (R166): An INTAKE_GRANT reaches a graph-send, which sends the packet, schedules a retry or ends unsent. -/
  | intakeGrantReceive (p : Packet)
  /-- GRAPH_SEND_RETRY (R166): A graph-send's retry wait ends and the intake request is repeated. -/
  | graphSendRetry (tile chan : Nat)
  /-- DMA_RETRY (R201): A channel's retry wait ends and it re-sends a flagged write or GET_REQ refused with retry. -/
  | dmaRetry (tile chan : Nat)
  /-- TOK (R168): A token-send or credit-send instruction builds a TOKEN or CREDIT packet and queues it. -/
  | tok (tile : Nat)
  /-- TOKEN_QUEUE_SEND (R61): A packet leaves the outbound token queue into the fabric. -/
  | tokenQueueSend (tile : Nat)
  /-- FENCE (R169): A fence drains the store buffer and waits for earlier sequencer accesses. -/
  | fence (tile : Nat)
  /-- FENCE_DONE (R169): Every earlier sequencer access is performed and issue resumes. -/
  | fenceDone (tile : Nat)
  /-- EWAIT (R170): An engine wait waits for the named units to complete their earlier work. -/
  | ewait (tile : Nat)
  /-- EWAIT_DONE (R170): The named units have completed and the engine wait ends. -/
  | ewaitDone (tile : Nat)
  /-- REL (R171): A release starts draining stores, writing back the range and awaiting put completions at its scope. -/
  | rel (tile : Nat)
  /-- REL_DONE (R171): All conditions of the release hold and it completes. -/
  | relDone (tile : Nat)
  /-- ACQ (R172): An acquire writes back and invalidates the data-cache lines of its range. -/
  | acq (tile : Nat)
  /-- ACQ_DONE (R172): The acquire completes and later reads of the task may proceed. -/
  | acqDone (tile : Nat)
  /-- CWAIT (R174): A completion wait reads a domain and waits until it reaches the expected value, errs or times out. -/
  | cwait (tile : Nat)
  /-- CWAIT_DONE (R174): The awaited domain reaches its value or records an error and the wait writes rd. -/
  | cwaitDone (tile : Nat)
  /-- CWAIT_TIMEOUT (R174): The CWAIT cycle limit expires and rd reports timed out. -/
  | cwaitTimeout (tile : Nat)
  /-- TRD (R175): A tally read writes a counter value to rd, subject to the tally privilege. -/
  | trd (tile : Nat)
  /-- TEND (R176): A task-end instruction waits for the conditions of task completion. -/
  | tend (tile : Nat)
  /-- TRET (R176): A task-retire instruction waits for the conditions of task completion. -/
  | tret (tile : Nat)
  /-- TASK_END_DONE (R82): Engines, channels and the token queue have finished the task's work and the slot goes to WAIT or RETIRE. -/
  | taskEndDone (tile : Nat)
  /-- ICINV (R176): The instruction invalidates the whole instruction cache. -/
  | icinv (tile : Nat)
  /-- SYSCALL (R145): A system call enters S level with its code in ESTAT.cause. -/
  | syscall (tile : Nat)
  /-- RTI (R145): A return restores T level and the T bank and resumes the task or goes idle. -/
  | rti (tile : Nat)
  /-- CSRR (R146): A control-register read writes the named register to rd. -/
  | csrr (tile : Nat)
  /-- CSRW (R146): A control-register write changes the writable fields of the named register. -/
  | csrw (tile : Nat)
  /-- ILLEGAL (R147): A word that names no instruction raises an illegal-instruction fault whatever its guard. -/
  | illegal (tile : Nat)
  /-- INTERRUPT_ENTRY (R145): A presentable tile interrupt with ie set is taken at an instruction boundary and enters S level. -/
  | interruptEntry (tile : Nat)
  /-- WRITE (R276): A WRITE data packet arrives at its destination, passes the receiver checks and is performed or refused. -/
  | write (p : Packet)
  /-- FLAGGED_WRITE (R201): A flagged write arrives and is applied, held, discarded or refused with retry. -/
  | flaggedWrite (p : Packet)
  /-- FLAG_HOLD_APPLY (R202): A held entry whose domain has reached expect is applied in entry order. -/
  | flagHoldApply (k : Nat)
  /-- FLAG_HOLD_TIMEOUT (R204): An entry held longer than hold_timeout_ms is discarded with cause 6. -/
  | flagHoldTimeout (k : Nat)
  /-- GI_CD_ZERO (R210): A write of GI_CD.zero resets a domain's count, err and cause and discards its waiting entries. -/
  | giCdZero (domain : Nat)
  /-- GI_FH_CLR_PEAK (R211): A write of clr_peak sets the flag-hold peak to the current use. -/
  | giFhClrPeak
  /-- GET_REQ (R261): A GET_REQ arrives, is checked and takes a get-responder entry or is answered with retry. -/
  | getReq (p : Packet)
  /-- GET_DATA_SEND (R261): The get responder reads source data and sends the next GET_DATA packet. -/
  | getDataSend (k : Nat)
  /-- GET_DATA (R276): A GET_DATA packet arrives at the issuer, is checked and written and counted in dst_dom. -/
  | getData (p : Packet)
  /-- COMPLETION (R165): A completion returns to the issuing tile and is counted for REL, in ack_dom and in TL_DMA_STAT. -/
  | completion (p : Packet)
  /-- ILV_COMMIT (R216): A write of HBM_ILV_CTRL.commit starts the check of a die's interleave copy. -/
  | ilvCommit (die : Nat)
  /-- ILV_CHECK_DONE (R216): The interleave check ends with state valid or failed, and HBM service starts when both dies are valid. -/
  | ilvCheckDone (die : Nat)
  /-- PATROL_SCRUB (R222): A pseudo-channel's scrub interval ends and it reads and checks the next granule. -/
  | patrolScrub (stack pc : Nat)
  /-- HBM_TEMP_READ (R223): A controller reads its stack temperature every 1 ms and sets the refresh rate. -/
  | hbmTempRead (stack temp : Nat)
  /-- RFM_ISSUE (R224): A bank's activate count reaches the threshold and the controller issues refresh management. -/
  | rfmIssue (stack bank : Nat)
  /-- HBM_TRAINING_DONE (R225): Stack training ends in success or in failure after three attempts. -/
  | hbmTrainingDone (stack attempts : Nat) (ok : Bool)
  /-- LINK_ENABLE (R236): Setting RTR_LINK_CTRL.enable lets a powered port leave OFF for DETECT. -/
  | linkEnable (port cls : Nat)
  /-- LINK_LOCK (R236): Port-present and signal on four lanes move the port to LOCK. -/
  | linkLock (port signal : Nat)
  /-- LINK_ALIGN (R236): Four locked lanes and a further 1 ms move the port to ALIGN for lane mapping and deskew. -/
  | linkAlign (port locked inverted : Nat)
  /-- LINK_EQ (R236): Alignment ends and the port enters EQ. -/
  | linkEq (port skewed : Nat)
  /-- LINK_CONFIRM (R236): Every locked lane is ready or the EQ limit ends and the port enters CONFIRM. -/
  | linkConfirm (port skewed : Nat)
  /-- LINK_ACTIVE (R236): CONFIRM ends with width, mode and round trip fixed and the port enters ACTIVE. -/
  | linkActive (port : Nat)
  /-- TRAINING_TIMEOUT (R236): A training state passes its time limit and the port goes to FAILED. -/
  | trainingTimeout (port : Nat)
  /-- TRAINING_FRAME (R235): A training frame arrives carrying state, ready, probe and tap request fields. -/
  | trainingFrame (lane : Nat) (blocks : RxRun) (request : Word64)
  /-- FOM_MEASURE (R239): A lane measures its figure of merit on its 100 µs or 1 ms period. -/
  | fomMeasure (lane fom : Nat)
  /-- FILLER_GROUP (R231): After 16,384 blocks each active lane sends a filler group and the receiver inserts or deletes fillers. -/
  | fillerGroup (port : Nat) (adjust : RxFillers)
  /-- LINK_BLOCK_RECEIVE (R241): A link block arrives and is checked, delivered, or discarded with a RESEND. -/
  | linkBlockReceive (port : Nat) (lanes : List RxLane) (fec : List FecErrs)
  /-- RESEND (R241): A RESEND message arrives and the transmitter goes back to the named sequence. -/
  | resend (port seq : Nat)
  /-- RESEND_REPEAT (R241): While still waiting for the expected sequence, the receiver repeats RESEND every 1 µs. -/
  | resendRepeat (port : Nat)
  /-- ACK_TIMEOUT (R241): No ack advances for ack_timeout_ns and the transmitter resends from the oldest stored block. -/
  | ackTimeout (port : Nat)
  /-- PWR_REQ (R246): A power-state request arrives and is answered with PWR_ACK or PWR_NAK. -/
  | pwrReq (port target : Nat)
  /-- PWR_ACK (R246): A power-state acceptance arrives and the change is scheduled for the next filler group. -/
  | pwrAck (port state : Nat)
  /-- PWR_NAK (R242): A power-state refusal arrives and the requesting port stays in its state. -/
  | pwrNak (port state : Nat)
  /-- DEGRADE (R244): A DEGRADE message arrives and the far end answers DEGRADE_ACK for the named half. -/
  | degrade (port half : Nat)
  /-- DEGRADE_ACK (R244): A DEGRADE_ACK arrives and the switch to x4 is scheduled. -/
  | degradeAck (port half : Nat)
  /-- RETRAIN (R242): A RETRAIN message arrives and the port retrains keeping its link state. -/
  | retrain (port : Nat)
  /-- LINK_CONTROL_REPEAT (R242): An unanswered PWR_REQ, DEGRADE or RETRAIN is repeated on its timer. -/
  | linkControlRepeat (port : Nat)
  /-- DEGRADE_TIMEOUT (R244): No DEGRADE_ACK within 50 µs and the port retrains. -/
  | degradeTimeout (port : Nat)
  /-- BLOCK_LOCK_LOSS (R244): A lane that has lost block lock for 1 µs is failed. -/
  | blockLockLoss (lane : Nat)
  /-- FOM_HOLD_EXPIRY (R244): A lane's figure of merit stays below 96 for fom_hold_ms and the lane is failed. -/
  | fomHoldExpiry (lane : Nat)
  /-- LANE_FORCE_FAIL (R248): Setting LN_CTRL.force_fail treats the lane as failed. -/
  | laneForceFail (lane : Nat)
  /-- LINK_RETRAIN_CMD (R249): A write of RTR_LINK_CTRL.retrain retrains the port or sends a FAILED port to LOCK. -/
  | linkRetrainCmd (port : Nat)
  /-- QUIET_IDLE (R246): A port idle for quiet_idle_ns requests Quiet. -/
  | quietIdle (port : Nat)
  /-- WAKE_PATTERN (R245): A wake pattern or routed packet starts a Dormant port's exit. -/
  | wakePattern (port : Nat)
  /-- LN_CLR_MIN (R248): A write of clr_min sets a lane's fom_min to its fom. -/
  | lnClrMin (lane : Nat)
  /-- PORT_PRESENT_CHANGE (R541): A port's PORT_PRESENT_N line changes and is counted. -/
  | portPresentChange (port : Nat) (present : Bool)
  /-- PACKET_ROUTE (R270): A packet head is looked up at a router and delivered, replicated, forwarded adaptively or held. -/
  | packetRoute (port vc : Nat)
  /-- LINK_BLOCK_SEND (R267): An output port chooses and sends its next link block by slot claim, priority and weights. -/
  | linkBlockSend (port : Nat)
  /-- UNROUTABLE_TIMEOUT (R273): A packet without a usable port for unroutable_us is discarded and counted. -/
  | unroutableTimeout (port vc : Nat)
  /-- RTR_TBL_ARM (R275): A write of arm schedules a routing-table flip at flip_beat. -/
  | rtrTblArm (flipBeat : Nat)
  /-- RTR_TBL_DISARM (R281): A write of disarm cancels an armed routing-table flip. -/
  | rtrTblDisarm
  /-- RTR_TBL_DATA_ACCESS (R275): An access of RTR_TBL_DATA reads or writes a shadow table entry and advances the index with auto_inc. -/
  | rtrTblDataAccess (write : Bool) (data : Word64)
  /-- RADDLE_WINDOW (R279): A limiter window ends and each entry's rate falls on marks or recovers by step. -/
  | raddleWindow (entry : Nat)
  /-- LIMITER_RELEASE (R279): A held VC7 packet is released when its destination's bucket allows. -/
  | limiterRelease (dst : Nat)
  /-- VC_CLR_MAX (R283): A write of clr_max sets a VC's occ_max to occ. -/
  | vcClrMax (port vc : Nat)
  /-- NODE_ID_WRITE (R337): A write of RTR_NODE_ID.id sets the node ID, valid and source. -/
  | nodeIdWrite (id : Nat)
  /-- NODE_ID_CLEAR (R353): A write of clear sets the node ID's valid and source to 0. -/
  | nodeIdClear
  /-- BEAT_START (R284): A new beat starts on the grid and armed flips, period changes and clones due at it take effect. -/
  | beatStart
  /-- BELL_SEND (R287): At slot 0, and slots 64, 128 or 192 when configured, the node sends bells on its child ports. -/
  | bellSend
  /-- BELL (R289): A bell arrives and disciplines the timer by slew or step, or is counted as stray. -/
  | bell (port : Nat) (p : Packet)
  /-- SYNC_TIMEOUT (R291): 50 µs without a parent bell clears sync and sets sync_lost. -/
  | syncTimeout
  /-- BT_PERIOD_WRITE (R286): A write of next_ns and change_beat on the master schedules a period change. -/
  | btPeriodWrite (next change : Nat)
  /-- BT_FLIP_ARM (R299): A write of arm schedules a slot-table flip at flip_beat. -/
  | btFlipArm (flipBeat : Nat)
  /-- BT_FLIP_DISARM (R304): A write of disarm cancels an armed slot-table flip. -/
  | btFlipDisarm
  /-- BT_FLIP_COPY (R299): A write of copy starts copying every active bank to its shadow. -/
  | btFlipCopy
  /-- COPY_DONE (R299): The bank copy ends and copy_busy clears. -/
  | copyDone
  /-- BT_TBL_DATA_ACCESS (R299): An access of BT_TBL_DATA reads or writes a shadow entry and advances the index with auto_inc. -/
  | btTblDataAccess (write : Bool) (data : Word64)
  /-- FOLD_COMMIT (R307): A write of commit starts the check and store claim of a collective entry. -/
  | foldCommit (entry : Nat)
  /-- FOLD_COMMIT_CHECKED (R308): The commit check ends with the entry READY, endpoint or REFUSED. -/
  | foldCommitChecked (entry : Nat)
  /-- FOLD_RELEASE (R308): A write of release frees the entry's claim and sets it FREE. -/
  | foldRelease (entry : Nat)
  /-- FOLD_ABORT (R328): A write of abort acts on the entry as an ABORT with cause 4. -/
  | foldAbort (entry : Nat)
  /-- FOLD_INSTANCE_START (R314): The trigger domain reaches next_expect and the entry starts an instance and sends its credits. -/
  | foldInstanceStart (entry : Nat)
  /-- FOLD_CHUNK_SEND (R316): A fold unit sends a chunk once it holds credit for it. -/
  | foldChunkSend (entry dest : Nat)
  /-- FOLD_DATA (R321): A FOLD_DATA chunk arrives, is checked, combined, forwarded or written. -/
  | foldData (p : Packet)
  /-- FOLD_CREDIT (R316): A fold CREDIT message arrives and lets the sender send more chunks. -/
  | foldCredit (p : Packet)
  /-- FOLD_RESEND (R321): A fold RESEND arrives and the sender sends the named chunk again. -/
  | foldResend (p : Packet)
  /-- FOLD_CONFIRM (R322): A CONFIRM from a child arrives in sealed mode. -/
  | foldConfirm (p : Packet)
  /-- FOLD_RELEASE_MSG (R322): A RELEASE arrives, is forwarded to children and lets the member count done_dom. -/
  | foldReleaseMsg (p : Packet)
  /-- FOLD_FAULT (R323): A FAULT arrives and is logged, forwarded and recorded as err in done_dom. -/
  | foldFault (p : Packet)
  /-- FOLD_ABORT_MSG (R327): An ABORT arrives, is forwarded and ends the instance without a count. -/
  | foldAbortMsg (p : Packet)
  /-- FOLD_CHUNK_TIMEOUT (R321): No credit for a chunk within chunk_timeout_us and the chunk is sent again or a fault raised. -/
  | foldChunkTimeout (entry dest : Nat)
  /-- FOLD_INSTANCE_DONE (R315): All result bytes are performed and the instance counts once in done_dom. -/
  | foldInstanceDone (entry : Nat)
  /-- HELLO_REPEAT (R340): A port repeats its hello every 10 µs until heard. -/
  | helloRepeat (port : Nat)
  /-- HELLO (R342): A hello arrives and moves the port's heft entry state. -/
  | hello (port : Nat) (p : Packet)
  /-- HEFT_ACCEPT (R342): A write of accept re-evaluates a CHANGED entry with the stored far fields. -/
  | heftAccept (port : Nat)
  /-- PORT_ROLE_APPLY (R351): A write of apply sets the port's role to next. -/
  | portRoleApply (port next : Nat)
  /-- DIRECTED_REQUEST (R346): A directed request arrives and is forwarded along its path or performed at its target. -/
  | directedRequest (port : Nat) (p : Packet)
  /-- DIRECTED_RESPONSE (R346): A directed response arrives and is sent back along its return ports. -/
  | directedResponse (port : Nat) (p : Packet)
  /-- SELF_HEFT (R347): When torus ports agree or self_wait_ms passes, the node checks far POS codes and sets its ID. -/
  | selfHeft
  /-- GRANT (R366): A lease GRANT from the arbiter arrives, sets the epoch and ends any fence. -/
  | grant (p : Packet)
  /-- BUMP (R365): A BUMP arrives, advances the rank table epoch and may depose the node. -/
  | bump (p : Packet)
  /-- NOTE (R361): A NOTE from the active arrives and removes or records held packets by key. -/
  | note (p : Packet)
  /-- JOIN (R362): A JOIN from the standby arrives and releases the matching joined packet. -/
  | join (p : Packet)
  /-- ACK (R362): The standby's ACK arrives and the noted rank packets leave the active. -/
  | ack (p : Packet)
  /-- LOST (R369): A LOST from the partner arrives and the active goes solo. -/
  | lost (p : Packet)
  /-- NOTE_RESEND (R362): A note unacknowledged for 50 µs is sent again. -/
  | noteResend (seq : Nat)
  /-- RENEW_SEND (R366): Half the lease term has passed and the holder sends RENEW, repeating every 1 ms. -/
  | renewSend
  /-- LEASE_FENCE (R366): T reaches T_exp minus guard_us and the holder fences. -/
  | leaseFence
  /-- PAIR_WATCH_EXPIRY (R369): A held packet or unacknowledged note exceeds watch_us and the node sends SUSPECT. -/
  | pairWatchExpiry
  /-- PAIR_BEHIND (R363): The oldest unmatched note exceeds lag_beats and behind is set. -/
  | pairBehind
  /-- PAIR_CLONE_ARM (R374): A write of arm schedules a clone at start_beat. -/
  | pairCloneArm (startBeat : Nat)
  /-- CLONE_DONE (R374): The clone copy ends, stale clears and clone_done is set. -/
  | cloneDone (i : CloneImage)
  /-- WATCH_EXPIRY (R378): A progress watch reaches its window and reports or resets the smallest containing unit. -/
  | watchExpiry (w : WatchUnit)
  /-- RESET_OVERRUN (R382): A reset exceeds its bound and escalates one level. -/
  | resetOverrun (level unit : Nat)
  /-- RESET_REQUEST (R384): A write of MGT_RST_REQ.go requests a reset at the named level. -/
  | resetRequest (level tile slot unit pad : Nat) (noDump : Bool)
  /-- PARTITION_RESET_DONE (R386): A partition reset completes and PEER_STATE end is sent. -/
  | partitionResetDone (pad : Nat)
  /-- CHIP_RESET_DONE (R406): Training, tests and microcode load end and the chip reset completes with the capability table valid. -/
  | chipResetDone (failed : List Nat)
  /-- HBM_REGION_ZEROED (R387): A pending 1 MiB region finishes zeroing. -/
  | hbmRegionZeroed (region : Nat)
  /-- POWER_CYCLE_REQUEST (R383): After the dump drain or 5 s, the module asserts ALERT_N and sends the power-cycle message. -/
  | powerCycleRequest
  /-- POWER_CYCLE_REPEAT (R383): Power not removed and the power-cycle message is repeated every 10 s. -/
  | powerCycleRepeat
  /-- POWER_CYCLE_ANSWER (R495): The tray's answer to POWER_CYCLE arrives and the module keeps its compute dies in reset. -/
  | powerCycleAnswer (cc : Nat)
  /-- PEER_STATE (R391): A PEER_STATE notice arrives and is recorded, and kind 3 ends operations addressed to the peer. -/
  | peerState (p : Packet)
  /-- DUMP_ACCESS_TIMEOUT (R394): A dump access times out after 10 µs and the unit's remaining registers are skipped. -/
  | dumpAccessTimeout (offset : Nat)
  /-- DUMP_DONE (R396): A dump ends, possibly truncated, and dump_done is set. -/
  | dumpDone
  /-- DUMP_NOW (R393): A write of now takes a chip-scope dump without reset. -/
  | dumpNow
  /-- DUMP_RELEASE (R397): A write of release frees the dump area after a host read. -/
  | dumpRelease
  /-- DUMP_DRAIN_DONE (R397): A dump drain to the flash slot ends and the area is freed. -/
  | dumpDrainDone
  /-- DUMP_DATA_READ (R403): A read of FWU_DUMP_DATA returns a dump word and advances the pointer. -/
  | dumpDataRead
  /-- BOOT_STEP_DONE (R404): A cold-boot step ends and the next step starts. -/
  | bootStepDone (failed : List Nat)
  /-- KAT_DONE (R418): The known-answer tests end, the floor plan and tiles_usable are written and valid is set. -/
  | katDone (tiles : List (Nat × Nat)) (units : List Nat)
  /-- STRUCTURE_RELOAD (R413): A write of reload starts a chip reset that reapplies the image's compute and partition elements. -/
  | structureReload
  /-- SOFT_DISABLE (R417): A write of FUS_SOFT_CTRL.go soft-disables or schedules re-enable of a tile, port or fold unit. -/
  | softDisable (kind index : Nat) (off : Bool)
  /-- MUSTER_RX_ARM (R429): A write of valid to a receive entry clears its bitmap and opens it. -/
  | musterRxArm (entry : Nat) (cfg : Word64)
  /-- MUSTER_TX_GO (R423): A write of go starts a muster session with the round-0 multicast. -/
  | musterTxGo (cfg : Word64)
  /-- MUSTER_DATA (R422): A MUSTER DATA block arrives and is stored or discarded. -/
  | musterData (p : Packet) (failed : List Nat)
  /-- MUSTER_POLL (R423): A POLL arrives and the receiver answers with REPORT packets. -/
  | musterPoll (p : Packet)
  /-- MUSTER_REPORT (R423): A REPORT arrives at the originator and its missing blocks are queued for resend. -/
  | musterReport (p : Packet)
  /-- MUSTER_POLL_TIMEOUT (R423): A receiver silent past poll_us counts as missing every block. -/
  | musterPollTimeout (node : Nat)
  /-- MUSTER_CLOSE (R424): CLOSE arrives and the receiver judges its bitmap and loads or refuses the set. -/
  | musterClose (p : Packet)
  /-- FAST_LOOP_STEP (R436): Every 1 µs the controller sets each tile's issue gating against the effective limit. -/
  | fastLoopStep (gates : List Nat) (burst : Bool)
  /-- SLOW_LOOP_STEP (R436): Every 100 µs the controller steps tile voltages and frequencies. -/
  | slowLoopStep (steps : Int)
  /-- TELEMETRY_REFRESH (R430): Every 1 µs PWR_TELEM is refreshed from the input measurements. -/
  | telemetryRefresh (p1us p100us vin p1s : Nat)
  /-- FT_ASSERT (R442): FT_N falls and the module gates to the brake level and asserts FT_ACK. -/
  | ftAssert (gates : List Nat)
  /-- FT_DEASSERT (R442): FT_N rises, FT_ACK falls and the module climbs to the effective limit. -/
  | ftDeassert
  /-- FT_HOLD_EXPIRY (R443): FT_N held past hold_park_ms enters Park with the FT hold reason. -/
  | ftHoldExpiry
  /-- PWR_CTRL_PARK (R444): A write of park sets the software Park reason. -/
  | pwrCtrlPark
  /-- PWR_CTRL_UNPARK (R444): A write of unpark clears the software Park reason. -/
  | pwrCtrlUnpark
  /-- PARK_EXIT (R444): The last Park reason has cleared and the module leaves Park and climbs. -/
  | parkExit
  /-- PWR_CAP_WRITE (R435): A cap write is applied, clamped to sustained_w, or refused below 600 W. -/
  | pwrCapWrite (tray : Bool) (value : Nat)
  /-- SENSOR_SAMPLE (R445): Every 25 µs the sensors are sampled and combined into accepted temperatures. -/
  | sensorSample (readings : List (Nat × Int × Int))
  /-- SENSOR_SUSPECT (R445): A sensor pair differing by more than 8 °C for 100 ms is marked suspect. -/
  | sensorSuspect (spot : Nat)
  /-- THERMAL_MODEL_RUN (R446): Every 250 µs the model predicts temperatures and moves ceilings, HBM rates, brake or Park. -/
  | thermalModelRun (predictions : List (Nat × Int × Int)) (gates : List Nat)
  /-- THERMAL_TRIP (R447): A logic die reaches 115 °C, THERMTRIP_N asserts and the stage turns off. -/
  | thermalTrip
  /-- AGEING_CHECK (R432): Every 24 h of powered time the ageing monitor may lower fmax_now. -/
  | ageingCheck (tile steps : Nat)
  /-- DROOP_TRIP (R433): A droop detector trips and stretches the tile clock. -/
  | droopTrip (tile : Nat)
  /-- COOLANT_STALE (R448): A coolant report older than 10 s sets cool_stale and removes flow derating. -/
  | coolantStale
  /-- INPUT_UNDERVOLTAGE (R450): The 50 V input below threshold for its time enters Park or turns the stage off. -/
  | inputUndervoltage (deep : Bool)
  /-- UNDERVOLTAGE_CLEAR (R450): The input recovered for 10 ms clears the undervoltage Park reason. -/
  | undervoltageClear
  /-- INPUT_OVERVOLTAGE (R450): The input above 62 V for 5 µs turns the stage off. -/
  | inputOvervoltage
  /-- FOLLOW_DWELL_EXPIRY (R439): In Follow a task waiting longer than dwell_ns lowers its tile to f_wait. -/
  | followDwellExpiry (tile : Nat)
  /-- PACE_WINDOW_END (R440): A pacing window ends and PWR_PACE is updated. -/
  | paceWindowEnd (waitFrac : Nat)
  /-- BURST_END (R438): A Sprint burst reaches 10 ms and power is held below the cap. -/
  | burstEnd
  /-- TIC_ACK (R458): A write of TIC_ACK puts a pending tile source in service and starts its hold-off. -/
  | ticAck (tile source : Nat)
  /-- TIC_EOI (R458): A write of TIC_EOI ends service of a tile source and re-samples its level. -/
  | ticEoi (tile source : Nat)
  /-- CIC_DELIVER (R464): The chip controller delivers the most urgent presentable source to a core as a vectored interrupt. -/
  | cicDeliver (core pc : Nat) (enabled : Bool × Bool)
  /-- CIC_EOI (R465): A core's EOI ends a source's service and recomputes run. -/
  | cicEoi (core source : Nat)
  /-- CIC_HOST_EOI (R466): The host ends a forwarded source's service. -/
  | cicHostEoi (source : Nat)
  /-- MSIX_SEND (R466): A presentable host source with an unmasked vector sends one MSI-X message. -/
  | msixSend (source : Nat)
  /-- HOLDOFF_EXPIRY (R459): A group's hold-off timer ends and its sources become presentable. -/
  | holdoffExpiry (g : HoldGroup)
  /-- TALLY_OVERFLOW (R470): A tally counter wraps past 2^48 and sets its sticky overflow. -/
  | tallyOverflow (tile i v : Nat)
  /-- TAG_SAMPLE (R471): The sampling interval ends and the next issued instruction is tagged and traced. -/
  | tagSample (tile : Nat) (retired : Bool) (times : List Nat) (stall lat : Nat)
  /-- TAG_RECORD_WRITE (R473): The intake writes a queued tag record into its paddock's ring or drops it. -/
  | tagRecordWrite
  /-- LMON_SAMPLE (R475): A level monitor takes a sample and updates min, max and a bin. -/
  | lmonSample (m : Monitor) (measured : Nat)
  /-- LMON_CLEAR (R475): A write of clear resets a monitor's min, max and bins. -/
  | lmonClear (m : Monitor)
  /-- MCTP_PACKET (R491): An MCTP packet arrives on a binding and is assembled into a message or discarded. -/
  | mctpPacket (binding requester tag : Nat) (som eom : Bool) (bytes : List Byte)
  /-- SET_ENDPOINT_ID (R491): The bus owner assigns the binding's endpoint ID. -/
  | setEndpointId (binding eid : Nat)
  /-- GET_ENDPOINT_ID (R492): An MCTP control request returns the endpoint ID. -/
  | getEndpointId (binding : Nat)
  /-- GET_MCTP_VERSION_SUPPORT (R492): An MCTP control request returns the supported versions. -/
  | getMctpVersionSupport (binding : Nat)
  /-- GET_MESSAGE_TYPE_SUPPORT (R492): An MCTP control request returns the supported message types. -/
  | getMessageTypeSupport (binding : Nat)
  /-- GET_VENDOR_DEFINED_MESSAGE_SUPPORT (R492): An MCTP control request returns the vendor-defined message support. -/
  | getVendorDefinedMessageSupport (binding : Nat)
  /-- GET_IDENTITY (R494): A Halduc command returns serial, variant, stepping, counter and image versions. -/
  | getIdentity (binding inst : Nat)
  /-- SET_CAP (R494): A Halduc command writes cap_host or cap_tray and returns the effective limit. -/
  | setCap (binding inst cap : Nat)
  /-- PARK (R495): A tray Halduc command sets or clears the tray Park reason. -/
  | park (binding inst request : Nat)
  /-- COOLANT (R495): A tray Halduc command writes the reported flow and inlet to PWR_COOL. -/
  | coolant (binding inst flow inlet : Nat)
  /-- GET_SETTING (R494): A Halduc command returns a stored setting. -/
  | getSetting (binding inst id : Nat)
  /-- SET_SETTING (R507): A Halduc command stores a setting or its default in the settings slots. -/
  | setSetting (binding inst id : Nat) (value : Word64) (restore : Bool)
  /-- GET_CERT (R510): A Halduc command returns a piece of the identity certificate. -/
  | getCert (binding inst offset length : Nat)
  /-- ATTEST (R511): A Halduc command returns signed measurements for a nonce. -/
  | attest (binding inst : Nat) (nonce : List Byte) (mask : Nat)
  /-- QUERY_DEVICE_IDENTIFIERS (R500): A PLDM request returns the device identifiers. -/
  | queryDeviceIdentifiers (binding : Nat)
  /-- GET_FIRMWARE_PARAMETERS (R500): A PLDM request returns the component parameters. -/
  | getFirmwareParameters (binding : Nat)
  /-- REQUEST_UPDATE (R500): A PLDM request gives an agent update mode or is refused. -/
  | requestUpdate (binding mts : Nat)
  /-- PASS_COMPONENT_TABLE (R500): A PLDM request passes the component table for the update. -/
  | passComponentTable (binding : Nat) (component : Nat × Nat)
  /-- UPDATE_COMPONENT (R500): A PLDM request starts transfer of one component into its unused slot. -/
  | updateComponent (binding : Nat) (component : Nat × Nat) (size : Nat)
  /-- FIRMWARE_DATA (R498): Requested firmware data arrives, blocks are checked and written, and failures re-requested. -/
  | firmwareData (bytes : List Byte)
  /-- VERIFY_DONE (R499): The container verify ends and VerifyComplete reports the result. -/
  | verifyDone
  /-- APPLY_DONE (R500): The slot is read back and ApplyComplete is reported. -/
  | applyDone
  /-- ACTIVATE_FIRMWARE (R503): A PLDM request activates every applied component in order. -/
  | activateFirmware (binding : Nat)
  /-- GET_STATUS (R500): A PLDM request returns the update status. -/
  | getStatus (binding : Nat)
  /-- CANCEL_UPDATE_COMPONENT (R500): A PLDM request cancels the current component's update. -/
  | cancelUpdateComponent (binding : Nat)
  /-- CANCEL_UPDATE (R512): A PLDM request ends update mode without activating. -/
  | cancelUpdate (binding : Nat)
  /-- UPDATE_AGENT_TIMEOUT (R500): An agent silent for 120 s loses update mode and its slot is left invalid. -/
  | updateAgentTimeout
  /-- MICROCODE_QUIESCED (R505): Every usable tile is idle and the microcode broadcast starts. -/
  | microcodeQuiesced
  /-- QUIESCE_TIMEOUT (R505): Quiesce is not reached in quiesce_ms and the microcode activation is refused. -/
  | quiesceTimeout
  /-- MICROCODE_BROADCAST_DONE (R505): The broadcast ends, tiles check their CRC and run is restored. -/
  | microcodeBroadcastDone (failed : List Nat)
  /-- FW_CONFIRM (R506): New management firmware sets FWU_STAT.confirm. -/
  | fwConfirm
  /-- CONFIRM_TIMEOUT (R506): No confirm in 300 ms and the boot ROM falls back to the old slot. -/
  | confirmTimeout
  /-- SVN_ADVANCE_DONE (R502): The root of trust finishes blowing fuses up to the image's svn. -/
  | svnAdvanceDone
  /-- MEAS_EXTEND (R509): A write of FWU_MEAS_EXT extends measurement 7. -/
  | measExtend (data : Word64)
  /-- I3C_ENTDAA (R496): The I3C targets take dynamic addresses. -/
  | i3cEntdaa (mctp telem : Nat)
  /-- I3C_TELEMETRY_READ (R496): A private read of the telemetry target returns the latched record. -/
  | i3cTelemetryRead (len : Nat)
  /-- I3C_TELEMETRY_WRITE (R496): A private write to the telemetry target is NACKed. -/
  | i3cTelemetryWrite
  /-- PCIE_RESET (R485): FLR, hot reset, link down or PERST_N resets only the PCI Express endpoint. -/
  | pcieReset
  /-- CONNECTOR_MATE (R521): A mate level engages and starts its auxiliary, precharge or presence action. -/
  | connectorMate (level pos : Nat) (rcvr : Bool)
  /-- PRECHARGE_DONE (R521): The input capacitance is within 2 V of the blades and the main switch closes. -/
  | prechargeDone
  /-- PWR_EN_ASSERT (R523): PWR_EN asserts and soft start begins once its conditions hold. -/
  | pwrEnAssert
  /-- SOFT_START_COMPLETE (R521): The 6 V ramp ends, PWR_GOOD is released and the boot proceeds. -/
  | softStartComplete
  /-- RELEASE (R525): PWR_EN deasserts and the module stops compute, sends PEER_STATE, saves its record and powers off. -/
  | release
  /-- RELEASE_DONE (R525): The stage is off and PWR_GOOD deasserts. -/
  | releaseDone
  /-- MATE_BREAK (R527): MATE_N breaks while powered and the stage turns off within 5 µs. -/
  | mateBreak
  /-- AUX_UNDERVOLTAGE (R529): P3V3_AUX below 2.9 V for 10 µs stops the module. -/
  | auxUndervoltage
  /-- OVERCURRENT (R537): Input over-current turns the stage off and deasserts PWR_GOOD. -/
  | overcurrent
  /-- ENGINE_RESET_DONE (R15): An engine reset completes within 200 µs, the engine leaves reset and its tile resumes taking tasks. -/
  | engineResetDone (tile : Nat) (e : Engine)
  /-- HEARTBEAT (R378): A cluster hub, HBM controller or bridge sends its 1 µs heartbeat to the fabric die, restarting its chip watch timer. -/
  | heartbeat (n : Nat)
  /-- WATCH_WINDOW_WRITE (R379): A write of a MGT_WATCH_WIN window restarts every watch timer of that level with the new value. -/
  | watchWindowWrite (level us : Nat)
  /-- HOLDOFF_US_WRITE (R459): A write of holdoff_us to a TIC_HOLD or CIC_HOLD register while the group timer runs restarts the timer with the new value. -/
  | holdoffUsWrite (g : HoldGroup) (value : Nat)
  /-- LINK_PWR_TARGET_WRITE (R246): A write of RTR_LINK_PWR.target makes the port request Dormant or Off, or leave Off for full training. -/
  | linkPwrTargetWrite (port target cls : Nat)
  /-- POWER_MODE_WRITE (R438): A write of PWR_CTRL.mode changes the power mode, and a change out of Sprint ends any burst at once. -/
  | powerModeWrite (mode : Nat)
  /-- PCIE_CONFIG_WRITE (R485): A PCI Express configuration write changes the power state between D0 and D3hot, or changes MSI-X Enable or Function Mask. -/
  | pcieConfigWrite (d3hot msixEnable functionMask : Bool)
  /-- WRITE_BACK_DONE (R96): A data-cache write-back of an evicted dirty line is accepted, or refused as a partial write into an uncorrectable granule, which faults the task in RUN imprecisely. -/
  | writeBackDone (tile : Nat)
  deriving DecidableEq, Repr

end Sys2Proof
end

