-- ==== Sys2Proof/WellFormed.lean ====
section
/-! DEFINITION. Well-formed commands: every operand that names a unit of the block names one that exists, and a packet's
fields fit their widths and its type is the command's. -/
namespace Sys2Proof
open Sys2Proof.Machine

-- The ranges of the unit numbers (R19, R22, R26, R229, R454).
def tileOk (n : Nat) : Bool := decide (n < 144)
def portOk (n : Nat) : Bool := decide (n < 8)
def inputOk (n : Nat) : Bool := decide (n < 14)
def laneOk (n : Nat) : Bool := decide (n < 64)
def padOk (n : Nat) : Bool := decide (n < 8)
def chanOk (n : Nat) : Bool := decide (n < 4)
def slotOk (n : Nat) : Bool := decide (n < 32)
def stackOk (n : Nat) : Bool := decide (n < 12)
def dieOk (n : Nat) : Bool := decide (n < 2)
def vcOk (n : Nat) : Bool := decide (n < 8)
def coreOk (n : Nat) : Bool := decide (n < 4)
def domainOk (n : Nat) : Bool := decide (n < 1024)
def tileSourceOk (n : Nat) : Bool := decide (n < 64)
def chipSourceOk (n : Nat) : Bool := decide (n < 1024)
def foldEntryOk (n : Nat) : Bool := decide (n < 512)
def musterEntryOk (n : Nat) : Bool := decide (n < 8)
/-- The two MCTP bindings (R491). -/
def bindingOk (n : Nat) : Bool := decide (n < 2)
/-- The levels of the watch windows: context, engine, partition, chip (R379). -/
def watchLevelOk (n : Nat) : Bool := decide (1 ≤ n) && decide (n ≤ 4)
/-- The mate levels (R520). -/
def mateLevelOk (n : Nat) : Bool := decide (1 ≤ n) && decide (n ≤ 4)
/-- The sizes of a register access (R8), and the offsets of BAR0 (R29). -/
def sizeOk (n : Nat) : Bool := n == 4 || n == 8
def offsetOk (n : Nat) : Bool := decide (n < 2 ^ 26)
/-- The heartbeat sources (R378), a watched unit, a hold-off group (R459, R463) and a level monitor (R474). -/
def heartbeatOk (n : Nat) : Bool := decide (n < 35)
def watchUnitOk : WatchUnit → Bool
  | .slot t k => tileOk t && slotOk k
  | .engine t u => tileOk t && decide (u < 8)
  | .paddock p => padOk p
  | .heartbeat n => heartbeatOk n
def holdGroupOk : HoldGroup → Bool
  | .tile t g => tileOk t && decide (g < 16)
  | .chip g => decide (g < 32)
def monitorOk : Monitor → Bool
  | .tile t => tileOk t
  | .hbm k => stackOk k
  | .fabric m => decide (m < 16)

/-- A packet whose header fields fit their widths and whose length is that of its body (R254, R255). -/
def Machine.Packet.wf (p : Packet) : Bool :=
  decide (p.dst < 65536) && decide (p.src < 65536) && decide (p.length < 16384) && decide (p.vc < 8)
    && decide (p.type < 32) && decide (p.status < 4) && decide (p.sequence < 65536) && decide (p.epoch < 65536)
    && decide (p.partition < 4096) && decide (p.domain < 1024) && decide (p.operation < 64)
    && p.length == unitsFor p.body.length && p.body.length % 2 == 0

/-- A well-formed command. -/
def Instr.wf (i : Instr) : Bool :=
  match i with
  | .registerWrite offset size _ => offsetOk offset && sizeOk size
  | .mgmtReq p => p.wf && p.type == tMGMT_REQ
  | .intakeReq p => p.wf && p.type == tINTAKE_REQ
  | .intakeGrant pad => padOk pad
  | .grantExpired _ => true
  | .graph p => p.wf && p.type == tGRAPH
  | .descriptorPlace => true
  | .taskSelect tile => tileOk tile
  | .token p => p.wf && p.type == tTOKEN
  | .credit p => p.wf && p.type == tCREDIT
  | .tokenNak p => p.packet.wf && p.packet.type == tTOKEN_NAK
  | .tokenResend tile _ => tileOk tile
  | .earlyTokenExpiry tile _ => tileOk tile
  | .intakeSaturated pad => padOk pad
  | .giPadCfgWrite pad _ => padOk pad
  | .giPadDomWrite pad _ => padOk pad
  | .tlCmdAbort tile slot => tileOk tile && slotOk slot
  | .slotCleared tile slot => tileOk tile && slotOk slot
  | .tlCmdIcacheInv tile => tileOk tile
  | .tlCmdDcacheFlush tile => tileOk tile
  | .cacheOpDone tile => tileOk tile
  | .spadCeRewrite tile _ => tileOk tile
  | .alu tile _ => tileOk tile
  | .li tile => tileOk tile
  | .predicate tile _ => tileOk tile
  | .br tile => tileOk tile
  | .j tile => tileOk tile
  | .jr tile => tileOk tile
  | .ld tile => tileOk tile
  | .st tile => tileOk tile
  | .storePerformed tile => tileOk tile
  | .loadMissFill tile => tileOk tile
  | .lda tile => tileOk tile
  | .ldaDone tile => tileOk tile
  | .str tile => tileOk tile
  | .amo tile => tileOk tile
  | .amoDone tile => tileOk tile
  | .vld tile => tileOk tile
  | .vst tile => tileOk tile
  | .varith tile _ => tileOk tile
  | .vconv tile _ => tileOk tile
  | .vreduce tile _ => tileOk tile
  | .vectorCmdDone tile => tileOk tile
  | .mclr tile => tileOk tile
  | .macc tile => tileOk tile
  | .mdrn tile => tileOk tile
  | .mldp tile => tileOk tile
  | .matrixCmdDone tile _ => tileOk tile
  | .mstat tile => tileOk tile
  | .dmaCopy tile => tileOk tile
  | .dmaCopy2d tile => tileOk tile
  | .dmaFill tile => tileOk tile
  | .graphSend tile => tileOk tile
  | .flaggedWriteCmd tile => tileOk tile
  | .dmaCmdStart tile chan => tileOk tile && chanOk chan
  | .dmaPacketSend tile chan => tileOk tile && chanOk chan
  | .intakeGrantReceive p => p.wf && p.type == tINTAKE_GRANT
  | .graphSendRetry tile chan => tileOk tile && chanOk chan
  | .dmaRetry tile chan => tileOk tile && chanOk chan
  | .tok tile => tileOk tile
  | .tokenQueueSend tile => tileOk tile
  | .fence tile => tileOk tile
  | .fenceDone tile => tileOk tile
  | .ewait tile => tileOk tile
  | .ewaitDone tile => tileOk tile
  | .rel tile => tileOk tile
  | .relDone tile => tileOk tile
  | .acq tile => tileOk tile
  | .acqDone tile => tileOk tile
  | .cwait tile => tileOk tile
  | .cwaitDone tile => tileOk tile
  | .cwaitTimeout tile => tileOk tile
  | .trd tile => tileOk tile
  | .tend tile => tileOk tile
  | .tret tile => tileOk tile
  | .taskEndDone tile => tileOk tile
  | .icinv tile => tileOk tile
  | .syscall tile => tileOk tile
  | .rti tile => tileOk tile
  | .csrr tile => tileOk tile
  | .csrw tile => tileOk tile
  | .illegal tile => tileOk tile
  | .interruptEntry tile => tileOk tile
  | .write p => p.wf && p.type == tWRITE
  | .flaggedWrite p => p.wf && p.type == tFLAGGED_WRITE
  | .flagHoldApply _ => true
  | .flagHoldTimeout _ => true
  | .giCdZero domain => domainOk domain
  | .giFhClrPeak => true
  | .getReq p => p.wf && p.type == tGET_REQ
  | .getDataSend _ => true
  | .getData p => p.wf && p.type == tGET_DATA
  | .completion p => p.wf && p.type == tCOMPLETION
  | .ilvCommit die => dieOk die
  | .ilvCheckDone die => dieOk die
  | .patrolScrub stack _ => stackOk stack
  | .hbmTempRead stack _ => stackOk stack
  | .rfmIssue stack _ => stackOk stack
  | .hbmTrainingDone stack _ _ => stackOk stack
  | .linkEnable port _ => portOk port
  | .linkLock port _ => portOk port
  | .linkAlign port _ _ => portOk port
  | .linkEq port _ => portOk port
  | .linkConfirm port _ => portOk port
  | .linkActive port => portOk port
  | .trainingTimeout port => portOk port
  | .trainingFrame lane _ _ => laneOk lane
  | .fomMeasure lane _ => laneOk lane
  | .fillerGroup port _ => portOk port
  | .linkBlockReceive port _ _ => portOk port
  | .resend port _ => portOk port
  | .resendRepeat port => portOk port
  | .ackTimeout port => portOk port
  | .pwrReq port _ => portOk port
  | .pwrAck port _ => portOk port
  | .pwrNak port _ => portOk port
  | .degrade port _ => portOk port
  | .degradeAck port _ => portOk port
  | .retrain port => portOk port
  | .linkControlRepeat port => portOk port
  | .degradeTimeout port => portOk port
  | .blockLockLoss lane => laneOk lane
  | .fomHoldExpiry lane => laneOk lane
  | .laneForceFail lane => laneOk lane
  | .linkRetrainCmd port => portOk port
  | .quietIdle port => portOk port
  | .wakePattern port => portOk port
  | .lnClrMin lane => laneOk lane
  | .portPresentChange port _ => portOk port
  | .packetRoute port vc => inputOk port && vcOk vc
  | .linkBlockSend port => portOk port
  | .unroutableTimeout port vc => inputOk port && vcOk vc
  | .rtrTblArm _ => true
  | .rtrTblDisarm => true
  | .rtrTblDataAccess _ _ => true
  | .raddleWindow _ => true
  | .limiterRelease _ => true
  | .vcClrMax port vc => inputOk port && vcOk vc
  | .nodeIdWrite _ => true
  | .nodeIdClear => true
  | .beatStart => true
  | .bellSend => true
  | .bell port p => portOk port && p.wf && p.type == tBELL
  | .syncTimeout => true
  | .btPeriodWrite _ _ => true
  | .btFlipArm _ => true
  | .btFlipDisarm => true
  | .btFlipCopy => true
  | .copyDone => true
  | .btTblDataAccess _ _ => true
  | .foldCommit entry => foldEntryOk entry
  | .foldCommitChecked entry => foldEntryOk entry
  | .foldRelease entry => foldEntryOk entry
  | .foldAbort entry => foldEntryOk entry
  | .foldInstanceStart entry => foldEntryOk entry
  | .foldChunkSend entry _ => foldEntryOk entry
  | .foldData p => p.wf && p.type == tFOLD_DATA
  | .foldCredit p => p.wf && p.type == tFOLD_CTRL
  | .foldResend p => p.wf && p.type == tFOLD_CTRL
  | .foldConfirm p => p.wf && p.type == tFOLD_CTRL
  | .foldReleaseMsg p => p.wf && p.type == tFOLD_CTRL
  | .foldFault p => p.wf && p.type == tFOLD_CTRL
  | .foldAbortMsg p => p.wf && p.type == tFOLD_CTRL
  | .foldChunkTimeout entry _ => foldEntryOk entry
  | .foldInstanceDone entry => foldEntryOk entry
  | .helloRepeat port => portOk port
  | .hello port p => portOk port && p.wf && p.type == tHEFT
  | .heftAccept port => portOk port
  | .portRoleApply port _ => portOk port
  | .directedRequest port p => portOk port && p.wf && p.type == tHEFT
  | .directedResponse port p => portOk port && p.wf && p.type == tHEFT
  | .selfHeft => true
  | .grant p => p.wf && p.type == tEPOCH
  | .bump p => p.wf && p.type == tEPOCH
  | .note p => p.wf && p.type == tEPOCH
  | .join p => p.wf && p.type == tEPOCH
  | .ack p => p.wf && p.type == tEPOCH
  | .lost p => p.wf && p.type == tEPOCH
  | .noteResend _ => true
  | .renewSend => true
  | .leaseFence => true
  | .pairWatchExpiry => true
  | .pairBehind => true
  | .pairCloneArm _ => true
  | .cloneDone img => img.tiles.all fun c =>
    tileOk c.tile && c.planes.length == 4 && c.v.length == 32 && c.p.length == 8 && c.slots.length == 32
  | .watchExpiry w => watchUnitOk w
  | .resetOverrun _ _ => true
  | .resetRequest _ _ _ _ _ _ => true
  | .partitionResetDone pad => padOk pad
  | .chipResetDone _ => true
  | .hbmRegionZeroed _ => true
  | .powerCycleRequest => true
  | .powerCycleRepeat => true
  | .powerCycleAnswer _ => true
  | .peerState p => p.wf && p.type == tPEER_STATE
  | .dumpAccessTimeout _ => true
  | .dumpDone => true
  | .dumpNow => true
  | .dumpRelease => true
  | .dumpDrainDone => true
  | .dumpDataRead => true
  | .bootStepDone failed => failed.all tileOk
  | .katDone _ _ => true
  | .structureReload => true
  | .softDisable _ _ _ => true
  | .musterRxArm entry _ => musterEntryOk entry
  | .musterTxGo _ => true
  | .musterData p _ => p.wf && p.type == tMUSTER
  | .musterPoll p => p.wf && p.type == tMUSTER
  | .musterReport p => p.wf && p.type == tMUSTER
  | .musterPollTimeout _ => true
  | .musterClose p => p.wf && p.type == tMUSTER
  | .fastLoopStep _ _ => true
  | .slowLoopStep _ => true
  | .telemetryRefresh _ _ _ _ => true
  | .ftAssert _ => true
  | .ftDeassert => true
  | .ftHoldExpiry => true
  | .pwrCtrlPark => true
  | .pwrCtrlUnpark => true
  | .parkExit => true
  | .pwrCapWrite _ _ => true
  | .sensorSample _ => true
  | .sensorSuspect _ => true
  | .thermalModelRun _ _ => true
  | .thermalTrip => true
  | .ageingCheck tile _ => tileOk tile
  | .droopTrip tile => tileOk tile
  | .coolantStale => true
  | .inputUndervoltage _ => true
  | .undervoltageClear => true
  | .inputOvervoltage => true
  | .followDwellExpiry tile => tileOk tile
  | .paceWindowEnd _ => true
  | .burstEnd => true
  | .ticAck tile source => tileOk tile && tileSourceOk source
  | .ticEoi tile source => tileOk tile && tileSourceOk source
  | .cicDeliver core _ _ => coreOk core
  | .cicEoi core source => coreOk core && chipSourceOk source
  | .cicHostEoi source => chipSourceOk source
  | .msixSend source => chipSourceOk source
  | .holdoffExpiry g => holdGroupOk g
  | .tallyOverflow tile _ _ => tileOk tile
  | .tagSample tile _ _ _ _ => tileOk tile
  | .tagRecordWrite => true
  | .lmonSample m _ => monitorOk m
  | .lmonClear m => monitorOk m
  | .mctpPacket binding _ _ _ _ _ => bindingOk binding
  | .setEndpointId binding _ => bindingOk binding
  | .getEndpointId binding => bindingOk binding
  | .getMctpVersionSupport binding => bindingOk binding
  | .getMessageTypeSupport binding => bindingOk binding
  | .getVendorDefinedMessageSupport binding => bindingOk binding
  | .getIdentity binding _ => bindingOk binding
  | .setCap binding _ _ => bindingOk binding
  | .park binding _ _ => bindingOk binding
  | .coolant binding _ _ _ => bindingOk binding
  | .getSetting binding _ _ => bindingOk binding
  | .setSetting binding _ _ _ _ => bindingOk binding
  | .getCert binding _ _ _ => bindingOk binding
  | .attest binding _ _ _ => bindingOk binding
  | .queryDeviceIdentifiers binding => bindingOk binding
  | .getFirmwareParameters binding => bindingOk binding
  | .requestUpdate binding _ => bindingOk binding
  | .passComponentTable binding _ => bindingOk binding
  | .updateComponent binding _ _ => bindingOk binding
  | .firmwareData _ => true
  | .verifyDone => true
  | .applyDone => true
  | .activateFirmware binding => bindingOk binding
  | .getStatus binding => bindingOk binding
  | .cancelUpdateComponent binding => bindingOk binding
  | .cancelUpdate binding => bindingOk binding
  | .updateAgentTimeout => true
  | .microcodeQuiesced => true
  | .quiesceTimeout => true
  | .microcodeBroadcastDone failed => failed.all tileOk
  | .fwConfirm => true
  | .confirmTimeout => true
  | .svnAdvanceDone => true
  | .measExtend _ => true
  | .i3cEntdaa _ _ => true
  | .i3cTelemetryRead _ => true
  | .i3cTelemetryWrite => true
  | .pcieReset => true
  | .connectorMate level _ _ => mateLevelOk level
  | .prechargeDone => true
  | .pwrEnAssert => true
  | .softStartComplete => true
  | .release => true
  | .releaseDone => true
  | .mateBreak => true
  | .auxUndervoltage => true
  | .overcurrent => true
  | .engineResetDone tile _ => tileOk tile
  | .heartbeat n => heartbeatOk n
  | .watchWindowWrite level _ => watchLevelOk level
  | .holdoffUsWrite g _ => holdGroupOk g
  | .linkPwrTargetWrite port _ _ => portOk port
  | .powerModeWrite _ => true
  | .pcieConfigWrite _ _ _ => true
  | .writeBackDone tile => tileOk tile

end Sys2Proof
end

