-- ==== Sys2Proof/Config.lean ====
section
/-! DEFINITION. What an implementation fixes and the values the spec leaves open. Each is a constant with no body: a
claim is true whatever it is. -/
namespace Sys2Proof.Config

/-- The free values: the value a step takes where the spec names none, one for each count of State.fresh (log entry 2). -/
opaque freeValue : Nat → BitVec 64

/-- The SHA3-512 hash of a list of bytes (R509, R499), left uninterpreted (log entry 3). -/
opaque sha3 : List (BitVec 8) → BitVec 512

/-- Whether an ML-DSA-87 signature verifies over a message under a key (R409, R499), left uninterpreted (log entry 3). -/
opaque signatureValid : (key : Nat) → (message : List (BitVec 8)) → (signature : List (BitVec 8)) → Bool

/-- The bytes of the ML-DSA-87 signature that a key pair generated from a seed makes over a message (R510, R511), and those of
its public key, left uninterpreted (log entry 3). -/
opaque signatureByte : (seed message : List (BitVec 8)) → Nat → BitVec 8
opaque publicKeyByte : (seed : List (BitVec 8)) → Nat → BitVec 8

/-- The result of a transcendental function of R138 on an FP32 operand that no special case covers: the first argument
numbers the function, the second is the operand. The error bounds do not fix one value (log entry 4). -/
opaque transcendental : Nat → BitVec 32 → BitVec 32

/-- The register writes that the body of a structure-image block stands for, by block type, as offset and value: the spec
names the registers (R408) and gives the bodies no layout (log entry 14). -/
opaque elementWrites : (type : Nat) → (body : List (BitVec 8)) → List (Nat × BitVec 64)

/-- The register writes that the value of setting 0x0006 stands for, as offset and value: the spec gives the setting a value
of 8 bytes and names CIC_CTRL and every CIC_SRC, and no layout (R507, log entry 20). -/
opaque sourceSetting : BitVec 64 → List (Nat × BitVec 64)

/-- The digest of the boot ROM (R509), fixed at manufacture, which the spec does not print (log entry 17). -/
opaque romDigest : BitVec 512

/-- The bytes of the identity certificate (R510) that Halduc fixes at test: the issue time, the issuing key slot and the
signature, by their place in the certificate (log entry 21). -/
opaque certByte : Nat → BitVec 8

/-- The steps of 6.25 mV above 0.600 V of a tile with a fused Fmax bin at a frequency, both in 25 MHz units: the tile's
voltage-frequency table (R431), which ends at 1.000 V and which the spec does not print (log entry 15). -/
opaque voltage : (bin freq : Nat) → Fin 65

/-- Halduc's PCI vendor ID (R484, R493), which the spec does not print (log entry 16). -/
opaque vendorId : BitVec 16

/-- Halduc's MIPI manufacturer ID (R496), which the spec does not print (log entry 16). -/
opaque mipiId : BitVec 15

/-- The bank of a stack-local offset of an HBM stack (R215, R224): the spec gives the pseudo-channel and no bank (log
entry 120). -/
opaque hbmBank : (offset : Nat) → BitVec 12

/-- One less than the activate count at which a stack's mode registers ask for refresh management, and one less than the count
beyond which a bank takes no activate (R224), by stack: values of the stack, which the spec does not print; neither count is
zero, since no bank could then be activated at all (log entry 120). -/
opaque rfmThreshold : (stack : Nat) → BitVec 16
opaque rfmMaximum : (stack : Nat) → BitVec 16

end Sys2Proof.Config
end

