-- ==== Sys2Proof/Machine/RegId.lean ====
section
/-! DEFINITION. The names of the registers of the BAR0 register space (rules R8, R29), one constructor for each register
table of the spec. -/
namespace Sys2Proof.Machine

/-- A register of the BAR0 layout; the rule that lays it out is cited at each name. -/
inductive RegId where
  | MGT_CAP_ID -- R35
  | MGT_CAP_COMPUTE -- R37
  | MGT_CAP_MEMORY -- R38
  | MGT_CAP_FABRIC -- R39
  | MGT_CAP_FORMATS -- R40
  | MGT_CAP_POWER -- R41
  | MGT_CAP_FOLD -- R42
  | MGT_CAP_RSVD -- R34
  | GI_CTRL -- R73
  | GI_EVT -- R74
  | GI_PAD_CFG -- R75
  | GI_PAD_WATER -- R76
  | GI_PAD_OCC -- R77
  | GI_PAD_RATE -- R77
  | GI_PAD_COUNT -- R78
  | GI_PAD_REFUSE -- R78
  | GI_PAD_DOM -- R209
  | GI_PAD_TAG -- R480
  | GI_PAD_TAGPTR -- R480
  | TL_STATUS -- R104
  | TL_CMD -- R105
  | TL_EVT -- R106
  | TL_NAK_LAST -- R107
  | TL_ECC -- R107
  | TL_FAULT -- R182
  | TL_FAULT_PC -- R183
  | TL_FAULT_ADDR -- R183
  | TL_SEQ_EVEC -- R183
  | TL_TALLY_CYC -- R480
  | TL_TAG_CTRL -- R480
  | TL_TAG_STAT -- R480
  | TIC_LEVEL -- R479
  | TIC_ENABLE -- R479
  | TIC_PEND -- R479
  | TIC_INSVC -- R479
  | TIC_ACK -- R479
  | TIC_EOI -- R479
  | TIC_CHIP -- R479
  | TL_LMON_CFG -- R481
  | TL_LMON_ALARM -- R481
  | TL_LMON_STAT -- R481
  | TL_SLOT_STATE -- R108
  | TL_SLOT_CNT_LO -- R108
  | TL_SLOT_CNT_HI -- R108
  | TL_SLOT_POOL -- R108
  | TL_SLOT_STAMP -- R108
  | TL_SLOT_INFO -- R108
  | TL_DMA_STAT -- R109
  | TIC_HOLD -- R479
  | TL_TALLY_CNT -- R480
  | TL_TALLY_CFG -- R480
  | TL_LMON_HIST -- R481
  | GI_CD_LASTERR -- R211
  | GI_FH_STAT -- R211
  | GI_FH_CTRL -- R211
  | GI_CD_EVT -- R212
  | GI_CD -- R210
  | HBM_STAT -- R227
  | HBM_ECC -- R227
  | HBM_UE_LOG -- R227
  | HBM_EVT -- R227
  | HBM_SCRUB -- R227
  | HBM_TEMP -- R227
  | HBM_LMON_CFG -- R481
  | HBM_LMON_ALARM -- R481
  | HBM_LMON_STAT -- R481
  | HBM_LMON_HIST -- R481
  | HBM_ILV_CTRL -- R228
  | HBM_RRB_CTRL -- R228
  | HBM_ILV_ENT -- R228
  | LN_CTRL -- R248
  | LN_STAT -- R248
  | LN_TAPS -- R248
  | LN_FOM -- R248
  | LN_ERR -- R248
  | RTR_LINK_CTRL -- R249
  | RTR_LINK_STAT -- R249
  | RTR_LINK_PWR -- R249
  | RTR_LINK_REPLAY -- R249
  | RTR_LINK_EVT -- R250
  | RTR_LINK_MAP -- R249
  | RTR_PORT_CFG -- R282
  | RTR_PORT_SHARE -- R282
  | RTR_PORT_EVT -- R282
  | RTR_PORT_STAT -- R282
  | RTR_VC_CFG -- R283
  | RTR_VC_PKTS -- R283
  | RTR_VC_BYTES -- R283
  | RTR_VC_DEPTH -- R283
  | RTR_VC_STALL -- R283
  | RTR_VC_CREDIT -- R283
  | RTR_CTRL -- R281
  | RTR_TBL_CTRL -- R281
  | RTR_TBL_IDX -- R281
  | RTR_TBL_DATA -- R281
  | RTR_RAD_CTRL -- R281
  | RTR_EVT -- R281
  | RTR_NODE_ID -- R353
  | RTR_HEFT_CTRL -- R353
  | RTR_HEFT_EVT -- R353
  | RTR_WIN_BASE -- R281
  | RTR_WIN_LIM -- R281
  | BT_CTRL -- R303
  | BT_STAT -- R303
  | BT_TIME -- R303
  | BT_BEAT -- R303
  | BT_PERIOD -- R303
  | BT_FLIP -- R304
  | BT_TBL_IDX -- R304
  | BT_TBL_DATA -- R304
  | BT_EVT -- R305
  | BT_BELL_STAT -- R303
  | BT_TRIM -- R303
  | BT_PORT_STAT0 -- R305
  | BT_PORT_STAT1 -- R305
  | FLD_CTRL -- R332
  | FLD_STORE -- R332
  | FLD_EVT -- R332
  | FLD_FAULT_LOG -- R332
  | FLD_FAULT_BEAT -- R332
  | FLD_STAT -- R332
  | FLD_WAIT -- R332
  | FLD_COLL_CFG -- R333
  | FLD_COLL_TREE -- R333
  | FLD_COLL_KIDS0 -- R333
  | FLD_COLL_KIDS1 -- R333
  | FLD_COLL_SRC -- R333
  | FLD_COLL_DST -- R333
  | FLD_COLL_AUX -- R333
  | FLD_COLL_SEED -- R333
  | FLD_COLL_LEN -- R333
  | FLD_COLL_TRIG -- R333
  | FLD_COLL_CMD -- R334
  | FLD_COLL_STAT -- R334
  | FLD_COLL_PACE -- R334
  | RTR_PORT_ROLE -- R354
  | RTR_HEFT_FAR0 -- R354
  | RTR_HEFT_FAR1 -- R354
  | RTR_PORT_CABLE -- R541
  | RTR_PAIR_CTRL -- R376
  | RTR_PAIR_TIME -- R376
  | RTR_PAIR_LEASE -- R376
  | RTR_PAIR_TEXP -- R376
  | RTR_PAIR_HOLD -- R376
  | RTR_PAIR_STAT -- R377
  | RTR_PAIR_CNT -- R377
  | RTR_PAIR_EVT -- R377
  | RTR_PAIR_CLONE -- R377
  | RTR_RANK_TBL -- R377
  | MGT_WATCH_WIN0 -- R400
  | MGT_WATCH_WIN1 -- R400
  | MGT_WATCH_ACT -- R400
  | MGT_RST_REQ -- R400
  | MGT_RST_STAT -- R401
  | MGT_RST_LOG -- R401
  | MGT_RST_EVT -- R401
  | MGT_PEER_LOG -- R402
  | MGT_PEER_STAT -- R402
  | FWU_DUMP_CTRL -- R403
  | FWU_DUMP_STAT -- R403
  | FWU_DUMP_PTR -- R403
  | FWU_DUMP_DATA -- R403
  | FUS_STAT -- R427
  | FUS_SI_STAT -- R427
  | FUS_SI_CTRL -- R427
  | FUS_EVT -- R427
  | FUS_SOFT_CTRL -- R427
  | FUS_FP_TILE -- R428
  | FUS_FP_UNIT -- R428
  | FUS_MUSTER_RX_CFG -- R429
  | FUS_MUSTER_RX_BASE -- R429
  | FUS_MUSTER_RX_STAT -- R429
  | FUS_MUSTER_TX_CFG -- R429
  | FUS_MUSTER_TX_SRC -- R429
  | FUS_MUSTER_TX_LIST -- R429
  | FUS_MUSTER_TX_STAT -- R429
  | PWR_CTRL -- R454
  | PWR_CAP -- R454
  | PWR_FT_CFG -- R454
  | PWR_STAT -- R455
  | PWR_TELEM -- R455
  | PWR_THERM -- R455
  | PWR_COOL -- R455
  | PWR_FOLLOW -- R454
  | PWR_PACE -- R456
  | PWR_EVT -- R456
  | PWR_FAB -- R455
  | PWR_TILE -- R456
  | MGT_LMON_CFG -- R481
  | MGT_LMON_ALARM -- R481
  | MGT_LMON_STAT -- R481
  | MGT_LMON_HIST -- R481
  | CIC_CTRL -- R483
  | CIC_EVT -- R483
  | CIC_HOST_EOI -- R483
  | CIC_LEVEL -- R483
  | CIC_PEND -- R483
  | CIC_INSVC -- R483
  | CIC_HOLD -- R482
  | CIC_VBASE -- R483
  | CIC_EOI -- R483
  | CIC_CUR -- R483
  | CIC_SRC -- R483
  | CIC_MSIX_ADDR -- R466
  | CIC_MSIX_DATA -- R466
  | CIC_MSIX_PBA -- R466
  | MGT_SERIAL -- R514
  | MGT_ROT_STAT -- R514
  | MGT_EVT_BADACC -- R514
  | MGT_MCTP_STAT -- R514
  | MGT_PINS -- R540
  | FWU_STAT -- R515
  | FWU_ACT -- R515
  | FWU_EVT -- R515
  | FWU_MEAS_EXT -- R515
  | FWU_SLOT -- R515
  deriving DecidableEq, Repr

end Sys2Proof.Machine
end

