-- ==== Sys2Proof/Machine/RegTable.lean ====
section
/-! DEFINITION. The register tables of the spec as data: where each register lies (R29, R34, R72, R103, R181, R208,
R226, R247, R280, R302, R331, R352, R375, R399, R426, R453, R478, R482, R513, R539), and each field's bits, access code
(R9), reset value and Survives column (R13). A field marked reserved has no row: it reads as zero (R10). -/
namespace Sys2Proof.Machine

/-- The access codes of R9. -/
inductive Acc where
  | ro | rw | wo | w1c | w1s | rwl | st
  deriving DecidableEq, Repr

/-- The reset levels of R15, shallowest first; `none` is the Survives entry "—" of R13. -/
inductive Surv where
  | none | engine | partition | chip | powerCycle
  deriving DecidableEq, Repr

/-- One row of a register table: bits `[hi:lo]`, access code, reset value, Survives. -/
structure FieldRow where
  hi : Nat
  lo : Nat
  acc : Acc
  rst : Nat
  surv : Surv
  deriving DecidableEq, Repr

/-- A register's place and fields. Copy `(i, j)` lies at `base + i * s1 + j * s2` with `i < n1` and `j < n2`. -/
structure RegDesc where
  base : Nat
  n1 : Nat
  s1 : Nat
  n2 : Nat
  s2 : Nat
  fields : List FieldRow
  deriving DecidableEq, Repr

/-- A named field: its register and its bits `[hi:lo]`. -/
structure Fld where
  reg : RegId
  hi : Nat
  lo : Nat
  deriving DecidableEq, Repr

/-- The table of registers. -/
def RegId.desc : RegId → RegDesc
  | .MGT_CAP_ID => ⟨0x1000, 1, 0x0, 1, 0x0, [
      ⟨15, 0, .ro, 1, .powerCycle⟩,
      ⟨23, 16, .ro, 0, .powerCycle⟩,
      ⟨31, 24, .ro, 0, .powerCycle⟩,
      ⟨32, 32, .ro, 0, .none⟩,
      ⟨33, 33, .ro, 0, .none⟩]⟩
  | .MGT_CAP_COMPUTE => ⟨0x1008, 1, 0x0, 1, 0x0, [
      ⟨7, 0, .ro, 0, .powerCycle⟩,
      ⟨15, 8, .ro, 0, .powerCycle⟩,
      ⟨23, 16, .ro, 0, .none⟩,
      ⟨31, 24, .ro, 0, .powerCycle⟩,
      ⟨39, 32, .ro, 0, .powerCycle⟩,
      ⟨47, 40, .ro, 0, .powerCycle⟩,
      ⟨63, 48, .ro, 0, .powerCycle⟩]⟩
  | .MGT_CAP_MEMORY => ⟨0x1010, 1, 0x0, 1, 0x0, [
      ⟨7, 0, .ro, 0, .powerCycle⟩,
      ⟨15, 8, .ro, 0, .powerCycle⟩,
      ⟨31, 16, .ro, 0, .powerCycle⟩,
      ⟨39, 32, .ro, 0, .powerCycle⟩,
      ⟨55, 40, .ro, 0, .powerCycle⟩,
      ⟨63, 56, .ro, 0, .powerCycle⟩]⟩
  | .MGT_CAP_FABRIC => ⟨0x1018, 1, 0x0, 1, 0x0, [
      ⟨3, 0, .ro, 0, .powerCycle⟩,
      ⟨7, 4, .ro, 0, .powerCycle⟩,
      ⟨23, 8, .ro, 0, .powerCycle⟩,
      ⟨31, 24, .ro, 0, .powerCycle⟩,
      ⟨47, 32, .ro, 0, .powerCycle⟩,
      ⟨63, 48, .ro, 0, .powerCycle⟩]⟩
  | .MGT_CAP_FORMATS => ⟨0x1020, 1, 0x0, 1, 0x0, [
      ⟨11, 0, .ro, 0, .powerCycle⟩,
      ⟨12, 12, .ro, 0, .powerCycle⟩,
      ⟨13, 13, .ro, 0, .powerCycle⟩,
      ⟨14, 14, .ro, 0, .powerCycle⟩]⟩
  | .MGT_CAP_POWER => ⟨0x1028, 1, 0x0, 1, 0x0, [
      ⟨15, 0, .ro, 0, .powerCycle⟩,
      ⟨31, 16, .ro, 0, .powerCycle⟩,
      ⟨39, 32, .ro, 0, .powerCycle⟩,
      ⟨47, 40, .ro, 0, .powerCycle⟩,
      ⟨55, 48, .ro, 0, .powerCycle⟩]⟩
  | .MGT_CAP_FOLD => ⟨0x1030, 1, 0x0, 1, 0x0, [
      ⟨7, 0, .ro, 0, .powerCycle⟩,
      ⟨23, 8, .ro, 0, .powerCycle⟩,
      ⟨39, 24, .ro, 0, .powerCycle⟩]⟩
  | .MGT_CAP_RSVD => ⟨0x1038, 25, 0x8, 1, 0x0, []⟩
  | .GI_CTRL => ⟨0x700000, 1, 0x0, 1, 0x0, [
      ⟨0, 0, .rwl, 0, .chip⟩,
      ⟨1, 1, .w1s, 0, .chip⟩,
      ⟨31, 16, .rwl, 1000, .chip⟩,
      ⟨41, 32, .rwl, 10, .chip⟩]⟩
  | .GI_EVT => ⟨0x700008, 1, 0x0, 1, 0x0, [
      ⟨7, 0, .st, 0, .chip⟩,
      ⟨15, 8, .st, 0, .chip⟩,
      ⟨23, 16, .st, 0, .chip⟩,
      ⟨31, 24, .st, 0, .chip⟩,
      ⟨32, 32, .st, 0, .chip⟩]⟩
  | .GI_PAD_CFG => ⟨0x701000, 8, 0x100, 1, 0x0, [
      ⟨11, 0, .rwl, 0, .chip⟩,
      ⟨29, 12, .rwl, 0, .chip⟩,
      ⟨30, 30, .rwl, 0, .chip⟩,
      ⟨31, 31, .rw, 1, .chip⟩,
      ⟨32, 32, .rw, 0, .chip⟩]⟩
  | .GI_PAD_WATER => ⟨0x701008, 8, 0x100, 1, 0x0, [
      ⟨12, 0, .rw, 3686, .chip⟩,
      ⟨28, 16, .rw, 2048, .chip⟩,
      ⟨47, 32, .rw, 100, .chip⟩]⟩
  | .GI_PAD_OCC => ⟨0x701010, 8, 0x100, 1, 0x0, [
      ⟨12, 0, .ro, 0, .engine⟩,
      ⟨28, 16, .ro, 0, .engine⟩,
      ⟨42, 32, .ro, 0, .engine⟩,
      ⟨48, 48, .ro, 0, .engine⟩]⟩
  | .GI_PAD_RATE => ⟨0x701018, 8, 0x100, 1, 0x0, [
      ⟨31, 0, .ro, 0, .engine⟩,
      ⟨63, 32, .ro, 0xffffffff, .engine⟩]⟩
  | .GI_PAD_COUNT => ⟨0x701020, 8, 0x100, 1, 0x0, [⟨47, 0, .ro, 0, .engine⟩]⟩
  | .GI_PAD_REFUSE => ⟨0x701028, 8, 0x100, 1, 0x0, [
      ⟨15, 0, .ro, 0, .engine⟩,
      ⟨19, 16, .ro, 0, .engine⟩,
      ⟨31, 24, .ro, 0, .engine⟩,
      ⟨63, 32, .ro, 0, .engine⟩]⟩
  | .GI_PAD_DOM => ⟨0x701030, 8, 0x100, 1, 0x0, [
      ⟨9, 0, .rwl, 0, .chip⟩,
      ⟨20, 10, .rwl, 0, .chip⟩,
      ⟨31, 24, .rw, 64, .chip⟩]⟩
  | .GI_PAD_TAG => ⟨0x701038, 8, 0x100, 1, 0x0, [
      ⟨39, 12, .rw, 0, .chip⟩,
      ⟨55, 40, .rw, 0, .chip⟩,
      ⟨56, 56, .rw, 0, .chip⟩]⟩
  | .GI_PAD_TAGPTR => ⟨0x701040, 8, 0x100, 1, 0x0, [
      ⟨23, 0, .ro, 0, .engine⟩,
      ⟨47, 24, .rw, 0, .engine⟩,
      ⟨63, 48, .ro, 0, .engine⟩]⟩
  | .TL_STATUS => ⟨0x1000000, 144, 0x40000, 1, 0x0, [
      ⟨0, 0, .ro, 1, .none⟩,
      ⟨1, 1, .ro, 0, .none⟩,
      ⟨2, 2, .ro, 0, .none⟩,
      ⟨6, 3, .ro, 0, .none⟩,
      ⟨7, 7, .ro, 0, .none⟩,
      ⟨8, 8, .ro, 0, .none⟩,
      ⟨13, 9, .ro, 0, .none⟩,
      ⟨22, 14, .ro, 0, .none⟩,
      ⟨29, 23, .ro, 0, .none⟩]⟩
  | .TL_CMD => ⟨0x1000008, 144, 0x40000, 1, 0x0, [
      ⟨4, 0, .wo, 0, .none⟩,
      ⟨5, 5, .wo, 0, .none⟩,
      ⟨6, 6, .wo, 0, .none⟩,
      ⟨7, 7, .wo, 0, .none⟩]⟩
  | .TL_EVT => ⟨0x1000010, 144, 0x40000, 1, 0x0, [
      ⟨0, 0, .st, 0, .engine⟩,
      ⟨1, 1, .st, 0, .engine⟩,
      ⟨2, 2, .st, 0, .engine⟩,
      ⟨3, 3, .st, 0, .engine⟩,
      ⟨4, 4, .st, 0, .engine⟩,
      ⟨5, 5, .st, 0, .engine⟩,
      ⟨6, 6, .st, 0, .engine⟩]⟩
  | .TL_NAK_LAST => ⟨0x1000018, 144, 0x40000, 1, 0x0, [
      ⟨3, 0, .ro, 0, .engine⟩,
      ⟨11, 4, .ro, 0, .engine⟩,
      ⟨14, 12, .ro, 0, .engine⟩,
      ⟨15, 15, .ro, 0, .engine⟩,
      ⟨31, 16, .ro, 0, .engine⟩,
      ⟨63, 32, .ro, 0, .engine⟩]⟩
  | .TL_ECC => ⟨0x1000020, 144, 0x40000, 1, 0x0, [
      ⟨15, 0, .ro, 0, .partition⟩,
      ⟨31, 16, .ro, 0, .partition⟩,
      ⟨54, 32, .ro, 0, .partition⟩]⟩
  | .TL_FAULT => ⟨0x1000028, 144, 0x40000, 1, 0x0, [
      ⟨4, 0, .ro, 0, .engine⟩,
      ⟨5, 5, .ro, 0, .engine⟩,
      ⟨6, 6, .ro, 0, .engine⟩,
      ⟨7, 7, .st, 0, .engine⟩,
      ⟨8, 8, .st, 0, .engine⟩,
      ⟨13, 9, .ro, 0, .engine⟩,
      ⟨19, 16, .ro, 0, .engine⟩,
      ⟨63, 32, .ro, 0, .engine⟩]⟩
  | .TL_FAULT_PC => ⟨0x1000030, 144, 0x40000, 1, 0x0, [⟨39, 0, .ro, 0, .engine⟩]⟩
  | .TL_FAULT_ADDR => ⟨0x1000038, 144, 0x40000, 1, 0x0, [⟨63, 0, .ro, 0, .engine⟩]⟩
  | .TL_SEQ_EVEC => ⟨0x1000040, 144, 0x40000, 1, 0x0, [⟨39, 3, .rw, 0, .partition⟩]⟩
  | .TL_TALLY_CYC => ⟨0x1003000, 144, 0x40000, 1, 0x0, [⟨63, 0, .ro, 0, .engine⟩]⟩
  | .TL_TAG_CTRL => ⟨0x1003100, 144, 0x40000, 1, 0x0, [
      ⟨0, 0, .rw, 0, .engine⟩,
      ⟨5, 1, .rw, 16, .engine⟩,
      ⟨63, 32, .rw, 1, .engine⟩]⟩
  | .TL_TAG_STAT => ⟨0x1003108, 144, 0x40000, 1, 0x0, [
      ⟨31, 0, .ro, 0, .engine⟩,
      ⟨47, 32, .ro, 0, .engine⟩,
      ⟨48, 48, .st, 0, .engine⟩]⟩
  | .TIC_LEVEL => ⟨0x1004000, 144, 0x40000, 1, 0x0, [⟨63, 0, .ro, 0, .none⟩]⟩
  | .TIC_ENABLE => ⟨0x1004008, 144, 0x40000, 1, 0x0, [⟨63, 0, .rw, 0, .engine⟩]⟩
  | .TIC_PEND => ⟨0x1004010, 144, 0x40000, 1, 0x0, [⟨63, 0, .ro, 0, .none⟩]⟩
  | .TIC_INSVC => ⟨0x1004018, 144, 0x40000, 1, 0x0, [⟨63, 0, .ro, 0, .none⟩]⟩
  | .TIC_ACK => ⟨0x1004020, 144, 0x40000, 1, 0x0, [⟨5, 0, .wo, 0, .none⟩]⟩
  | .TIC_EOI => ⟨0x1004028, 144, 0x40000, 1, 0x0, [⟨5, 0, .wo, 0, .none⟩]⟩
  | .TIC_CHIP => ⟨0x1004030, 144, 0x40000, 1, 0x0, [⟨63, 0, .rw, 127, .engine⟩]⟩
  | .TL_LMON_CFG => ⟨0x1003200, 144, 0x40000, 1, 0x0, [
      ⟨3, 0, .rw, 0, .engine⟩,
      ⟨19, 4, .rw, 0, .engine⟩,
      ⟨20, 20, .rw, 0, .engine⟩,
      ⟨25, 21, .rw, 0, .engine⟩,
      ⟨26, 26, .rw, 0, .engine⟩,
      ⟨27, 27, .wo, 0, .none⟩,
      ⟨47, 28, .rw, 1000, .engine⟩,
      ⟨63, 48, .rw, 0, .engine⟩]⟩
  | .TL_LMON_ALARM => ⟨0x1003208, 144, 0x40000, 1, 0x0, [⟨31, 0, .rw, 0, .engine⟩, ⟨32, 32, .rw, 0, .engine⟩]⟩
  | .TL_LMON_STAT => ⟨0x1003210, 144, 0x40000, 1, 0x0, [
      ⟨23, 0, .ro, 0xffffff, .engine⟩,
      ⟨47, 24, .ro, 0, .engine⟩,
      ⟨48, 48, .st, 0, .engine⟩]⟩
  | .TL_SLOT_STATE => ⟨0x1001000, 144, 0x40000, 32, 0x40, [
      ⟨31, 0, .ro, 0, .none⟩,
      ⟨34, 32, .ro, 0, .none⟩,
      ⟨37, 35, .ro, 0, .none⟩,
      ⟨38, 38, .ro, 0, .none⟩,
      ⟨42, 39, .ro, 0, .none⟩,
      ⟨45, 43, .ro, 0, .none⟩,
      ⟨46, 46, .st, 0, .none⟩,
      ⟨47, 47, .ro, 1, .none⟩]⟩
  | .TL_SLOT_CNT_LO => ⟨0x1001008, 144, 0x40000, 32, 0x40, [⟨63, 0, .ro, 0, .none⟩]⟩
  | .TL_SLOT_CNT_HI => ⟨0x1001010, 144, 0x40000, 32, 0x40, [⟨63, 0, .ro, 0, .none⟩]⟩
  | .TL_SLOT_POOL => ⟨0x1001018, 144, 0x40000, 32, 0x40, [⟨63, 0, .ro, 0, .none⟩]⟩
  | .TL_SLOT_STAMP => ⟨0x1001020, 144, 0x40000, 32, 0x40, [⟨63, 0, .ro, 0, .none⟩]⟩
  | .TL_SLOT_INFO => ⟨0x1001028, 144, 0x40000, 32, 0x40, [⟨23, 0, .ro, 0, .none⟩, ⟨63, 24, .ro, 0, .none⟩]⟩
  | .TL_DMA_STAT => ⟨0x1002000, 144, 0x40000, 4, 0x10, [
      ⟨4, 0, .ro, 0, .none⟩,
      ⟨5, 5, .ro, 0, .none⟩,
      ⟨11, 8, .ro, 0, .engine⟩,
      ⟨63, 16, .ro, 0, .engine⟩]⟩
  | .TIC_HOLD => ⟨0x1004100, 144, 0x40000, 16, 0x8, [⟨15, 0, .rw, 0, .engine⟩, ⟨16, 16, .ro, 0, .none⟩]⟩
  | .TL_TALLY_CNT => ⟨0x1003008, 144, 0x40000, 8, 0x8, [⟨47, 0, .rw, 0, .engine⟩, ⟨63, 63, .st, 0, .engine⟩]⟩
  | .TL_TALLY_CFG => ⟨0x1003080, 144, 0x40000, 8, 0x8, [
      ⟨9, 0, .rw, 0, .engine⟩,
      ⟨25, 10, .rw, 0, .engine⟩,
      ⟨27, 26, .rw, 0, .engine⟩,
      ⟨28, 28, .rw, 0, .engine⟩,
      ⟨40, 29, .rw, 0, .engine⟩,
      ⟨41, 41, .rw, 0, .engine⟩]⟩
  | .TL_LMON_HIST => ⟨0x1003280, 144, 0x40000, 16, 0x8, [⟨31, 0, .ro, 0, .engine⟩, ⟨63, 32, .ro, 0, .engine⟩]⟩
  | .GI_CD_LASTERR => ⟨0x703000, 1, 0x0, 1, 0x0, [
      ⟨9, 0, .ro, 0, .chip⟩,
      ⟨13, 10, .ro, 0, .chip⟩,
      ⟨31, 16, .ro, 0, .chip⟩,
      ⟨47, 32, .ro, 0, .chip⟩,
      ⟨50, 48, .ro, 0, .chip⟩,
      ⟨63, 63, .st, 0, .chip⟩]⟩
  | .GI_FH_STAT => ⟨0x703008, 1, 0x0, 1, 0x0, [
      ⟨8, 0, .ro, 0, .none⟩,
      ⟨17, 9, .ro, 0, .chip⟩,
      ⟨47, 32, .ro, 0, .chip⟩,
      ⟨63, 48, .ro, 0, .chip⟩]⟩
  | .GI_FH_CTRL => ⟨0x703010, 1, 0x0, 1, 0x0, [⟨13, 0, .rw, 100, .chip⟩, ⟨14, 14, .wo, 0, .none⟩]⟩
  | .GI_CD_EVT => ⟨0x703018, 1, 0x0, 1, 0x0, [
      ⟨7, 0, .st, 0, .chip⟩,
      ⟨15, 8, .st, 0, .chip⟩,
      ⟨23, 16, .st, 0, .chip⟩,
      ⟨24, 24, .st, 0, .chip⟩]⟩
  | .GI_CD => ⟨0x704000, 1024, 0x8, 1, 0x0, [
      ⟨31, 0, .ro, 0, .engine⟩,
      ⟨32, 32, .st, 0, .engine⟩,
      ⟨36, 33, .ro, 0, .engine⟩,
      ⟨37, 37, .ro, 0, .none⟩,
      ⟨63, 63, .wo, 0, .none⟩]⟩
  | .HBM_STAT => ⟨0x800000, 12, 0x10000, 1, 0x0, [
      ⟨0, 0, .ro, 0, .partition⟩,
      ⟨1, 1, .ro, 0, .partition⟩,
      ⟨3, 2, .ro, 0, .partition⟩,
      ⟨4, 4, .ro, 0, .partition⟩]⟩
  | .HBM_ECC => ⟨0x800008, 12, 0x10000, 1, 0x0, [
      ⟨31, 0, .ro, 0, .partition⟩,
      ⟨47, 32, .ro, 0, .partition⟩,
      ⟨63, 48, .ro, 0, .partition⟩]⟩
  | .HBM_UE_LOG => ⟨0x800010, 12, 0x10000, 1, 0x0, [
      ⟨35, 0, .ro, 0, .partition⟩,
      ⟨40, 36, .ro, 0, .partition⟩,
      ⟨41, 41, .ro, 0, .partition⟩,
      ⟨63, 63, .st, 0, .partition⟩]⟩
  | .HBM_EVT => ⟨0x800018, 12, 0x10000, 1, 0x0, [
      ⟨0, 0, .st, 0, .partition⟩,
      ⟨1, 1, .st, 0, .partition⟩,
      ⟨2, 2, .st, 0, .partition⟩]⟩
  | .HBM_SCRUB => ⟨0x800020, 12, 0x10000, 1, 0x0, [
      ⟨15, 0, .rw, 2500, .partition⟩,
      ⟨16, 16, .rw, 1, .partition⟩,
      ⟨63, 32, .ro, 0, .partition⟩]⟩
  | .HBM_TEMP => ⟨0x800028, 12, 0x10000, 1, 0x0, [⟨7, 0, .ro, 0, .none⟩, ⟨9, 8, .ro, 0, .none⟩]⟩
  | .HBM_LMON_CFG => ⟨0x800300, 12, 0x10000, 1, 0x0, [
      ⟨3, 0, .rw, 0, .engine⟩,
      ⟨19, 4, .rw, 0, .engine⟩,
      ⟨20, 20, .rw, 0, .engine⟩,
      ⟨25, 21, .rw, 0, .engine⟩,
      ⟨26, 26, .rw, 0, .engine⟩,
      ⟨27, 27, .wo, 0, .none⟩,
      ⟨47, 28, .rw, 1000, .engine⟩,
      ⟨63, 48, .rw, 0, .engine⟩]⟩
  | .HBM_LMON_ALARM => ⟨0x800308, 12, 0x10000, 1, 0x0, [⟨31, 0, .rw, 0, .engine⟩, ⟨32, 32, .rw, 0, .engine⟩]⟩
  | .HBM_LMON_STAT => ⟨0x800310, 12, 0x10000, 1, 0x0, [
      ⟨23, 0, .ro, 0xffffff, .engine⟩,
      ⟨47, 24, .ro, 0, .engine⟩,
      ⟨48, 48, .st, 0, .engine⟩]⟩
  | .HBM_LMON_HIST => ⟨0x800380, 12, 0x10000, 16, 0x8, [⟨31, 0, .ro, 0, .engine⟩, ⟨63, 32, .ro, 0, .engine⟩]⟩
  | .HBM_ILV_CTRL => ⟨0x800100, 2, 0x60000, 1, 0x0, [
      ⟨0, 0, .rwl, 0, .partition⟩,
      ⟨13, 1, .rwl, 0, .partition⟩,
      ⟨14, 14, .wo, 0, .none⟩,
      ⟨16, 15, .ro, 0, .partition⟩,
      ⟨19, 17, .ro, 0, .partition⟩,
      ⟨20, 20, .w1s, 0, .partition⟩]⟩
  | .HBM_RRB_CTRL => ⟨0x800108, 2, 0x60000, 1, 0x0, [
      ⟨11, 0, .rw, 48, .partition⟩,
      ⟨27, 16, .rw, 0, .partition⟩,
      ⟨43, 32, .ro, 3072, .none⟩]⟩
  | .HBM_ILV_ENT => ⟨0x808000, 2, 0x60000, 4096, 0x8, [
      ⟨3, 0, .rwl, 0, .partition⟩,
      ⟨12, 4, .rwl, 0, .partition⟩]⟩
  | .LN_CTRL => ⟨0x400000, 64, 0x1000, 1, 0x0, [
      ⟨0, 0, .rw, 0, .chip⟩,
      ⟨15, 8, .rw, 160, .chip⟩,
      ⟨23, 16, .rw, 128, .chip⟩,
      ⟨33, 24, .rw, 10, .chip⟩]⟩
  | .LN_STAT => ⟨0x400008, 64, 0x1000, 1, 0x0, [
      ⟨2, 0, .ro, 0, .chip⟩,
      ⟨3, 3, .ro, 0, .chip⟩,
      ⟨4, 4, .ro, 0, .chip⟩,
      ⟨5, 5, .ro, 0, .chip⟩,
      ⟨6, 6, .ro, 0, .chip⟩,
      ⟨7, 7, .ro, 0, .chip⟩,
      ⟨10, 8, .ro, 0, .chip⟩]⟩
  | .LN_TAPS => ⟨0x400010, 64, 0x1000, 1, 0x0, [⟨39, 0, .ro, 0, .chip⟩, ⟨40, 40, .ro, 0, .chip⟩]⟩
  | .LN_FOM => ⟨0x400018, 64, 0x1000, 1, 0x0, [
      ⟨7, 0, .ro, 0, .chip⟩,
      ⟨15, 8, .ro, 255, .chip⟩,
      ⟨16, 16, .wo, 0, .none⟩]⟩
  | .LN_ERR => ⟨0x400020, 64, 0x1000, 1, 0x0, [
      ⟨23, 0, .ro, 0, .chip⟩,
      ⟨47, 24, .ro, 0, .chip⟩,
      ⟨63, 48, .ro, 0, .chip⟩]⟩
  | .RTR_LINK_CTRL => ⟨0x300000, 8, 0x10000, 1, 0x0, [
      ⟨0, 0, .rwl, 0, .chip⟩,
      ⟨1, 1, .wo, 0, .none⟩,
      ⟨2, 2, .rw, 0, .chip⟩,
      ⟨3, 3, .rwl, 1, .chip⟩,
      ⟨4, 4, .w1s, 0, .chip⟩,
      ⟨15, 8, .rw, 16, .chip⟩,
      ⟨31, 16, .rw, 5000, .chip⟩]⟩
  | .RTR_LINK_STAT => ⟨0x300008, 8, 0x10000, 1, 0x0, [
      ⟨2, 0, .ro, 0, .chip⟩,
      ⟨5, 3, .ro, 0, .chip⟩,
      ⟨6, 6, .ro, 0, .chip⟩,
      ⟨7, 7, .ro, 0, .chip⟩,
      ⟨8, 8, .ro, 0, .chip⟩,
      ⟨9, 9, .ro, 0, .chip⟩,
      ⟨17, 10, .ro, 0, .chip⟩,
      ⟨41, 18, .ro, 0, .chip⟩,
      ⟨55, 42, .ro, 0, .chip⟩,
      ⟨59, 56, .ro, 0, .chip⟩,
      ⟨62, 60, .ro, 0, .chip⟩]⟩
  | .RTR_LINK_PWR => ⟨0x300010, 8, 0x10000, 1, 0x0, [
      ⟨1, 0, .rw, 0, .chip⟩,
      ⟨2, 2, .rw, 1, .chip⟩,
      ⟨19, 4, .rw, 1000, .chip⟩]⟩
  | .RTR_LINK_REPLAY => ⟨0x300018, 8, 0x10000, 1, 0x0, [
      ⟨12, 0, .ro, 0, .chip⟩,
      ⟨31, 16, .ro, 0, .chip⟩,
      ⟨47, 32, .ro, 0, .chip⟩,
      ⟨63, 48, .ro, 0, .chip⟩]⟩
  | .RTR_LINK_EVT => ⟨0x300020, 8, 0x10000, 1, 0x0, [
      ⟨0, 0, .st, 0, .chip⟩,
      ⟨1, 1, .st, 0, .chip⟩,
      ⟨2, 2, .st, 0, .chip⟩,
      ⟨3, 3, .st, 0, .chip⟩,
      ⟨4, 4, .st, 0, .chip⟩,
      ⟨5, 5, .st, 0, .chip⟩]⟩
  | .RTR_LINK_MAP => ⟨0x300028, 8, 0x10000, 1, 0x0, [⟨23, 0, .rwl, 0xfac688, .chip⟩]⟩
  | .RTR_PORT_CFG => ⟨0x300100, 14, 0x10000, 1, 0x0, [
      ⟨0, 0, .rw, 0, .chip⟩,
      ⟨7, 1, .rw, 25, .chip⟩,
      ⟨15, 8, .rw, 128, .chip⟩,
      ⟨23, 16, .rw, 64, .chip⟩,
      ⟨31, 24, .rw, 32, .chip⟩,
      ⟨39, 32, .rw, 16, .chip⟩]⟩
  | .RTR_PORT_SHARE => ⟨0x300108, 14, 0x10000, 4, 0x8, [
      ⟨11, 0, .rw, 0, .chip⟩,
      ⟨19, 12, .rw, 0, .chip⟩,
      ⟨20, 20, .rw, 0, .chip⟩]⟩
  | .RTR_PORT_EVT => ⟨0x300128, 14, 0x10000, 1, 0x0, [
      ⟨0, 0, .st, 0, .chip⟩,
      ⟨1, 1, .st, 0, .chip⟩,
      ⟨2, 2, .st, 0, .chip⟩,
      ⟨3, 3, .st, 0, .chip⟩]⟩
  | .RTR_PORT_STAT => ⟨0x300130, 14, 0x10000, 1, 0x0, [
      ⟨15, 0, .ro, 0, .chip⟩,
      ⟨31, 16, .ro, 0, .chip⟩,
      ⟨47, 32, .ro, 0, .chip⟩,
      ⟨55, 48, .ro, 0, .chip⟩,
      ⟨59, 56, .ro, 0, .chip⟩,
      ⟨63, 60, .ro, 0, .chip⟩]⟩
  | .RTR_VC_CFG => ⟨0x300200, 14, 0x10000, 8, 0x40, [⟨17, 0, .rw, 0, .chip⟩]⟩
  | .RTR_VC_PKTS => ⟨0x300208, 14, 0x10000, 8, 0x40, [⟨47, 0, .ro, 0, .chip⟩]⟩
  | .RTR_VC_BYTES => ⟨0x300210, 14, 0x10000, 8, 0x40, [⟨63, 0, .ro, 0, .chip⟩]⟩
  | .RTR_VC_DEPTH => ⟨0x300218, 14, 0x10000, 8, 0x40, [
      ⟨17, 0, .ro, 0, .chip⟩,
      ⟨35, 18, .ro, 0, .chip⟩,
      ⟨36, 36, .wo, 0, .none⟩]⟩
  | .RTR_VC_STALL => ⟨0x300220, 14, 0x10000, 8, 0x40, [⟨63, 0, .ro, 0, .chip⟩]⟩
  | .RTR_VC_CREDIT => ⟨0x300228, 14, 0x10000, 8, 0x40, [⟨17, 0, .ro, 1024, .chip⟩, ⟨35, 18, .ro, 1024, .chip⟩]⟩
  | .RTR_CTRL => ⟨0x3f0000, 1, 0x0, 1, 0x0, [
      ⟨0, 0, .rwl, 0, .chip⟩,
      ⟨1, 1, .w1s, 0, .chip⟩,
      ⟨31, 16, .rw, 1000, .chip⟩]⟩
  | .RTR_TBL_CTRL => ⟨0x3f0008, 1, 0x0, 1, 0x0, [
      ⟨0, 0, .ro, 0, .chip⟩,
      ⟨1, 1, .ro, 0, .chip⟩,
      ⟨2, 2, .wo, 0, .none⟩,
      ⟨3, 3, .wo, 0, .none⟩,
      ⟨63, 32, .rw, 0, .chip⟩]⟩
  | .RTR_TBL_IDX => ⟨0x3f0010, 1, 0x0, 1, 0x0, [
      ⟨15, 0, .rw, 0, .chip⟩,
      ⟨16, 16, .rw, 0, .chip⟩,
      ⟨17, 17, .rw, 0, .chip⟩,
      ⟨18, 18, .rw, 0, .chip⟩]⟩
  | .RTR_TBL_DATA => ⟨0x3f0018, 1, 0x0, 1, 0x0, [⟨31, 0, .rw, 0, .chip⟩]⟩
  | .RTR_RAD_CTRL => ⟨0x3f0020, 1, 0x0, 1, 0x0, [
      ⟨11, 0, .rw, 256, .chip⟩,
      ⟨19, 12, .rw, 10, .chip⟩,
      ⟨33, 20, .rw, 100, .chip⟩,
      ⟨47, 34, .rw, 100, .chip⟩]⟩
  | .RTR_EVT => ⟨0x3f0028, 1, 0x0, 1, 0x0, [
      ⟨0, 0, .st, 0, .chip⟩,
      ⟨1, 1, .st, 0, .chip⟩,
      ⟨2, 2, .st, 0, .chip⟩,
      ⟨3, 3, .st, 0, .chip⟩]⟩
  | .RTR_NODE_ID => ⟨0x3f0030, 1, 0x0, 1, 0x0, [
      ⟨15, 0, .rw, 0, .chip⟩,
      ⟨16, 16, .ro, 0, .chip⟩,
      ⟨18, 17, .ro, 0, .chip⟩,
      ⟨24, 19, .ro, 0, .chip⟩,
      ⟨25, 25, .wo, 0, .none⟩]⟩
  | .RTR_HEFT_CTRL => ⟨0x3f0038, 1, 0x0, 1, 0x0, [
      ⟨0, 0, .rwl, 1, .chip⟩,
      ⟨1, 1, .rwl, 0, .chip⟩,
      ⟨2, 2, .rw, 0, .chip⟩,
      ⟨15, 8, .rw, 40, .chip⟩,
      ⟨19, 16, .rwl, 0, .chip⟩,
      ⟨22, 20, .rwl, 0, .chip⟩,
      ⟨25, 23, .rwl, 0, .chip⟩,
      ⟨47, 32, .rwl, 0, .chip⟩,
      ⟨55, 48, .rwl, 0, .chip⟩]⟩
  | .RTR_HEFT_EVT => ⟨0x3f0040, 1, 0x0, 1, 0x0, [
      ⟨7, 0, .st, 0, .chip⟩,
      ⟨15, 8, .st, 0, .chip⟩,
      ⟨16, 16, .st, 0, .chip⟩,
      ⟨17, 17, .st, 0, .chip⟩,
      ⟨18, 18, .st, 0, .chip⟩,
      ⟨19, 19, .st, 0, .chip⟩]⟩
  | .RTR_WIN_BASE => ⟨0x3f1000, 64, 0x10, 1, 0x0, [
      ⟨39, 0, .rwl, 0, .chip⟩,
      ⟨42, 40, .rwl, 0, .chip⟩,
      ⟨43, 43, .rwl, 0, .chip⟩,
      ⟨44, 44, .rwl, 0, .chip⟩,
      ⟨45, 45, .rwl, 0, .chip⟩]⟩
  | .RTR_WIN_LIM => ⟨0x3f1008, 64, 0x10, 1, 0x0, [⟨39, 0, .rwl, 0, .chip⟩]⟩
  | .BT_CTRL => ⟨0x600000, 1, 0x0, 1, 0x0, [
      ⟨0, 0, .rw, 0, .chip⟩,
      ⟨3, 1, .rw, 0, .chip⟩,
      ⟨11, 4, .rw, 0, .chip⟩,
      ⟨13, 12, .rw, 0, .chip⟩,
      ⟨31, 16, .rw, 1000, .chip⟩]⟩
  | .BT_STAT => ⟨0x600008, 1, 0x0, 1, 0x0, [
      ⟨0, 0, .ro, 0, .chip⟩,
      ⟨1, 1, .ro, 0, .chip⟩,
      ⟨2, 2, .ro, 0, .chip⟩,
      ⟨10, 3, .ro, 0, .chip⟩,
      ⟨26, 11, .ro, 0, .chip⟩]⟩
  | .BT_TIME => ⟨0x600010, 1, 0x0, 1, 0x0, [⟨63, 0, .ro, 0, .chip⟩]⟩
  | .BT_BEAT => ⟨0x600018, 1, 0x0, 1, 0x0, [⟨63, 0, .ro, 0, .chip⟩]⟩
  | .BT_PERIOD => ⟨0x600020, 1, 0x0, 1, 0x0, [
      ⟨15, 0, .ro, 8000, .chip⟩,
      ⟨31, 16, .rw, 0, .chip⟩,
      ⟨63, 32, .rw, 0, .chip⟩]⟩
  | .BT_FLIP => ⟨0x600028, 1, 0x0, 1, 0x0, [
      ⟨0, 0, .ro, 0, .chip⟩,
      ⟨1, 1, .ro, 0, .chip⟩,
      ⟨2, 2, .wo, 0, .none⟩,
      ⟨3, 3, .wo, 0, .none⟩,
      ⟨4, 4, .wo, 0, .none⟩,
      ⟨5, 5, .ro, 0, .chip⟩,
      ⟨63, 32, .rw, 0, .chip⟩]⟩
  | .BT_TBL_IDX => ⟨0x600030, 1, 0x0, 1, 0x0, [
      ⟨11, 0, .rw, 0, .chip⟩,
      ⟨13, 12, .rw, 0, .chip⟩,
      ⟨16, 14, .rw, 0, .chip⟩,
      ⟨17, 17, .rw, 0, .chip⟩,
      ⟨18, 18, .rw, 0, .chip⟩]⟩
  | .BT_TBL_DATA => ⟨0x600038, 1, 0x0, 1, 0x0, [⟨63, 0, .rw, 0, .chip⟩]⟩
  | .BT_EVT => ⟨0x600040, 1, 0x0, 1, 0x0, [
      ⟨0, 0, .st, 0, .chip⟩,
      ⟨1, 1, .st, 0, .chip⟩,
      ⟨2, 2, .st, 0, .chip⟩,
      ⟨3, 3, .st, 0, .chip⟩,
      ⟨4, 4, .st, 0, .chip⟩,
      ⟨5, 5, .st, 0, .chip⟩,
      ⟨6, 6, .st, 0, .chip⟩,
      ⟨7, 7, .st, 0, .chip⟩,
      ⟨8, 8, .st, 0, .chip⟩]⟩
  | .BT_BELL_STAT => ⟨0x600048, 1, 0x0, 1, 0x0, [
      ⟨31, 0, .ro, 0, .chip⟩,
      ⟨47, 32, .ro, 0, .chip⟩,
      ⟨63, 48, .ro, 0, .chip⟩]⟩
  | .BT_TRIM => ⟨0x600100, 8, 0x8, 1, 0x0, [⟨15, 0, .rw, 0, .chip⟩]⟩
  | .BT_PORT_STAT0 => ⟨0x600200, 8, 0x10, 1, 0x0, [⟨31, 0, .ro, 0, .chip⟩, ⟨63, 32, .ro, 0, .chip⟩]⟩
  | .BT_PORT_STAT1 => ⟨0x600208, 8, 0x10, 1, 0x0, [
      ⟨31, 0, .ro, 0, .chip⟩,
      ⟨47, 32, .ro, 0, .chip⟩,
      ⟨55, 48, .ro, 0, .chip⟩,
      ⟨63, 56, .ro, 0, .chip⟩]⟩
  | .FLD_CTRL => ⟨0x500000, 1, 0x0, 1, 0x0, [
      ⟨0, 0, .rwl, 0, .chip⟩,
      ⟨1, 1, .w1s, 0, .chip⟩,
      ⟨11, 8, .rw, 3, .chip⟩,
      ⟨31, 16, .rw, 100, .chip⟩]⟩
  | .FLD_STORE => ⟨0x500008, 1, 0x0, 1, 0x0, [⟨14, 0, .ro, 0x4000, .chip⟩, ⟨25, 16, .ro, 0, .chip⟩]⟩
  | .FLD_EVT => ⟨0x500010, 1, 0x0, 1, 0x0, [
      ⟨0, 0, .st, 0, .chip⟩,
      ⟨1, 1, .st, 0, .chip⟩,
      ⟨2, 2, .st, 0, .chip⟩,
      ⟨3, 3, .st, 0, .chip⟩,
      ⟨4, 4, .st, 0, .chip⟩]⟩
  | .FLD_FAULT_LOG => ⟨0x500018, 1, 0x0, 1, 0x0, [
      ⟨15, 0, .ro, 0, .chip⟩,
      ⟨31, 16, .ro, 0, .chip⟩,
      ⟨35, 32, .ro, 0, .chip⟩,
      ⟨51, 36, .ro, 0, .chip⟩,
      ⟨63, 63, .st, 0, .chip⟩]⟩
  | .FLD_FAULT_BEAT => ⟨0x500020, 1, 0x0, 1, 0x0, [⟨63, 0, .ro, 0, .chip⟩]⟩
  | .FLD_STAT => ⟨0x500028, 1, 0x0, 1, 0x0, [
      ⟨15, 0, .ro, 0, .chip⟩,
      ⟨31, 16, .ro, 0, .chip⟩,
      ⟨47, 32, .ro, 0, .chip⟩,
      ⟨63, 48, .ro, 0, .chip⟩]⟩
  | .FLD_WAIT => ⟨0x500030, 1, 0x0, 1, 0x0, [⟨0, 0, .ro, 0, .chip⟩, ⟨9, 1, .ro, 0, .chip⟩]⟩
  | .FLD_COLL_CFG => ⟨0x510000, 512, 0x80, 1, 0x0, [
      ⟨15, 0, .rw, 0, .chip⟩,
      ⟨27, 16, .rw, 0, .chip⟩,
      ⟨30, 28, .rw, 0, .chip⟩,
      ⟨32, 31, .rw, 0, .chip⟩,
      ⟨36, 33, .rw, 0, .chip⟩,
      ⟨40, 37, .rw, 0, .chip⟩,
      ⟨43, 41, .rw, 0, .chip⟩,
      ⟨44, 44, .rw, 0, .chip⟩,
      ⟨45, 45, .rw, 0, .chip⟩,
      ⟨48, 46, .rw, 2, .chip⟩,
      ⟨52, 49, .rw, 2, .chip⟩,
      ⟨60, 53, .rw, 0, .chip⟩,
      ⟨61, 61, .rw, 0, .chip⟩]⟩
  | .FLD_COLL_TREE => ⟨0x510008, 512, 0x80, 1, 0x0, [
      ⟨15, 0, .rw, 0, .chip⟩,
      ⟨31, 16, .rw, 0, .chip⟩,
      ⟨47, 32, .rw, 0, .chip⟩,
      ⟨50, 48, .rw, 0, .chip⟩]⟩
  | .FLD_COLL_KIDS0 => ⟨0x510010, 512, 0x80, 1, 0x0, [⟨63, 0, .rw, 0, .chip⟩]⟩
  | .FLD_COLL_KIDS1 => ⟨0x510018, 512, 0x80, 1, 0x0, [⟨47, 0, .rw, 0, .chip⟩]⟩
  | .FLD_COLL_SRC => ⟨0x510020, 512, 0x80, 1, 0x0, [⟨63, 0, .rw, 0, .chip⟩]⟩
  | .FLD_COLL_DST => ⟨0x510028, 512, 0x80, 1, 0x0, [⟨63, 0, .rw, 0, .chip⟩]⟩
  | .FLD_COLL_AUX => ⟨0x510030, 512, 0x80, 1, 0x0, [⟨63, 0, .rw, 0, .chip⟩]⟩
  | .FLD_COLL_SEED => ⟨0x510038, 512, 0x80, 1, 0x0, [⟨63, 0, .rw, 0, .chip⟩]⟩
  | .FLD_COLL_LEN => ⟨0x510040, 512, 0x80, 1, 0x0, [
      ⟨31, 0, .rw, 0, .chip⟩,
      ⟨41, 32, .rw, 0, .chip⟩,
      ⟨51, 42, .rw, 0, .chip⟩]⟩
  | .FLD_COLL_TRIG => ⟨0x510048, 512, 0x80, 1, 0x0, [⟨31, 0, .rw, 0, .chip⟩, ⟨63, 32, .rw, 0, .engine⟩]⟩
  | .FLD_COLL_CMD => ⟨0x510050, 512, 0x80, 1, 0x0, [
      ⟨0, 0, .wo, 0, .none⟩,
      ⟨1, 1, .wo, 0, .none⟩,
      ⟨2, 2, .wo, 0, .none⟩]⟩
  | .FLD_COLL_STAT => ⟨0x510058, 512, 0x80, 1, 0x0, [
      ⟨2, 0, .ro, 0, .chip⟩,
      ⟨3, 3, .ro, 0, .chip⟩,
      ⟨7, 4, .ro, 0, .chip⟩,
      ⟨22, 8, .ro, 0, .chip⟩,
      ⟨63, 32, .ro, 0, .engine⟩]⟩
  | .FLD_COLL_PACE => ⟨0x510060, 512, 0x80, 1, 0x0, [⟨15, 0, .ro, 0, .chip⟩, ⟨47, 16, .ro, 0, .chip⟩]⟩
  | .RTR_PORT_ROLE => ⟨0x300138, 8, 0x10000, 1, 0x0, [
      ⟨3, 0, .ro, 0, .chip⟩,
      ⟨7, 4, .rw, 0, .chip⟩,
      ⟨8, 8, .wo, 0, .none⟩]⟩
  | .RTR_HEFT_FAR0 => ⟨0x300140, 8, 0x10000, 1, 0x0, [⟨63, 0, .ro, 0, .chip⟩]⟩
  | .RTR_HEFT_FAR1 => ⟨0x300148, 8, 0x10000, 1, 0x0, [
      ⟨2, 0, .ro, 0, .chip⟩,
      ⟨6, 3, .ro, 0, .chip⟩,
      ⟨12, 7, .ro, 0, .chip⟩,
      ⟨28, 13, .ro, 0, .chip⟩,
      ⟨29, 29, .ro, 0, .chip⟩,
      ⟨32, 30, .ro, 0, .chip⟩,
      ⟨33, 33, .wo, 0, .none⟩,
      ⟨47, 34, .ro, 0, .chip⟩,
      ⟨63, 48, .ro, 0, .chip⟩]⟩
  | .RTR_PORT_CABLE => ⟨0x300150, 8, 0x10000, 1, 0x0, [
      ⟨0, 0, .ro, 0, .chip⟩,
      ⟨4, 1, .ro, 0, .chip⟩,
      ⟨5, 5, .ro, 0, .chip⟩,
      ⟨21, 6, .ro, 0, .chip⟩]⟩
  | .RTR_PAIR_CTRL => ⟨0x3f2000, 1, 0x0, 1, 0x0, [
      ⟨15, 0, .rw, 0, .chip⟩,
      ⟨31, 16, .rw, 0, .chip⟩,
      ⟨47, 32, .rw, 0, .chip⟩,
      ⟨49, 48, .rw, 0, .chip⟩,
      ⟨50, 50, .rw, 0, .chip⟩,
      ⟨58, 51, .rw, 16, .chip⟩]⟩
  | .RTR_PAIR_TIME => ⟨0x3f2008, 1, 0x0, 1, 0x0, [⟨23, 0, .rw, 0x4e20, .chip⟩, ⟨39, 24, .rw, 1000, .chip⟩]⟩
  | .RTR_PAIR_LEASE => ⟨0x3f2010, 1, 0x0, 1, 0x0, [
      ⟨15, 0, .ro, 0, .chip⟩,
      ⟨16, 16, .ro, 0, .chip⟩,
      ⟨17, 17, .ro, 0, .chip⟩,
      ⟨18, 18, .ro, 0, .chip⟩,
      ⟨19, 19, .ro, 0, .chip⟩]⟩
  | .RTR_PAIR_TEXP => ⟨0x3f2018, 1, 0x0, 1, 0x0, [⟨63, 0, .ro, 0, .chip⟩]⟩
  | .RTR_PAIR_HOLD => ⟨0x3f2020, 1, 0x0, 1, 0x0, [⟨39, 0, .rw, 0, .chip⟩, ⟨55, 40, .rw, 0, .chip⟩]⟩
  | .RTR_PAIR_STAT => ⟨0x3f2028, 1, 0x0, 1, 0x0, [
      ⟨16, 0, .ro, 0, .chip⟩,
      ⟨39, 32, .ro, 0, .chip⟩,
      ⟨47, 40, .ro, 0, .chip⟩,
      ⟨63, 48, .ro, 0, .chip⟩]⟩
  | .RTR_PAIR_CNT => ⟨0x3f2030, 1, 0x0, 1, 0x0, [⟨31, 0, .ro, 0, .chip⟩, ⟨47, 32, .ro, 0, .chip⟩]⟩
  | .RTR_PAIR_EVT => ⟨0x3f2038, 1, 0x0, 1, 0x0, [
      ⟨0, 0, .st, 0, .chip⟩,
      ⟨1, 1, .st, 0, .chip⟩,
      ⟨2, 2, .st, 0, .chip⟩,
      ⟨3, 3, .st, 0, .chip⟩,
      ⟨4, 4, .st, 0, .chip⟩,
      ⟨5, 5, .st, 0, .chip⟩,
      ⟨6, 6, .st, 0, .chip⟩,
      ⟨7, 7, .st, 0, .chip⟩,
      ⟨8, 8, .st, 0, .chip⟩]⟩
  | .RTR_PAIR_CLONE => ⟨0x3f2040, 1, 0x0, 1, 0x0, [
      ⟨31, 0, .rw, 0, .chip⟩,
      ⟨32, 32, .wo, 0, .none⟩,
      ⟨33, 33, .ro, 0, .chip⟩]⟩
  | .RTR_RANK_TBL => ⟨0x3f4000, 1024, 0x8, 1, 0x0, [
      ⟨15, 0, .rw, 0, .chip⟩,
      ⟨31, 16, .rw, 0, .chip⟩,
      ⟨32, 32, .rw, 0, .chip⟩]⟩
  | .MGT_WATCH_WIN0 => ⟨0x2000, 1, 0x0, 1, 0x0, [⟨23, 0, .rw, 0xf4240, .chip⟩, ⟨47, 24, .rw, 0x2710, .chip⟩]⟩
  | .MGT_WATCH_WIN1 => ⟨0x2008, 1, 0x0, 1, 0x0, [⟨23, 0, .rw, 0x1e8480, .chip⟩, ⟨47, 24, .rw, 0x2710, .chip⟩]⟩
  | .MGT_WATCH_ACT => ⟨0x2010, 1, 0x0, 1, 0x0, [
      ⟨1, 0, .rw, 3, .chip⟩,
      ⟨3, 2, .rw, 3, .chip⟩,
      ⟨5, 4, .rw, 3, .chip⟩,
      ⟨7, 6, .rw, 3, .chip⟩,
      ⟨9, 8, .rw, 1, .chip⟩,
      ⟨25, 10, .rw, 1000, .chip⟩]⟩
  | .MGT_RST_REQ => ⟨0x2018, 1, 0x0, 1, 0x0, [
      ⟨2, 0, .wo, 0, .none⟩,
      ⟨10, 3, .wo, 0, .none⟩,
      ⟨15, 11, .wo, 0, .none⟩,
      ⟨18, 16, .wo, 0, .none⟩,
      ⟨21, 19, .wo, 0, .none⟩,
      ⟨22, 22, .wo, 0, .none⟩,
      ⟨23, 23, .wo, 0, .none⟩]⟩
  | .MGT_RST_STAT => ⟨0x2020, 1, 0x0, 1, 0x0, [
      ⟨2, 0, .ro, 0, .chip⟩,
      ⟨5, 3, .ro, 0, .chip⟩,
      ⟨6, 6, .ro, 0, .chip⟩,
      ⟨7, 7, .ro, 0, .chip⟩,
      ⟨8, 8, .ro, 0, .chip⟩,
      ⟨31, 16, .ro, 0, .chip⟩]⟩
  | .MGT_RST_LOG => ⟨0x2028, 1, 0x0, 1, 0x0, [
      ⟨2, 0, .ro, 0, .chip⟩,
      ⟨6, 3, .ro, 0, .chip⟩,
      ⟨7, 7, .ro, 0, .chip⟩,
      ⟨10, 8, .ro, 0, .chip⟩,
      ⟨18, 11, .ro, 0, .chip⟩,
      ⟨23, 19, .ro, 0, .chip⟩,
      ⟨26, 24, .ro, 0, .chip⟩,
      ⟨30, 27, .ro, 0, .chip⟩,
      ⟨55, 32, .ro, 0, .chip⟩,
      ⟨63, 63, .st, 0, .chip⟩]⟩
  | .MGT_RST_EVT => ⟨0x2030, 1, 0x0, 1, 0x0, [
      ⟨0, 0, .st, 0, .chip⟩,
      ⟨1, 1, .st, 0, .chip⟩,
      ⟨2, 2, .st, 0, .chip⟩,
      ⟨3, 3, .st, 0, .chip⟩,
      ⟨4, 4, .st, 0, .chip⟩,
      ⟨5, 5, .st, 0, .chip⟩,
      ⟨6, 6, .st, 0, .chip⟩,
      ⟨7, 7, .st, 0, .chip⟩,
      ⟨8, 8, .st, 0, .chip⟩]⟩
  | .MGT_PEER_LOG => ⟨0x2038, 1, 0x0, 1, 0x0, [
      ⟨2, 0, .ro, 0, .chip⟩,
      ⟨5, 3, .ro, 0, .chip⟩,
      ⟨17, 6, .ro, 0, .chip⟩,
      ⟨33, 18, .ro, 0, .chip⟩,
      ⟨49, 34, .ro, 0, .chip⟩,
      ⟨63, 63, .st, 0, .chip⟩]⟩
  | .MGT_PEER_STAT => ⟨0x2040, 1, 0x0, 1, 0x0, [
      ⟨15, 0, .ro, 0, .chip⟩,
      ⟨31, 16, .ro, 0, .chip⟩,
      ⟨47, 32, .ro, 0, .chip⟩,
      ⟨63, 48, .ro, 0, .chip⟩]⟩
  | .FWU_DUMP_CTRL => ⟨0x3c10000, 1, 0x0, 1, 0x0, [
      ⟨0, 0, .rw, 1, .chip⟩,
      ⟨1, 1, .rw, 1, .chip⟩,
      ⟨14, 2, .rw, 4096, .chip⟩,
      ⟨15, 15, .wo, 0, .none⟩,
      ⟨16, 16, .wo, 0, .none⟩]⟩
  | .FWU_DUMP_STAT => ⟨0x3c10008, 1, 0x0, 1, 0x0, [
      ⟨0, 0, .ro, 0, .chip⟩,
      ⟨1, 1, .ro, 0, .chip⟩,
      ⟨2, 2, .ro, 0, .chip⟩,
      ⟨3, 3, .ro, 0, .chip⟩,
      ⟨23, 4, .ro, 0, .chip⟩,
      ⟨39, 24, .ro, 0, .chip⟩,
      ⟨55, 40, .ro, 0, .chip⟩,
      ⟨63, 56, .ro, 0, .chip⟩]⟩
  | .FWU_DUMP_PTR => ⟨0x3c10010, 1, 0x0, 1, 0x0, [⟨22, 0, .rw, 0, .chip⟩]⟩
  | .FWU_DUMP_DATA => ⟨0x3c10018, 1, 0x0, 1, 0x0, [⟨63, 0, .ro, 0, .none⟩]⟩
  | .FUS_STAT => ⟨0x3800000, 1, 0x0, 1, 0x0, [
      ⟨0, 0, .ro, 0, .chip⟩,
      ⟨1, 1, .ro, 0, .none⟩,
      ⟨9, 2, .ro, 0, .chip⟩]⟩
  | .FUS_SI_STAT => ⟨0x3800008, 1, 0x0, 1, 0x0, [
      ⟨1, 0, .ro, 0, .chip⟩,
      ⟨2, 2, .ro, 0, .chip⟩,
      ⟨3, 3, .ro, 0, .chip⟩,
      ⟨6, 4, .ro, 0, .chip⟩,
      ⟨9, 7, .ro, 0, .chip⟩,
      ⟨10, 10, .ro, 0, .chip⟩,
      ⟨63, 32, .ro, 0, .chip⟩]⟩
  | .FUS_SI_CTRL => ⟨0x3800010, 1, 0x0, 1, 0x0, [⟨0, 0, .wo, 0, .none⟩]⟩
  | .FUS_EVT => ⟨0x3800018, 1, 0x0, 1, 0x0, [
      ⟨0, 0, .st, 0, .chip⟩,
      ⟨1, 1, .st, 0, .chip⟩,
      ⟨2, 2, .st, 0, .chip⟩,
      ⟨3, 3, .st, 0, .chip⟩,
      ⟨4, 4, .st, 0, .chip⟩,
      ⟨5, 5, .st, 0, .chip⟩]⟩
  | .FUS_SOFT_CTRL => ⟨0x3800020, 1, 0x0, 1, 0x0, [
      ⟨1, 0, .wo, 0, .none⟩,
      ⟨9, 2, .wo, 0, .none⟩,
      ⟨10, 10, .wo, 0, .none⟩,
      ⟨11, 11, .wo, 0, .none⟩]⟩
  | .FUS_FP_TILE => ⟨0x3801000, 144, 0x8, 1, 0x0, [
      ⟨0, 0, .ro, 0, .powerCycle⟩,
      ⟨1, 1, .ro, 0, .chip⟩,
      ⟨6, 2, .ro, 0, .chip⟩,
      ⟨7, 7, .ro, 0, .chip⟩,
      ⟨8, 8, .ro, 0, .chip⟩,
      ⟨9, 9, .ro, 0, .chip⟩,
      ⟨10, 10, .ro, 0, .chip⟩,
      ⟨18, 11, .ro, 0, .powerCycle⟩,
      ⟨26, 19, .ro, 0, .chip⟩]⟩
  | .FUS_FP_UNIT => ⟨0x3802000, 24, 0x8, 1, 0x0, [
      ⟨0, 0, .ro, 0, .powerCycle⟩,
      ⟨1, 1, .ro, 0, .chip⟩,
      ⟨2, 2, .ro, 0, .chip⟩,
      ⟨3, 3, .ro, 0, .chip⟩,
      ⟨4, 4, .ro, 0, .chip⟩]⟩
  | .FUS_MUSTER_RX_CFG => ⟨0x3803000, 8, 0x20, 1, 0x0, [
      ⟨15, 0, .rw, 0, .chip⟩,
      ⟨31, 16, .rw, 0, .chip⟩,
      ⟨47, 32, .rw, 0, .chip⟩,
      ⟨48, 48, .rw, 0, .chip⟩,
      ⟨49, 49, .rw, 0, .chip⟩]⟩
  | .FUS_MUSTER_RX_BASE => ⟨0x3803008, 8, 0x20, 1, 0x0, [⟨39, 0, .rw, 0, .chip⟩]⟩
  | .FUS_MUSTER_RX_STAT => ⟨0x3803010, 8, 0x20, 1, 0x0, [
      ⟨16, 0, .ro, 0, .chip⟩,
      ⟨17, 17, .ro, 0, .chip⟩,
      ⟨18, 18, .ro, 0, .chip⟩,
      ⟨19, 19, .ro, 0, .chip⟩,
      ⟨47, 32, .ro, 0, .chip⟩]⟩
  | .FUS_MUSTER_TX_CFG => ⟨0x3803200, 1, 0x0, 1, 0x0, [
      ⟨15, 0, .rw, 0, .chip⟩,
      ⟨31, 16, .rw, 0, .chip⟩,
      ⟨43, 32, .rw, 0, .chip⟩,
      ⟨59, 44, .rw, 1000, .chip⟩,
      ⟨60, 60, .wo, 0, .none⟩]⟩
  | .FUS_MUSTER_TX_SRC => ⟨0x3803208, 1, 0x0, 1, 0x0, [⟨63, 0, .rw, 0, .chip⟩]⟩
  | .FUS_MUSTER_TX_LIST => ⟨0x3803210, 1, 0x0, 1, 0x0, [⟨47, 0, .rw, 0, .chip⟩, ⟨63, 48, .rw, 0, .chip⟩]⟩
  | .FUS_MUSTER_TX_STAT => ⟨0x3803218, 1, 0x0, 1, 0x0, [
      ⟨2, 0, .ro, 0, .chip⟩,
      ⟨3, 3, .ro, 0, .chip⟩,
      ⟨19, 4, .ro, 0, .chip⟩,
      ⟨35, 20, .ro, 0, .chip⟩]⟩
  | .PWR_CTRL => ⟨0x100000, 1, 0x0, 1, 0x0, [
      ⟨1, 0, .rw, 0, .chip⟩,
      ⟨2, 2, .wo, 0, .none⟩,
      ⟨3, 3, .wo, 0, .none⟩,
      ⟨4, 4, .w1s, 0, .chip⟩]⟩
  | .PWR_CAP => ⟨0x100008, 1, 0x0, 1, 0x0, [
      ⟨11, 0, .rw, 0, .chip⟩,
      ⟨23, 12, .rw, 0, .chip⟩,
      ⟨24, 24, .st, 0, .chip⟩,
      ⟨43, 32, .ro, 0, .chip⟩]⟩
  | .PWR_FT_CFG => ⟨0x100010, 1, 0x0, 1, 0x0, [
      ⟨6, 0, .rw, 50, .chip⟩,
      ⟨23, 8, .rw, 1000, .chip⟩,
      ⟨39, 24, .rw, 100, .chip⟩]⟩
  | .PWR_STAT => ⟨0x100018, 1, 0x0, 1, 0x0, [
      ⟨2, 0, .ro, 0, .chip⟩,
      ⟨9, 3, .ro, 0, .chip⟩,
      ⟨10, 10, .ro, 0, .chip⟩,
      ⟨11, 11, .ro, 0, .chip⟩,
      ⟨16, 12, .ro, 0, .chip⟩]⟩
  | .PWR_TELEM => ⟨0x100020, 1, 0x0, 1, 0x0, [
      ⟨15, 0, .ro, 0, .chip⟩,
      ⟨31, 16, .ro, 0, .chip⟩,
      ⟨47, 32, .ro, 0, .chip⟩,
      ⟨63, 48, .ro, 0, .chip⟩]⟩
  | .PWR_THERM => ⟨0x100028, 1, 0x0, 1, 0x0, [
      ⟨6, 0, .rw, 95, .chip⟩,
      ⟨14, 7, .ro, 0, .chip⟩,
      ⟨22, 15, .ro, 0, .chip⟩,
      ⟨30, 23, .ro, 0, .chip⟩,
      ⟨39, 32, .ro, 95, .powerCycle⟩,
      ⟨47, 40, .ro, 105, .powerCycle⟩,
      ⟨55, 48, .ro, 115, .powerCycle⟩]⟩
  | .PWR_COOL => ⟨0x100030, 1, 0x0, 1, 0x0, [
      ⟨11, 0, .rw, 180, .chip⟩,
      ⟨21, 12, .rw, 450, .chip⟩,
      ⟨47, 32, .ro, 0xffff, .chip⟩,
      ⟨63, 48, .ro, 0, .chip⟩]⟩
  | .PWR_FOLLOW => ⟨0x100038, 1, 0x0, 1, 0x0, [⟨7, 0, .rw, 48, .chip⟩, ⟨23, 8, .rw, 500, .chip⟩]⟩
  | .PWR_PACE => ⟨0x100040, 1, 0x0, 1, 0x0, [
      ⟨9, 0, .ro, 0, .chip⟩,
      ⟨15, 10, .rw, 16, .chip⟩,
      ⟨31, 16, .ro, 0, .chip⟩,
      ⟨32, 32, .ro, 0, .chip⟩,
      ⟨39, 33, .ro, 0, .chip⟩,
      ⟨63, 40, .ro, 0, .chip⟩]⟩
  | .PWR_EVT => ⟨0x100048, 1, 0x0, 1, 0x0, [
      ⟨0, 0, .st, 0, .chip⟩,
      ⟨1, 1, .st, 0, .chip⟩,
      ⟨2, 2, .st, 0, .chip⟩,
      ⟨3, 3, .st, 0, .chip⟩,
      ⟨4, 4, .st, 0, .chip⟩,
      ⟨5, 5, .st, 0, .chip⟩,
      ⟨6, 6, .st, 0, .chip⟩,
      ⟨7, 7, .st, 0, .chip⟩,
      ⟨8, 8, .st, 0, .chip⟩,
      ⟨9, 9, .st, 0, .chip⟩,
      ⟨10, 10, .st, 0, .chip⟩]⟩
  | .PWR_FAB => ⟨0x100050, 1, 0x0, 1, 0x0, [⟨63, 0, .ro, 0, .chip⟩]⟩
  | .PWR_TILE => ⟨0x101000, 144, 0x8, 1, 0x0, [
      ⟨7, 0, .rwl, 0, .chip⟩,
      ⟨15, 8, .ro, 0, .chip⟩,
      ⟨23, 16, .ro, 0, .chip⟩,
      ⟨30, 24, .ro, 64, .chip⟩,
      ⟨38, 31, .ro, 0, .chip⟩,
      ⟨39, 39, .ro, 0, .chip⟩,
      ⟨40, 40, .ro, 0, .chip⟩,
      ⟨56, 41, .ro, 0, .chip⟩]⟩
  | .MGT_LMON_CFG => ⟨0x3000, 16, 0x100, 1, 0x0, [
      ⟨3, 0, .rw, 0, .engine⟩,
      ⟨19, 4, .rw, 0, .engine⟩,
      ⟨20, 20, .rw, 0, .engine⟩,
      ⟨25, 21, .rw, 0, .engine⟩,
      ⟨26, 26, .rw, 0, .engine⟩,
      ⟨27, 27, .wo, 0, .none⟩,
      ⟨47, 28, .rw, 1000, .engine⟩,
      ⟨63, 48, .rw, 0, .engine⟩]⟩
  | .MGT_LMON_ALARM => ⟨0x3008, 16, 0x100, 1, 0x0, [⟨31, 0, .rw, 0, .engine⟩, ⟨32, 32, .rw, 0, .engine⟩]⟩
  | .MGT_LMON_STAT => ⟨0x3010, 16, 0x100, 1, 0x0, [
      ⟨23, 0, .ro, 0xffffff, .engine⟩,
      ⟨47, 24, .ro, 0, .engine⟩,
      ⟨48, 48, .st, 0, .engine⟩]⟩
  | .MGT_LMON_HIST => ⟨0x3080, 16, 0x100, 16, 0x8, [⟨31, 0, .ro, 0, .engine⟩, ⟨63, 32, .ro, 0, .engine⟩]⟩
  | .CIC_CTRL => ⟨0x200000, 1, 0x0, 1, 0x0, [⟨2, 0, .rw, 0, .chip⟩, ⟨3, 3, .rw, 0, .chip⟩]⟩
  | .CIC_EVT => ⟨0x200008, 1, 0x0, 1, 0x0, [⟨0, 0, .st, 0, .chip⟩, ⟨1, 1, .st, 0, .chip⟩]⟩
  | .CIC_HOST_EOI => ⟨0x200010, 1, 0x0, 1, 0x0, [⟨9, 0, .wo, 0, .none⟩]⟩
  | .CIC_LEVEL => ⟨0x200100, 16, 0x8, 1, 0x0, [⟨63, 0, .ro, 0, .chip⟩]⟩
  | .CIC_PEND => ⟨0x200200, 16, 0x8, 1, 0x0, [⟨63, 0, .ro, 0, .chip⟩]⟩
  | .CIC_INSVC => ⟨0x200300, 16, 0x8, 1, 0x0, [⟨63, 0, .ro, 0, .chip⟩]⟩
  | .CIC_HOLD => ⟨0x200400, 32, 0x8, 1, 0x0, [⟨15, 0, .rw, 0, .chip⟩, ⟨16, 16, .ro, 0, .none⟩]⟩
  | .CIC_VBASE => ⟨0x200800, 4, 0x20, 1, 0x0, [⟨63, 16, .rw, 0, .chip⟩]⟩
  | .CIC_EOI => ⟨0x200808, 4, 0x20, 1, 0x0, [⟨9, 0, .wo, 0, .none⟩]⟩
  | .CIC_CUR => ⟨0x200810, 4, 0x20, 1, 0x0, [
      ⟨9, 0, .ro, 0, .chip⟩,
      ⟨13, 10, .ro, 0, .chip⟩,
      ⟨22, 14, .ro, 511, .chip⟩]⟩
  | .CIC_SRC => ⟨0x201000, 1024, 0x8, 1, 0x0, [
      ⟨0, 0, .rw, 0, .chip⟩,
      ⟨8, 1, .rw, 0, .chip⟩,
      ⟨10, 9, .rw, 0, .chip⟩,
      ⟨11, 11, .rw, 0, .chip⟩,
      ⟨16, 12, .rw, 0, .chip⟩,
      ⟨21, 17, .rw, 0, .chip⟩]⟩
  | .CIC_MSIX_ADDR => ⟨0x208000, 32, 0x10, 1, 0x0, [⟨63, 0, .rw, 0, .chip⟩]⟩
  | .CIC_MSIX_DATA => ⟨0x208008, 32, 0x10, 1, 0x0, [⟨31, 0, .rw, 0, .chip⟩, ⟨32, 32, .rw, 1, .chip⟩]⟩
  | .CIC_MSIX_PBA => ⟨0x208800, 1, 0x0, 1, 0x0, [⟨63, 0, .ro, 0, .chip⟩]⟩
  | .MGT_SERIAL => ⟨0x0, 1, 0x0, 1, 0x0, [⟨63, 0, .ro, 0, .powerCycle⟩]⟩
  | .MGT_ROT_STAT => ⟨0x8, 1, 0x0, 1, 0x0, [
      ⟨6, 0, .ro, 0, .powerCycle⟩,
      ⟨11, 8, .ro, 0, .powerCycle⟩,
      ⟨12, 12, .ro, 0, .chip⟩,
      ⟨13, 13, .ro, 0, .chip⟩]⟩
  | .MGT_EVT_BADACC => ⟨0x10, 1, 0x0, 1, 0x0, [
      ⟨25, 0, .ro, 0, .chip⟩,
      ⟨26, 26, .ro, 0, .chip⟩,
      ⟨27, 27, .ro, 0, .chip⟩,
      ⟨31, 28, .ro, 0, .chip⟩,
      ⟨63, 63, .st, 0, .chip⟩]⟩
  | .MGT_MCTP_STAT => ⟨0x18, 1, 0x0, 1, 0x0, [⟨15, 0, .ro, 0, .chip⟩, ⟨31, 16, .ro, 0, .chip⟩]⟩
  | .MGT_PINS => ⟨0x20, 1, 0x0, 1, 0x0, [
      ⟨0, 0, .ro, 0, .chip⟩,
      ⟨1, 1, .ro, 0, .chip⟩,
      ⟨2, 2, .ro, 0, .chip⟩,
      ⟨3, 3, .ro, 0, .chip⟩,
      ⟨4, 4, .ro, 0, .chip⟩,
      ⟨10, 5, .ro, 0, .chip⟩,
      ⟨15, 12, .ro, 0, .chip⟩]⟩
  | .FWU_STAT => ⟨0x3c00000, 1, 0x0, 1, 0x0, [
      ⟨2, 0, .ro, 0, .chip⟩,
      ⟨5, 3, .ro, 0, .chip⟩,
      ⟨6, 6, .ro, 0, .chip⟩,
      ⟨7, 7, .w1s, 0, .none⟩,
      ⟨23, 8, .ro, 0, .chip⟩,
      ⟨31, 24, .ro, 0, .chip⟩]⟩
  | .FWU_ACT => ⟨0x3c00008, 1, 0x0, 1, 0x0, [⟨7, 0, .rw, 255, .chip⟩, ⟨15, 8, .rw, 100, .chip⟩]⟩
  | .FWU_EVT => ⟨0x3c00010, 1, 0x0, 1, 0x0, [
      ⟨0, 0, .st, 0, .chip⟩,
      ⟨1, 1, .st, 0, .chip⟩,
      ⟨2, 2, .st, 0, .chip⟩,
      ⟨3, 3, .st, 0, .chip⟩,
      ⟨4, 4, .st, 0, .chip⟩]⟩
  | .FWU_MEAS_EXT => ⟨0x3c00018, 1, 0x0, 1, 0x0, [⟨63, 0, .wo, 0, .none⟩]⟩
  | .FWU_SLOT => ⟨0x3c00100, 3, 0x10, 2, 0x8, [
      ⟨0, 0, .ro, 0, .chip⟩,
      ⟨1, 1, .ro, 0, .chip⟩,
      ⟨8, 2, .ro, 0, .chip⟩,
      ⟨31, 9, .ro, 0, .chip⟩,
      ⟨63, 32, .ro, 0, .chip⟩]⟩

end Sys2Proof.Machine
end

