-- ==== Sys2Proof/Machine/RegBlocks.lean ====
section
/-! DEFINITION. The registers of each block of R29, for decoding a BAR0 offset. -/
namespace Sys2Proof.Machine

def regsOfMgt : List RegId :=
  [.MGT_CAP_ID, .MGT_CAP_COMPUTE, .MGT_CAP_MEMORY, .MGT_CAP_FABRIC, .MGT_CAP_FORMATS, .MGT_CAP_POWER,
   .MGT_CAP_FOLD, .MGT_CAP_RSVD, .MGT_WATCH_WIN0, .MGT_WATCH_WIN1, .MGT_WATCH_ACT, .MGT_RST_REQ,
   .MGT_RST_STAT, .MGT_RST_LOG, .MGT_RST_EVT, .MGT_PEER_LOG, .MGT_PEER_STAT, .MGT_LMON_CFG, .MGT_LMON_ALARM,
   .MGT_LMON_STAT, .MGT_LMON_HIST, .MGT_SERIAL, .MGT_ROT_STAT, .MGT_EVT_BADACC, .MGT_MCTP_STAT, .MGT_PINS]

def regsOfGi : List RegId :=
  [.GI_CTRL, .GI_EVT, .GI_PAD_CFG, .GI_PAD_WATER, .GI_PAD_OCC, .GI_PAD_RATE, .GI_PAD_COUNT, .GI_PAD_REFUSE,
   .GI_PAD_DOM, .GI_PAD_TAG, .GI_PAD_TAGPTR, .GI_CD_LASTERR, .GI_FH_STAT, .GI_FH_CTRL, .GI_CD_EVT, .GI_CD]

def regsOfTile : List RegId :=
  [.TL_STATUS, .TL_CMD, .TL_EVT, .TL_NAK_LAST, .TL_ECC, .TL_FAULT, .TL_FAULT_PC, .TL_FAULT_ADDR,
   .TL_SEQ_EVEC, .TL_TALLY_CYC, .TL_TAG_CTRL, .TL_TAG_STAT, .TIC_LEVEL, .TIC_ENABLE, .TIC_PEND, .TIC_INSVC,
   .TIC_ACK, .TIC_EOI, .TIC_CHIP, .TL_LMON_CFG, .TL_LMON_ALARM, .TL_LMON_STAT, .TL_SLOT_STATE,
   .TL_SLOT_CNT_LO, .TL_SLOT_CNT_HI, .TL_SLOT_POOL, .TL_SLOT_STAMP, .TL_SLOT_INFO, .TL_DMA_STAT, .TIC_HOLD,
   .TL_TALLY_CNT, .TL_TALLY_CFG, .TL_LMON_HIST]

def regsOfHbm : List RegId :=
  [.HBM_STAT, .HBM_ECC, .HBM_UE_LOG, .HBM_EVT, .HBM_SCRUB, .HBM_TEMP, .HBM_LMON_CFG, .HBM_LMON_ALARM,
   .HBM_LMON_STAT, .HBM_LMON_HIST, .HBM_ILV_CTRL, .HBM_RRB_CTRL, .HBM_ILV_ENT]

def regsOfLn : List RegId :=
  [.LN_CTRL, .LN_STAT, .LN_TAPS, .LN_FOM, .LN_ERR]

def regsOfRtr : List RegId :=
  [.RTR_LINK_CTRL, .RTR_LINK_STAT, .RTR_LINK_PWR, .RTR_LINK_REPLAY, .RTR_LINK_EVT, .RTR_LINK_MAP,
   .RTR_PORT_CFG, .RTR_PORT_SHARE, .RTR_PORT_EVT, .RTR_PORT_STAT, .RTR_VC_CFG, .RTR_VC_PKTS, .RTR_VC_BYTES,
   .RTR_VC_DEPTH, .RTR_VC_STALL, .RTR_VC_CREDIT, .RTR_CTRL, .RTR_TBL_CTRL, .RTR_TBL_IDX, .RTR_TBL_DATA,
   .RTR_RAD_CTRL, .RTR_EVT, .RTR_NODE_ID, .RTR_HEFT_CTRL, .RTR_HEFT_EVT, .RTR_WIN_BASE, .RTR_WIN_LIM,
   .RTR_PORT_ROLE, .RTR_HEFT_FAR0, .RTR_HEFT_FAR1, .RTR_PORT_CABLE, .RTR_PAIR_CTRL, .RTR_PAIR_TIME,
   .RTR_PAIR_LEASE, .RTR_PAIR_TEXP, .RTR_PAIR_HOLD, .RTR_PAIR_STAT, .RTR_PAIR_CNT, .RTR_PAIR_EVT,
   .RTR_PAIR_CLONE, .RTR_RANK_TBL]

def regsOfBt : List RegId :=
  [.BT_CTRL, .BT_STAT, .BT_TIME, .BT_BEAT, .BT_PERIOD, .BT_FLIP, .BT_TBL_IDX, .BT_TBL_DATA, .BT_EVT,
   .BT_BELL_STAT, .BT_TRIM, .BT_PORT_STAT0, .BT_PORT_STAT1]

def regsOfFld : List RegId :=
  [.FLD_CTRL, .FLD_STORE, .FLD_EVT, .FLD_FAULT_LOG, .FLD_FAULT_BEAT, .FLD_STAT, .FLD_WAIT, .FLD_COLL_CFG,
   .FLD_COLL_TREE, .FLD_COLL_KIDS0, .FLD_COLL_KIDS1, .FLD_COLL_SRC, .FLD_COLL_DST, .FLD_COLL_AUX,
   .FLD_COLL_SEED, .FLD_COLL_LEN, .FLD_COLL_TRIG, .FLD_COLL_CMD, .FLD_COLL_STAT, .FLD_COLL_PACE]

def regsOfFwu : List RegId :=
  [.FWU_DUMP_CTRL, .FWU_DUMP_STAT, .FWU_DUMP_PTR, .FWU_DUMP_DATA, .FWU_STAT, .FWU_ACT, .FWU_EVT,
   .FWU_MEAS_EXT, .FWU_SLOT]

def regsOfFus : List RegId :=
  [.FUS_STAT, .FUS_SI_STAT, .FUS_SI_CTRL, .FUS_EVT, .FUS_SOFT_CTRL, .FUS_FP_TILE, .FUS_FP_UNIT,
   .FUS_MUSTER_RX_CFG, .FUS_MUSTER_RX_BASE, .FUS_MUSTER_RX_STAT, .FUS_MUSTER_TX_CFG, .FUS_MUSTER_TX_SRC,
   .FUS_MUSTER_TX_LIST, .FUS_MUSTER_TX_STAT]

def regsOfPwr : List RegId :=
  [.PWR_CTRL, .PWR_CAP, .PWR_FT_CFG, .PWR_STAT, .PWR_TELEM, .PWR_THERM, .PWR_COOL, .PWR_FOLLOW, .PWR_PACE,
   .PWR_EVT, .PWR_FAB, .PWR_TILE]

def regsOfCic : List RegId :=
  [.CIC_CTRL, .CIC_EVT, .CIC_HOST_EOI, .CIC_LEVEL, .CIC_PEND, .CIC_INSVC, .CIC_HOLD, .CIC_VBASE, .CIC_EOI,
   .CIC_CUR, .CIC_SRC, .CIC_MSIX_ADDR, .CIC_MSIX_DATA, .CIC_MSIX_PBA]

/-- The block that an offset of BAR0 falls in (R29); the reserved ranges have none. -/
def regsOfOffset (off : Nat) : List RegId :=
  if off < 0x100000 then regsOfMgt
  else if off < 0x200000 then regsOfPwr
  else if off < 0x300000 then regsOfCic
  else if off < 0x400000 then regsOfRtr
  else if off < 0x500000 then regsOfLn
  else if off < 0x600000 then regsOfFld
  else if off < 0x700000 then regsOfBt
  else if off < 0x800000 then regsOfGi
  else if off < 0x1000000 then regsOfHbm
  else if off < 0x3400000 then regsOfTile
  else if off < 0x3800000 then []
  else if off < 0x3C00000 then regsOfFus
  else if off < 0x4000000 then regsOfFwu
  else []

/-- The copy `(i, j)` of register `r` that lies at `off`, if one does. -/
def RegId.locate (r : RegId) (off : Nat) : Option (Nat × Nat) :=
  let d := r.desc
  if off < d.base then none
  else
    let o := off - d.base
    let i := if d.s1 = 0 then 0 else o / d.s1
    let o' := if d.s1 = 0 then o else o % d.s1
    let j := if d.s2 = 0 then 0 else o' / d.s2
    let z := if d.s2 = 0 then o' else o' % d.s2
    if z = 0 ∧ i < d.n1 ∧ j < d.n2 then some (i, j) else none

/-- The first register of a list that has a copy at `off`. -/
def locateIn (off : Nat) : List RegId → Option (RegId × Nat × Nat)
  | [] => none
  | r :: rs =>
    match r.locate off with
    | some (i, j) => some (r, i, j)
    | none => locateIn off rs

/-- The offset of copy `(i, j)` of a register. -/
def RegId.offset (r : RegId) (i j : Nat) : Nat :=
  r.desc.base + i * r.desc.s1 + j * r.desc.s2

end Sys2Proof.Machine
end

