-- ==== Sys2Proof/Machine/RegFields.lean ====
section
/-! DEFINITION. The fields of the register tables by name, REGISTER_field as the spec writes REGISTER.field. -/
namespace Sys2Proof.Machine

-- MGT_CAP_ID (R35)
def MGT_CAP_ID_version : Fld := ⟨.MGT_CAP_ID, 15, 0⟩
def MGT_CAP_ID_variant : Fld := ⟨.MGT_CAP_ID, 23, 16⟩
def MGT_CAP_ID_stepping : Fld := ⟨.MGT_CAP_ID, 31, 24⟩
def MGT_CAP_ID_valid : Fld := ⟨.MGT_CAP_ID, 32, 32⟩
def MGT_CAP_ID_below_grade : Fld := ⟨.MGT_CAP_ID, 33, 33⟩
-- MGT_CAP_COMPUTE (R37)
def MGT_CAP_COMPUTE_tiles_phys : Fld := ⟨.MGT_CAP_COMPUTE, 7, 0⟩
def MGT_CAP_COMPUTE_tiles_grade : Fld := ⟨.MGT_CAP_COMPUTE, 15, 8⟩
def MGT_CAP_COMPUTE_tiles_usable : Fld := ⟨.MGT_CAP_COMPUTE, 23, 16⟩
def MGT_CAP_COMPUTE_clusters_phys : Fld := ⟨.MGT_CAP_COMPUTE, 31, 24⟩
def MGT_CAP_COMPUTE_tiles_per_cluster : Fld := ⟨.MGT_CAP_COMPUTE, 39, 32⟩
def MGT_CAP_COMPUTE_slots_per_tile : Fld := ⟨.MGT_CAP_COMPUTE, 47, 40⟩
def MGT_CAP_COMPUTE_contexts : Fld := ⟨.MGT_CAP_COMPUTE, 63, 48⟩
-- MGT_CAP_MEMORY (R38)
def MGT_CAP_MEMORY_stacks_phys : Fld := ⟨.MGT_CAP_MEMORY, 7, 0⟩
def MGT_CAP_MEMORY_stacks_enabled : Fld := ⟨.MGT_CAP_MEMORY, 15, 8⟩
def MGT_CAP_MEMORY_hbm_gib : Fld := ⟨.MGT_CAP_MEMORY, 31, 16⟩
def MGT_CAP_MEMORY_spad_mib : Fld := ⟨.MGT_CAP_MEMORY, 39, 32⟩
def MGT_CAP_MEMORY_dcache_kib : Fld := ⟨.MGT_CAP_MEMORY, 55, 40⟩
def MGT_CAP_MEMORY_icache_kib : Fld := ⟨.MGT_CAP_MEMORY, 63, 56⟩
-- MGT_CAP_FABRIC (R39)
def MGT_CAP_FABRIC_ports : Fld := ⟨.MGT_CAP_FABRIC, 3, 0⟩
def MGT_CAP_FABRIC_lanes_per_port : Fld := ⟨.MGT_CAP_FABRIC, 7, 4⟩
def MGT_CAP_FABRIC_completion_domains : Fld := ⟨.MGT_CAP_FABRIC, 23, 8⟩
def MGT_CAP_FABRIC_paddocks_max : Fld := ⟨.MGT_CAP_FABRIC, 31, 24⟩
def MGT_CAP_FABRIC_circuit_ids : Fld := ⟨.MGT_CAP_FABRIC, 47, 32⟩
def MGT_CAP_FABRIC_nodes_max_m1 : Fld := ⟨.MGT_CAP_FABRIC, 63, 48⟩
-- MGT_CAP_FORMATS (R40)
def MGT_CAP_FORMATS_formats : Fld := ⟨.MGT_CAP_FORMATS, 11, 0⟩
def MGT_CAP_FORMATS_mx_scaling : Fld := ⟨.MGT_CAP_FORMATS, 12, 12⟩
def MGT_CAP_FORMATS_mode_two_class : Fld := ⟨.MGT_CAP_FORMATS, 13, 13⟩
def MGT_CAP_FORMATS_mode_bulk : Fld := ⟨.MGT_CAP_FORMATS, 14, 14⟩
-- MGT_CAP_POWER (R41)
def MGT_CAP_POWER_sustained_w : Fld := ⟨.MGT_CAP_POWER, 15, 0⟩
def MGT_CAP_POWER_burst_w : Fld := ⟨.MGT_CAP_POWER, 31, 16⟩
def MGT_CAP_POWER_f_nominal : Fld := ⟨.MGT_CAP_POWER, 39, 32⟩
def MGT_CAP_POWER_f_min : Fld := ⟨.MGT_CAP_POWER, 47, 40⟩
def MGT_CAP_POWER_f_max : Fld := ⟨.MGT_CAP_POWER, 55, 48⟩
-- MGT_CAP_FOLD (R42)
def MGT_CAP_FOLD_fold_units : Fld := ⟨.MGT_CAP_FOLD, 7, 0⟩
def MGT_CAP_FOLD_fold_store_kib : Fld := ⟨.MGT_CAP_FOLD, 23, 8⟩
def MGT_CAP_FOLD_fold_streams : Fld := ⟨.MGT_CAP_FOLD, 39, 24⟩
-- MGT_CAP_RSVD (R34)
-- GI_CTRL (R73)
def GI_CTRL_enable : Fld := ⟨.GI_CTRL, 0, 0⟩
def GI_CTRL_lock : Fld := ⟨.GI_CTRL, 1, 1⟩
def GI_CTRL_grant_timeout_us : Fld := ⟨.GI_CTRL, 31, 16⟩
def GI_CTRL_early_timeout_ms : Fld := ⟨.GI_CTRL, 41, 32⟩
-- GI_EVT (R74)
def GI_EVT_saturated : Fld := ⟨.GI_EVT, 7, 0⟩
def GI_EVT_refused : Fld := ⟨.GI_EVT, 15, 8⟩
def GI_EVT_grant_expired : Fld := ⟨.GI_EVT, 23, 16⟩
def GI_EVT_request_retry : Fld := ⟨.GI_EVT, 31, 24⟩
def GI_EVT_bad_config : Fld := ⟨.GI_EVT, 32, 32⟩
-- GI_PAD_CFG (R75)
def GI_PAD_CFG_partition : Fld := ⟨.GI_PAD_CFG, 11, 0⟩
def GI_PAD_CFG_clusters : Fld := ⟨.GI_PAD_CFG, 29, 12⟩
def GI_PAD_CFG_valid : Fld := ⟨.GI_PAD_CFG, 30, 30⟩
def GI_PAD_CFG_run : Fld := ⟨.GI_PAD_CFG, 31, 31⟩
def GI_PAD_CFG_tally_user : Fld := ⟨.GI_PAD_CFG, 32, 32⟩
-- GI_PAD_WATER (R76)
def GI_PAD_WATER_high_units : Fld := ⟨.GI_PAD_WATER, 12, 0⟩
def GI_PAD_WATER_low_units : Fld := ⟨.GI_PAD_WATER, 28, 16⟩
def GI_PAD_WATER_holdoff_us : Fld := ⟨.GI_PAD_WATER, 47, 32⟩
-- GI_PAD_OCC (R77)
def GI_PAD_OCC_units_used : Fld := ⟨.GI_PAD_OCC, 12, 0⟩
def GI_PAD_OCC_units_granted : Fld := ⟨.GI_PAD_OCC, 28, 16⟩
def GI_PAD_OCC_requests_waiting : Fld := ⟨.GI_PAD_OCC, 42, 32⟩
def GI_PAD_OCC_saturated : Fld := ⟨.GI_PAD_OCC, 48, 48⟩
-- GI_PAD_RATE (R77)
def GI_PAD_RATE_rate_mbs : Fld := ⟨.GI_PAD_RATE, 31, 0⟩
def GI_PAD_RATE_bound_ns : Fld := ⟨.GI_PAD_RATE, 63, 32⟩
-- GI_PAD_COUNT (R78)
def GI_PAD_COUNT_placed : Fld := ⟨.GI_PAD_COUNT, 47, 0⟩
-- GI_PAD_REFUSE (R78)
def GI_PAD_REFUSE_refused : Fld := ⟨.GI_PAD_REFUSE, 15, 0⟩
def GI_PAD_REFUSE_last_cause : Fld := ⟨.GI_PAD_REFUSE, 19, 16⟩
def GI_PAD_REFUSE_last_tile : Fld := ⟨.GI_PAD_REFUSE, 31, 24⟩
def GI_PAD_REFUSE_last_task : Fld := ⟨.GI_PAD_REFUSE, 63, 32⟩
-- GI_PAD_DOM (R209)
def GI_PAD_DOM_base : Fld := ⟨.GI_PAD_DOM, 9, 0⟩
def GI_PAD_DOM_count : Fld := ⟨.GI_PAD_DOM, 20, 10⟩
def GI_PAD_DOM_fh_quota : Fld := ⟨.GI_PAD_DOM, 31, 24⟩
-- GI_PAD_TAG (R480)
def GI_PAD_TAG_base : Fld := ⟨.GI_PAD_TAG, 39, 12⟩
def GI_PAD_TAG_pages : Fld := ⟨.GI_PAD_TAG, 55, 40⟩
def GI_PAD_TAG_enable : Fld := ⟨.GI_PAD_TAG, 56, 56⟩
-- GI_PAD_TAGPTR (R480)
def GI_PAD_TAGPTR_wr : Fld := ⟨.GI_PAD_TAGPTR, 23, 0⟩
def GI_PAD_TAGPTR_rd : Fld := ⟨.GI_PAD_TAGPTR, 47, 24⟩
def GI_PAD_TAGPTR_drops : Fld := ⟨.GI_PAD_TAGPTR, 63, 48⟩
-- TL_STATUS (R104)
def TL_STATUS_seq_idle : Fld := ⟨.TL_STATUS, 0, 0⟩
def TL_STATUS_mat_busy : Fld := ⟨.TL_STATUS, 1, 1⟩
def TL_STATUS_vec_busy : Fld := ⟨.TL_STATUS, 2, 2⟩
def TL_STATUS_dma_busy : Fld := ⟨.TL_STATUS, 6, 3⟩
def TL_STATUS_cache_op : Fld := ⟨.TL_STATUS, 7, 7⟩
def TL_STATUS_in_reset : Fld := ⟨.TL_STATUS, 8, 8⟩
def TL_STATUS_run_slot : Fld := ⟨.TL_STATUS, 13, 9⟩
def TL_STATUS_etb_used : Fld := ⟨.TL_STATUS, 22, 14⟩
def TL_STATUS_tokq_used : Fld := ⟨.TL_STATUS, 29, 23⟩
-- TL_CMD (R105)
def TL_CMD_slot : Fld := ⟨.TL_CMD, 4, 0⟩
def TL_CMD_abort : Fld := ⟨.TL_CMD, 5, 5⟩
def TL_CMD_icache_inv : Fld := ⟨.TL_CMD, 6, 6⟩
def TL_CMD_dcache_flush : Fld := ⟨.TL_CMD, 7, 7⟩
-- TL_EVT (R106)
def TL_EVT_stale_token : Fld := ⟨.TL_EVT, 0, 0⟩
def TL_EVT_nak_refused : Fld := ⟨.TL_EVT, 1, 1⟩
def TL_EVT_token_overflow : Fld := ⟨.TL_EVT, 2, 2⟩
def TL_EVT_spad_ue : Fld := ⟨.TL_EVT, 3, 3⟩
def TL_EVT_dcache_ue : Fld := ⟨.TL_EVT, 4, 4⟩
def TL_EVT_dma_error : Fld := ⟨.TL_EVT, 5, 5⟩
def TL_EVT_cmd_busy : Fld := ⟨.TL_EVT, 6, 6⟩
-- TL_NAK_LAST (R107)
def TL_NAK_LAST_result : Fld := ⟨.TL_NAK_LAST, 3, 0⟩
def TL_NAK_LAST_tile : Fld := ⟨.TL_NAK_LAST, 11, 4⟩
def TL_NAK_LAST_index : Fld := ⟨.TL_NAK_LAST, 14, 12⟩
def TL_NAK_LAST_kind : Fld := ⟨.TL_NAK_LAST, 15, 15⟩
def TL_NAK_LAST_node : Fld := ⟨.TL_NAK_LAST, 31, 16⟩
def TL_NAK_LAST_task_id : Fld := ⟨.TL_NAK_LAST, 63, 32⟩
-- TL_ECC (R107)
def TL_ECC_spad_ce : Fld := ⟨.TL_ECC, 15, 0⟩
def TL_ECC_dcache_ce : Fld := ⟨.TL_ECC, 31, 16⟩
def TL_ECC_last_ue_offset : Fld := ⟨.TL_ECC, 54, 32⟩
-- TL_FAULT (R182)
def TL_FAULT_cause : Fld := ⟨.TL_FAULT, 4, 0⟩
def TL_FAULT_level : Fld := ⟨.TL_FAULT, 5, 5⟩
def TL_FAULT_precise : Fld := ⟨.TL_FAULT, 6, 6⟩
def TL_FAULT_valid : Fld := ⟨.TL_FAULT, 7, 7⟩
def TL_FAULT_more : Fld := ⟨.TL_FAULT, 8, 8⟩
def TL_FAULT_slot : Fld := ⟨.TL_FAULT, 13, 9⟩
def TL_FAULT_unit : Fld := ⟨.TL_FAULT, 19, 16⟩
def TL_FAULT_task_id : Fld := ⟨.TL_FAULT, 63, 32⟩
-- TL_FAULT_PC (R183)
def TL_FAULT_PC_pc : Fld := ⟨.TL_FAULT_PC, 39, 0⟩
-- TL_FAULT_ADDR (R183)
def TL_FAULT_ADDR_addr : Fld := ⟨.TL_FAULT_ADDR, 63, 0⟩
-- TL_SEQ_EVEC (R183)
def TL_SEQ_EVEC_evec : Fld := ⟨.TL_SEQ_EVEC, 39, 3⟩
-- TL_TALLY_CYC (R480)
def TL_TALLY_CYC_cycles : Fld := ⟨.TL_TALLY_CYC, 63, 0⟩
-- TL_TAG_CTRL (R480)
def TL_TAG_CTRL_enable : Fld := ⟨.TL_TAG_CTRL, 0, 0⟩
def TL_TAG_CTRL_exp : Fld := ⟨.TL_TAG_CTRL, 5, 1⟩
def TL_TAG_CTRL_seed : Fld := ⟨.TL_TAG_CTRL, 63, 32⟩
-- TL_TAG_STAT (R480)
def TL_TAG_STAT_records : Fld := ⟨.TL_TAG_STAT, 31, 0⟩
def TL_TAG_STAT_drops : Fld := ⟨.TL_TAG_STAT, 47, 32⟩
def TL_TAG_STAT_drop_evt : Fld := ⟨.TL_TAG_STAT, 48, 48⟩
-- TIC_LEVEL (R479)
def TIC_LEVEL_level : Fld := ⟨.TIC_LEVEL, 63, 0⟩
-- TIC_ENABLE (R479)
def TIC_ENABLE_enable : Fld := ⟨.TIC_ENABLE, 63, 0⟩
-- TIC_PEND (R479)
def TIC_PEND_pend : Fld := ⟨.TIC_PEND, 63, 0⟩
-- TIC_INSVC (R479)
def TIC_INSVC_insvc : Fld := ⟨.TIC_INSVC, 63, 0⟩
-- TIC_ACK (R479)
def TIC_ACK_source : Fld := ⟨.TIC_ACK, 5, 0⟩
-- TIC_EOI (R479)
def TIC_EOI_source : Fld := ⟨.TIC_EOI, 5, 0⟩
-- TIC_CHIP (R479)
def TIC_CHIP_chip : Fld := ⟨.TIC_CHIP, 63, 0⟩
-- TL_LMON_CFG (R481)
def TL_LMON_CFG_src : Fld := ⟨.TL_LMON_CFG, 3, 0⟩
def TL_LMON_CFG_sel : Fld := ⟨.TL_LMON_CFG, 19, 4⟩
def TL_LMON_CFG_log2 : Fld := ⟨.TL_LMON_CFG, 20, 20⟩
def TL_LMON_CFG_shift : Fld := ⟨.TL_LMON_CFG, 25, 21⟩
def TL_LMON_CFG_enable : Fld := ⟨.TL_LMON_CFG, 26, 26⟩
def TL_LMON_CFG_clear : Fld := ⟨.TL_LMON_CFG, 27, 27⟩
def TL_LMON_CFG_period_ns : Fld := ⟨.TL_LMON_CFG, 47, 28⟩
def TL_LMON_CFG_base : Fld := ⟨.TL_LMON_CFG, 63, 48⟩
-- TL_LMON_ALARM (R481)
def TL_LMON_ALARM_alarm_thr : Fld := ⟨.TL_LMON_ALARM, 31, 0⟩
def TL_LMON_ALARM_alarm_en : Fld := ⟨.TL_LMON_ALARM, 32, 32⟩
-- TL_LMON_STAT (R481)
def TL_LMON_STAT_min : Fld := ⟨.TL_LMON_STAT, 23, 0⟩
def TL_LMON_STAT_max : Fld := ⟨.TL_LMON_STAT, 47, 24⟩
def TL_LMON_STAT_alarm : Fld := ⟨.TL_LMON_STAT, 48, 48⟩
-- TL_SLOT_STATE (R108)
def TL_SLOT_STATE_task_id : Fld := ⟨.TL_SLOT_STATE, 31, 0⟩
def TL_SLOT_STATE_state : Fld := ⟨.TL_SLOT_STATE, 34, 32⟩
def TL_SLOT_STATE_prio : Fld := ⟨.TL_SLOT_STATE, 37, 35⟩
def TL_SLOT_STATE_persistent : Fld := ⟨.TL_SLOT_STATE, 38, 38⟩
def TL_SLOT_STATE_n_in : Fld := ⟨.TL_SLOT_STATE, 42, 39⟩
def TL_SLOT_STATE_n_out : Fld := ⟨.TL_SLOT_STATE, 45, 43⟩
def TL_SLOT_STATE_tok_ovf : Fld := ⟨.TL_SLOT_STATE, 46, 46⟩
def TL_SLOT_STATE_paddock_run : Fld := ⟨.TL_SLOT_STATE, 47, 47⟩
-- TL_SLOT_CNT_LO (R108)
def TL_SLOT_CNT_LO_cnt0_to_cnt3 : Fld := ⟨.TL_SLOT_CNT_LO, 63, 0⟩
-- TL_SLOT_CNT_HI (R108)
def TL_SLOT_CNT_HI_cnt4_to_cnt7 : Fld := ⟨.TL_SLOT_CNT_HI, 63, 0⟩
-- TL_SLOT_POOL (R108)
def TL_SLOT_POOL_pool0_to_pool3 : Fld := ⟨.TL_SLOT_POOL, 63, 0⟩
-- TL_SLOT_STAMP (R108)
def TL_SLOT_STAMP_stamp : Fld := ⟨.TL_SLOT_STAMP, 63, 0⟩
-- TL_SLOT_INFO (R108)
def TL_SLOT_INFO_start_count : Fld := ⟨.TL_SLOT_INFO, 23, 0⟩
def TL_SLOT_INFO_entry : Fld := ⟨.TL_SLOT_INFO, 63, 24⟩
-- TL_DMA_STAT (R109)
def TL_DMA_STAT_queued : Fld := ⟨.TL_DMA_STAT, 4, 0⟩
def TL_DMA_STAT_active : Fld := ⟨.TL_DMA_STAT, 5, 5⟩
def TL_DMA_STAT_last_cause : Fld := ⟨.TL_DMA_STAT, 11, 8⟩
def TL_DMA_STAT_packets : Fld := ⟨.TL_DMA_STAT, 63, 16⟩
-- TIC_HOLD (R479)
def TIC_HOLD_holdoff_us : Fld := ⟨.TIC_HOLD, 15, 0⟩
def TIC_HOLD_active : Fld := ⟨.TIC_HOLD, 16, 16⟩
-- TL_TALLY_CNT (R480)
def TL_TALLY_CNT_count : Fld := ⟨.TL_TALLY_CNT, 47, 0⟩
def TL_TALLY_CNT_ovf : Fld := ⟨.TL_TALLY_CNT, 63, 63⟩
-- TL_TALLY_CFG (R480)
def TL_TALLY_CFG_event : Fld := ⟨.TL_TALLY_CFG, 9, 0⟩
def TL_TALLY_CFG_thr : Fld := ⟨.TL_TALLY_CFG, 25, 10⟩
def TL_TALLY_CFG_mode : Fld := ⟨.TL_TALLY_CFG, 27, 26⟩
def TL_TALLY_CFG_filt : Fld := ⟨.TL_TALLY_CFG, 28, 28⟩
def TL_TALLY_CFG_partition : Fld := ⟨.TL_TALLY_CFG, 40, 29⟩
def TL_TALLY_CFG_ovf_ie : Fld := ⟨.TL_TALLY_CFG, 41, 41⟩
-- TL_LMON_HIST (R481)
def TL_LMON_HIST_bin_lo : Fld := ⟨.TL_LMON_HIST, 31, 0⟩
def TL_LMON_HIST_bin_hi : Fld := ⟨.TL_LMON_HIST, 63, 32⟩
-- GI_CD_LASTERR (R211)
def GI_CD_LASTERR_domain : Fld := ⟨.GI_CD_LASTERR, 9, 0⟩
def GI_CD_LASTERR_cause : Fld := ⟨.GI_CD_LASTERR, 13, 10⟩
def GI_CD_LASTERR_src_node : Fld := ⟨.GI_CD_LASTERR, 31, 16⟩
def GI_CD_LASTERR_sequence : Fld := ⟨.GI_CD_LASTERR, 47, 32⟩
def GI_CD_LASTERR_paddock : Fld := ⟨.GI_CD_LASTERR, 50, 48⟩
def GI_CD_LASTERR_valid : Fld := ⟨.GI_CD_LASTERR, 63, 63⟩
-- GI_FH_STAT (R211)
def GI_FH_STAT_used : Fld := ⟨.GI_FH_STAT, 8, 0⟩
def GI_FH_STAT_peak : Fld := ⟨.GI_FH_STAT, 17, 9⟩
def GI_FH_STAT_retries : Fld := ⟨.GI_FH_STAT, 47, 32⟩
def GI_FH_STAT_timeouts : Fld := ⟨.GI_FH_STAT, 63, 48⟩
-- GI_FH_CTRL (R211)
def GI_FH_CTRL_hold_timeout_ms : Fld := ⟨.GI_FH_CTRL, 13, 0⟩
def GI_FH_CTRL_clr_peak : Fld := ⟨.GI_FH_CTRL, 14, 14⟩
-- GI_CD_EVT (R212)
def GI_CD_EVT_dom_error : Fld := ⟨.GI_CD_EVT, 7, 0⟩
def GI_CD_EVT_fh_refused : Fld := ⟨.GI_CD_EVT, 15, 8⟩
def GI_CD_EVT_fh_discard : Fld := ⟨.GI_CD_EVT, 23, 16⟩
def GI_CD_EVT_bad_dom : Fld := ⟨.GI_CD_EVT, 24, 24⟩
-- GI_CD (R210)
def GI_CD_count : Fld := ⟨.GI_CD, 31, 0⟩
def GI_CD_err : Fld := ⟨.GI_CD, 32, 32⟩
def GI_CD_cause : Fld := ⟨.GI_CD, 36, 33⟩
def GI_CD_held : Fld := ⟨.GI_CD, 37, 37⟩
def GI_CD_zero : Fld := ⟨.GI_CD, 63, 63⟩
-- HBM_STAT (R227)
def HBM_STAT_trained : Fld := ⟨.HBM_STAT, 0, 0⟩
def HBM_STAT_train_fail : Fld := ⟨.HBM_STAT, 1, 1⟩
def HBM_STAT_attempts : Fld := ⟨.HBM_STAT, 3, 2⟩
def HBM_STAT_in_service : Fld := ⟨.HBM_STAT, 4, 4⟩
-- HBM_ECC (R227)
def HBM_ECC_ce : Fld := ⟨.HBM_ECC, 31, 0⟩
def HBM_ECC_ondie : Fld := ⟨.HBM_ECC, 47, 32⟩
def HBM_ECC_ue : Fld := ⟨.HBM_ECC, 63, 48⟩
-- HBM_UE_LOG (R227)
def HBM_UE_LOG_local : Fld := ⟨.HBM_UE_LOG, 35, 0⟩
def HBM_UE_LOG_pc : Fld := ⟨.HBM_UE_LOG, 40, 36⟩
def HBM_UE_LOG_scrub : Fld := ⟨.HBM_UE_LOG, 41, 41⟩
def HBM_UE_LOG_valid : Fld := ⟨.HBM_UE_LOG, 63, 63⟩
-- HBM_EVT (R227)
def HBM_EVT_ue : Fld := ⟨.HBM_EVT, 0, 0⟩
def HBM_EVT_hot : Fld := ⟨.HBM_EVT, 1, 1⟩
def HBM_EVT_train_fail : Fld := ⟨.HBM_EVT, 2, 2⟩
-- HBM_SCRUB (R227)
def HBM_SCRUB_interval_us : Fld := ⟨.HBM_SCRUB, 15, 0⟩
def HBM_SCRUB_enable : Fld := ⟨.HBM_SCRUB, 16, 16⟩
def HBM_SCRUB_passes : Fld := ⟨.HBM_SCRUB, 63, 32⟩
-- HBM_TEMP (R227)
def HBM_TEMP_temp : Fld := ⟨.HBM_TEMP, 7, 0⟩
def HBM_TEMP_rate : Fld := ⟨.HBM_TEMP, 9, 8⟩
-- HBM_LMON_CFG (R481)
def HBM_LMON_CFG_src : Fld := ⟨.HBM_LMON_CFG, 3, 0⟩
def HBM_LMON_CFG_sel : Fld := ⟨.HBM_LMON_CFG, 19, 4⟩
def HBM_LMON_CFG_log2 : Fld := ⟨.HBM_LMON_CFG, 20, 20⟩
def HBM_LMON_CFG_shift : Fld := ⟨.HBM_LMON_CFG, 25, 21⟩
def HBM_LMON_CFG_enable : Fld := ⟨.HBM_LMON_CFG, 26, 26⟩
def HBM_LMON_CFG_clear : Fld := ⟨.HBM_LMON_CFG, 27, 27⟩
def HBM_LMON_CFG_period_ns : Fld := ⟨.HBM_LMON_CFG, 47, 28⟩
def HBM_LMON_CFG_base : Fld := ⟨.HBM_LMON_CFG, 63, 48⟩
-- HBM_LMON_ALARM (R481)
def HBM_LMON_ALARM_alarm_thr : Fld := ⟨.HBM_LMON_ALARM, 31, 0⟩
def HBM_LMON_ALARM_alarm_en : Fld := ⟨.HBM_LMON_ALARM, 32, 32⟩
-- HBM_LMON_STAT (R481)
def HBM_LMON_STAT_min : Fld := ⟨.HBM_LMON_STAT, 23, 0⟩
def HBM_LMON_STAT_max : Fld := ⟨.HBM_LMON_STAT, 47, 24⟩
def HBM_LMON_STAT_alarm : Fld := ⟨.HBM_LMON_STAT, 48, 48⟩
-- HBM_LMON_HIST (R481)
def HBM_LMON_HIST_bin_lo : Fld := ⟨.HBM_LMON_HIST, 31, 0⟩
def HBM_LMON_HIST_bin_hi : Fld := ⟨.HBM_LMON_HIST, 63, 32⟩
-- HBM_ILV_CTRL (R228)
def HBM_ILV_CTRL_mode : Fld := ⟨.HBM_ILV_CTRL, 0, 0⟩
def HBM_ILV_CTRL_length : Fld := ⟨.HBM_ILV_CTRL, 13, 1⟩
def HBM_ILV_CTRL_commit : Fld := ⟨.HBM_ILV_CTRL, 14, 14⟩
def HBM_ILV_CTRL_state : Fld := ⟨.HBM_ILV_CTRL, 16, 15⟩
def HBM_ILV_CTRL_fail_cause : Fld := ⟨.HBM_ILV_CTRL, 19, 17⟩
def HBM_ILV_CTRL_lock : Fld := ⟨.HBM_ILV_CTRL, 20, 20⟩
-- HBM_RRB_CTRL (R228)
def HBM_RRB_CTRL_max_per_pc : Fld := ⟨.HBM_RRB_CTRL, 11, 0⟩
def HBM_RRB_CTRL_rfm_thresh : Fld := ⟨.HBM_RRB_CTRL, 27, 16⟩
def HBM_RRB_CTRL_free : Fld := ⟨.HBM_RRB_CTRL, 43, 32⟩
-- HBM_ILV_ENT (R228)
def HBM_ILV_ENT_stack : Fld := ⟨.HBM_ILV_ENT, 3, 0⟩
def HBM_ILV_ENT_slot : Fld := ⟨.HBM_ILV_ENT, 12, 4⟩
-- LN_CTRL (R248)
def LN_CTRL_force_fail : Fld := ⟨.LN_CTRL, 0, 0⟩
def LN_CTRL_fom_target : Fld := ⟨.LN_CTRL, 15, 8⟩
def LN_CTRL_fom_warn : Fld := ⟨.LN_CTRL, 23, 16⟩
def LN_CTRL_fom_hold_ms : Fld := ⟨.LN_CTRL, 33, 24⟩
-- LN_STAT (R248)
def LN_STAT_state : Fld := ⟨.LN_STAT, 2, 0⟩
def LN_STAT_lock : Fld := ⟨.LN_STAT, 3, 3⟩
def LN_STAT_pol_inv : Fld := ⟨.LN_STAT, 4, 4⟩
def LN_STAT_in_use : Fld := ⟨.LN_STAT, 5, 5⟩
def LN_STAT_failed : Fld := ⟨.LN_STAT, 6, 6⟩
def LN_STAT_warn : Fld := ⟨.LN_STAT, 7, 7⟩
def LN_STAT_logical : Fld := ⟨.LN_STAT, 10, 8⟩
-- LN_TAPS (R248)
def LN_TAPS_taps : Fld := ⟨.LN_TAPS, 39, 0⟩
def LN_TAPS_stored_valid : Fld := ⟨.LN_TAPS, 40, 40⟩
-- LN_FOM (R248)
def LN_FOM_fom : Fld := ⟨.LN_FOM, 7, 0⟩
def LN_FOM_fom_min : Fld := ⟨.LN_FOM, 15, 8⟩
def LN_FOM_clr_min : Fld := ⟨.LN_FOM, 16, 16⟩
-- LN_ERR (R248)
def LN_ERR_sync_err : Fld := ⟨.LN_ERR, 23, 0⟩
def LN_ERR_fec_corr : Fld := ⟨.LN_ERR, 47, 24⟩
def LN_ERR_fec_uncorr : Fld := ⟨.LN_ERR, 63, 48⟩
-- RTR_LINK_CTRL (R249)
def RTR_LINK_CTRL_enable : Fld := ⟨.RTR_LINK_CTRL, 0, 0⟩
def RTR_LINK_CTRL_retrain : Fld := ⟨.RTR_LINK_CTRL, 1, 1⟩
def RTR_LINK_CTRL_reach : Fld := ⟨.RTR_LINK_CTRL, 2, 2⟩
def RTR_LINK_CTRL_allow_x4 : Fld := ⟨.RTR_LINK_CTRL, 3, 3⟩
def RTR_LINK_CTRL_lock : Fld := ⟨.RTR_LINK_CTRL, 4, 4⟩
def RTR_LINK_CTRL_resend_limit : Fld := ⟨.RTR_LINK_CTRL, 15, 8⟩
def RTR_LINK_CTRL_ack_timeout_ns : Fld := ⟨.RTR_LINK_CTRL, 31, 16⟩
-- RTR_LINK_STAT (R249)
def RTR_LINK_STAT_tstate : Fld := ⟨.RTR_LINK_STAT, 2, 0⟩
def RTR_LINK_STAT_pstate : Fld := ⟨.RTR_LINK_STAT, 5, 3⟩
def RTR_LINK_STAT_width_x4 : Fld := ⟨.RTR_LINK_STAT, 6, 6⟩
def RTR_LINK_STAT_half : Fld := ⟨.RTR_LINK_STAT, 7, 7⟩
def RTR_LINK_STAT_reach : Fld := ⟨.RTR_LINK_STAT, 8, 8⟩
def RTR_LINK_STAT_reversed : Fld := ⟨.RTR_LINK_STAT, 9, 9⟩
def RTR_LINK_STAT_lanes_ready : Fld := ⟨.RTR_LINK_STAT, 17, 10⟩
def RTR_LINK_STAT_rtt : Fld := ⟨.RTR_LINK_STAT, 41, 18⟩
def RTR_LINK_STAT_trainings : Fld := ⟨.RTR_LINK_STAT, 55, 42⟩
def RTR_LINK_STAT_fail_cause : Fld := ⟨.RTR_LINK_STAT, 59, 56⟩
def RTR_LINK_STAT_far_port : Fld := ⟨.RTR_LINK_STAT, 62, 60⟩
-- RTR_LINK_PWR (R249)
def RTR_LINK_PWR_target : Fld := ⟨.RTR_LINK_PWR, 1, 0⟩
def RTR_LINK_PWR_auto_quiet : Fld := ⟨.RTR_LINK_PWR, 2, 2⟩
def RTR_LINK_PWR_quiet_idle_ns : Fld := ⟨.RTR_LINK_PWR, 19, 4⟩
-- RTR_LINK_REPLAY (R249)
def RTR_LINK_REPLAY_used : Fld := ⟨.RTR_LINK_REPLAY, 12, 0⟩
def RTR_LINK_REPLAY_next_seq : Fld := ⟨.RTR_LINK_REPLAY, 31, 16⟩
def RTR_LINK_REPLAY_resends : Fld := ⟨.RTR_LINK_REPLAY, 47, 32⟩
def RTR_LINK_REPLAY_bad_ack : Fld := ⟨.RTR_LINK_REPLAY, 63, 48⟩
-- RTR_LINK_EVT (R250)
def RTR_LINK_EVT_fom_warn : Fld := ⟨.RTR_LINK_EVT, 0, 0⟩
def RTR_LINK_EVT_lane_failed : Fld := ⟨.RTR_LINK_EVT, 1, 1⟩
def RTR_LINK_EVT_degraded : Fld := ⟨.RTR_LINK_EVT, 2, 2⟩
def RTR_LINK_EVT_down : Fld := ⟨.RTR_LINK_EVT, 3, 3⟩
def RTR_LINK_EVT_retrain : Fld := ⟨.RTR_LINK_EVT, 4, 4⟩
def RTR_LINK_EVT_rtt_high : Fld := ⟨.RTR_LINK_EVT, 5, 5⟩
-- RTR_LINK_MAP (R249)
def RTR_LINK_MAP_map : Fld := ⟨.RTR_LINK_MAP, 23, 0⟩
-- RTR_PORT_CFG (R282)
def RTR_PORT_CFG_service : Fld := ⟨.RTR_PORT_CFG, 0, 0⟩
def RTR_PORT_CFG_ctrl_pct : Fld := ⟨.RTR_PORT_CFG, 7, 1⟩
def RTR_PORT_CFG_w2 : Fld := ⟨.RTR_PORT_CFG, 15, 8⟩
def RTR_PORT_CFG_w5 : Fld := ⟨.RTR_PORT_CFG, 23, 16⟩
def RTR_PORT_CFG_w7 : Fld := ⟨.RTR_PORT_CFG, 31, 24⟩
def RTR_PORT_CFG_w_other : Fld := ⟨.RTR_PORT_CFG, 39, 32⟩
-- RTR_PORT_SHARE (R282)
def RTR_PORT_SHARE_partition : Fld := ⟨.RTR_PORT_SHARE, 11, 0⟩
def RTR_PORT_SHARE_weight : Fld := ⟨.RTR_PORT_SHARE, 19, 12⟩
def RTR_PORT_SHARE_valid : Fld := ⟨.RTR_PORT_SHARE, 20, 20⟩
-- RTR_PORT_EVT (R282)
def RTR_PORT_EVT_oversize : Fld := ⟨.RTR_PORT_EVT, 0, 0⟩
def RTR_PORT_EVT_unroutable : Fld := ⟨.RTR_PORT_EVT, 1, 1⟩
def RTR_PORT_EVT_lost : Fld := ⟨.RTR_PORT_EVT, 2, 2⟩
def RTR_PORT_EVT_reg_refused : Fld := ⟨.RTR_PORT_EVT, 3, 3⟩
-- RTR_PORT_STAT (R282)
def RTR_PORT_STAT_oversize : Fld := ⟨.RTR_PORT_STAT, 15, 0⟩
def RTR_PORT_STAT_unroutable : Fld := ⟨.RTR_PORT_STAT, 31, 16⟩
def RTR_PORT_STAT_lost : Fld := ⟨.RTR_PORT_STAT, 47, 32⟩
def RTR_PORT_STAT_mcast_drop : Fld := ⟨.RTR_PORT_STAT, 55, 48⟩
def RTR_PORT_STAT_malformed : Fld := ⟨.RTR_PORT_STAT, 59, 56⟩
def RTR_PORT_STAT_reg_refused : Fld := ⟨.RTR_PORT_STAT, 63, 60⟩
-- RTR_VC_CFG (R283)
def RTR_VC_CFG_cap_units : Fld := ⟨.RTR_VC_CFG, 17, 0⟩
-- RTR_VC_PKTS (R283)
def RTR_VC_PKTS_packets : Fld := ⟨.RTR_VC_PKTS, 47, 0⟩
-- RTR_VC_BYTES (R283)
def RTR_VC_BYTES_bytes : Fld := ⟨.RTR_VC_BYTES, 63, 0⟩
-- RTR_VC_DEPTH (R283)
def RTR_VC_DEPTH_occ : Fld := ⟨.RTR_VC_DEPTH, 17, 0⟩
def RTR_VC_DEPTH_occ_max : Fld := ⟨.RTR_VC_DEPTH, 35, 18⟩
def RTR_VC_DEPTH_clr_max : Fld := ⟨.RTR_VC_DEPTH, 36, 36⟩
-- RTR_VC_STALL (R283)
def RTR_VC_STALL_cycles : Fld := ⟨.RTR_VC_STALL, 63, 0⟩
-- RTR_VC_CREDIT (R283)
def RTR_VC_CREDIT_grant : Fld := ⟨.RTR_VC_CREDIT, 17, 0⟩
def RTR_VC_CREDIT_credit : Fld := ⟨.RTR_VC_CREDIT, 35, 18⟩
-- RTR_CTRL (R281)
def RTR_CTRL_bulk : Fld := ⟨.RTR_CTRL, 0, 0⟩
def RTR_CTRL_lock : Fld := ⟨.RTR_CTRL, 1, 1⟩
def RTR_CTRL_unroutable_us : Fld := ⟨.RTR_CTRL, 31, 16⟩
-- RTR_TBL_CTRL (R281)
def RTR_TBL_CTRL_active : Fld := ⟨.RTR_TBL_CTRL, 0, 0⟩
def RTR_TBL_CTRL_armed : Fld := ⟨.RTR_TBL_CTRL, 1, 1⟩
def RTR_TBL_CTRL_arm : Fld := ⟨.RTR_TBL_CTRL, 2, 2⟩
def RTR_TBL_CTRL_disarm : Fld := ⟨.RTR_TBL_CTRL, 3, 3⟩
def RTR_TBL_CTRL_flip_beat : Fld := ⟨.RTR_TBL_CTRL, 63, 32⟩
-- RTR_TBL_IDX (R281)
def RTR_TBL_IDX_index : Fld := ⟨.RTR_TBL_IDX, 15, 0⟩
def RTR_TBL_IDX_table : Fld := ⟨.RTR_TBL_IDX, 16, 16⟩
def RTR_TBL_IDX_bank : Fld := ⟨.RTR_TBL_IDX, 17, 17⟩
def RTR_TBL_IDX_auto_inc : Fld := ⟨.RTR_TBL_IDX, 18, 18⟩
-- RTR_TBL_DATA (R281)
def RTR_TBL_DATA_entry : Fld := ⟨.RTR_TBL_DATA, 31, 0⟩
-- RTR_RAD_CTRL (R281)
def RTR_RAD_CTRL_mark_kib : Fld := ⟨.RTR_RAD_CTRL, 11, 0⟩
def RTR_RAD_CTRL_window_us : Fld := ⟨.RTR_RAD_CTRL, 19, 12⟩
def RTR_RAD_CTRL_step : Fld := ⟨.RTR_RAD_CTRL, 33, 20⟩
def RTR_RAD_CTRL_r_min : Fld := ⟨.RTR_RAD_CTRL, 47, 34⟩
-- RTR_EVT (R281)
def RTR_EVT_flip_late : Fld := ⟨.RTR_EVT, 0, 0⟩
def RTR_EVT_flip_race : Fld := ⟨.RTR_EVT, 1, 1⟩
def RTR_EVT_flip_unsync : Fld := ⟨.RTR_EVT, 2, 2⟩
def RTR_EVT_active_write : Fld := ⟨.RTR_EVT, 3, 3⟩
-- RTR_NODE_ID (R353)
def RTR_NODE_ID_id : Fld := ⟨.RTR_NODE_ID, 15, 0⟩
def RTR_NODE_ID_valid : Fld := ⟨.RTR_NODE_ID, 16, 16⟩
def RTR_NODE_ID_source : Fld := ⟨.RTR_NODE_ID, 18, 17⟩
def RTR_NODE_ID_pos : Fld := ⟨.RTR_NODE_ID, 24, 19⟩
def RTR_NODE_ID_clear : Fld := ⟨.RTR_NODE_ID, 25, 25⟩
-- RTR_HEFT_CTRL (R353)
def RTR_HEFT_CTRL_enable : Fld := ⟨.RTR_HEFT_CTRL, 0, 0⟩
def RTR_HEFT_CTRL_self : Fld := ⟨.RTR_HEFT_CTRL, 1, 1⟩
def RTR_HEFT_CTRL_auto_accept : Fld := ⟨.RTR_HEFT_CTRL, 2, 2⟩
def RTR_HEFT_CTRL_self_wait_ms : Fld := ⟨.RTR_HEFT_CTRL, 15, 8⟩
def RTR_HEFT_CTRL_bx : Fld := ⟨.RTR_HEFT_CTRL, 19, 16⟩
def RTR_HEFT_CTRL_by : Fld := ⟨.RTR_HEFT_CTRL, 22, 20⟩
def RTR_HEFT_CTRL_bz : Fld := ⟨.RTR_HEFT_CTRL, 25, 23⟩
def RTR_HEFT_CTRL_fm_node : Fld := ⟨.RTR_HEFT_CTRL, 47, 32⟩
def RTR_HEFT_CTRL_fm_ports : Fld := ⟨.RTR_HEFT_CTRL, 55, 48⟩
-- RTR_HEFT_EVT (R353)
def RTR_HEFT_EVT_mismatch : Fld := ⟨.RTR_HEFT_EVT, 7, 0⟩
def RTR_HEFT_EVT_changed : Fld := ⟨.RTR_HEFT_EVT, 15, 8⟩
def RTR_HEFT_EVT_self_fail : Fld := ⟨.RTR_HEFT_EVT, 16, 16⟩
def RTR_HEFT_EVT_self_done : Fld := ⟨.RTR_HEFT_EVT, 17, 17⟩
def RTR_HEFT_EVT_directed_refused : Fld := ⟨.RTR_HEFT_EVT, 18, 18⟩
def RTR_HEFT_EVT_directed_undeliverable : Fld := ⟨.RTR_HEFT_EVT, 19, 19⟩
-- RTR_WIN_BASE (R281)
def RTR_WIN_BASE_base : Fld := ⟨.RTR_WIN_BASE, 39, 0⟩
def RTR_WIN_BASE_paddock : Fld := ⟨.RTR_WIN_BASE, 42, 40⟩
def RTR_WIN_BASE_rd : Fld := ⟨.RTR_WIN_BASE, 43, 43⟩
def RTR_WIN_BASE_wr : Fld := ⟨.RTR_WIN_BASE, 44, 44⟩
def RTR_WIN_BASE_valid : Fld := ⟨.RTR_WIN_BASE, 45, 45⟩
-- RTR_WIN_LIM (R281)
def RTR_WIN_LIM_limit : Fld := ⟨.RTR_WIN_LIM, 39, 0⟩
-- BT_CTRL (R303)
def BT_CTRL_master : Fld := ⟨.BT_CTRL, 0, 0⟩
def BT_CTRL_parent : Fld := ⟨.BT_CTRL, 3, 1⟩
def BT_CTRL_child_mask : Fld := ⟨.BT_CTRL, 11, 4⟩
def BT_CTRL_bells_per_beat : Fld := ⟨.BT_CTRL, 13, 12⟩
def BT_CTRL_jump_ns : Fld := ⟨.BT_CTRL, 31, 16⟩
-- BT_STAT (R303)
def BT_STAT_sync : Fld := ⟨.BT_STAT, 0, 0⟩
def BT_STAT_holdover : Fld := ⟨.BT_STAT, 1, 1⟩
def BT_STAT_adopted : Fld := ⟨.BT_STAT, 2, 2⟩
def BT_STAT_hops : Fld := ⟨.BT_STAT, 10, 3⟩
def BT_STAT_master : Fld := ⟨.BT_STAT, 26, 11⟩
-- BT_TIME (R303)
def BT_TIME_t : Fld := ⟨.BT_TIME, 63, 0⟩
-- BT_BEAT (R303)
def BT_BEAT_beat : Fld := ⟨.BT_BEAT, 63, 0⟩
-- BT_PERIOD (R303)
def BT_PERIOD_period_ns : Fld := ⟨.BT_PERIOD, 15, 0⟩
def BT_PERIOD_next_ns : Fld := ⟨.BT_PERIOD, 31, 16⟩
def BT_PERIOD_change_beat : Fld := ⟨.BT_PERIOD, 63, 32⟩
-- BT_FLIP (R304)
def BT_FLIP_active : Fld := ⟨.BT_FLIP, 0, 0⟩
def BT_FLIP_armed : Fld := ⟨.BT_FLIP, 1, 1⟩
def BT_FLIP_arm : Fld := ⟨.BT_FLIP, 2, 2⟩
def BT_FLIP_disarm : Fld := ⟨.BT_FLIP, 3, 3⟩
def BT_FLIP_copy : Fld := ⟨.BT_FLIP, 4, 4⟩
def BT_FLIP_copy_busy : Fld := ⟨.BT_FLIP, 5, 5⟩
def BT_FLIP_flip_beat : Fld := ⟨.BT_FLIP, 63, 32⟩
-- BT_TBL_IDX (R304)
def BT_TBL_IDX_index : Fld := ⟨.BT_TBL_IDX, 11, 0⟩
def BT_TBL_IDX_table : Fld := ⟨.BT_TBL_IDX, 13, 12⟩
def BT_TBL_IDX_port : Fld := ⟨.BT_TBL_IDX, 16, 14⟩
def BT_TBL_IDX_bank : Fld := ⟨.BT_TBL_IDX, 17, 17⟩
def BT_TBL_IDX_auto_inc : Fld := ⟨.BT_TBL_IDX, 18, 18⟩
-- BT_TBL_DATA (R304)
def BT_TBL_DATA_entry : Fld := ⟨.BT_TBL_DATA, 63, 0⟩
-- BT_EVT (R305)
def BT_EVT_sync_lost : Fld := ⟨.BT_EVT, 0, 0⟩
def BT_EVT_beat_skip : Fld := ⟨.BT_EVT, 1, 1⟩
def BT_EVT_flip_late : Fld := ⟨.BT_EVT, 2, 2⟩
def BT_EVT_flip_race : Fld := ⟨.BT_EVT, 3, 3⟩
def BT_EVT_flip_unsync : Fld := ⟨.BT_EVT, 4, 4⟩
def BT_EVT_active_write : Fld := ⟨.BT_EVT, 5, 5⟩
def BT_EVT_circuit_refused : Fld := ⟨.BT_EVT, 6, 6⟩
def BT_EVT_claim_mismatch : Fld := ⟨.BT_EVT, 7, 7⟩
def BT_EVT_late : Fld := ⟨.BT_EVT, 8, 8⟩
-- BT_BELL_STAT (R303)
def BT_BELL_STAT_last_err : Fld := ⟨.BT_BELL_STAT, 31, 0⟩
def BT_BELL_STAT_bells : Fld := ⟨.BT_BELL_STAT, 47, 32⟩
def BT_BELL_STAT_stray : Fld := ⟨.BT_BELL_STAT, 63, 48⟩
-- BT_TRIM (R303)
def BT_TRIM_trim_ps : Fld := ⟨.BT_TRIM, 15, 0⟩
-- BT_PORT_STAT0 (R305)
def BT_PORT_STAT0_late : Fld := ⟨.BT_PORT_STAT0, 31, 0⟩
def BT_PORT_STAT0_carry : Fld := ⟨.BT_PORT_STAT0, 63, 32⟩
-- BT_PORT_STAT1 (R305)
def BT_PORT_STAT1_idle_slots : Fld := ⟨.BT_PORT_STAT1, 31, 0⟩
def BT_PORT_STAT1_credit_stall : Fld := ⟨.BT_PORT_STAT1, 47, 32⟩
def BT_PORT_STAT1_refused : Fld := ⟨.BT_PORT_STAT1, 55, 48⟩
def BT_PORT_STAT1_mismatch : Fld := ⟨.BT_PORT_STAT1, 63, 56⟩
-- FLD_CTRL (R332)
def FLD_CTRL_enable : Fld := ⟨.FLD_CTRL, 0, 0⟩
def FLD_CTRL_lock : Fld := ⟨.FLD_CTRL, 1, 1⟩
def FLD_CTRL_resend_max : Fld := ⟨.FLD_CTRL, 11, 8⟩
def FLD_CTRL_chunk_timeout_us : Fld := ⟨.FLD_CTRL, 31, 16⟩
-- FLD_STORE (R332)
def FLD_STORE_free_kib : Fld := ⟨.FLD_STORE, 14, 0⟩
def FLD_STORE_entries_used : Fld := ⟨.FLD_STORE, 25, 16⟩
-- FLD_EVT (R332)
def FLD_EVT_coll_fault : Fld := ⟨.FLD_EVT, 0, 0⟩
def FLD_EVT_refused_setup : Fld := ⟨.FLD_EVT, 1, 1⟩
def FLD_EVT_pkt_refused : Fld := ⟨.FLD_EVT, 2, 2⟩
def FLD_EVT_abort : Fld := ⟨.FLD_EVT, 3, 3⟩
def FLD_EVT_busy_write : Fld := ⟨.FLD_EVT, 4, 4⟩
-- FLD_FAULT_LOG (R332)
def FLD_FAULT_LOG_coll_id : Fld := ⟨.FLD_FAULT_LOG, 15, 0⟩
def FLD_FAULT_LOG_instance : Fld := ⟨.FLD_FAULT_LOG, 31, 16⟩
def FLD_FAULT_LOG_cause : Fld := ⟨.FLD_FAULT_LOG, 35, 32⟩
def FLD_FAULT_LOG_node : Fld := ⟨.FLD_FAULT_LOG, 51, 36⟩
def FLD_FAULT_LOG_valid : Fld := ⟨.FLD_FAULT_LOG, 63, 63⟩
-- FLD_FAULT_BEAT (R332)
def FLD_FAULT_BEAT_beat : Fld := ⟨.FLD_FAULT_BEAT, 63, 0⟩
-- FLD_STAT (R332)
def FLD_STAT_resends : Fld := ⟨.FLD_STAT, 15, 0⟩
def FLD_STAT_refused : Fld := ⟨.FLD_STAT, 31, 16⟩
def FLD_STAT_stale : Fld := ⟨.FLD_STAT, 47, 32⟩
def FLD_STAT_faults : Fld := ⟨.FLD_STAT, 63, 48⟩
-- FLD_WAIT (R332)
def FLD_WAIT_waiting : Fld := ⟨.FLD_WAIT, 0, 0⟩
def FLD_WAIT_running : Fld := ⟨.FLD_WAIT, 9, 1⟩
-- FLD_COLL_CFG (R333)
def FLD_COLL_CFG_coll_id : Fld := ⟨.FLD_COLL_CFG, 15, 0⟩
def FLD_COLL_CFG_partition : Fld := ⟨.FLD_COLL_CFG, 27, 16⟩
def FLD_COLL_CFG_op : Fld := ⟨.FLD_COLL_CFG, 30, 28⟩
def FLD_COLL_CFG_operator : Fld := ⟨.FLD_COLL_CFG, 32, 31⟩
def FLD_COLL_CFG_fmt : Fld := ⟨.FLD_COLL_CFG, 36, 33⟩
def FLD_COLL_CFG_out_fmt : Fld := ⟨.FLD_COLL_CFG, 40, 37⟩
def FLD_COLL_CFG_rm : Fld := ⟨.FLD_COLL_CFG, 43, 41⟩
def FLD_COLL_CFG_eager : Fld := ⟨.FLD_COLL_CFG, 44, 44⟩
def FLD_COLL_CFG_fallback_ok : Fld := ⟨.FLD_COLL_CFG, 45, 45⟩
def FLD_COLL_CFG_chunk : Fld := ⟨.FLD_COLL_CFG, 48, 46⟩
def FLD_COLL_CFG_depth : Fld := ⟨.FLD_COLL_CFG, 52, 49⟩
def FLD_COLL_CFG_anchor : Fld := ⟨.FLD_COLL_CFG, 60, 53⟩
def FLD_COLL_CFG_saturate : Fld := ⟨.FLD_COLL_CFG, 61, 61⟩
-- FLD_COLL_TREE (R333)
def FLD_COLL_TREE_up : Fld := ⟨.FLD_COLL_TREE, 15, 0⟩
def FLD_COLL_TREE_rank : Fld := ⟨.FLD_COLL_TREE, 31, 16⟩
def FLD_COLL_TREE_n_ranks_m1 : Fld := ⟨.FLD_COLL_TREE, 47, 32⟩
def FLD_COLL_TREE_n_children : Fld := ⟨.FLD_COLL_TREE, 50, 48⟩
-- FLD_COLL_KIDS0 (R333)
def FLD_COLL_KIDS0_child0_to_child3 : Fld := ⟨.FLD_COLL_KIDS0, 63, 0⟩
-- FLD_COLL_KIDS1 (R333)
def FLD_COLL_KIDS1_child4_to_child6 : Fld := ⟨.FLD_COLL_KIDS1, 47, 0⟩
-- FLD_COLL_SRC (R333)
def FLD_COLL_SRC_src : Fld := ⟨.FLD_COLL_SRC, 63, 0⟩
-- FLD_COLL_DST (R333)
def FLD_COLL_DST_dst : Fld := ⟨.FLD_COLL_DST, 63, 0⟩
-- FLD_COLL_AUX (R333)
def FLD_COLL_AUX_aux : Fld := ⟨.FLD_COLL_AUX, 63, 0⟩
-- FLD_COLL_SEED (R333)
def FLD_COLL_SEED_seed : Fld := ⟨.FLD_COLL_SEED, 63, 0⟩
-- FLD_COLL_LEN (R333)
def FLD_COLL_LEN_length : Fld := ⟨.FLD_COLL_LEN, 31, 0⟩
def FLD_COLL_LEN_trig_dom : Fld := ⟨.FLD_COLL_LEN, 41, 32⟩
def FLD_COLL_LEN_done_dom : Fld := ⟨.FLD_COLL_LEN, 51, 42⟩
-- FLD_COLL_TRIG (R333)
def FLD_COLL_TRIG_trig_inc : Fld := ⟨.FLD_COLL_TRIG, 31, 0⟩
def FLD_COLL_TRIG_next_expect : Fld := ⟨.FLD_COLL_TRIG, 63, 32⟩
-- FLD_COLL_CMD (R334)
def FLD_COLL_CMD_commit : Fld := ⟨.FLD_COLL_CMD, 0, 0⟩
def FLD_COLL_CMD_release : Fld := ⟨.FLD_COLL_CMD, 1, 1⟩
def FLD_COLL_CMD_abort : Fld := ⟨.FLD_COLL_CMD, 2, 2⟩
-- FLD_COLL_STAT (R334)
def FLD_COLL_STAT_state : Fld := ⟨.FLD_COLL_STAT, 2, 0⟩
def FLD_COLL_STAT_endpoint : Fld := ⟨.FLD_COLL_STAT, 3, 3⟩
def FLD_COLL_STAT_refuse_cause : Fld := ⟨.FLD_COLL_STAT, 7, 4⟩
def FLD_COLL_STAT_claimed_kib : Fld := ⟨.FLD_COLL_STAT, 22, 8⟩
def FLD_COLL_STAT_instance : Fld := ⟨.FLD_COLL_STAT, 63, 32⟩
-- FLD_COLL_PACE (R334)
def FLD_COLL_PACE_pace_node : Fld := ⟨.FLD_COLL_PACE, 15, 0⟩
def FLD_COLL_PACE_wait_ns : Fld := ⟨.FLD_COLL_PACE, 47, 16⟩
-- RTR_PORT_ROLE (R354)
def RTR_PORT_ROLE_role : Fld := ⟨.RTR_PORT_ROLE, 3, 0⟩
def RTR_PORT_ROLE_next : Fld := ⟨.RTR_PORT_ROLE, 7, 4⟩
def RTR_PORT_ROLE_apply : Fld := ⟨.RTR_PORT_ROLE, 8, 8⟩
-- RTR_HEFT_FAR0 (R354)
def RTR_HEFT_FAR0_serial : Fld := ⟨.RTR_HEFT_FAR0, 63, 0⟩
-- RTR_HEFT_FAR1 (R354)
def RTR_HEFT_FAR1_far_port : Fld := ⟨.RTR_HEFT_FAR1, 2, 0⟩
def RTR_HEFT_FAR1_far_role : Fld := ⟨.RTR_HEFT_FAR1, 6, 3⟩
def RTR_HEFT_FAR1_far_pos : Fld := ⟨.RTR_HEFT_FAR1, 12, 7⟩
def RTR_HEFT_FAR1_far_id : Fld := ⟨.RTR_HEFT_FAR1, 28, 13⟩
def RTR_HEFT_FAR1_far_id_valid : Fld := ⟨.RTR_HEFT_FAR1, 29, 29⟩
def RTR_HEFT_FAR1_state : Fld := ⟨.RTR_HEFT_FAR1, 32, 30⟩
def RTR_HEFT_FAR1_accept : Fld := ⟨.RTR_HEFT_FAR1, 33, 33⟩
def RTR_HEFT_FAR1_blocked : Fld := ⟨.RTR_HEFT_FAR1, 47, 34⟩
def RTR_HEFT_FAR1_hellos : Fld := ⟨.RTR_HEFT_FAR1, 63, 48⟩
-- RTR_PORT_CABLE (R541)
def RTR_PORT_CABLE_present : Fld := ⟨.RTR_PORT_CABLE, 0, 0⟩
def RTR_PORT_CABLE_cable_class : Fld := ⟨.RTR_PORT_CABLE, 4, 1⟩
def RTR_PORT_CABLE_class_valid : Fld := ⟨.RTR_PORT_CABLE, 5, 5⟩
def RTR_PORT_CABLE_present_changes : Fld := ⟨.RTR_PORT_CABLE, 21, 6⟩
-- RTR_PAIR_CTRL (R376)
def RTR_PAIR_CTRL_rank_id : Fld := ⟨.RTR_PAIR_CTRL, 15, 0⟩
def RTR_PAIR_CTRL_partner : Fld := ⟨.RTR_PAIR_CTRL, 31, 16⟩
def RTR_PAIR_CTRL_arbiter : Fld := ⟨.RTR_PAIR_CTRL, 47, 32⟩
def RTR_PAIR_CTRL_role : Fld := ⟨.RTR_PAIR_CTRL, 49, 48⟩
def RTR_PAIR_CTRL_enable : Fld := ⟨.RTR_PAIR_CTRL, 50, 50⟩
def RTR_PAIR_CTRL_lag_beats : Fld := ⟨.RTR_PAIR_CTRL, 58, 51⟩
-- RTR_PAIR_TIME (R376)
def RTR_PAIR_TIME_watch_us : Fld := ⟨.RTR_PAIR_TIME, 23, 0⟩
def RTR_PAIR_TIME_guard_us : Fld := ⟨.RTR_PAIR_TIME, 39, 24⟩
-- RTR_PAIR_LEASE (R376)
def RTR_PAIR_LEASE_epoch : Fld := ⟨.RTR_PAIR_LEASE, 15, 0⟩
def RTR_PAIR_LEASE_valid : Fld := ⟨.RTR_PAIR_LEASE, 16, 16⟩
def RTR_PAIR_LEASE_fenced : Fld := ⟨.RTR_PAIR_LEASE, 17, 17⟩
def RTR_PAIR_LEASE_stale : Fld := ⟨.RTR_PAIR_LEASE, 18, 18⟩
def RTR_PAIR_LEASE_solo : Fld := ⟨.RTR_PAIR_LEASE, 19, 19⟩
-- RTR_PAIR_TEXP (R376)
def RTR_PAIR_TEXP_t_exp : Fld := ⟨.RTR_PAIR_TEXP, 63, 0⟩
-- RTR_PAIR_HOLD (R376)
def RTR_PAIR_HOLD_base : Fld := ⟨.RTR_PAIR_HOLD, 39, 0⟩
def RTR_PAIR_HOLD_size_mib : Fld := ⟨.RTR_PAIR_HOLD, 55, 40⟩
-- RTR_PAIR_STAT (R377)
def RTR_PAIR_STAT_ledger_used : Fld := ⟨.RTR_PAIR_STAT, 16, 0⟩
def RTR_PAIR_STAT_held_age_beats : Fld := ⟨.RTR_PAIR_STAT, 39, 32⟩
def RTR_PAIR_STAT_note_age_beats : Fld := ⟨.RTR_PAIR_STAT, 47, 40⟩
def RTR_PAIR_STAT_node_discard : Fld := ⟨.RTR_PAIR_STAT, 63, 48⟩
-- RTR_PAIR_CNT (R377)
def RTR_PAIR_CNT_stale_ctrl : Fld := ⟨.RTR_PAIR_CNT, 31, 0⟩
def RTR_PAIR_CNT_bad_src : Fld := ⟨.RTR_PAIR_CNT, 47, 32⟩
-- RTR_PAIR_EVT (R377)
def RTR_PAIR_EVT_behind : Fld := ⟨.RTR_PAIR_EVT, 0, 0⟩
def RTR_PAIR_EVT_suspect : Fld := ⟨.RTR_PAIR_EVT, 1, 1⟩
def RTR_PAIR_EVT_fenced : Fld := ⟨.RTR_PAIR_EVT, 2, 2⟩
def RTR_PAIR_EVT_takeover : Fld := ⟨.RTR_PAIR_EVT, 3, 3⟩
def RTR_PAIR_EVT_lost : Fld := ⟨.RTR_PAIR_EVT, 4, 4⟩
def RTR_PAIR_EVT_stale : Fld := ⟨.RTR_PAIR_EVT, 5, 5⟩
def RTR_PAIR_EVT_ledger_full : Fld := ⟨.RTR_PAIR_EVT, 6, 6⟩
def RTR_PAIR_EVT_deposed : Fld := ⟨.RTR_PAIR_EVT, 7, 7⟩
def RTR_PAIR_EVT_clone_done : Fld := ⟨.RTR_PAIR_EVT, 8, 8⟩
-- RTR_PAIR_CLONE (R377)
def RTR_PAIR_CLONE_start_beat : Fld := ⟨.RTR_PAIR_CLONE, 31, 0⟩
def RTR_PAIR_CLONE_arm : Fld := ⟨.RTR_PAIR_CLONE, 32, 32⟩
def RTR_PAIR_CLONE_busy : Fld := ⟨.RTR_PAIR_CLONE, 33, 33⟩
-- RTR_RANK_TBL (R377)
def RTR_RANK_TBL_rank : Fld := ⟨.RTR_RANK_TBL, 15, 0⟩
def RTR_RANK_TBL_epoch : Fld := ⟨.RTR_RANK_TBL, 31, 16⟩
def RTR_RANK_TBL_valid : Fld := ⟨.RTR_RANK_TBL, 32, 32⟩
-- MGT_WATCH_WIN0 (R400)
def MGT_WATCH_WIN0_ctx_us : Fld := ⟨.MGT_WATCH_WIN0, 23, 0⟩
def MGT_WATCH_WIN0_eng_us : Fld := ⟨.MGT_WATCH_WIN0, 47, 24⟩
-- MGT_WATCH_WIN1 (R400)
def MGT_WATCH_WIN1_part_us : Fld := ⟨.MGT_WATCH_WIN1, 23, 0⟩
def MGT_WATCH_WIN1_chip_us : Fld := ⟨.MGT_WATCH_WIN1, 47, 24⟩
-- MGT_WATCH_ACT (R400)
def MGT_WATCH_ACT_ctx : Fld := ⟨.MGT_WATCH_ACT, 1, 0⟩
def MGT_WATCH_ACT_eng : Fld := ⟨.MGT_WATCH_ACT, 3, 2⟩
def MGT_WATCH_ACT_part : Fld := ⟨.MGT_WATCH_ACT, 5, 4⟩
def MGT_WATCH_ACT_chip : Fld := ⟨.MGT_WATCH_ACT, 7, 6⟩
def MGT_WATCH_ACT_pcyc : Fld := ⟨.MGT_WATCH_ACT, 9, 8⟩
def MGT_WATCH_ACT_recur_ms : Fld := ⟨.MGT_WATCH_ACT, 25, 10⟩
-- MGT_RST_REQ (R400)
def MGT_RST_REQ_level : Fld := ⟨.MGT_RST_REQ, 2, 0⟩
def MGT_RST_REQ_tile : Fld := ⟨.MGT_RST_REQ, 10, 3⟩
def MGT_RST_REQ_slot : Fld := ⟨.MGT_RST_REQ, 15, 11⟩
def MGT_RST_REQ_unit : Fld := ⟨.MGT_RST_REQ, 18, 16⟩
def MGT_RST_REQ_paddock : Fld := ⟨.MGT_RST_REQ, 21, 19⟩
def MGT_RST_REQ_no_dump : Fld := ⟨.MGT_RST_REQ, 22, 22⟩
def MGT_RST_REQ_go : Fld := ⟨.MGT_RST_REQ, 23, 23⟩
-- MGT_RST_STAT (R401)
def MGT_RST_STAT_active : Fld := ⟨.MGT_RST_STAT, 2, 0⟩
def MGT_RST_STAT_last : Fld := ⟨.MGT_RST_STAT, 5, 3⟩
def MGT_RST_STAT_pc_req : Fld := ⟨.MGT_RST_STAT, 6, 6⟩
def MGT_RST_STAT_stuck : Fld := ⟨.MGT_RST_STAT, 7, 7⟩
def MGT_RST_STAT_zero_pending : Fld := ⟨.MGT_RST_STAT, 8, 8⟩
def MGT_RST_STAT_resets : Fld := ⟨.MGT_RST_STAT, 31, 16⟩
-- MGT_RST_LOG (R401)
def MGT_RST_LOG_level : Fld := ⟨.MGT_RST_LOG, 2, 0⟩
def MGT_RST_LOG_cause : Fld := ⟨.MGT_RST_LOG, 6, 3⟩
def MGT_RST_LOG_absorbed : Fld := ⟨.MGT_RST_LOG, 7, 7⟩
def MGT_RST_LOG_absorbed_level : Fld := ⟨.MGT_RST_LOG, 10, 8⟩
def MGT_RST_LOG_tile : Fld := ⟨.MGT_RST_LOG, 18, 11⟩
def MGT_RST_LOG_slot : Fld := ⟨.MGT_RST_LOG, 23, 19⟩
def MGT_RST_LOG_paddock : Fld := ⟨.MGT_RST_LOG, 26, 24⟩
def MGT_RST_LOG_unit : Fld := ⟨.MGT_RST_LOG, 30, 27⟩
def MGT_RST_LOG_beat : Fld := ⟨.MGT_RST_LOG, 55, 32⟩
def MGT_RST_LOG_valid : Fld := ⟨.MGT_RST_LOG, 63, 63⟩
-- MGT_RST_EVT (R401)
def MGT_RST_EVT_watch_ctx : Fld := ⟨.MGT_RST_EVT, 0, 0⟩
def MGT_RST_EVT_watch_eng : Fld := ⟨.MGT_RST_EVT, 1, 1⟩
def MGT_RST_EVT_watch_part : Fld := ⟨.MGT_RST_EVT, 2, 2⟩
def MGT_RST_EVT_watch_chip : Fld := ⟨.MGT_RST_EVT, 3, 3⟩
def MGT_RST_EVT_starved : Fld := ⟨.MGT_RST_EVT, 4, 4⟩
def MGT_RST_EVT_escalated : Fld := ⟨.MGT_RST_EVT, 5, 5⟩
def MGT_RST_EVT_pc_request : Fld := ⟨.MGT_RST_EVT, 6, 6⟩
def MGT_RST_EVT_peer_state : Fld := ⟨.MGT_RST_EVT, 7, 7⟩
def MGT_RST_EVT_dump_done : Fld := ⟨.MGT_RST_EVT, 8, 8⟩
-- MGT_PEER_LOG (R402)
def MGT_PEER_LOG_kind : Fld := ⟨.MGT_PEER_LOG, 2, 0⟩
def MGT_PEER_LOG_level : Fld := ⟨.MGT_PEER_LOG, 5, 3⟩
def MGT_PEER_LOG_partition : Fld := ⟨.MGT_PEER_LOG, 17, 6⟩
def MGT_PEER_LOG_node : Fld := ⟨.MGT_PEER_LOG, 33, 18⟩
def MGT_PEER_LOG_rseq : Fld := ⟨.MGT_PEER_LOG, 49, 34⟩
def MGT_PEER_LOG_valid : Fld := ⟨.MGT_PEER_LOG, 63, 63⟩
-- MGT_PEER_STAT (R402)
def MGT_PEER_STAT_notices : Fld := ⟨.MGT_PEER_STAT, 15, 0⟩
def MGT_PEER_STAT_completed : Fld := ⟨.MGT_PEER_STAT, 31, 16⟩
def MGT_PEER_STAT_late : Fld := ⟨.MGT_PEER_STAT, 47, 32⟩
def MGT_PEER_STAT_refused : Fld := ⟨.MGT_PEER_STAT, 63, 48⟩
-- FWU_DUMP_CTRL (R403)
def FWU_DUMP_CTRL_enable : Fld := ⟨.FWU_DUMP_CTRL, 0, 0⟩
def FWU_DUMP_CTRL_to_flash : Fld := ⟨.FWU_DUMP_CTRL, 1, 1⟩
def FWU_DUMP_CTRL_area_kib : Fld := ⟨.FWU_DUMP_CTRL, 14, 2⟩
def FWU_DUMP_CTRL_release : Fld := ⟨.FWU_DUMP_CTRL, 15, 15⟩
def FWU_DUMP_CTRL_now : Fld := ⟨.FWU_DUMP_CTRL, 16, 16⟩
-- FWU_DUMP_STAT (R403)
def FWU_DUMP_STAT_busy : Fld := ⟨.FWU_DUMP_STAT, 0, 0⟩
def FWU_DUMP_STAT_held : Fld := ⟨.FWU_DUMP_STAT, 1, 1⟩
def FWU_DUMP_STAT_truncated : Fld := ⟨.FWU_DUMP_STAT, 2, 2⟩
def FWU_DUMP_STAT_flash_done : Fld := ⟨.FWU_DUMP_STAT, 3, 3⟩
def FWU_DUMP_STAT_entries : Fld := ⟨.FWU_DUMP_STAT, 23, 4⟩
def FWU_DUMP_STAT_not_reached : Fld := ⟨.FWU_DUMP_STAT, 39, 24⟩
def FWU_DUMP_STAT_skipped : Fld := ⟨.FWU_DUMP_STAT, 55, 40⟩
def FWU_DUMP_STAT_seq : Fld := ⟨.FWU_DUMP_STAT, 63, 56⟩
-- FWU_DUMP_PTR (R403)
def FWU_DUMP_PTR_offset : Fld := ⟨.FWU_DUMP_PTR, 22, 0⟩
-- FWU_DUMP_DATA (R403)
def FWU_DUMP_DATA_data : Fld := ⟨.FWU_DUMP_DATA, 63, 0⟩
-- FUS_STAT (R427)
def FUS_STAT_fuses_loaded : Fld := ⟨.FUS_STAT, 0, 0⟩
def FUS_STAT_kat_done : Fld := ⟨.FUS_STAT, 1, 1⟩
def FUS_STAT_kat_fail_tiles : Fld := ⟨.FUS_STAT, 9, 2⟩
-- FUS_SI_STAT (R427)
def FUS_SI_STAT_source : Fld := ⟨.FUS_SI_STAT, 1, 0⟩
def FUS_SI_STAT_a_valid : Fld := ⟨.FUS_SI_STAT, 2, 2⟩
def FUS_SI_STAT_b_valid : Fld := ⟨.FUS_SI_STAT, 3, 3⟩
def FUS_SI_STAT_a_cause : Fld := ⟨.FUS_SI_STAT, 6, 4⟩
def FUS_SI_STAT_b_cause : Fld := ⟨.FUS_SI_STAT, 9, 7⟩
def FUS_SI_STAT_pending : Fld := ⟨.FUS_SI_STAT, 10, 10⟩
def FUS_SI_STAT_seq : Fld := ⟨.FUS_SI_STAT, 63, 32⟩
-- FUS_SI_CTRL (R427)
def FUS_SI_CTRL_reload : Fld := ⟨.FUS_SI_CTRL, 0, 0⟩
-- FUS_EVT (R427)
def FUS_EVT_kat_disagree : Fld := ⟨.FUS_EVT, 0, 0⟩
def FUS_EVT_below_grade : Fld := ⟨.FUS_EVT, 1, 1⟩
def FUS_EVT_si_rom : Fld := ⟨.FUS_EVT, 2, 2⟩
def FUS_EVT_si_element : Fld := ⟨.FUS_EVT, 3, 3⟩
def FUS_EVT_muster_incomplete : Fld := ⟨.FUS_EVT, 4, 4⟩
def FUS_EVT_soft_off : Fld := ⟨.FUS_EVT, 5, 5⟩
-- FUS_SOFT_CTRL (R427)
def FUS_SOFT_CTRL_kind : Fld := ⟨.FUS_SOFT_CTRL, 1, 0⟩
def FUS_SOFT_CTRL_index : Fld := ⟨.FUS_SOFT_CTRL, 9, 2⟩
def FUS_SOFT_CTRL_off : Fld := ⟨.FUS_SOFT_CTRL, 10, 10⟩
def FUS_SOFT_CTRL_go : Fld := ⟨.FUS_SOFT_CTRL, 11, 11⟩
-- FUS_FP_TILE (R428)
def FUS_FP_TILE_fused_on : Fld := ⟨.FUS_FP_TILE, 0, 0⟩
def FUS_FP_TILE_kat_fail : Fld := ⟨.FUS_FP_TILE, 1, 1⟩
def FUS_FP_TILE_kat_mask : Fld := ⟨.FUS_FP_TILE, 6, 2⟩
def FUS_FP_TILE_si_off : Fld := ⟨.FUS_FP_TILE, 7, 7⟩
def FUS_FP_TILE_rt_off : Fld := ⟨.FUS_FP_TILE, 8, 8⟩
def FUS_FP_TILE_muster_fail : Fld := ⟨.FUS_FP_TILE, 9, 9⟩
def FUS_FP_TILE_usable : Fld := ⟨.FUS_FP_TILE, 10, 10⟩
def FUS_FP_TILE_fmax_fused : Fld := ⟨.FUS_FP_TILE, 18, 11⟩
def FUS_FP_TILE_fmax_now : Fld := ⟨.FUS_FP_TILE, 26, 19⟩
-- FUS_FP_UNIT (R428)
def FUS_FP_UNIT_fused_on : Fld := ⟨.FUS_FP_UNIT, 0, 0⟩
def FUS_FP_UNIT_test_fail : Fld := ⟨.FUS_FP_UNIT, 1, 1⟩
def FUS_FP_UNIT_si_off : Fld := ⟨.FUS_FP_UNIT, 2, 2⟩
def FUS_FP_UNIT_rt_off : Fld := ⟨.FUS_FP_UNIT, 3, 3⟩
def FUS_FP_UNIT_usable : Fld := ⟨.FUS_FP_UNIT, 4, 4⟩
-- FUS_MUSTER_RX_CFG (R429)
def FUS_MUSTER_RX_CFG_session : Fld := ⟨.FUS_MUSTER_RX_CFG, 15, 0⟩
def FUS_MUSTER_RX_CFG_originator : Fld := ⟨.FUS_MUSTER_RX_CFG, 31, 16⟩
def FUS_MUSTER_RX_CFG_total_m1 : Fld := ⟨.FUS_MUSTER_RX_CFG, 47, 32⟩
def FUS_MUSTER_RX_CFG_kind : Fld := ⟨.FUS_MUSTER_RX_CFG, 48, 48⟩
def FUS_MUSTER_RX_CFG_valid : Fld := ⟨.FUS_MUSTER_RX_CFG, 49, 49⟩
-- FUS_MUSTER_RX_BASE (R429)
def FUS_MUSTER_RX_BASE_base : Fld := ⟨.FUS_MUSTER_RX_BASE, 39, 0⟩
-- FUS_MUSTER_RX_STAT (R429)
def FUS_MUSTER_RX_STAT_received : Fld := ⟨.FUS_MUSTER_RX_STAT, 16, 0⟩
def FUS_MUSTER_RX_STAT_complete : Fld := ⟨.FUS_MUSTER_RX_STAT, 17, 17⟩
def FUS_MUSTER_RX_STAT_incomplete : Fld := ⟨.FUS_MUSTER_RX_STAT, 18, 18⟩
def FUS_MUSTER_RX_STAT_closed : Fld := ⟨.FUS_MUSTER_RX_STAT, 19, 19⟩
def FUS_MUSTER_RX_STAT_discards : Fld := ⟨.FUS_MUSTER_RX_STAT, 47, 32⟩
-- FUS_MUSTER_TX_CFG (R429)
def FUS_MUSTER_TX_CFG_session : Fld := ⟨.FUS_MUSTER_TX_CFG, 15, 0⟩
def FUS_MUSTER_TX_CFG_total_m1 : Fld := ⟨.FUS_MUSTER_TX_CFG, 31, 16⟩
def FUS_MUSTER_TX_CFG_group : Fld := ⟨.FUS_MUSTER_TX_CFG, 43, 32⟩
def FUS_MUSTER_TX_CFG_poll_us : Fld := ⟨.FUS_MUSTER_TX_CFG, 59, 44⟩
def FUS_MUSTER_TX_CFG_go : Fld := ⟨.FUS_MUSTER_TX_CFG, 60, 60⟩
-- FUS_MUSTER_TX_SRC (R429)
def FUS_MUSTER_TX_SRC_src : Fld := ⟨.FUS_MUSTER_TX_SRC, 63, 0⟩
-- FUS_MUSTER_TX_LIST (R429)
def FUS_MUSTER_TX_LIST_list : Fld := ⟨.FUS_MUSTER_TX_LIST, 47, 0⟩
def FUS_MUSTER_TX_LIST_count : Fld := ⟨.FUS_MUSTER_TX_LIST, 63, 48⟩
-- FUS_MUSTER_TX_STAT (R429)
def FUS_MUSTER_TX_STAT_round : Fld := ⟨.FUS_MUSTER_TX_STAT, 2, 0⟩
def FUS_MUSTER_TX_STAT_busy : Fld := ⟨.FUS_MUSTER_TX_STAT, 3, 3⟩
def FUS_MUSTER_TX_STAT_incomplete : Fld := ⟨.FUS_MUSTER_TX_STAT, 19, 4⟩
def FUS_MUSTER_TX_STAT_silent : Fld := ⟨.FUS_MUSTER_TX_STAT, 35, 20⟩
-- PWR_CTRL (R454)
def PWR_CTRL_mode : Fld := ⟨.PWR_CTRL, 1, 0⟩
def PWR_CTRL_park : Fld := ⟨.PWR_CTRL, 2, 2⟩
def PWR_CTRL_unpark : Fld := ⟨.PWR_CTRL, 3, 3⟩
def PWR_CTRL_lock : Fld := ⟨.PWR_CTRL, 4, 4⟩
-- PWR_CAP (R454)
def PWR_CAP_cap_host : Fld := ⟨.PWR_CAP, 11, 0⟩
def PWR_CAP_cap_tray : Fld := ⟨.PWR_CAP, 23, 12⟩
def PWR_CAP_refused : Fld := ⟨.PWR_CAP, 24, 24⟩
def PWR_CAP_eff_limit : Fld := ⟨.PWR_CAP, 43, 32⟩
-- PWR_FT_CFG (R454)
def PWR_FT_CFG_brake_pct : Fld := ⟨.PWR_FT_CFG, 6, 0⟩
def PWR_FT_CFG_ramp_w_per_ms : Fld := ⟨.PWR_FT_CFG, 23, 8⟩
def PWR_FT_CFG_hold_park_ms : Fld := ⟨.PWR_FT_CFG, 39, 24⟩
-- PWR_STAT (R455)
def PWR_STAT_state : Fld := ⟨.PWR_STAT, 2, 0⟩
def PWR_STAT_limiter : Fld := ⟨.PWR_STAT, 9, 3⟩
def PWR_STAT_ft_n : Fld := ⟨.PWR_STAT, 10, 10⟩
def PWR_STAT_ft_ack : Fld := ⟨.PWR_STAT, 11, 11⟩
def PWR_STAT_park_reasons : Fld := ⟨.PWR_STAT, 16, 12⟩
-- PWR_TELEM (R455)
def PWR_TELEM_p_1us_w : Fld := ⟨.PWR_TELEM, 15, 0⟩
def PWR_TELEM_p_100us_w : Fld := ⟨.PWR_TELEM, 31, 16⟩
def PWR_TELEM_v_in : Fld := ⟨.PWR_TELEM, 47, 32⟩
def PWR_TELEM_p_1s_w : Fld := ⟨.PWR_TELEM, 63, 48⟩
-- PWR_THERM (R455)
def PWR_THERM_target : Fld := ⟨.PWR_THERM, 6, 0⟩
def PWR_THERM_hot_now : Fld := ⟨.PWR_THERM, 14, 7⟩
def PWR_THERM_hot_pred : Fld := ⟨.PWR_THERM, 22, 15⟩
def PWR_THERM_hot_spot : Fld := ⟨.PWR_THERM, 30, 23⟩
def PWR_THERM_hbm_limit : Fld := ⟨.PWR_THERM, 39, 32⟩
def PWR_THERM_park_c : Fld := ⟨.PWR_THERM, 47, 40⟩
def PWR_THERM_trip_c : Fld := ⟨.PWR_THERM, 55, 48⟩
-- PWR_COOL (R455)
def PWR_COOL_flow : Fld := ⟨.PWR_COOL, 11, 0⟩
def PWR_COOL_inlet : Fld := ⟨.PWR_COOL, 21, 12⟩
def PWR_COOL_age_ms : Fld := ⟨.PWR_COOL, 47, 32⟩
def PWR_COOL_flow_limit_w : Fld := ⟨.PWR_COOL, 63, 48⟩
-- PWR_FOLLOW (R454)
def PWR_FOLLOW_f_wait : Fld := ⟨.PWR_FOLLOW, 7, 0⟩
def PWR_FOLLOW_dwell_ns : Fld := ⟨.PWR_FOLLOW, 23, 8⟩
-- PWR_PACE (R456)
def PWR_PACE_wait_frac : Fld := ⟨.PWR_PACE, 9, 0⟩
def PWR_PACE_window_beats : Fld := ⟨.PWR_PACE, 15, 10⟩
def PWR_PACE_pace_node : Fld := ⟨.PWR_PACE, 31, 16⟩
def PWR_PACE_self : Fld := ⟨.PWR_PACE, 32, 32⟩
def PWR_PACE_limited : Fld := ⟨.PWR_PACE, 39, 33⟩
def PWR_PACE_windows : Fld := ⟨.PWR_PACE, 63, 40⟩
-- PWR_EVT (R456)
def PWR_EVT_ft : Fld := ⟨.PWR_EVT, 0, 0⟩
def PWR_EVT_park : Fld := ⟨.PWR_EVT, 1, 1⟩
def PWR_EVT_thermal_throttle : Fld := ⟨.PWR_EVT, 2, 2⟩
def PWR_EVT_sensor_suspect : Fld := ⟨.PWR_EVT, 3, 3⟩
def PWR_EVT_sensor_lost : Fld := ⟨.PWR_EVT, 4, 4⟩
def PWR_EVT_flow_derate : Fld := ⟨.PWR_EVT, 5, 5⟩
def PWR_EVT_brake_internal : Fld := ⟨.PWR_EVT, 6, 6⟩
def PWR_EVT_fmax_aged : Fld := ⟨.PWR_EVT, 7, 7⟩
def PWR_EVT_fmax_below_nominal : Fld := ⟨.PWR_EVT, 8, 8⟩
def PWR_EVT_undervoltage : Fld := ⟨.PWR_EVT, 9, 9⟩
def PWR_EVT_cool_stale : Fld := ⟨.PWR_EVT, 10, 10⟩
-- PWR_FAB (R455)
def PWR_FAB_temps : Fld := ⟨.PWR_FAB, 63, 0⟩
-- PWR_TILE (R456)
def PWR_TILE_f_ceiling : Fld := ⟨.PWR_TILE, 7, 0⟩
def PWR_TILE_f_now : Fld := ⟨.PWR_TILE, 15, 8⟩
def PWR_TILE_v_now : Fld := ⟨.PWR_TILE, 23, 16⟩
def PWR_TILE_gate : Fld := ⟨.PWR_TILE, 30, 24⟩
def PWR_TILE_temp : Fld := ⟨.PWR_TILE, 38, 31⟩
def PWR_TILE_suspect : Fld := ⟨.PWR_TILE, 39, 39⟩
def PWR_TILE_thr : Fld := ⟨.PWR_TILE, 40, 40⟩
def PWR_TILE_droops : Fld := ⟨.PWR_TILE, 56, 41⟩
-- MGT_LMON_CFG (R481)
def MGT_LMON_CFG_src : Fld := ⟨.MGT_LMON_CFG, 3, 0⟩
def MGT_LMON_CFG_sel : Fld := ⟨.MGT_LMON_CFG, 19, 4⟩
def MGT_LMON_CFG_log2 : Fld := ⟨.MGT_LMON_CFG, 20, 20⟩
def MGT_LMON_CFG_shift : Fld := ⟨.MGT_LMON_CFG, 25, 21⟩
def MGT_LMON_CFG_enable : Fld := ⟨.MGT_LMON_CFG, 26, 26⟩
def MGT_LMON_CFG_clear : Fld := ⟨.MGT_LMON_CFG, 27, 27⟩
def MGT_LMON_CFG_period_ns : Fld := ⟨.MGT_LMON_CFG, 47, 28⟩
def MGT_LMON_CFG_base : Fld := ⟨.MGT_LMON_CFG, 63, 48⟩
-- MGT_LMON_ALARM (R481)
def MGT_LMON_ALARM_alarm_thr : Fld := ⟨.MGT_LMON_ALARM, 31, 0⟩
def MGT_LMON_ALARM_alarm_en : Fld := ⟨.MGT_LMON_ALARM, 32, 32⟩
-- MGT_LMON_STAT (R481)
def MGT_LMON_STAT_min : Fld := ⟨.MGT_LMON_STAT, 23, 0⟩
def MGT_LMON_STAT_max : Fld := ⟨.MGT_LMON_STAT, 47, 24⟩
def MGT_LMON_STAT_alarm : Fld := ⟨.MGT_LMON_STAT, 48, 48⟩
-- MGT_LMON_HIST (R481)
def MGT_LMON_HIST_bin_lo : Fld := ⟨.MGT_LMON_HIST, 31, 0⟩
def MGT_LMON_HIST_bin_hi : Fld := ⟨.MGT_LMON_HIST, 63, 32⟩
-- CIC_CTRL (R483)
def CIC_CTRL_split : Fld := ⟨.CIC_CTRL, 2, 0⟩
def CIC_CTRL_enable : Fld := ⟨.CIC_CTRL, 3, 3⟩
-- CIC_EVT (R483)
def CIC_EVT_bad_eoi : Fld := ⟨.CIC_EVT, 0, 0⟩
def CIC_EVT_nest_full : Fld := ⟨.CIC_EVT, 1, 1⟩
-- CIC_HOST_EOI (R483)
def CIC_HOST_EOI_source : Fld := ⟨.CIC_HOST_EOI, 9, 0⟩
-- CIC_LEVEL (R483)
def CIC_LEVEL_bits : Fld := ⟨.CIC_LEVEL, 63, 0⟩
-- CIC_PEND (R483)
def CIC_PEND_bits : Fld := ⟨.CIC_PEND, 63, 0⟩
-- CIC_INSVC (R483)
def CIC_INSVC_bits : Fld := ⟨.CIC_INSVC, 63, 0⟩
-- CIC_HOLD (R482)
def CIC_HOLD_holdoff_us : Fld := ⟨.CIC_HOLD, 15, 0⟩
def CIC_HOLD_active : Fld := ⟨.CIC_HOLD, 16, 16⟩
-- CIC_VBASE (R483)
def CIC_VBASE_vbase : Fld := ⟨.CIC_VBASE, 63, 16⟩
-- CIC_EOI (R483)
def CIC_EOI_source : Fld := ⟨.CIC_EOI, 9, 0⟩
-- CIC_CUR (R483)
def CIC_CUR_vector : Fld := ⟨.CIC_CUR, 9, 0⟩
def CIC_CUR_depth : Fld := ⟨.CIC_CUR, 13, 10⟩
def CIC_CUR_run : Fld := ⟨.CIC_CUR, 22, 14⟩
-- CIC_SRC (R483)
def CIC_SRC_enable : Fld := ⟨.CIC_SRC, 0, 0⟩
def CIC_SRC_prio : Fld := ⟨.CIC_SRC, 8, 1⟩
def CIC_SRC_core : Fld := ⟨.CIC_SRC, 10, 9⟩
def CIC_SRC_host : Fld := ⟨.CIC_SRC, 11, 11⟩
def CIC_SRC_msix : Fld := ⟨.CIC_SRC, 16, 12⟩
def CIC_SRC_group : Fld := ⟨.CIC_SRC, 21, 17⟩
-- CIC_MSIX_ADDR (R466)
def CIC_MSIX_ADDR_addr : Fld := ⟨.CIC_MSIX_ADDR, 63, 0⟩
-- CIC_MSIX_DATA (R466)
def CIC_MSIX_DATA_data : Fld := ⟨.CIC_MSIX_DATA, 31, 0⟩
def CIC_MSIX_DATA_mask : Fld := ⟨.CIC_MSIX_DATA, 32, 32⟩
-- CIC_MSIX_PBA (R466)
def CIC_MSIX_PBA_pba : Fld := ⟨.CIC_MSIX_PBA, 63, 0⟩
-- MGT_SERIAL (R514)
def MGT_SERIAL_serial : Fld := ⟨.MGT_SERIAL, 63, 0⟩
-- MGT_ROT_STAT (R514)
def MGT_ROT_STAT_svn_count : Fld := ⟨.MGT_ROT_STAT, 6, 0⟩
def MGT_ROT_STAT_revoked : Fld := ⟨.MGT_ROT_STAT, 11, 8⟩
def MGT_ROT_STAT_recovery : Fld := ⟨.MGT_ROT_STAT, 12, 12⟩
def MGT_ROT_STAT_rcvr_strap : Fld := ⟨.MGT_ROT_STAT, 13, 13⟩
-- MGT_EVT_BADACC (R514)
def MGT_EVT_BADACC_offset : Fld := ⟨.MGT_EVT_BADACC, 25, 0⟩
def MGT_EVT_BADACC_source : Fld := ⟨.MGT_EVT_BADACC, 26, 26⟩
def MGT_EVT_BADACC_write : Fld := ⟨.MGT_EVT_BADACC, 27, 27⟩
def MGT_EVT_BADACC_bytes : Fld := ⟨.MGT_EVT_BADACC, 31, 28⟩
def MGT_EVT_BADACC_valid : Fld := ⟨.MGT_EVT_BADACC, 63, 63⟩
-- MGT_MCTP_STAT (R514)
def MGT_MCTP_STAT_oversize : Fld := ⟨.MGT_MCTP_STAT, 15, 0⟩
def MGT_MCTP_STAT_unsupported : Fld := ⟨.MGT_MCTP_STAT, 31, 16⟩
-- MGT_PINS (R540)
def MGT_PINS_pwr_en : Fld := ⟨.MGT_PINS, 0, 0⟩
def MGT_PINS_mated : Fld := ⟨.MGT_PINS, 1, 1⟩
def MGT_PINS_rcvr : Fld := ⟨.MGT_PINS, 2, 2⟩
def MGT_PINS_ft_n : Fld := ⟨.MGT_PINS, 3, 3⟩
def MGT_PINS_alert : Fld := ⟨.MGT_PINS, 4, 4⟩
def MGT_PINS_pos : Fld := ⟨.MGT_PINS, 10, 5⟩
def MGT_PINS_alert_cause : Fld := ⟨.MGT_PINS, 15, 12⟩
-- FWU_STAT (R515)
def FWU_STAT_state : Fld := ⟨.FWU_STAT, 2, 0⟩
def FWU_STAT_component : Fld := ⟨.FWU_STAT, 5, 3⟩
def FWU_STAT_agent : Fld := ⟨.FWU_STAT, 6, 6⟩
def FWU_STAT_confirm : Fld := ⟨.FWU_STAT, 7, 7⟩
def FWU_STAT_blocks_done : Fld := ⟨.FWU_STAT, 23, 8⟩
def FWU_STAT_retries : Fld := ⟨.FWU_STAT, 31, 24⟩
-- FWU_ACT (R515)
def FWU_ACT_port_mask : Fld := ⟨.FWU_ACT, 7, 0⟩
def FWU_ACT_quiesce_ms : Fld := ⟨.FWU_ACT, 15, 8⟩
-- FWU_EVT (R515)
def FWU_EVT_svn_advanced : Fld := ⟨.FWU_EVT, 0, 0⟩
def FWU_EVT_act_fallback : Fld := ⟨.FWU_EVT, 1, 1⟩
def FWU_EVT_quiesce_timeout : Fld := ⟨.FWU_EVT, 2, 2⟩
def FWU_EVT_settings_reset : Fld := ⟨.FWU_EVT, 3, 3⟩
def FWU_EVT_verify_fail : Fld := ⟨.FWU_EVT, 4, 4⟩
-- FWU_MEAS_EXT (R515)
def FWU_MEAS_EXT_data : Fld := ⟨.FWU_MEAS_EXT, 63, 0⟩
-- FWU_SLOT (R515)
def FWU_SLOT_valid : Fld := ⟨.FWU_SLOT, 0, 0⟩
def FWU_SLOT_in_use : Fld := ⟨.FWU_SLOT, 1, 1⟩
def FWU_SLOT_svn : Fld := ⟨.FWU_SLOT, 8, 2⟩
def FWU_SLOT_act_no : Fld := ⟨.FWU_SLOT, 31, 9⟩
def FWU_SLOT_version : Fld := ⟨.FWU_SLOT, 63, 32⟩

end Sys2Proof.Machine
end

