-- ==== Sys2Proof/Machine/FoldTypes.lean ====
section
/-! DEFINITION. The state of the fold engine (R306 to R330). -/
namespace Sys2Proof.Machine

/-- A chunk (R317): its index, the rank whose data it carries, its payload, the CRC that goes with it, how often it was sent
again in a row, and whether the fold store's copy holds a double-bit error (R306). -/
structure FoldChunk where
  chunk : Nat
  srcRank : Nat
  payload : List Byte
  crc : Nat
  tries : Nat
  bad : Bool
  deriving DecidableEq, Repr

/-- The chunks for one neighbour or peer (R316, R321): the credits held, the member's own next chunk, the chunks ready to
be sent, and those sent whose credit has not returned, oldest first. -/
structure FoldFlow where
  credit : Nat
  own : Nat
  ready : List FoldChunk
  kept : List FoldChunk
  deriving DecidableEq, Repr

/-- A flow of a new instance. -/
def FoldFlow.start : FoldFlow := ⟨0, 0, [], []⟩

/-- A result chunk of an earlier instance that waits to be sent with the credit it held when the next instance started
(R314, R316): the instance, the destination and the chunk. -/
structure LateChunk where
  inst : Nat
  dest : Nat
  chunk : FoldChunk
  deriving DecidableEq, Repr

/-- What a collective-table entry holds besides its registers. -/
structure FoldEntry where
  /-- The rank table copied at commit: node and π of each rank (R309). -/
  ranks : List (Nat × Nat)
  /-- The member's child index at its up node (R317). -/
  childIndex : Nat
  /-- The flows by destination: 0 the up node, 1 + j child j, 8 + k the peer of rank k. -/
  flows : Assoc FoldFlow
  /-- The partials received and not yet combined, with the child (R311). -/
  partials : List (Nat × FoldChunk)
  /-- The next chunk to combine. -/
  next : Nat
  /-- The result chunks performed at this member: chunk and rank (R315). -/
  done : List (Nat × Nat)
  /-- The result and direct chunks verified and consumed at this member, and an all-gather's partials (R316): chunk and
  rank. -/
  taken : List (Nat × Nat)
  /-- The chunks taken whose credit has not been returned yet, and those whose credit has (R316): the node that sent the chunk,
  the chunk and the rank. -/
  owed : List (Nat × Nat × Nat)
  paid : List (Nat × Nat × Nat)
  /-- Whether the current instance was started here and did not end without a count: its own data is still sent. -/
  live : Bool
  /-- The chunks of earlier instances that wait to be sent. -/
  late : List LateChunk
  /-- The children whose first chunk has arrived, in order, with the late_node that each reported (R329). -/
  first : List (Nat × Nat)
  /-- The children that have sent CONFIRM, whether the member has, and whether RELEASE came (R322). -/
  confirms : List Nat
  confirmed : Bool
  released : Bool
  /-- The instances with a recorded fault, and the one last aborted (R323, R327). -/
  faults : List Nat
  aborted : Option Nat
  /-- The pace-setter that the root chose, and the time of the member's own trigger (R329). -/
  pace : Nat
  startAt : Nat
  deriving DecidableEq, Repr

/-- An entry that holds nothing. -/
def FoldEntry.empty : FoldEntry where
  ranks := []
  childIndex := 0
  flows := []
  partials := []
  next := 0
  done := []
  taken := []
  owed := []
  paid := []
  live := false
  late := []
  first := []
  confirms := []
  confirmed := false
  released := false
  faults := []
  aborted := none
  pace := 0
  startAt := 0

end Sys2Proof.Machine
end

