-- ==== Sys2Proof/Machine/PairTypes.lean ====
section
/-! DEFINITION. The state of shadow pairing (R355 to R374). -/
namespace Sys2Proof.Machine

/-- A rank packet of the active that waits to leave (R362): its key, the internal port, the packet, the sequence of its
note once that was sent, whether the standby acknowledged it, whether it waits for a JOIN, and the time of the note. -/
structure PairOut where
  key : Nat
  port : Nat
  packet : Packet
  seq : Option Nat
  acked : Bool
  needJoin : Bool
  at_ : Nat
  deriving DecidableEq, Repr

/-- A rank packet in the standby's hold (R361): its key, the internal port, the packet and the time it was stored. -/
structure PairHeld where
  key : Nat
  port : Nat
  packet : Packet
  at_ : Nat
  deriving DecidableEq, Repr

/-- The pairing state: the active's waiting packets, the keys of JOINs that came before their packet, the next sequence
of a NOTE and of a JOIN, the standby's hold and recorded notes (key and time), the sequences of notes received and not
yet covered by a gapless acknowledgement, the highest acknowledged sequence, the packets that a full ledger keeps from
being produced, the arrival time of the last GRANT, and whether a clone is armed (R374). -/
structure Pair where
  out : List PairOut
  joins : List Nat
  noteSeq : Nat
  joinSeq : Nat
  hold : List PairHeld
  notes : List (Nat × Nat)
  got : List Nat
  ackSeq : Nat
  stalled : List PairHeld
  grantAt : Nat
  cloneArmed : Bool
  deriving DecidableEq, Repr

/-- Nothing paired. -/
def Pair.empty : Pair := ⟨[], [], 0, 0, [], [], [], 65535, [], 0, false⟩

end Sys2Proof.Machine
end

