-- ==== Sys2Proof/Machine/State.lean ====
section
/-! DEFINITION. The state of the block. -/
namespace Sys2Proof.Machine

/-- No command of the block ends in a fault: every one has an effect, or none where what it names does not exist. -/
inductive Fault where
  deriving DecidableEq, Repr

/-- The reasons a command is refused. -/
inductive Refusal where
  /-- Raised by the arms of exec whose command has no meaning yet; safe: the machine stops. -/
  | notModelled (mnemonic : String)
  deriving DecidableEq, Repr

/-- A load miss that reads HBM and has not been answered (R219): its tile, and the pseudo-channel as stack × 32 + number. -/
structure HbmRead where
  tile : Nat
  channel : Nat
  deriving DecidableEq, Repr

/-- What a tile measures between two commands: for each tally counter the v of the present cycle so far and that of the
cycle before (R469), and the instructions left to retire before the tag sampler's interval ends (R471). -/
structure Meter where
  now : List Nat
  before : List Nat
  left : Nat
  deriving DecidableEq, Repr

def Meter.reset : Meter := ⟨List.replicate 8 0, List.replicate 8 0, 0⟩

/-- The state of the block. -/
structure State where
  pending : List Instr
  /-- The registers by BAR0 offset (R29); an unlisted register holds its reset value. -/
  regs : Assoc Word64
  /-- HBM and scratchpad bytes by own-node address bits [47:0] (R24); an unlisted byte reads as zero. -/
  mem : List Host.Cell
  /-- 64-byte HBM granules whose content meets an uncorrectable error, by granule number (R221). -/
  hbmUe : List Nat
  /-- 64-byte HBM granules with a correctable error, by granule number (R221). -/
  hbmCe : List Nat
  /-- 64-byte HBM granules with an error that the stack's on-die ECC will correct and report, by granule number (R221). -/
  hbmOndie : List Nat
  /-- The load misses that read HBM, in order of request (R219). -/
  reads : List HbmRead
  /-- The next granule of each pseudo-channel's patrol scrub (R222), by stack × 32 + pseudo-channel. -/
  scrubAt : Assoc Nat
  /-- For each stack, how many temperature reads in a row lay 3 °C below 85 °C and below 95 °C (R223). -/
  hbmCool : Assoc (Nat × Nat)
  /-- The activates counted in each bank since its last refresh management (R224), by stack × 4096 + bank. -/
  bankActs : Assoc Nat
  /-- The tiles by physical number (R19); an unlisted tile is a tile after reset. -/
  tiles : Assoc Tile
  /-- The graph intake's part for each paddock (R45). -/
  pads : Assoc Paddock
  /-- The grants in force (R50). -/
  grants : List Grant
  /-- The paddock that the intake served last (R55). -/
  lastPad : Nat
  /-- The flag-hold buffer, in order of entry (R200). -/
  flagHold : List HeldFlag
  /-- The get responder's entries (R261). -/
  gets : List GetEntry
  /-- The router's input buffers, in order of arrival (R265). -/
  input : List InPacket
  /-- The packets that wait at the router's output ports, in order (R267). -/
  output : List OutPacket
  /-- The packets delivered on this node and not yet taken (R252): port and packet. -/
  delivered : List (Nat × Packet)
  /-- The unicast table's two banks (R269, R275); an unlisted entry holds primary 15 and
  alternate 15 (R336). -/
  uc0 : Assoc Word32
  uc1 : Assoc Word32
  /-- The multicast table's two banks (R269, R275); an unlisted entry holds an empty mask (R336). -/
  mc0 : Assoc Word32
  mc1 : Assoc Word32
  /-- The serial lanes by physical number and the external ports' link layers; unlisted ones are as after reset (R229,
  R241). -/
  lanes : Assoc Lane
  links : Assoc LinkPort
  /-- The last accepted far end of each external port: serial and port (R342). -/
  accepted : Assoc (Nat × Nat)
  /-- The number of lookups the router has made. -/
  routed : Nat
  /-- The beat timer (R284). -/
  beat : BeatTimer
  /-- The two banks of the slot tables by port × 256 + slot (R294), of the circuit table (R295) and of the steering table
  (R296); an unlisted entry holds zeros. -/
  slot0 : Assoc Word64
  slot1 : Assoc Word64
  circ0 : Assoc Word64
  circ1 : Assoc Word64
  steer0 : Assoc Word64
  steer1 : Assoc Word64
  /-- The fold engine's collective-table entries beside their registers; an unlisted one is empty (R306). -/
  fold : Assoc FoldEntry
  /-- The entries whose commit was written and is not yet checked, in the order of the writes (R307). -/
  commits : List Nat
  /-- Shadow pairing: hold, ledger and notes (R360 to R363). -/
  pair : Pair
  /-- The VC7 rate limiter's entries (R279). -/
  limiter : List LimiterEntry
  /-- Paddocks in partition reset (R386), and whether the node is in chip reset. -/
  padReset : List Nat
  chipReset : Bool
  /-- What the module has sent on other buses, oldest first. -/
  out : List Output
  /-- The four management cores (R463). -/
  cores : List MgtCore
  /-- The PCI Express function (R485). -/
  pcie : PcieFn
  /-- The tile whose tag record the intake took last (R473). -/
  lastTag : Nat
  /-- The tiles' tally and tag measures (R469, R471); those of an unlisted tile are as after reset. -/
  meters : Assoc Meter
  /-- The fuse record (R20, R404). -/
  fuse : FuseRecord
  /-- Recovery (R378 to R397), the power controller (R430 to R450), bring-up and muster (R404 to R425), the management
  complex and its flash (R486 to R511), the connectors (R516 to R537). -/
  recovery : Recovery
  power : Power
  boot : Boot
  muster : Muster
  mgmt : Mgmt
  flash : Flash
  tray : Tray
  /-- The number of the beat in progress (R284). -/
  beatNo : Nat
  /-- The time since reset in units of 100 ps. -/
  now : Nat
  /-- The number of free values taken so far. -/
  fresh : Nat
  deriving DecidableEq, Repr

/-- The fuse record of the part the model is of: a PQ-4812 of stepping 1 whose clusters 8 and 17 are fused off. The spec
leaves the choice of disabled tiles to each part (log entry 6). -/
def FuseRecord.part : FuseRecord where
  variant := 0x0C
  stepping := 1
  tilesOff := [64, 65, 66, 67, 68, 69, 70, 71, 136, 137, 138, 139, 140, 141, 142, 143]
  stacksOff := []
  fmax := []
  serial := 0
  portsOff := []
  foldsOff := []
  keys := [0, 0, 0, 0]
  revoked := 0
  svn := 0
  seed := 0

/-- The state right after reset. -/
def State.reset : State where
  pending := []
  regs := []
  mem := []
  hbmUe := []
  hbmCe := []
  hbmOndie := []
  reads := []
  scrubAt := []
  hbmCool := []
  bankActs := []
  tiles := []
  pads := []
  grants := []
  lastPad := 7
  flagHold := []
  gets := []
  input := []
  output := []
  delivered := []
  uc0 := []
  uc1 := []
  mc0 := []
  mc1 := []
  lanes := []
  links := []
  accepted := []
  routed := 0
  beat := BeatTimer.reset
  slot0 := []
  slot1 := []
  circ0 := []
  circ1 := []
  steer0 := []
  steer1 := []
  fold := []
  commits := []
  pair := Pair.empty
  limiter := []
  padReset := []
  chipReset := false
  out := []
  cores := List.replicate 4 MgtCore.reset
  pcie := ⟨false, false, false⟩
  lastTag := 143
  meters := []
  fuse := FuseRecord.part
  recovery := Recovery.reset
  power := Power.reset
  boot := Boot.reset
  muster := Muster.reset
  mgmt := Mgmt.reset
  flash := Flash.erased
  tray := Tray.on
  beatNo := 0
  now := 0
  fresh := 0

end Sys2Proof.Machine
end

