-- ==== Sys2Proof/Machine/Regs.lean ====
section
/-! DEFINITION. The registers as storage: reading and writing a register's fields. -/
namespace Sys2Proof.Machine

/-- The value of a list of field rows at reset. -/
def rowsReset : List FieldRow → Nat
  | [] => 0
  | r :: rs => r.rst <<< r.lo + rowsReset rs

/-- The reset cap of a virtual channel (R283). -/
def vcCapReset : Nat → Nat
  | 0 => 4096 | 1 => 4096 | 2 => 65536 | 3 => 8192 | 4 => 16384 | 5 => 32768 | 6 => 2048 | _ => 16384

/-- The reset value of copy `(i, j)` of a register: its fields' reset values, and the resets that depend on the copy or
on the fuses (R283, R354, R454 to R456). -/
def regReset (f : FuseRecord) (r : RegId) (i j : Nat) : Nat :=
  match r with
  | .RTR_VC_CFG => vcCapReset j
  | .RTR_PORT_ROLE => if i < 6 then i + 1 else 7
  | .PWR_CAP => let w := f.sustainedW / 10; w + w <<< 12 + w <<< 32
  | .PWR_COOL => rowsReset r.desc.fields + f.sustainedW <<< 48
  | .PWR_TILE => rowsReset r.desc.fields + agetD f.fmax i 136
  | _ => rowsReset r.desc.fields

/-- The value of copy `(i, j)` of a register, as stored. -/
def State.reg (s : State) (r : RegId) (i : Nat := 0) (j : Nat := 0) : Nat :=
  match aget s.regs (r.offset i j) with
  | some v => v.toNat
  | none => regReset s.fuse r i j

/-- The state with copy `(i, j)` of a register set. -/
def State.setReg (s : State) (r : RegId) (i j v : Nat) : State :=
  { s with regs := aset s.regs (r.offset i j) (BitVec.ofNat 64 v) }

/-- The value of a field. -/
def State.fld (s : State) (f : Fld) (i : Nat := 0) (j : Nat := 0) : Nat := bitsOf (s.reg f.reg i j) f.hi f.lo

/-- Whether a one-bit field is 1. -/
def State.flag (s : State) (f : Fld) (i : Nat := 0) (j : Nat := 0) : Bool := s.fld f i j == 1

/-- The state with a field set. -/
def State.setFld (s : State) (f : Fld) (i j v : Nat) : State :=
  s.setReg f.reg i j (withBits (s.reg f.reg i j) f.hi f.lo v)

/-- The state with a field of a register without copies set. -/
def State.put (s : State) (f : Fld) (v : Nat) : State := s.setFld f 0 0 v

/-- The state with a sticky event bit set (R9, R11). -/
def State.event (s : State) (f : Fld) (i : Nat := 0) : State := s.setFld f i 0 1

/-- The state with bit `b` of a field of event bits set. -/
def State.eventBit (s : State) (f : Fld) (b : Nat) (i : Nat := 0) : State :=
  s.setFld f i 0 (withBit (s.fld f i) b true)

/-- The largest value of a field. -/
def Fld.max (f : Fld) : Nat := 2 ^ (f.hi + 1 - f.lo) - 1

/-- The state with a counter increased, stopping at its largest value. -/
def State.satCount (s : State) (f : Fld) (i : Nat := 0) (j : Nat := 0) (n : Nat := 1) : State :=
  s.setFld f i j (satAdd f.max (s.fld f i j) n)

/-- The state with a counter increased, wrapping. -/
def State.wrapCount (s : State) (f : Fld) (i : Nat := 0) (j : Nat := 0) (n : Nat := 1) : State :=
  s.setFld f i j ((s.fld f i j + n) % (f.max + 1))

end Sys2Proof.Machine
end

