-- ==== Sys2Proof/Machine/Ops.lean ====
section
/-! DEFINITION. The named operations over the state that every family shares: memory, tiles, free values, addresses,
paddocks and the floor plan. -/
namespace Sys2Proof.Machine

/-! ### Free values -/

/-- The next free value (log entry 2). -/
def State.freeVal (s : State) : Nat := (Config.freeValue s.fresh).toNat

/-- The state after a free value was taken. -/
def State.spend (s : State) : State := { s with fresh := s.fresh + 1 }

/-! ### Memory -/

/-- What an unlisted address reads as (log entry 7). -/
def memDefault : Byte := 0

/-- A memory is in canonical form: addresses rise strictly, and no entry equals what an unlisted address reads as. -/
def memWf : List Host.Cell → Bool
  | [] => true
  | [c] => c.2 != memDefault
  | c :: d :: t => c.2 != memDefault && decide (c.1 < d.1) && memWf (d :: t)

/-- The byte at an own-node address. -/
def memByte : List Host.Cell → Nat → Byte
  | [], _ => memDefault
  | (j, v) :: t, a => if j = a then v else memByte t a

/-- The memory with the byte at an address replaced, in canonical form. -/
def memSet : List Host.Cell → Nat → Byte → List Host.Cell
  | [], a, b => if b = memDefault then [] else [(a, b)]
  | (j, v) :: t, a, b =>
    if a < j then (if b = memDefault then (j, v) :: t else (a, b) :: (j, v) :: t)
    else if j = a then (if b = memDefault then t else (a, b) :: t)
    else (j, v) :: memSet t a b

/-- The memory with bytes stored from an address upwards. -/
def memStore : List Host.Cell → Nat → List Byte → List Host.Cell
  | m, _, [] => m
  | m, a, b :: bs => memStore (memSet m a b) (a + 1) bs

/-- The `n` bytes from an address upwards. -/
def memLoad (m : List Host.Cell) : Nat → Nat → List Byte
  | _, 0 => []
  | a, n + 1 => memByte m a :: memLoad m (a + 1) n

/-- The memory with every byte at an address from `lo` up to but not including `hi` zeroed. -/
def memZero (m : List Host.Cell) (lo hi : Nat) : List Host.Cell := m.filter fun c => !(lo ≤ c.1 && c.1 < hi)

/-- The bytes at an own-node address. -/
def State.bytes (s : State) (a n : Nat) : List Byte := memLoad s.mem a n

/-- The state with bytes stored at an own-node address. -/
def State.store (s : State) (a : Nat) (bs : List Byte) : State := { s with mem := memStore s.mem a bs }

/-- The own-node address bits [47:0] of an HBM offset. -/
def hbmKey (off : Nat) : Nat := off % 2 ^ 40

/-- The own-node address bits [47:0] of a scratchpad offset of tile `t` (R24). -/
def spadKey (t off : Nat) : Nat := 2 ^ 46 + (t % 256) * 2 ^ 38 + off % 2 ^ 23

/-- The size of a scratchpad: 6 MiB (R26). -/
def spadSize : Nat := 0x600000

/-! ### Tiles -/

/-- The tile of a physical number. -/
def State.tile (s : State) (t : Nat) : Tile := agetD s.tiles t Tile.reset

/-- The state with a tile replaced. -/
def State.setTile (s : State) (t : Nat) (x : Tile) : State := { s with tiles := aset s.tiles t x }

/-- The state with a tile changed. -/
def State.onTile (s : State) (t : Nat) (f : Tile → Tile) : State := s.setTile t (f (s.tile t))

/-- The slot in RUN, if there is one (R58). -/
def Tile.runSlot (x : Tile) : Option Nat := lfind (fun sl => sl.state == .run) x.slots

/-- A slot of a tile. -/
def Tile.slot (x : Tile) (k : Nat) : Slot := lget x.slots k Slot.empty

/-- A tile with a slot replaced. -/
def Tile.setSlot (x : Tile) (k : Nat) (sl : Slot) : Tile := { x with slots := lset x.slots k sl }

/-- A DMA channel of a tile. -/
def Tile.chan (x : Tile) (c : Nat) : DmaChan := lget x.dma c DmaChan.empty

/-- A tile with a DMA channel replaced. -/
def Tile.setChan (x : Tile) (c : Nat) (ch : DmaChan) : Tile := { x with dma := lset x.dma c ch }

/-! ### The floor plan, the node and its addresses -/

/-- Whether the floor plan shows a tile as usable: fused on, not failed and not soft-disabled (R26, R428). -/
def State.tileUsable (s : State) (t : Nat) : Bool := decide (t < 144) && s.flag FUS_FP_TILE_usable t

/-- Whether a stack is fused on. -/
def State.stackFused (s : State) (k : Nat) : Bool := s.flag FUS_FP_UNIT_fused_on k

/-- The own node ID (R335). -/
def State.node (s : State) : Nat := s.fld RTR_NODE_ID_id

/-- The installed HBM capacity in bytes, from the capability table (R26, R38). -/
def State.hbmCap (s : State) : Nat := s.fld MGT_CAP_MEMORY_hbm_gib * 2 ^ 30

/-- The checks of R26 on an access of `n` bytes at the own-node part of a well-formed address; register space is not
checked here. -/
def State.rangeOk (s : State) (a n : Nat) : Bool :=
  match gaSpace a with
  | 0 => decide (gaHbm a + n ≤ s.hbmCap)
  | 1 => s.tileUsable (gaTile a) && decide (gaSpad a + n ≤ spadSize)
  | _ => true

/-- Whether HBM service has started: both dies' interleave copies are valid (R216). -/
def State.hbmOn (s : State) : Bool := s.fld HBM_ILV_CTRL_state 0 == 2 && s.fld HBM_ILV_CTRL_state 1 == 2

/-- The largest packet payload of the node's packet mode in bytes (R98, R253). -/
def State.packetBytes (s : State) : Nat := if s.flag RTR_CTRL_bulk then 16384 else 4096

/-- Whether the module is parked (R444). -/
def State.parked (s : State) : Bool := s.power.parked

/-- Whether a tile may begin an issue, a K-step, a vector operation or a DMA packet: not in Park, and never at gate 0
(R436, R444). -/
def State.gateOpen (s : State) (t : Nat) : Bool := !s.parked && s.fld PWR_TILE_gate t != 0

/-! ### Paddocks -/

/-- The paddock's part of the intake. -/
def State.pad (s : State) (p : Nat) : Paddock := agetD s.pads p Paddock.empty

/-- The state with a paddock's part replaced. -/
def State.setPad (s : State) (p : Nat) (x : Paddock) : State := { s with pads := aset s.pads p x }

/-- The first of the eight paddocks that `q` accepts. -/
def firstPad (q : Nat → Bool) : Option Nat := (List.range 8).find? q

/-- The valid paddock with a partition ID (R45). -/
def State.padOfPartition (s : State) (part : Nat) : Option Nat :=
  firstPad fun p => s.flag GI_PAD_CFG_valid p && s.fld GI_PAD_CFG_partition p == part

/-- The valid paddock that holds a tile's cluster (R45). -/
def State.padOfTile (s : State) (t : Nat) : Option Nat :=
  firstPad fun p => s.flag GI_PAD_CFG_valid p && bitAt (s.fld GI_PAD_CFG_clusters p) (t / 8)

/-- The partition ID of a tile's paddock, zero where no valid paddock holds the tile. -/
def State.partitionOfTile (s : State) (t : Nat) : Nat :=
  match s.padOfTile t with
  | some p => s.fld GI_PAD_CFG_partition p
  | none => 0

/-- Whether a paddock owns a completion domain (R194). -/
def State.padOwns (s : State) (p d : Nat) : Bool :=
  let b := s.fld GI_PAD_DOM_base p
  decide (b ≤ d) && decide (d < b + s.fld GI_PAD_DOM_count p)

/-- The valid paddock that owns a completion domain. -/
def State.ownerOf (s : State) (d : Nat) : Option Nat :=
  firstPad fun p => s.flag GI_PAD_CFG_valid p && s.padOwns p d

/-- Whether packets for a paddock are refused: it is in partition reset or the node in chip reset (R70), or a clone of the
node is in progress (R374). -/
def State.padResetting (s : State) (p : Nat) : Bool := s.chipReset || s.padReset.contains p || s.flag RTR_PAIR_CLONE_busy

/-- Whether an HBM range lies wholly inside one window of a paddock with the right it needs (R276, R277). -/
def State.windowOk (s : State) (p off n : Nat) (wr : Bool) : Bool :=
  (List.range 64).any fun w =>
    s.flag RTR_WIN_BASE_valid w && s.fld RTR_WIN_BASE_paddock w == p
      && s.flag (if wr then RTR_WIN_BASE_wr else RTR_WIN_BASE_rd) w
      && decide (s.fld RTR_WIN_BASE_base w ≤ off) && decide (off + n ≤ s.fld RTR_WIN_LIM_limit w)

/-! ### HBM stacks (R215, R221) -/

/-- The index into the interleave table, and the pass, of an HBM offset. -/
def State.ilvIndex (s : State) (a : Nat) : Nat × Nat :=
  let len := s.fld HBM_ILV_CTRL_length 0
  if s.fld HBM_ILV_CTRL_mode 0 = 0 then (a / 4096 % len, a / 4096 / len)
  else
    let half := s.hbmCap / 2
    let h := if a < half then 0 else 1
    let gh := (a - h * half) / 4096
    (h * 2048 + gh % (len / 2), gh / (len / 2))

/-- The stack that holds an HBM offset. -/
def State.stackOf (s : State) (a : Nat) : Nat := s.fld HBM_ILV_ENT_stack 0 (s.ilvIndex a).1

/-- The number of enabled stacks. -/
def State.stackCount (s : State) : Nat := ((List.range 12).filter fun k => s.stackFused k).length

/-- The stack-local offset of an HBM offset. -/
def State.stackLocal (s : State) (a : Nat) : Nat :=
  let ip := s.ilvIndex a
  (ip.2 * (s.fld HBM_ILV_CTRL_length 0 / s.stackCount) + s.fld HBM_ILV_ENT_slot 0 ip.1) * 4096 + a % 4096

/-- The record of an uncorrectable HBM error in the stack's registers (R221, R227). -/
def State.logHbmUe (s : State) (a : Nat) (scrub : Bool) : State :=
  let k := s.stackOf a
  let l := s.stackLocal a
  let s := s.satCount HBM_ECC_ue k
  let s := s.setFld HBM_UE_LOG_local k 0 (l / 64)
  let s := s.setFld HBM_UE_LOG_pc k 0 (bitsOf l 11 7)
  let s := s.setFld HBM_UE_LOG_scrub k 0 (natOfBool scrub)
  let s := s.event HBM_UE_LOG_valid k
  s.event HBM_EVT_ue k

/-- The HBM granules that a range of `n` bytes touches. -/
def granules (a n : Nat) : List Nat := if n = 0 then [] else List.range' (a / 64) ((a + n - 1) / 64 - a / 64 + 1)

/-- The number of a bank of a stack by stack-local offset, as State.bankActs keeps it. -/
def bankOf (stack loc : Nat) : Nat := stack * 4096 + (Config.hbmBank loc).toNat

/-- The activate count at which a stack's controller issues refresh management (R224): the stack's own threshold, or
HBM_RRB_CTRL.rfm_thresh where that is lower and not zero. -/
def State.rfmThreshold (s : State) (stack : Nat) : Nat :=
  let own := (Config.rfmThreshold stack).toNat + 1
  let r := s.fld HBM_RRB_CTRL_rfm_thresh (stack / 6)
  if r != 0 && decide (r < own) then r else own

/-- An activate of the bank of a stack-local offset counted (R224). A bank at the stack's maximum count completes its refresh
management first and counts from zero again. -/
def State.activate (s : State) (stack loc : Nat) : State :=
  let n := agetD s.bankActs (bankOf stack loc) 0
  let n := if (Config.rfmMaximum stack).toNat + 1 ≤ n then 0 else n
  { s with bankActs := aput 0 s.bankActs (bankOf stack loc) (n + 1) }

/-- The activate of an access to a granule. -/
def State.activateGranule (s : State) (g : Nat) : State := s.activate (s.stackOf (g * 64)) (s.stackLocal (g * 64))

/-- What a read of a granule corrects (R221): an error that the on-die ECC reports is counted, and a single-symbol error is
counted and the granule rewritten. -/
def State.correctGranule (s : State) (g : Nat) : State :=
  let k := s.stackOf (g * 64)
  let s := if s.hbmOndie.contains g then
      { (s.satCount HBM_ECC_ondie k) with hbmOndie := s.hbmOndie.filter (· != g) } else s
  if s.hbmCe.contains g then { (s.satCount HBM_ECC_ce k) with hbmCe := s.hbmCe.filter (· != g) } else s

/-- A list of granules read: their banks activated, their corrected errors counted (R221, R224). -/
def State.correctHbm (s : State) : List Nat → State
  | [] => s
  | g :: gs => ((s.activateGranule g).correctGranule g).correctHbm gs

/-- The granules of a list that hold an uncorrectable error. -/
def State.badGranules (s : State) (gs : List Nat) : List Nat := gs.filter fun g => s.hbmUe.contains g

/-- Every uncorrectable granule of a read recorded, in ascending order (R221, R227). -/
def State.logGranules (s : State) : List Nat → State
  | [] => s
  | g :: gs => (s.logHbmUe (g * 64) false).logGranules gs

/-- A read of HBM: whether it met an uncorrectable error, and the state with the errors counted and recorded (R221). -/
def State.hbmRead (s : State) (a n : Nat) : Bool × State :=
  let gs := granules a n
  let bad := s.badGranules gs
  (!bad.isEmpty, (s.correctHbm gs).logGranules bad)

/-- The part of a write that falls in one granule: performed unless it is partial and the granule holds an
uncorrectable error; a full granule is good afterwards (R221; log entry 123). Answers whether it met an error. -/
def State.hbmWriteGranule (s : State) (a : Nat) (bs : List Byte) : Bool × State :=
  let g := a / 64
  if bs.length = 64 then
    (false, { ((s.activateGranule g).store (hbmKey a) bs) with
      hbmUe := s.hbmUe.filter (· != g), hbmCe := s.hbmCe.filter (· != g), hbmOndie := s.hbmOndie.filter (· != g) })
  else if s.hbmUe.contains g then (true, (s.correctHbm [g]).logHbmUe a false)
  else (false, (s.correctHbm [g]).store (hbmKey a) bs)

/-- A write of HBM granule by granule, lower granules first; the first argument bounds the granules. -/
def State.hbmWriteAux : Nat → State → Nat → List Byte → Bool × State
  | 0, s, _, _ => (false, s)
  | _ + 1, s, _, [] => (false, s)
  | k + 1, s, a, bs =>
    let n := 64 - a % 64
    let r := s.hbmWriteGranule a (bs.take n)
    let q := State.hbmWriteAux k r.2 (a + n) (bs.drop n)
    (r.1 || q.1, q.2)

/-- A write of HBM (R206, R221): whether some part met an uncorrectable error and was not performed. -/
def State.hbmWrite (s : State) (a : Nat) (bs : List Byte) : Bool × State :=
  State.hbmWriteAux (bs.length / 64 + 2) s a bs

/-! ### Read-return buffers (R219) -/

/-- The reads that still wait for their data: those of tiles whose sequencer waits for a load. -/
def State.openReads (s : State) : List HbmRead :=
  s.reads.filter fun r => match (s.tile r.tile).wait with
    | some w => w.kind == .load
    | none => false

/-- The enabled stacks of a die. -/
def State.dieStacks (s : State) (die : Nat) : Nat := ((List.range 6).filter fun k => s.stackFused (die * 6 + k)).length

/-- The buffers of a die that its pseudo-channels share: those that no enabled pseudo-channel reserves. -/
def State.sharedBuffers (s : State) (die : Nat) : Nat := 3072 - 4 * 32 * s.dieStacks die

/-- The buffers that one pseudo-channel of a die may hold: HBM_RRB_CTRL.max_per_pc, 4 to 2,304 (R228). -/
def State.maxPerPc (s : State) (die : Nat) : Nat := max 4 (min 2304 (s.fld HBM_RRB_CTRL_max_per_pc die))

/-- The reads that hold a buffer: in order of request each takes one of its pseudo-channel's 4 reserved buffers, else a
shared one of its die within the limit. `held` counts the buffers of each pseudo-channel, `shared` those of each die. -/
def State.grantReads (s : State) : List HbmRead → (held shared : Assoc Nat) → List HbmRead
  | [], _, _ => []
  | r :: rs, held, shared =>
    let n := agetD held r.channel 0
    let die := r.channel / 192
    let m := agetD shared die 0
    if n < 4 then r :: s.grantReads rs (aset held r.channel (n + 1)) shared
    else if n < s.maxPerPc die && m < s.sharedBuffers die then
      r :: s.grantReads rs (aset held r.channel (n + 1)) (aset shared die (m + 1))
    else s.grantReads rs held shared

/-- The reads whose buffer is reserved. -/
def State.granted (s : State) : List HbmRead := s.grantReads s.openReads [] []

/-- The buffers of a die that are free now (R228). -/
def State.freeBuffers (s : State) (die : Nat) : Nat := 3072 - (s.granted.filter fun r => r.channel / 192 == die).length

/-- Whether a tile's read waits at its controller for a buffer. -/
def State.readWaits (s : State) (t : Nat) : Bool :=
  s.openReads.any (fun r => r.tile == t) && !s.granted.any fun r => r.tile == t

/-- The pseudo-channel of an HBM offset, counted over all stacks. -/
def State.channelOf (s : State) (a : Nat) : Nat := s.stackOf a * 32 + bitsOf (s.stackLocal a) 11 7

/-- A load miss of a tile asks for a line of HBM. -/
def State.requestRead (s : State) (t line : Nat) : State :=
  { s with reads := (s.reads.filter fun r => r.tile != t) ++ [⟨t, s.channelOf (line * 64)⟩] }

/-- Whether a pseudo-channel has a buffer for one more read, asked for behind the others; 144 stands for no tile. -/
def State.bufferFree (s : State) (channel : Nat) : Bool :=
  (s.grantReads (s.openReads ++ [⟨144, channel⟩]) [] []).any fun r => r.tile == 144

/-- Whether a read of `n` bytes of HBM that is made and answered within one step finds its buffers (log entry 121). -/
def State.bufferFits (s : State) (a n : Nat) : Bool :=
  s.openReads.isEmpty || !s.hbmOn || (granules a n).all fun g => s.bufferFree (s.channelOf (g * 64))

/-- Whether a read at a global address finds its buffers: one of a scratchpad needs none. -/
def State.readFits (s : State) (a n : Nat) : Bool := gaSpace a != 0 || s.bufferFits (gaHbm a) n

/-- A tile's read answered: its buffer is free again. -/
def State.answerRead (s : State) (t : Nat) : State := { s with reads := s.reads.filter fun r => r.tile != t }

/-! ### Scratchpads (R93) -/

/-- The 64-bit words of a scratchpad that a range touches. -/
def spadWords (off n : Nat) : List Nat := if n = 0 then [] else List.range' (off / 8) ((off + n - 1) / 8 - off / 8 + 1)

/-- A scratchpad double-bit error recorded (R93). -/
def State.logSpadUe (s : State) (t w : Nat) : State :=
  (s.event TL_EVT_spad_ue t).setFld TL_ECC_last_ue_offset t 0 (w * 8)

/-- The corrected errors of a list of scratchpad words counted; each corrected word waits to be rewritten (R93). -/
def State.correctSpad (s : State) (t : Nat) : List Nat → State
  | [] => s
  | w :: ws =>
    let x := s.tile t
    let s := if x.spadCe.contains w then
        (s.satCount TL_ECC_spad_ce t).setTile t
          { x with spadRewrite := if x.spadRewrite.contains w then x.spadRewrite else x.spadRewrite ++ [w] }
      else s
    s.correctSpad t ws

/-- A read of a scratchpad: whether it met a double-bit error, and the state with the errors counted (R93). -/
def State.spadRead (s : State) (t off n : Nat) : Bool × State :=
  let ws := spadWords off n
  let s := s.correctSpad t ws
  match ws.find? fun w => (s.tile t).spadUe.contains w with
  | some w => (true, s.logSpadUe t w)
  | none => (false, s)

/-- The lowest of a list of scratchpad words that holds a double-bit error, recorded (R93). -/
def State.noteSpadUe (s : State) (t : Nat) (ws : List Nat) : State :=
  match ws.find? fun w => (s.tile t).spadUe.contains w with
  | some w => s.logSpadUe t w
  | none => s

/-- A write that covers whole 64-bit words of a scratchpad: performed with fresh check bits; an error that it clears is
recorded all the same (R93). -/
def State.spadWrite (s : State) (t off : Nat) (bs : List Byte) : State :=
  let ws := spadWords off bs.length
  let s := s.noteSpadUe t ws
  let x := s.tile t
  let keep := fun w => !ws.contains w
  (s.store (spadKey t off) bs).setTile t
    { x with spadUe := x.spadUe.filter keep, spadCe := x.spadCe.filter keep, spadRewrite := x.spadRewrite.filter keep }

/-- A write within one 64-bit word of a scratchpad that leaves part of it: not performed on a word with a double-bit
error (R93). Answers whether it met one. -/
def State.spadWritePart (s : State) (t off : Nat) (bs : List Byte) : Bool × State :=
  if bs.length = 8 && off % 8 = 0 then (false, s.spadWrite t off bs)
  else
    let r := s.spadRead t off bs.length
    if r.1 then r else (false, r.2.store (spadKey t off) bs)

/-! ### Tally events of a tile (R468 to R470) -/

def State.meter (s : State) (t : Nat) : Meter := agetD s.meters t Meter.reset
def State.onMeter (s : State) (t : Nat) (f : Meter → Meter) : State :=
  { s with meters := aset s.meters t (f (s.meter t)) }

/-- A counter of a tile advanced, with its wrap (R470). -/
def State.tallyAdd (s : State) (t i d : Nat) : State :=
  let c := s.fld TL_TALLY_CNT_count t i + d
  let s := if 2 ^ 48 ≤ c then s.setFld TL_TALLY_CNT_ovf t i 1 else s
  s.setFld TL_TALLY_CNT_count t i (c % 2 ^ 48)

/-- What a counter advances by in a cycle of value `v` after one of value `before` (R469). -/
def tallyStep (mode thr before v : Nat) : Nat :=
  if mode = 0 then v
  else if mode = 1 then natOfBool (decide (thr < v))
  else if mode = 2 then natOfBool (decide (v ≤ thr))
  else natOfBool (decide (thr < v) && decide (before ≤ thr))

/-- The value that a counter sees where its filter asks for another partition (R469). -/
def State.tallySeen (s : State) (t i part v : Nat) : Nat :=
  if s.flag TL_TALLY_CFG_filt t i && s.fld TL_TALLY_CFG_partition t i != part then 0 else v

/-- An event of value `v` at a counter of a tile: it counts in the v of the present cycle, and in mode 0 at once. -/
def State.tallyOne (s : State) (t ev v part i : Nat) : State :=
  if s.fld TL_TALLY_CFG_event t i = ev then
    let v := s.tallySeen t i part v
    let s := s.onMeter t fun m => { m with now := lset m.now i (lget m.now i 0 + v) }
    if s.fld TL_TALLY_CFG_mode t i = 0 then s.tallyAdd t i v else s
  else s

/-- An event of value `v` at a tile, for packets of a partition (R469); a retired instruction also counts in the tag
sampler's interval (R471). -/
def State.tallyFor (s : State) (t ev v part : Nat) : State :=
  let s := (List.range 8).foldl (fun s i => s.tallyOne t ev v part i) s
  if ev = 0x001 && s.flag TL_TAG_CTRL_enable t then s.onMeter t fun m => { m with left := m.left - v } else s

/-- An event of value `v` at a tile, matched against the partition of its paddock. -/
def State.tally (s : State) (t ev : Nat) (v : Nat := 1) : State := s.tallyFor t ev v (s.partitionOfTile t)

end Sys2Proof.Machine
end

