-- ==== Sys2Proof/Machine/Net.lean ====
section
/-! DEFINITION. What every unit that sends or receives packets shares: the routing tables, sending at the source
(R252, R255, R263), taking a delivered packet, completions (R260), and the receiver checks (R276). -/
namespace Sys2Proof.Machine

/-- An entry of the unicast table after a power cycle: primary 15 and alternate 15 (R336). -/
def ucDefault : Word32 := 0xFF

/-- The active unicast entry of a destination (R269). -/
def State.ucEntry (s : State) (d : Nat) : Nat :=
  (agetD (if s.flag RTR_TBL_CTRL_active then s.uc1 else s.uc0) d ucDefault).toNat

/-- The active multicast entry of a group (R269). -/
def State.mcEntry (s : State) (g : Nat) : Nat :=
  (agetD (if s.flag RTR_TBL_CTRL_active then s.mc1 else s.mc0) g 0).toNat

-- The fields of a unicast entry (R269).
def ucPrimary (e : Nat) : Nat := bitsOf e 3 0
def ucAlternate (e : Nat) : Nat := bitsOf e 7 4
def ucMcast (e : Nat) : Bool := bitAt e 8
def ucGroup (e : Nat) : Nat := bitsOf e 20 9
def ucSvc (e : Nat) : Bool := bitAt e 21

-- The router ports (R251).
def portM : Nat := 12
def portF : Nat := 13

/-- The internal port of a tile (R19, R21, R252). -/
def tilePort (t : Nat) : Nat :=
  let d := t / 72
  let col := t % 72 / 8 % 3
  8 + 2 * d + (if col = 0 then 0 else if col = 2 then 1 else if t % 8 < 4 then 0 else 1)

/-- The internal port of an HBM offset on the own node (R252). -/
def hbmPort (off : Nat) : Nat := 8 + off / 4096 % 4

/-- The virtual channel that a data packet takes at its source (R263): VC7 for a destination whose unicast entry has
svc, VC3 for multicast data, else VC2. -/
def State.dataVc (s : State) (p : Packet) : Nat :=
  let e := s.ucEntry p.dst
  if ucSvc e then 7 else if p.mcast || ucMcast e then 3 else 2

/-! ### Input buffers (R265, R266, R272, R283) -/

/-- The fewest units that a copy of a packet has sent, where a copy is left. -/
def leastSent (os : List OutPacket) (tag : Nat) : Option Nat :=
  os.foldl (fun m o =>
    if o.tag = tag then
      match m with
      | none => some o.sent
      | some n => some (min n o.sent)
    else m) none

/-- The units that leaving packets still hold in input buffers, of the packets that `f` selects: those come and not yet
sent by every copy (R272). -/
def outHeld (f : OutPacket → Bool) (all : List OutPacket) : List OutPacket → List Nat → Nat
  | [], _ => 0
  | o :: os, seen =>
    if f o && !seen.contains o.tag then o.came - (leastSent all o.tag).getD 0 + outHeld f all os (o.tag :: seen)
    else outHeld f all os seen

/-- The sum of a list. -/
def total (l : List Nat) : Nat := l.foldl (· + ·) 0

/-- occ[v]: the units that an input port holds for a virtual channel (R283). -/
def State.vcOcc (s : State) (port vc : Nat) : Nat :=
  total ((s.input.filter fun e => e.port == port && e.packet.vc == vc).map (·.came))
    + outHeld (fun o => o.inPort == port && o.inVc == vc) s.output s.output []

/-- The units of an input port that came on a virtual channel of its link: they count against that channel's grant
(R266). It differs from `vcOcc` on a service port alone, which moves data packets to VC7 (R263). -/
def State.wireOcc (s : State) (port vc : Nat) : Nat :=
  total ((s.input.filter fun e => e.port == port && e.wire == vc).map (·.came))
    + outHeld (fun o => o.inPort == port && o.wire == vc) s.output s.output []

/-- The shared space of an input port (R265). -/
def sharedUnits (port : Nat) : Nat := if port < 8 then 122880 else if port < 12 then 24576 else 0

/-- The cap of a virtual channel (R265, R283). -/
def State.vcCap (s : State) (port vc : Nat) : Nat := max 1024 (s.fld RTR_VC_CFG_cap_units port vc)

/-- The units that a virtual channel of an internal port can take now (R265, R266): what its grant leaves. Credit moves
through the fabric die without delay. -/
def State.room (s : State) (port vc : Nat) : Nat := s.fld RTR_VC_CREDIT_grant port vc - s.vcOcc port vc

/-- Whether a unit behind an internal port can begin to send a packet on a virtual channel (R99, R265): no earlier packet
still waits for room, and there is room. -/
def State.canEnter (s : State) (port vc : Nat) : Bool :=
  !(s.input.any fun e => e.port == port && e.packet.vc == vc && decide (e.came < e.packet.length))
    && !(s.output.any fun o => o.inPort == port && o.inVc == vc && decide (o.came < o.packet.length))
    && decide (0 < s.room port vc)

/-! ### Steering and the service role (R263, R296) -/

/-- The active entry of the steering table (R296). -/
def State.steerEntry (s : State) (i : Nat) : Nat :=
  (agetD (if s.flag BT_FLIP_active then s.steer1 else s.steer0) i 0).toNat

/-- The circuit of the first steering entry that matches a WRITE (R296). -/
def State.steer (s : State) (p : Packet) : Option Nat :=
  ((List.range 256).find? fun i =>
    let e := s.steerEntry i
    bitAt e 50 && bitsOf e 15 0 == p.dst && bitsOf e 25 16 == p.domain && bitsOf e 37 26 == p.partition).map
      fun i => bitsOf (s.steerEntry i) 49 38

/-- A packet with its ext field set (R257). -/
def Packet.setExt (p : Packet) (x : Nat) : Packet :=
  { p with body := lset p.body 1 (BitVec.ofNat 64 (withBits p.control 63 32 x)) }

/-- The packet as its input port buffers it (R263, R296): a data packet that enters through a service port moves to VC7,
and a WRITE of a tile that a steering entry matches moves to VC4. -/
def State.place (s : State) (port : Nat) (p : Packet) : Packet :=
  if decide (port < 8) && s.flag RTR_PORT_CFG_service port && (p.vc == 2 || p.vc == 3) then { p with vc := 7 }
  else if decide (8 ≤ port) && decide (port < 12) && p.type == tWRITE && p.vc == 2 && !p.mcast && p.dst != s.node then
    match s.steer p with
    | some c => { p.setExt c with vc := 4 }
    | none => p
  else p

/-- A packet as it enters at an internal port: steered, with the units that the buffer has room for (R265, R296). -/
def State.entry (s : State) (port : Nat) (p : Packet) : InPacket :=
  let q := s.place port p
  ⟨port, q, q.vc, min q.length (s.room port q.vc), false, false, false⟩

/-- The state with a packet offered to the router at an internal port. -/
def State.offer (s : State) (port : Nat) (p : Packet) : State := { s with input := s.input ++ [s.entry port p] }

/-- A packet sent by a unit behind an internal port: whole units, with the source node set by the router (R255). -/
def State.send (s : State) (port : Nat) (p : Packet) : State := s.offer port { p.sized with src := s.node }

/-- The state with a packet taken from the delivered list, where it stands there. -/
def State.take (s : State) (p : Packet) : State :=
  match lfind (fun d => decide (d.2 = p)) s.delivered with
  | some i => { s with delivered := ldel s.delivered i }
  | none => s

/-- A malformed packet counted at an input port (R258, R259). -/
def State.countMalformed (s : State) (port : Nat) : State := s.satCount RTR_PORT_STAT_malformed port

/-- A packet with status 3 that reaches its unit: it is discarded, and counted at the port of the management complex (R258).
The router discards one that it delivers. -/
def State.dropMalformed (s : State) : State := s.countMalformed portM

/-- The completion of a packet with a payload control word (R260): the outcome in status, the cause in word 0. -/
def completionOf (p : Packet) (status cause : Nat) : Packet :=
  { Packet.blank with
    dst := p.src, src := p.dst, length := 2, vc := 1, type := tCOMPLETION, status := status, raddle := p.raddle,
    sequence := p.sequence, partition := p.partition, domain := pcAckDom p.control,
    body := [BitVec.ofNat 64 (withBits (withBits p.control 63 32 0) 27 24 cause), 0] }

/-- The completion of a GET_REQ (R260, R261): domain dst_dom, and a payload control word built from word 2. -/
def completionOfGet (p : Packet) (status cause : Nat) : Packet :=
  let w := p.word 4
  let dom := bitsOf w 41 32
  { Packet.blank with
    dst := p.src, src := p.dst, length := 2, vc := 1, type := tCOMPLETION, status := status, raddle := p.raddle,
    sequence := p.sequence, partition := p.partition, domain := dom,
    body := [payloadControl (bitsOf w 49 42) (bitsOf w 51 50) dom false false cause 0, 0] }

/-- The port behind which the target of an own-node address lies (R252). -/
def addrPort (a : Nat) : Nat :=
  match gaSpace a with
  | 0 => hbmPort (gaHbm a)
  | 1 => tilePort (gaTile a)
  | _ => portM

/-- The tile whose tally counts an inbound packet (R468): the target tile of a scratchpad address. -/
def targetTile (a : Nat) : Option Nat := if gaSpace a = 1 then some (gaTile a) else none

/-! ### Pairing at the source (R355 to R363) -/

/-- Whether the node is one of a pair (R356). -/
def State.paired (s : State) : Bool := s.flag RTR_PAIR_CTRL_enable

/-- Whether the node is the standby of its pair, which keeps its rank packets back (R361). -/
def State.standby (s : State) : Bool := s.paired && decide (s.fld RTR_PAIR_CTRL_role = 2)

/-- The rank ID of the pair (R355). -/
def State.rank (s : State) : Nat := s.fld RTR_PAIR_CTRL_rank_id

/-- The node ID by which the node names itself: the rank ID on a paired node, else its own (R356). -/
def State.selfId (s : State) : Nat := if s.paired then s.rank else s.node

/-- Whether a node ID names the node itself (R27, R356). -/
def State.isOwn (s : State) (n : Nat) : Bool := n == s.node || (s.paired && n == s.rank)

/-- Whether a packet is a rank packet by its type (R356). -/
def isRankType (t : Nat) : Bool := 1 ≤ t && t ≤ 0x0D

/-- Whether a packet is a joined packet (R359): CREDIT, INTAKE_GRANT, GET_REQ, and FOLD_CTRL with msg CREDIT. -/
def isJoined (p : Packet) (foldCredit : Bool) : Bool :=
  p.type == tCREDIT || p.type == tINTAKE_GRANT || p.type == tGET_REQ || (p.type == tFOLD_CTRL && foldCredit)

/-- The emission key of R360. -/
def emissionKey (a b : Nat) : Nat := srHash a b * 2 ^ 32 + srHash b a

/-- The key of a response to an inbound packet (R360). -/
def responseKey (p : Packet) (index : Nat) : Nat :=
  emissionKey (headerWord1 p).toNat (p.src * 2 ^ 48 + p.type * 2 ^ 40 + index)

/-- An EPOCH packet (R364). -/
def epochPacket (dst kind rank epoch holder arg : Nat) (keys : List Nat) : Packet :=
  { Packet.blank with
    dst := dst, length := 4, vc := 6, type := tEPOCH,
    body := [BitVec.ofNat 64 (kind + (rank % 65536) <<< 4 + (epoch % 65536) <<< 20 + (holder % 65536) <<< 36
        + keys.length <<< 52), BitVec.ofNat 64 arg]
      ++ (keys.map (BitVec.ofNat 64)) ++ List.replicate (4 - keys.length) 0 }

/-- The number of ledger entries in use: held packets and recorded notes (R363). -/
def Pair.used (x : Pair) : Nat := x.hold.length + x.notes.length

/-- The bytes that a list of held packets takes in the hold. -/
def holdBytes (hs : List PairHeld) : Nat := hs.foldl (fun n h => n + 16 * h.packet.length) 0

/-- Whether the ledger or the hold has no room for one more packet (R363). -/
def State.ledgerFull (s : State) (len : Nat) : Bool :=
  decide (65536 ≤ s.pair.used) || decide (s.fld RTR_PAIR_HOLD_size_mib * 2 ^ 20 < holdBytes s.pair.hold + 16 * len)

/-- Whether the ledger or the hold has nothing free (R363): the standby takes no note then, but for one that frees an
entry. -/
def State.noteFull (s : State) : Bool := s.ledgerFull 1

/-- Whether the tiles of a paired node stall behind its router: on a standby whose ledger or hold had no room for a packet
(R363), and on a fenced node with a rank packet that waits (R366). -/
def State.pairStalls (s : State) : Bool :=
  s.paired && (!s.pair.stalled.isEmpty || (s.flag RTR_PAIR_LEASE_fenced && !s.pair.out.isEmpty))

/-- The bytes of a packet stored in the hold's region of HBM, behind those of the packets held (R361): the spec gives
the hold no layout, so they are free values (log entry 122). Nothing is stored while HBM is out of service, or beyond
its end. -/
def State.storeHold (s : State) (len : Nat) : State :=
  let a := s.fld RTR_PAIR_HOLD_base + holdBytes s.pair.hold
  if s.hbmOn && decide (a + 16 * len ≤ min s.hbmCap (2 ^ 40)) then
    let ws := (List.range (2 * len)).map fun i => Config.freeValue (s.fresh + i)
    (({ s with fresh := s.fresh + 2 * len }).hbmWrite a (bytesOfWords ws)).2
  else s

/-- A packet that leaves the node's unit towards the router, with the source and epoch of R356. -/
def State.stamp (s : State) (p : Packet) : Packet :=
  if s.paired && isRankType p.type then { p.sized with src := s.rank, epoch := s.fld RTR_PAIR_LEASE_epoch }
  else { p.sized with src := s.node, epoch := 0 }

/-- The standby stores a packet in its hold, or drops it where its note has come (R361). -/
def State.holdPacket (s : State) (port key : Nat) (p : Packet) (joined : Bool) : State :=
  let s := if joined then
      let q := epochPacket (s.fld RTR_PAIR_CTRL_partner) 5 s.rank 0 0 s.pair.joinSeq [key]
      let s := s.offer portM { q with src := s.node }
      { s with pair := { s.pair with joinSeq := (s.pair.joinSeq + 1) % 65536 } }
    else s
  match lfind (fun n => n.1 == key) s.pair.notes with
  | some i => { s with pair := { s.pair with notes := ldel s.pair.notes i } }
  | none =>
    let s := s.storeHold p.length
    { s with pair := { s.pair with hold := s.pair.hold ++ [⟨key, port, p, s.now⟩] } }

/-- A NOTE with one key sent to the standby (R362). -/
def State.sendNote (s : State) (key seq : Nat) : State :=
  s.offer portM { epochPacket (s.fld RTR_PAIR_CTRL_partner) 4 s.rank 0 0 seq [key] with src := s.node }

/-- The rank packet of an active whose standby must know it first (R362, R366): it waits for its note's ACK, and a joined
packet for its JOIN. A fenced node sends no note yet. -/
def State.awaitNote (s : State) (port key : Nat) (p : Packet) (joined : Bool) : State :=
  let x := s.pair
  let here := joined && x.joins.contains key
  let x := if here then { x with joins := x.joins.erase key } else x
  if s.flag RTR_PAIR_LEASE_fenced then
    { s with pair := { x with out := x.out ++ [⟨key, port, p, none, false, joined && !here, s.now⟩] } }
  else
    let s := s.sendNote key x.noteSeq
    { s with pair := { x with
        out := x.out ++ [⟨key, port, p, some x.noteSeq, false, joined && !here, s.now⟩],
        noteSeq := (x.noteSeq + 1) % 65536 } }

/-- A packet sent by a unit (R356, R361, R362, R366, R370, R373). Node packets and packets to the node itself go to the
router at once. A rank packet of the active waits for its note, or leaves at once where the active is solo and not
fenced; one that a recorded note of the former active names is not sent again. One of the standby is held; one of a
stale node is not sent. `fold02` marks FOLD_DATA of kinds 0 and 2, `foldCredit` FOLD_CTRL with msg CREDIT. -/
def State.sendKeyed (s : State) (port key : Nat) (p : Packet) (fold02 foldCredit : Bool) : State :=
  if !s.paired || !isRankType p.type || s.isOwn p.dst then s.offer port (s.stamp p)
  else if s.flag RTR_PAIR_LEASE_stale then s
  else if s.fld RTR_PAIR_CTRL_role = 2 then
    if fold02 then s.offer port { s.stamp p with epoch := 0 }
    else if s.ledgerFull p.sized.length && !s.pair.notes.any (fun n => n.1 == key) then
      let s := s.event RTR_PAIR_EVT_ledger_full
      { s with pair := { s.pair with stalled := s.pair.stalled ++ [⟨key, port, p.sized, s.now⟩] } }
    else s.holdPacket port key p.sized (isJoined p foldCredit)
  else if s.fld RTR_PAIR_CTRL_role = 1 then
    match lfind (fun n => n.1 == key) s.pair.notes with
    | some i => { s with pair := { s.pair with notes := ldel s.pair.notes i } }
    | none =>
      if (s.flag RTR_PAIR_LEASE_solo || fold02) && !s.flag RTR_PAIR_LEASE_fenced then s.offer port (s.stamp p)
      else s.awaitNote port key p.sized (isJoined p foldCredit)
  else s.offer port (s.stamp p)

/-- A rank packet sent as the response to an inbound packet. -/
def State.respond (s : State) (port : Nat) (inbound : Packet) (index : Nat) (p : Packet) : State :=
  s.sendKeyed port (responseKey inbound index) p false false

/-- A node packet sent from port M (R356). -/
def State.sendNode (s : State) (p : Packet) : State := s.offer portM { p.sized with src := s.node, epoch := 0 }

/-! ### The receiver -/

/-- The valid rank-table entry of a source (R365). -/
def State.rankEntry (s : State) (src : Nat) : Option Nat :=
  (List.range 1024).find? fun i => s.flag RTR_RANK_TBL_valid i && s.fld RTR_RANK_TBL_rank i == src

/-- Whether epoch `p` is newer than `t` (R365). -/
def epochNewer (p t : Nat) : Bool := p != 0 && 1 ≤ (p + 65536 - t) % 65536 && (p + 65536 - t) % 65536 < 2 ^ 15

/-- Whether a packet is FOLD_CTRL with msg CREDIT (R319). -/
def isFoldCredit (p : Packet) : Bool := p.type == tFOLD_CTRL && bitsOf (p.word 2) 35 32 == 1

/-- The epoch check of R365: whether the packet passes, and the state with the entry's epoch adopted. -/
def State.epochCheck (s : State) (p : Packet) : Bool × State :=
  match s.rankEntry p.src with
  | none => (true, s)
  | some i =>
    let t := s.fld RTR_RANK_TBL_epoch i
    if p.epoch = t then (true, s)
    else if epochNewer p.epoch t then (true, s.setFld RTR_RANK_TBL_epoch i 0 p.epoch)
    else (false, s)

/-- The epoch check of a control packet that no completion domain counts (R365): one that fails is discarded and counted. -/
def State.ctrlEpoch (s : State) (p : Packet) : Bool × State :=
  let e := s.epochCheck p
  (e.1, if e.1 then e.2 else e.2.satCount RTR_PAIR_CNT_stale_ctrl)

/-- Whether a stale paired node must leave a packet to the rank alone (R373). -/
def State.staleFor (s : State) (p : Packet) : Bool :=
  s.paired && s.flag RTR_PAIR_LEASE_stale && isRankType p.type && p.dst == s.rank

/-- Checks 1 to 7 of R276 on a packet that addresses `n` bytes at own-node address `a`, with the right it needs and the
domains it names: the first failing check's cause, or 0. Check 1 (register space) is the router's (R28). -/
def State.receiveCheck (s : State) (p : Packet) (a n : Nat) (wr : Bool) (doms : List Nat) : Nat :=
  if gaSpace a = 2 then 1
  else if s.chipReset then 3
  else if malformed a || !s.rangeOk a n || (gaSpace a == 0 && !s.hbmOn) then 1
  else
    match s.padOfPartition p.partition with
    | none => 8
    | some q =>
      if s.padResetting q then 3
      else if (gaSpace a == 1 && s.padOfTile (gaTile a) != some q)
          || (gaSpace a == 0 && !s.windowOk q (gaHbm a) n wr) then 8
      else if doms.any fun d => !s.padOwns q d then 8
      else 0

/-- The checks of R276 in order, with check 8 of R365 last. -/
def State.checkPacket (s : State) (p : Packet) (a n : Nat) (wr : Bool) (doms : List Nat) : Nat × State :=
  let c := s.receiveCheck p a n wr doms
  if c != 0 then (c, s)
  else
    let r := s.epochCheck p
    (if r.1 then 0 else 5, r.2)

/-- The data of a packet performed at an own-node address (R184, R206): the cause 2 where an uncorrectable error left a
part of it unwritten (R196, R221), or the cause 1 where HBM is out of service (R216). -/
def State.perform (s : State) (a : Nat) (bs : List Byte) : Nat × State :=
  if gaSpace a = 0 then
    if !s.hbmOn then (1, s)
    else
    let r := s.hbmWrite (gaHbm a) bs
    (if r.1 then 2 else 0, r.2)
  else (0, s.spadWrite (gaTile a) (gaSpad a) bs)

/-- A read of `n` bytes at an own-node address by a channel, a responder or a fold unit: cause 2 where it met an
uncorrectable error (R93, R221), cause 1 where HBM is out of service (R216), else 0; and the bytes. -/
def State.source (s : State) (a n : Nat) : Nat × List Byte × State :=
  if gaSpace a = 0 then
    if !s.hbmOn then (1, List.replicate n 0, s)
    else
    let r := s.hbmRead (gaHbm a) n
    (if r.1 then 2 else 0, r.2.bytes (hbmKey (gaHbm a)) n, r.2)
  else
    let r := s.spadRead (gaTile a) (gaSpad a) n
    (if r.1 then 2 else 0, r.2.bytes (spadKey (gaTile a) (gaSpad a)) n, r.2)

/-- The event of a counted or refused inbound packet at its target tile (R468, codes 0x050 and 0x051). -/
def State.tallyInbound (s : State) (a part : Nat) (refused : Bool) : State :=
  match targetTile a with
  | some t => if t < 144 then s.tallyFor t (if refused then 0x051 else 0x050) 1 part else s
  | none => s

end Sys2Proof.Machine
end

