-- ==== Sys2Proof/Machine/Domains.lean ====
section
/-! DEFINITION. Completion domains and the flag-hold buffer (R192 to R205), and tokens at a tile (R62 to R65). -/
namespace Sys2Proof.Machine

/-- Whether a domain has reached an expected value (R193). -/
def State.reached (s : State) (d e : Nat) : Bool := (s.fld GI_CD_count d + 2 ^ 32 - e % 2 ^ 32) % 2 ^ 32 < 2 ^ 31

/-- A packet counted in a domain (R192). -/
def State.countDomain (s : State) (d : Nat) : State := s.wrapCount GI_CD_count d

/-- A TOKEN_NAK with the refused entries of a packet (R64): a copy of the entries with the result set, to the source;
the header copies partition and sequence, and the flagged fields that a re-sent entry needs; operation [0] holds the
kind. -/
def nakPacket (p : Packet) (entries : List Word64) (result : Nat) : Packet :=
  { Packet.blank with
    dst := p.src, vc := 0, type := tTOKEN_NAK, flagged := p.flagged, sequence := p.sequence, partition := p.partition,
    domain := p.domain, operation := if p.type = tCREDIT then 1 else 0,
    body := BitVec.ofNat 64 (bitsOf (p.word 2) 31 0 + (entries.length % 8) <<< 32 + (result % 16) <<< 36) :: entries }

/-- The entries of a TOKEN, CREDIT or TOKEN_NAK packet (R61; a count outside 1 to 5 is the model's choice, log entry 132). -/
def tokenEntries (p : Packet) : List Word64 := (p.body.drop 1).take (bitsOf (p.word 2) 34 32)

/-- An entry of a TOKEN or CREDIT packet, as its tile remembers it. -/
def tokenEntry (node : Nat) (p : Packet) (credit : Bool) (w : Word64) : TokenEntry :=
  ⟨node, credit, w, p.flagged, if p.flagged then p.domain else 0, if p.flagged then bitsOf (p.word 2) 31 0 else 0, p.partition⟩

-- The fields of an entry (R61).
def teTask (w : Word64) : Nat := bitsOf w.toNat 31 0
def teTile (w : Word64) : Nat := bitsOf w.toNat 39 32
def teIndex (w : Word64) : Nat := bitsOf w.toNat 42 40
def teCount (w : Word64) : Nat := bitsOf w.toNat 63 48

/-- A held entry discarded with a cause (R201, R205): a flagged write's completion, or a TOKEN_NAK, returns to the
sender. The spec names no result code for a discard with cause 6; result 4 (target resetting) goes with cause 3
(R64), and for cause 6 the result is a free value (log entry 10). -/
def State.answerDiscard (s : State) (p : Packet) (cause : Nat) : State :=
  if p.type = tFLAGGED_WRITE then s.respond portM p 0 (completionOf p 1 cause)
  else if cause = 3 then s.respond portM p 0 (nakPacket p (tokenEntries p) 4)
  else (s.respond portM p 0 (nakPacket p (tokenEntries p) (s.freeVal % 16))).spend

/-- A list of held entries discarded with a cause. -/
def State.answerDiscards (s : State) (cause : Nat) : List HeldFlag → State
  | [] => s
  | h :: hs => State.answerDiscards ((s.eventBit GI_CD_EVT_fh_discard h.pad).answerDiscard h.packet cause) cause hs

/-- Every held entry that `q` names discarded with a cause (R205). -/
def State.discardHeld (s : State) (q : HeldFlag → Bool) (cause : Nat) : State :=
  let out := s.flagHold.filter q
  State.answerDiscards { s with flagHold := s.flagHold.filter fun h => !q h } cause out

/-- An error recorded in a domain (R198): err set, the first cause kept, the record of the latest error, the event of
the owning paddock; the entries that wait on the domain are discarded with cause 6 (R205). -/
def State.errDomain (s : State) (d cause src seq : Nat) : State :=
  let s := if s.flag GI_CD_err d then s else (s.event GI_CD_err d).setFld GI_CD_cause d 0 cause
  let s := s.put GI_CD_LASTERR_domain d
  let s := s.put GI_CD_LASTERR_cause cause
  let s := s.put GI_CD_LASTERR_src_node src
  let s := s.put GI_CD_LASTERR_sequence seq
  let s := s.put GI_CD_LASTERR_paddock ((s.ownerOf d).getD 0)
  let s := s.event GI_CD_LASTERR_valid
  let s := match s.ownerOf d with
    | some p => s.eventBit GI_CD_EVT_dom_error p
    | none => s
  s.discardHeld (fun h => h.packet.domain == d) 6

/-- A packet counted under R198: with a cause other than 0, 3 and 8 it is counted and sets err; with cause 3 or 8 it is
counted nowhere. -/
def State.countPacket (s : State) (d cause src seq : Nat) : State :=
  if cause = 0 then s.countDomain d
  else if cause = 3 || cause = 8 then s
  else (s.countDomain d).errDomain d cause src seq

/-- The flag-hold occupancy, with the peak kept (R211). -/
def State.holdFlag (s : State) (p : Packet) (pad : Nat) : State :=
  let s := { s with flagHold := s.flagHold ++ [⟨p, pad⟩] }
  if s.fld GI_FH_STAT_peak < s.flagHold.length then s.put GI_FH_STAT_peak s.flagHold.length else s

/-- The entries that a paddock may hold (R200, R209). -/
def State.fhQuota (s : State) (pad : Nat) : Nat := max 1 (s.fld GI_PAD_DOM_fh_quota pad)

/-- The value a flagged packet waits for: ext of a flagged write (R257), word 0 of a token packet (R61). -/
def expectOf (p : Packet) : Nat := if p.type = tFLAGGED_WRITE then pcExt p.control else bitsOf (p.word 2) 31 0

/-- What the flag-hold buffer does with an arriving flagged packet (R201). -/
inductive FlagAction where
  | discard | apply | hold | retry
  deriving DecidableEq, Repr

/-- The first case of R201's table that applies. -/
def State.flagAction (s : State) (p : Packet) (pad : Nat) : FlagAction :=
  if s.flag GI_CD_err p.domain then .discard
  else if s.reached p.domain (expectOf p) then .apply
  else if decide (s.flagHold.length < 256)
      && decide ((s.flagHold.filter fun h => h.pad == pad).length < s.fhQuota pad) then .hold
  else .retry

/-- The signal domain of a flagged write, where sig_en is 1 (R167, R257). -/
def sigDom (p : Packet) : Option Nat := if pcAckEn p.control then some (pcAckDom p.control) else none

/-- A flagged write applied (R202): its data performed, lower granule first (R203), then counted once in sig_dom where
sig_en is 1, and a completion returned. -/
def State.applyFlaggedWrite (s : State) (p : Packet) : State :=
  let r := s.perform (bitsOf p.addr 47 0) (bytesOfWords p.payload)
  let s := match sigDom p with
    | some d => r.2.countPacket d r.1 p.src p.sequence
    | none => r.2
  let s := s.tallyInbound (bitsOf p.addr 47 0) p.partition false
  s.respond (addrPort p.addr) p 0 (completionOf p (if r.1 = 0 then 0 else 1) r.1)

/-! ### The tile's clock -/

/-- Whether a tile's sequencer is held in reset. -/
def State.tileHeld (s : State) (t : Nat) : Bool := s.chipReset || (s.tile t).inReset.contains .sequencer

/-- TALLY_CYC of a tile now (R467): cycles of the tile clock, f_now in 25 MHz units, f_now / 400 cycles in 100 ps. -/
def State.cycles (s : State) (t : Nat) : Nat :=
  let x := s.tile t
  if s.tileHeld t then x.cycBase else x.cycBase + (s.now - x.cycAt) * s.fld PWR_TILE_f_now t / 400

/-! ### The ready logic's marking (R58, R67) -/

/-- Whether a WAIT slot's counters and pools meet their thresholds (R58). -/
def Slot.meets (sl : Slot) : Bool :=
  (List.range 8).all (fun i => decide (dNIn sl.desc ≤ i) || decide (dThr sl.desc i ≤ lget sl.cnt i 0))
    && (List.range 4).all (fun j => decide (dNOut sl.desc ≤ j) || decide (dNeed sl.desc j ≤ lget sl.pool j 0))

/-- Whether the ready logic runs: no task in RUN and the sequencer at T level (R67, R144). -/
def State.seqIdle (s : State) (t : Nat) : Bool := (s.tile t).runSlot.isNone && !(s.tile t).sLevel && !s.tileHeld t

/-- The WAIT slots that meet their thresholds enter READY with a ready stamp (R58, R67). -/
def State.markReady (s : State) (t : Nat) : State :=
  if s.seqIdle t then
    let c := s.cycles t
    s.onTile t fun x => { x with slots := x.slots.map fun sl =>
      if sl.state == .wait && sl.meets then { sl with state := .ready, stamp := c, since := s.now } else sl }
  else s

/-- One slot of a tile enters READY where the ready logic runs and its counts meet its thresholds (R58, R67). -/
def State.markSlot (s : State) (t k : Nat) : State :=
  let sl := (s.tile t).slot k
  if s.seqIdle t && sl.state == .wait && sl.meets then
    let c := s.cycles t
    s.onTile t fun x => x.setSlot k { sl with state := .ready, stamp := c, since := s.now }
  else s

/-! ### Tokens at a tile -/

/-- The slot of the live task with a task ID (R54, R63, R108): a slot that is not FREE, since a task ID stays bound until its
slot is. -/
def Tile.liveSlot (x : Tile) (task : Nat) : Option Nat :=
  lfind (fun sl => sl.state != .free && dTaskId sl.desc == task) x.slots

/-- A count added to a counter or pool, saturating at 65,535, with whether it saturated (R63). -/
def addCount (old n : Nat) : Nat × Bool := (min 65535 (old + n), decide (65535 < old + n))

/-- An amount added to an input counter or a pool of a slot. -/
def Slot.add (sl : Slot) (credit : Bool) (i n : Nat) : Slot × Bool :=
  let r := addCount (lget (if credit then sl.pool else sl.cnt) i 0) n
  let sl := if credit then { sl with pool := lset sl.pool i r.1 } else { sl with cnt := lset sl.cnt i r.1 }
  ({ sl with tokOvf := sl.tokOvf || r.2 }, r.2)

/-- The result with which a tile refuses an entry (R64), 0 where it takes it: the tile's own existence first, then the
reset of its paddock, the partition, the entry's form, and last the room of the early-token buffer. -/
def State.entryResult (s : State) (p : Packet) (credit : Bool) (w : Word64) : Nat :=
  let t := teTile w
  if !s.tileUsable t then 3
  else
    let resetting := match s.padOfTile t with
      | some q => s.padResetting q
      | none => s.chipReset
    if resetting then 4
    else if s.padOfTile t = none || s.partitionOfTile t != p.partition then 2
    else if teCount w = 0 || bitsOf w.toNat 47 43 != 0 || (credit && bitAt w.toNat 42) then 5
    else
      let x := s.tile t
      let known := x.etb.any fun e => e.task == teTask w && e.credit == credit && e.index == teIndex w
      if (x.liveSlot (teTask w)).isNone && !known && decide (256 ≤ x.etb.length) then 1 else 0

/-- An entry applied to the live task, or stored or added in the early-token buffer (R63, R65). -/
def State.applyEntry (s : State) (credit : Bool) (w : Word64) : State :=
  let t := teTile w
  let x := s.tile t
  match x.liveSlot (teTask w) with
  | some k =>
    let r := (x.slot k).add credit (teIndex w) (teCount w)
    let s := s.setTile t (x.setSlot k r.1)
    let s := if r.2 then s.event TL_EVT_token_overflow t else s
    (s.tally t 0x044).markSlot t k
  | none =>
    match lfind (fun e => e.task == teTask w && e.credit == credit && e.index == teIndex w) x.etb with
    | some i =>
      let e := lget x.etb i ⟨0, false, 0, 0, false⟩
      let r := addCount e.count (teCount w)
      let s := s.setTile t { x with etb := lset x.etb i { e with count := r.1, overflowed := e.overflowed || r.2 } }
      if r.2 then s.event TL_EVT_token_overflow t else s
    | none => s.setTile t { x with etb := x.etb ++ [⟨teTask w, credit, teIndex w, teCount w, false⟩] }

/-- The entries of a packet applied or refused one by one (R63, R64): the refused ones with their results. -/
def State.applyEntries (s : State) (p : Packet) (credit : Bool) : List Word64 → List (Nat × Word64) × State
  | [] => ([], s)
  | w :: ws =>
    let res := s.entryResult p credit w
    if res = 0 then State.applyEntries (s.applyEntry credit w) p credit ws
    else
      let r := State.applyEntries s p credit ws
      ((res, w) :: r.1, r.2)

/-- The refusals of a packet sent, one TOKEN_NAK for each result that occurs (R64). -/
def State.sendNaks (s : State) (p : Packet) (refused : List (Nat × Word64)) : List Nat → State
  | [] => s
  | res :: rs =>
    let es := (refused.filter fun e => e.1 == res).map (·.2)
    let s := if es.isEmpty then s else s.respond portM p 0 (nakPacket p es res)
    State.sendNaks s p refused rs

/-- All entries of a TOKEN or CREDIT packet applied (R63 to R65). -/
def State.applyTokens (s : State) (p : Packet) : State :=
  let r := s.applyEntries p (p.type == tCREDIT) (tokenEntries p)
  State.sendNaks r.2 p r.1 [1, 2, 3, 4, 5]

/-- All entries of a TOKEN or CREDIT packet refused with one result. -/
def State.refuseTokens (s : State) (p : Packet) (res : Nat) : State :=
  s.respond portM p 0 (nakPacket p (tokenEntries p) res)

end Sys2Proof.Machine
end

