-- ==== Sys2Proof/Machine/Intake.lean ====
section
/-! DEFINITION. The graph intake, slots and tokens: the commands of the chapter "Task Graphs, Tokens and Credits"
(R45 to R78). -/
namespace Sys2Proof.Machine

/-! ### The tile's reset and clock -/

/-- Whether a tile is held in engine reset, so that a write of its registers is discarded (R14, R104). -/
def State.tileInReset (s : State) (t : Nat) : Bool := s.chipReset || !(s.tile t).inReset.isEmpty

/-- The cycle count fixed at the present moment, before the tile's clock or its reset changes. -/
def State.rebase (s : State) (t : Nat) : State :=
  s.setTile t { s.tile t with cycBase := s.cycles t, cycAt := s.now }

/-! ### Occupancy (R68, R69) -/

/-- The units that hold graph packets (R77). -/
def Paddock.used (x : Paddock) : Nat := (x.queue.map (·.units)).foldl (· + ·) 0

/-- The units granted and not yet arrived (R77). -/
def State.padGranted (s : State) (p : Nat) : Nat := ((s.grants.filter fun g => g.pad == p).map (·.units)).foldl (· + ·) 0

/-- A paddock's occupancy (R68). -/
def State.occupancy (s : State) (p : Nat) : Nat := (s.pad p).used + s.padGranted p

/-- The saturated event may fire again once occupancy has fallen below low_units (R69; log entry 133). -/
def State.rearm (s : State) (p : Nat) : State :=
  if s.occupancy p < s.fld GI_PAD_WATER_low_units p then s.setPad p { s.pad p with satArmed := true } else s

/-! ### Requests and grants (R48 to R50) -/

/-- An INTAKE_GRANT packet (R50). -/
def grantPacket (h : Packet) (units tag ticket result : Nat) : Packet :=
  { Packet.blank with
    dst := h.src, vc := 0, type := tINTAKE_GRANT, partition := h.partition, sequence := h.sequence,
    body := [BitVec.ofNat 64 (units % 8192 + (tag % 65536) <<< 16 + (ticket % 65536) <<< 32 + (result % 16) <<< 48), 0] }

/-- A request answered with a result other than granted. -/
def State.answerRequest (s : State) (h : Packet) (tag result : Nat) : State :=
  s.respond portM h 0 (grantPacket h 0 tag 0 result)

/-- The largest request in the node's packet mode (R49). -/
def State.maxUnits (s : State) : Nat := if s.flag RTR_CTRL_bulk then 241 else 63

/-- INTAKE_REQ (R48, R49, R70): the request enters the paddock's FIFO, or is answered at once. -/
def execIntakeReq (p : Packet) (s : State) : Host.Outcome State Fault Refusal :=
  let s := s.take p
  if p.status = 3 then .next s.dropMalformed
  else
  if s.staleFor p then .next s
  else
    let e := s.ctrlEpoch p
    let s := e.2
    if !e.1 then .next s
    else
    let units := bitsOf (p.word 2) 12 0
    let tag := bitsOf (p.word 2) 31 16
    match s.padOfPartition p.partition with
    | none => .next (s.answerRequest p tag 2)
    | some q =>
      if s.padResetting q then .next (s.answerRequest p tag 3)
      else if !s.flag GI_CTRL_enable then .next (s.answerRequest p tag 2)
      else if units < 3 || s.maxUnits < units then
        .next ((s.eventBit GI_EVT_refused q).answerRequest p tag 4)
      else if 1024 ≤ (s.pad q).requests.length then
        .next ((s.eventBit GI_EVT_request_retry q).answerRequest p tag 1)
      else
        .next (s.setPad q { s.pad q with requests := (s.pad q).requests ++ [⟨{ p with body := [] }, units, tag⟩] })

/-- A ticket that no grant in force has: the first such number from a free value on (R50, log entry 11). -/
def State.newTicket (s : State) : Nat :=
  let used := s.grants.map (·.ticket)
  let start := s.freeVal
  match (List.range (used.length + 1)).find? fun k => !used.contains ((start + k) % 65536) with
  | some k => (start + k) % 65536
  | none => start % 65536

/-- INTAKE_GRANT (R48): the oldest request of a paddock is granted once the queue has its units free. -/
def execIntakeGrant (pad : Nat) (s : State) : Host.Outcome State Fault Refusal :=
  match (s.pad pad).requests with
  | [] => .next s
  | r :: rs =>
    if decide (8 ≤ pad) || s.padResetting pad || decide (4096 < s.occupancy pad + r.units) then .next s
    else
      let ticket := s.newTicket
      let s := s.spend
      let s := s.setPad pad { s.pad pad with requests := rs }
      let s := { s with grants := s.grants ++ [Grant.mk ticket r.header.src r.header.partition pad r.units] }
      .next (s.respond portM r.header 0 (grantPacket r.header r.units r.tag ticket 0))

/-- GRANT_EXPIRED (R50): the grant's units return and its ticket becomes unknown. -/
def execGrantExpired (ticket : Nat) (s : State) : Host.Outcome State Fault Refusal :=
  match s.grants.find? fun g => g.ticket == ticket with
  | none => .next s
  | some g =>
    let s := { s with grants := s.grants.filter fun h => h.ticket != ticket }
    .next ((s.eventBit GI_EVT_grant_expired g.pad).rearm g.pad)

/-! ### Graph packets (R51, R52) -/

/-- The acknowledgement record of R52. -/
def ackRecord (graphId placed refused packetCause firstCause map : Nat) : List Word64 :=
  [BitVec.ofNat 64 (graphId % 2 ^ 32 + (placed % 128) <<< 32 + (refused % 128) <<< 39 + (packetCause % 16) <<< 46
      + (firstCause % 16) <<< 50), 0, BitVec.ofNat 64 map, BitVec.ofNat 64 (map >>> 64), 0, 0, 0, 0]

/-- The acknowledgement record sent to reply_addr at the header's source node (R52); a malformed reply_addr gets none. -/
def State.sendAck (s : State) (h : Packet) (replyAddr dom : Nat) (rec : List Word64) : State :=
  let a := (h.src % 65536) <<< 48 + replyAddr % 2 ^ 48
  if malformed a then s
  else
    let p := { Packet.blank with
      dst := h.src, type := tWRITE, partition := h.partition, domain := dom,
      body := BitVec.ofNat 64 a :: payloadControl 0 0 0 false false 0 0 :: rec }
    s.respond portM h 0 { p with vc := s.dataVc p }

/-- A refusal reported in GI_PAD_REFUSE and GI_EVT (R54, R78). -/
def State.noteRefusal (s : State) (q cause tile task : Nat) : State :=
  let s := s.eventBit GI_EVT_refused q
  let s := s.satCount GI_PAD_REFUSE_refused q
  let s := s.setFld GI_PAD_REFUSE_last_cause q 0 cause
  let s := s.setFld GI_PAD_REFUSE_last_tile q 0 tile
  s.setFld GI_PAD_REFUSE_last_task q 0 task

-- The preamble of a graph packet (R51): words 2 to 9 of the packet.
def preVersion (p : Packet) : Nat := bitsOf (p.word 2) 7 0
def preCount (p : Packet) : Nat := bitsOf (p.word 2) 14 8
def preReply (p : Packet) : Bool := bitAt (p.word 2) 15
def preTicket (p : Packet) : Nat := bitsOf (p.word 2) 31 16
def preGraphId (p : Packet) : Nat := bitsOf (p.word 2) 63 32
def preReplyAddr (p : Packet) : Nat := p.word 3
def preReplyDomain (p : Packet) : Nat := bitsOf (p.word 4) 9 0

/-- The largest descriptor count of a graph packet (R51). -/
def State.maxDescriptors (s : State) : Nat := if s.flag RTR_CTRL_bulk then 120 else 31

/-- Case 2 of R51: the packet is malformed. -/
def State.graphMalformed (s : State) (p : Packet) : Bool :=
  let n := preCount p
  decide (n < 1) || decide (s.maxDescriptors < n) || p.length != 5 + 8 * n || preVersion p != 1
    || bitsOf (p.word 4) 63 10 != 0 || (List.range' 5 5).any (fun i => p.word i != 0) || p.status != 0

/-- The grant that a packet's ticket names for its source and partition (R50). -/
def State.grantFor (s : State) (p : Packet) : Option Grant :=
  s.grants.find? fun g => g.ticket == preTicket p && g.src == p.src && g.partition == p.partition

/-- The cause with which the intake refuses a whole graph packet, 0 where it takes it (R51). -/
def State.graphCause (s : State) (p : Packet) : Nat :=
  let resetting := match s.padOfPartition p.partition with
    | some q => s.padResetting q
    | none => s.chipReset
  if resetting then 8
  else if s.graphMalformed p then 9
  else
    match s.grantFor p with
    | none => 7
    | some g => if (s.padOfPartition p.partition).isSome && 1 + 2 * preCount p ≤ g.units then 0 else 7

/-- The descriptors of a graph packet, 16 words each. -/
def descriptorsOf : Nat → List Word64 → List (List Word64)
  | 0, _ => []
  | n + 1, ws => ws.take 16 :: descriptorsOf n (ws.drop 16)

/-- GRAPH (R47, R51): the packet uses its ticket up and enters its paddock's queue, or is refused whole; one that came on
another virtual channel is discarded. One with status 3 is discarded under R258 and keeps its ticket, whatever R51 says of
a status that is not 0 (log entry 131). -/
def execGraph (p : Packet) (s : State) : Host.Outcome State Fault Refusal :=
  let s := s.take p
  if p.status = 3 || !vcAllowed tGRAPH p.vc then .next s.dropMalformed
  else
  if s.staleFor p then .next s
  else
    let e := s.ctrlEpoch p
    let s := e.2
    if !e.1 then .next s
    else
    let cause := s.graphCause p
    let n := preCount p
    let s := match s.grantFor p with
      | some g => { s with grants := s.grants.filter fun h => h.ticket != g.ticket }
      | none => s
    let h := { p with body := [] }
    match s.padOfPartition p.partition with
    | none =>
      .next (s.sendAck h (preReplyAddr p) (preReplyDomain p)
        (ackRecord (preGraphId p) 0 n cause cause (2 ^ n - 1)))
    | some q =>
      if cause = 0 then
        let e : QueuedGraph := ⟨h, n, preReply p, preGraphId p, preReplyAddr p, preReplyDomain p,
          descriptorsOf n (p.body.drop 8), 0, 1 + 2 * n, 0, 0, 0⟩
        let at_ := if (s.pad q).queue.isEmpty then s.now else (s.pad q).queueAt
        .next ((s.setPad q { s.pad q with queue := (s.pad q).queue ++ [e], queueAt := at_ }).rearm q)
      else
        let s := s.noteRefusal q cause 0 (preGraphId p)
        let s := s.sendAck h (preReplyAddr p) (preReplyDomain p)
          (ackRecord (preGraphId p) 0 n cause cause (2 ^ n - 1))
        .next (s.rearm q)

/-! ### Placement (R54 to R58, R66) -/

/-- Case 0x5 of R54: a field of a descriptor is out of range. -/
def State.descriptorBad (s : State) (d : List Word64) : Bool :=
  bitsOf (dWord d 0) 63 51 != 0 || bitsOf (dWord d 1) 63 40 != 0 || bitsOf (dWord d 10) 47 44 != 0
    || bitsOf (dWord d 11) 63 16 != 0 || (List.range' 12 4).any (fun i => dWord d i != 0)
    || decide (8 < dNIn d) || decide (4 < dNOut d)
    || (List.range 8).any (fun i => if i < dNIn d then dThr d i == 0 else dThr d i != 0)
    || (List.range 4).any (fun j => if j < dNOut d then dNeed d j == 0 else dNeed d j != 0 || dInit d j != 0)
    || dEntry d % 8 != 0 || decide (s.hbmCap ≤ dEntry d)
    || (dExitEn d && (dExitCount d == 0 || dExitTask d == 0))

/-- The cause with which the intake refuses a descriptor of paddock `q`, 0 where it takes it (R54). -/
def State.descriptorCause (s : State) (q : Nat) (d : List Word64) : Nat :=
  let t := dTile d
  if !s.tileUsable t then 1
  else if !bitAt (s.fld GI_PAD_CFG_clusters q) (t / 8) then 2
  else if dTaskId d = 0 then 3
  else if (s.tile t).slots.any (fun sl => sl.state != .free && dTaskId sl.desc == dTaskId d) then 4
  else if s.descriptorBad d then 5
  else if dPersistent d && dNIn d == 0 then 6
  else 0

/-- An early-token entry merged into a newly placed slot (R66). -/
def Slot.merge (sl : Slot) (e : EarlyToken) : Slot × Bool :=
  let r := sl.add e.credit e.index e.count
  ({ r.1 with tokOvf := r.1.tokOvf || e.overflowed }, r.2)

/-- The early-token entries of a task merged one after the other. -/
def Slot.mergeAll (sl : Slot) : List EarlyToken → Slot × Bool
  | [] => (sl, false)
  | e :: es =>
    let r := sl.merge e
    let q := Slot.mergeAll r.1 es
    (q.1, r.2 || q.2)

/-- The slot that a descriptor makes (R57): WAIT, counters zero, pools at their initial values. -/
def slotOf (d : List Word64) : Slot :=
  ⟨.wait, d, [0, 0, 0, 0, 0, 0, 0, 0], [dInit d 0, dInit d 1, dInit d 2, dInit d 3], 0, 0, false, 0⟩

/-- A descriptor placed in slot `k` of its tile, with the early tokens merged (R57, R66). -/
def State.placeIn (s : State) (k : Nat) (d : List Word64) : State :=
  let t := dTile d
  let x := s.tile t
  let mine := x.etb.filter fun e => e.task == dTaskId d
  let r := (slotOf d).mergeAll mine
  let s := s.setTile t { x.setSlot k r.1 with etb := x.etb.filter fun e => e.task != dTaskId d }
  if r.2 then s.event TL_EVT_token_overflow t else s

/-- The lowest FREE slot of a tile (R55). -/
def Tile.freeSlot (x : Tile) : Option Nat := lfind (fun sl => sl.state == .free) x.slots

/-- Whether the intake can serve a paddock's head descriptor now: it is refused, or its tile has a FREE slot (R55). -/
def State.padServable (s : State) (q : Nat) : Bool :=
  match (s.pad q).queue with
  | [] => false
  | e :: _ =>
    match e.rest with
    | [] => true
    | d :: _ => !s.padResetting q && !s.staleFor e.header && (s.descriptorCause q d != 0 || (s.tile (dTile d)).freeSlot.isSome)

/-- The paddock that the intake serves next: round-robin after the last one served (R55). -/
def State.nextPad (s : State) : Option Nat :=
  ((List.range 8).map fun i => (s.lastPad + 1 + i) % 8).find? s.padServable

/-- The acknowledgement of a packet whose descriptors are all placed or refused (R52). -/
def State.finishGraph (s : State) (e : QueuedGraph) : State :=
  if e.reply || e.refusedMap != 0 then
    s.sendAck e.header e.replyAddr e.replyDomain
      (ackRecord e.graphId e.placed (e.count - e.placed) 0 e.firstCause e.refusedMap)
  else s

/-- The queue entry after one descriptor was placed (cause 0) or refused; the preamble's unit is retired with the first
descriptor (R55). -/
def QueuedGraph.advance (e : QueuedGraph) (cause : Nat) : QueuedGraph :=
  { e with
    rest := e.rest.drop 1, next := e.next + 1,
    units := e.units - (if e.next = 0 then 3 else 2),
    placed := if cause = 0 then e.placed + 1 else e.placed,
    refusedMap := if cause = 0 then e.refusedMap else withBit e.refusedMap e.next true,
    firstCause := if e.firstCause = 0 then cause else e.firstCause }

/-- The queue bytes retired in the last 1.024 ms (R77): 10,240,000 units of 100 ps. -/
def recentRetired (now : Nat) (l : List (Nat × Nat)) : List (Nat × Nat) := l.filter fun e => decide (now < e.1 + 10240000)

/-- A paddock's queue head replaced by the entry after one descriptor; the last one ends the packet. -/
def State.retireDescriptor (s : State) (q : Nat) (e : QueuedGraph) (cause : Nat) : State :=
  let e' := e.advance cause
  let x := s.pad q
  let log := recentRetired s.now x.retired ++ [(s.now, if e.next = 0 then 192 else 128)]
  let s := { s with lastPad := q }
  if e'.rest.isEmpty then
    (s.setPad q { x with queue := x.queue.drop 1, retired := log }).finishGraph e'
  else s.setPad q { x with queue := e' :: x.queue.drop 1, retired := log }

/-- DESCRIPTOR_PLACE (R54, R55, R57): the intake takes the head descriptor of the next paddock that it can serve. -/
def execDescriptorPlace (s : State) : Host.Outcome State Fault Refusal :=
  match s.nextPad with
  | none => .next s
  | some q =>
    match (s.pad q).queue with
    | [] => .next s
    | e :: _ =>
      match e.rest with
      | [] => .next s
      | d :: _ =>
        let cause := s.descriptorCause q d
        if cause != 0 then
          .next (((s.noteRefusal q cause (dTile d) (dTaskId d)).retireDescriptor q e cause).rearm q)
        else
          match (s.tile (dTile d)).freeSlot with
          | none => .next s
          | some k =>
            let s := (s.placeIn k d).wrapCount GI_PAD_COUNT_placed q
            let s := s.setPad q { s.pad q with placeAt := s.now }
            .next (((s.retireDescriptor q e 0).rearm q).markReady (dTile d))

/-! ### The ready logic (R59, R60, R67) -/

/-- Whether slot `a` goes before slot `b`: higher priority, then the smaller stamp, then the lower number (R67). -/
def slotBefore (a b : Nat × Slot) : Bool :=
  if dPrio a.2.desc != dPrio b.2.desc then decide (dPrio b.2.desc < dPrio a.2.desc)
  else if a.2.stamp != b.2.stamp then decide (a.2.stamp < b.2.stamp)
  else decide (a.1 < b.1)

/-- The slots of a tile with their numbers. -/
def numbered (l : List Slot) : List (Nat × Slot) := (List.range l.length).zip l

/-- The slot that the ready logic selects among the READY slots (R67). -/
def bestSlot (l : List Slot) : Option (Nat × Slot) :=
  ((numbered l).filter fun e => e.2.state == .ready).foldl
    (fun b e => match b with
      | none => some e
      | some c => if slotBefore e c then some e else b) none

/-- The used thresholds and needs subtracted at selection (R59), and the slot in RUN. -/
def Slot.start (sl : Slot) : Slot :=
  { sl with
    state := .run,
    cnt := (List.range 8).map fun i => if i < dNIn sl.desc then lget sl.cnt i 0 - dThr sl.desc i else lget sl.cnt i 0,
    pool := (List.range 4).map fun j =>
      if j < dNOut sl.desc then lget sl.pool j 0 - dNeed sl.desc j else lget sl.pool j 0 }

/-- The value of g5 at task start (R60). -/
def startG5 (k : Nat) (sl : Slot) : Word64 :=
  BitVec.ofNat 64 (dTaskId sl.desc + k <<< 32 + (sl.startCount % 2 ^ 24) <<< 40)

/-- The scalar registers at task start (R60). -/
def startRegs (k : Nat) (sl : Slot) : List Word64 :=
  [0, dArg sl.desc 0, dArg sl.desc 1, dArg sl.desc 2, dArg sl.desc 3, startG5 k sl] ++ List.replicate 26 0

/-- A selected slot started: registers as R60, the flags of R137 cleared, execution at the descriptor's entry. -/
def Tile.startTask (x : Tile) (k : Nat) (sl : Slot) (now : Nat) : Tile :=
  { x.setSlot k { sl.start with since := now } with
    watch := { x.watch with task := now },
    g := startRegs k sl, pc := BitVec.ofNat 40 (dEntry sl.desc), vxflags := 0, wait := none, cmdNo := 0 }

/-- Whether the tile's paddock lets the ready logic start tasks (R67, R75). -/
def State.padRun (s : State) (t : Nat) : Bool :=
  match s.padOfTile t with
  | some q => s.flag GI_PAD_CFG_run q
  | none => false

/-- TASK_SELECT (R58, R59, R60, R67): the ready logic of an idle tile; a parked module starts no task
(R444). -/
def execTaskSelect (tile : Nat) (s : State) : Host.Outcome State Fault Refusal :=
  if decide (144 ≤ tile) || s.parked || !s.seqIdle tile then .next s
  else
    let s := s.markReady tile
    if !s.padRun tile then .next s
    else
      match bestSlot (s.tile tile).slots with
      | none => .next s
      | some (k, sl) => .next ((s.setTile tile ((s.tile tile).startTask k sl s.now)).tally tile 0x043)

/-! ### Tokens (R61 to R66) -/

/-- A TOKEN or CREDIT packet received (R62 to R65, R200, R201, R365). -/
def State.receiveTokens (s : State) (p : Packet) : State :=
  if s.staleFor p then s
  else
    let r := s.epochCheck p
    let stale := r.2.satCount RTR_PAIR_CNT_stale_ctrl 0 0 (tokenEntries p).length
    if !p.flagged then (if r.1 then r.2.applyTokens p else stale)
    else if s.chipReset then s.refuseTokens p 4
    else
      match s.padOfPartition p.partition with
      | none => s.refuseTokens p 2
      | some q =>
        if s.padResetting q then s.refuseTokens p 4
        else if !s.padOwns q p.domain then s.refuseTokens p 2
        else if !r.1 then stale
        else
            let s := r.2
            match s.flagAction p q with
            | .discard => s.answerDiscard p 6
            | .apply => s.applyTokens p
            | .hold => s.holdFlag p q
            | .retry =>
              ((s.eventBit GI_CD_EVT_fh_refused q).satCount GI_FH_STAT_retries).refuseTokens p 1

/-- TOKEN (R62, R63): the entries of a TOKEN packet are applied, held or refused. -/
def execToken (p : Packet) (s : State) : Host.Outcome State Fault Refusal :=
  if p.status = 3 then .next (s.take p).dropMalformed else .next ((s.take p).receiveTokens p)

/-- CREDIT (R62, R63): the entries of a CREDIT packet are applied, held or refused. -/
def execCredit (p : Packet) (s : State) : Host.Outcome State Fault Refusal :=
  if p.status = 3 then .next (s.take p).dropMalformed else .next ((s.take p).receiveTokens p)

/-- An entry refused with "retry" for the first time (R64): its interval starts at 1 µs. Its command is that of the oldest
entry sent that it equals; an entry that the tile does not remember has producer word and number 0. -/
def Tile.refuseFirst (x : Tile) (e : TokenEntry) : Tile :=
  match lfind (fun r : SentToken => r.token == e) x.tokSent with
  | some i =>
    let r := lget x.tokSent i ⟨e, 0, 0, 0⟩
    { x with
      tokSent := ldel x.tokSent i,
      refused := x.refused ++ [⟨e, 1, true, r.producer, r.number, r.place + 1⟩] }
  | none => { x with refused := x.refused ++ [⟨e, 1, true, 0, 0, 1⟩] }

/-- An entry refused with "retry" (R64): `which` names the record of an entry that was sent again and is refused once more,
as its place in the tile's list plus 1; 0 is a first refusal. A further refusal doubles the entry's interval, up to 64 µs. -/
def Tile.refuse (x : Tile) (e : TokenEntry) (which : Nat) : Tile :=
  match x.refused[which - 1]? with
  | some r =>
    if which != 0 && !r.waiting && r.token == e then
      { x with refused := lset x.refused (which - 1) { r with waiting := true, interval := min 64 (2 * r.interval) } }
    else x.refuseFirst e
  | none => x.refuseFirst e

/-- The entries of a TOKEN_NAK taken one by one with the records that they name. -/
def Tile.refuseAll (x : Tile) (p : Packet) (credit : Bool) : List Word64 → List Nat → Tile
  | [], _ => x
  | w :: ws, which => Tile.refuseAll (x.refuse (tokenEntry p.src p credit w) (which.headD 0)) p credit ws (which.drop 1)

/-- A refusal other than "retry" recorded in the tile's status (R64, R107). -/
def State.recordNak (s : State) (t : Nat) (p : Packet) (credit : Bool) (res : Nat) (w : Word64) : State :=
  let v := res + teTile w <<< 4 + teIndex w <<< 12 + natOfBool credit <<< 15 + p.src <<< 16 + teTask w <<< 32
  (s.setReg .TL_NAK_LAST t 0 v).event TL_EVT_nak_refused t

/-- TOKEN_NAK (R64): the sending tile queues refused entries for re-sending or records the refusal; one for a sender that
is not a tile is discarded. The command tells, entry by entry, which earlier refusal it repeats (log entry 101). -/
def execTokenNak (r : RefusalPacket) (s : State) : Host.Outcome State Fault Refusal :=
  let p := r.packet
  let s := s.take p
  if p.status = 3 then .next s.dropMalformed
  else
  let t := bitsOf p.sequence 7 0
  if bitAt p.sequence 15 || decide (144 ≤ t) || s.staleFor p then .next s
  else
    let e := s.ctrlEpoch p
    let s := e.2
    if !e.1 then .next s
    else
    let credit := bitAt p.operation 0
    let res := bitsOf (p.word 2) 39 36
    if res = 1 then
      .next (s.setTile t ((s.tile t).refuseAll p credit (tokenEntries p) r.which))
    else if 2 ≤ res && res ≤ 5 then
      .next ((tokenEntries p).foldl (fun s w => s.recordNak t p credit res w) s)
    else .next s

/-- The packet of a re-sent entry (R64). -/
def resentPacket (t : Nat) (r : RefusedToken) : Packet :=
  { Packet.blank with
    dst := r.token.node, vc := 0, type := if r.token.credit then tCREDIT else tTOKEN, flagged := r.token.flagged, sequence := t,
    partition := r.token.partition, domain := r.token.domain,
    body := [BitVec.ofNat 64 (r.token.expect + 1 <<< 32), r.token.entry] }

/-- The emission key of a re-sent entry's packet (R360): a packet of the command that queued the entry. Its packets have
the numbers 1 to 5 for the first re-sending of each of the command's entries, 6 to 10 for the second, and so on (log
entry 105). -/
def RefusedToken.key (r : RefusedToken) : Nat := emissionKey r.producer (r.number * 65536 + r.seq % 65536)

/-- TOKEN_RESEND (R64): the `k`-th refused entry is sent again, if it waits. -/
def execTokenResend (tile k : Nat) (s : State) : Host.Outcome State Fault Refusal :=
  match (s.tile tile).refused[k]? with
  | none => .next s
  | some r =>
    if decide (144 ≤ tile) || !r.waiting || s.parked || s.pairStalls then .next s
    else
      let x := s.tile tile
      let s := s.setTile tile { x with refused := lset x.refused k { r with waiting := false, seq := r.seq + 5 } }
      let s := s.tally tile 0x033
      .next (s.sendKeyed (tilePort tile) r.key (resentPacket tile r) false false)

/-- EARLY_TOKEN_EXPIRY (R66): the `k`-th early-token entry is discarded. -/
def execEarlyTokenExpiry (tile k : Nat) (s : State) : Host.Outcome State Fault Refusal :=
  if decide (144 ≤ tile) || decide ((s.tile tile).etb.length ≤ k) then .next s
  else
    let x := s.tile tile
    .next ((s.setTile tile { x with etb := ldel x.etb k }).event TL_EVT_stale_token tile)

/-- INTAKE_SATURATED (R69, R76): occupancy has stayed at or above high_units for the hold-off. -/
def execIntakeSaturated (pad : Nat) (s : State) : Host.Outcome State Fault Refusal :=
  let high := s.fld GI_PAD_WATER_high_units pad
  let low := s.fld GI_PAD_WATER_low_units pad
  if decide (pad < 8) && decide (high ≤ s.occupancy pad) && ((s.pad pad).satArmed || decide (high ≤ low)) then
    .next ((s.eventBit GI_EVT_saturated pad).setPad pad { s.pad pad with satArmed := false })
  else .next s

end Sys2Proof.Machine
end

