-- ==== Sys2Proof/Machine/Cache.lean ====
section
/-! DEFINITION. The data cache (R94 to R96) and the instruction cache (R97) of a tile. -/
namespace Sys2Proof.Machine

/-- The bytes of a 64-byte line. -/
def lineBytes (d : BitVec 512) : List Byte := bytesOf 64 d.toNat

/-- A 64-byte line from bytes. -/
def lineOfBytes (bs : List Byte) : BitVec 512 := BitVec.ofNat 512 (ofBytes bs)

/-- The mask of 512 bits with eight ones for each byte of a byte mask. -/
def spreadMask : Nat → Nat → Nat
  | 0, _ => 0
  | n + 1, m => (if m % 2 = 1 then 255 else 0) + 256 * spreadMask n (m / 2)

/-- `old` with the bytes of a mask taken from `new`. -/
def mergeLine (mask : BitVec 64) (old new : BitVec 512) : BitVec 512 :=
  let m := BitVec.ofNat 512 (spreadMask 64 mask.toNat)
  (new &&& m) ||| (old &&& ~~~m)

/-- The byte mask of `n` bytes from offset `o` in a line. -/
def rangeMask (o n : Nat) : BitVec 64 := BitVec.ofNat 64 ((2 ^ n - 1) <<< o)

/-- The set of a line (R79: 512 sets). -/
def dSet (line : Nat) : Nat := line % 512

/-- The position of a line in the data cache. -/
def Tile.dFind (x : Tile) (line : Nat) : Option Nat := lfind (fun l => l.line == line) x.dcache

/-- The bits of a set turned away from a used way (R94). -/
def plruTouch (b : BitVec 7) (way : Nat) : BitVec 7 :=
  let n := b.toNat
  let b2 := bitAt way 2
  let b1 := bitAt way 1
  let b0 := bitAt way 0
  let n := withBit n 0 (!b2)
  let n := withBit n (1 + natOfBool b2) (!b1)
  BitVec.ofNat 7 (withBit n (3 + 2 * natOfBool b2 + natOfBool b1) (!b0))

/-- The way that a set's bits point to (R94). -/
def plruVictim (b : BitVec 7) : Nat :=
  let n := b.toNat
  let b2 := bitAt n 0
  let b1 := bitAt n (1 + natOfBool b2)
  let b0 := bitAt n (3 + 2 * natOfBool b2 + natOfBool b1)
  4 * natOfBool b2 + 2 * natOfBool b1 + natOfBool b0

/-- A use of a line recorded in its set's bits. -/
def Tile.dTouch (x : Tile) (l : DLine) : Tile :=
  { x with plru := aset x.plru l.set (plruTouch (agetD x.plru l.set 0) l.way) }

/-- The runs of consecutive bytes that a mask names in a line, as bytes at their offsets. -/
def maskedStores (a : Nat) (mask : BitVec 64) (d : BitVec 512) : List (Nat × Byte) :=
  ((List.range 64).filter fun i => mask.getLsbD i).map fun i => (a + i, byteAt d.toNat i)

/-- Single bytes stored one after the other. -/
def State.storeBytes (s : State) : List (Nat × Byte) → State
  | [] => s
  | e :: es => State.storeBytes (s.store (hbmKey e.1) [e.2]) es

/-- The dirty bytes of a line written to HBM (R95, R96, R221): whether the write met an uncorrectable error, in HBM or in
the line itself, and was not performed. -/
def State.writeBack (s : State) (l : DLine) : Bool × State :=
  let a := l.line * 64
  if l.dirty = 0 then (false, s)
  else if l.ue then (true, s)
  else if l.dirty = BitVec.allOnes 64 then s.hbmWriteGranule a (lineBytes l.data)
  else if s.hbmUe.contains l.line then (true, (s.correctHbm [l.line]).logHbmUe a false)
  else (false, (s.correctHbm [l.line]).storeBytes (maskedStores a l.dirty l.data))

/-- The correction of a single-bit error in a dirty line that is read for its write-back, counted (R96). -/
def State.correctLine (s : State) (t : Nat) (l : DLine) : State :=
  if l.ce && l.dirty != 0 then s.satCount TL_ECC_dcache_ce t else s

/-- A line taken out of the data cache; a dirty one waits for its write-back, a single-bit error in it corrected (R96). -/
def State.evict (s : State) (t : Nat) (l : DLine) : State :=
  let s := s.onTile t fun x =>
    { x with
      dcache := x.dcache.filter fun m => m.line != l.line
      wb := if l.dirty = 0 then x.wb else x.wb ++ [{ l with ce := false }] }
  if l.dirty = 0 then s else (s.correctLine t l).tally t 0x006

/-- The waiting write-backs of a list of lines done: whether one met an uncorrectable error. -/
def State.writeBackAll (s : State) : List DLine → Bool × State
  | [] => (false, s)
  | l :: ls =>
    let r := s.writeBack l
    let q := State.writeBackAll r.2 ls
    (r.1 || q.1, q.2)

/-- Every waiting write-back of a line done before the line is fetched again. -/
def State.settleLine (s : State) (t line : Nat) : Bool × State :=
  let x := s.tile t
  let mine := x.wb.filter fun l => l.line == line
  (s.setTile t { x with wb := x.wb.filter fun l => l.line != line }).writeBackAll mine

/-- The way that a new line of a set takes, and the line that it evicts: invalid ways first, then the way that the bits
point to (R94). -/
def Tile.dWay (x : Tile) (set : Nat) : Nat × Option DLine :=
  let used := x.dcache.filter fun l => l.set == set
  match (List.range 8).find? fun w => !used.any fun l => l.way == w with
  | some w => (w, none)
  | none =>
    let w := plruVictim (agetD x.plru set 0)
    (w, used.find? fun l => l.way == w)

/-- A line allocated in the data cache with no valid byte. -/
def State.dAlloc (s : State) (t line : Nat) : State :=
  let wv := (s.tile t).dWay (dSet line)
  let s := match wv.2 with
    | some l => s.evict t l
    | none => s
  let l : DLine := ⟨dSet line, wv.1, line, 0, 0, 0, false, false⟩
  s.onTile t fun x => ({ x with dcache := x.dcache ++ [l] }).dTouch l

/-- A line of the data cache replaced. -/
def Tile.dPut (x : Tile) (l : DLine) : Tile :=
  { x with dcache := x.dcache.map fun m => if m.line = l.line then l else m }

/-- What a read of the data cache meets. -/
inductive DHit where
  | hit (data : BitVec 512)
  | miss
  | error
  deriving DecidableEq, Repr

/-- A read of the bytes of a mask in a line (R94, R96): a line with every byte valid hits; a clean line with a parity
error is invalidated and misses; a single-bit error in a dirty line is corrected; a double-bit error in a dirty line
discards its dirty bytes. -/
def State.dRead (s : State) (t line : Nat) (mask : BitVec 64) : DHit × State :=
  let x := s.tile t
  match x.dFind line with
  | none => (.miss, s)
  | some i =>
    let l := lget x.dcache i ⟨0, 0, 0, 0, 0, 0, false, false⟩
    if l.ue && l.dirty != 0 then
      (.error, (s.setTile t (x.dPut { l with dirty := 0, valid := l.valid &&& ~~~l.dirty, ue := false })).event
        TL_EVT_dcache_ue t)
    else if (l.ce || l.ue) && l.dirty == 0 then
      (.miss, (s.setTile t { x with dcache := x.dcache.filter fun m => m.line != line }).satCount TL_ECC_dcache_ce t)
    else
      let s := if l.ce then (s.setTile t (x.dPut { l with ce := false })).satCount TL_ECC_dcache_ce t else s
      if l.valid &&& mask = mask then (.hit l.data, s.onTile t fun x => x.dTouch l) else (.miss, s)

/-- A line fetched from HBM and merged under its valid bytes (R94). Answers whether the fetch met an uncorrectable
error (the line then stays as it was), and whether a write-back of the same line that still waited did. -/
def State.dFill (s : State) (t line : Nat) : Bool × Bool × State :=
  let w := s.settleLine t line
  let r := w.2.hbmRead (line * 64) 64
  if r.1 then (true, w.1, r.2)
  else
    let s := match (r.2.tile t).dFind line with
      | some _ => r.2
      | none => r.2.dAlloc t line
    let data := lineOfBytes (s.bytes (hbmKey (line * 64)) 64)
    (false, w.1, s.onTile t fun x => { x with dcache := x.dcache.map fun m =>
      if m.line = line then { m with data := mergeLine m.valid data m.data, valid := BitVec.allOnes 64 } else m })

/-- Bytes stored in the data cache: a miss allocates the line without fetching it (R94). -/
def State.dStore (s : State) (t a : Nat) (bs : List Byte) : State :=
  let line := a / 64
  let s := match (s.tile t).dFind line with
    | some _ => s
    | none => (s.tally t 0x005).dAlloc t line
  let o := a % 64
  let mask := rangeMask o bs.length
  let new := BitVec.ofNat 512 (ofBytes bs <<< (8 * o))
  s.onTile t fun x =>
    match x.dFind line with
    | none => x
    | some i =>
      let l := lget x.dcache i ⟨0, 0, 0, 0, 0, 0, false, false⟩
      (x.dPut { l with data := mergeLine mask l.data new, valid := l.valid ||| mask, dirty := l.dirty ||| mask }).dTouch l

/-- The dirty bytes of a list of lines written back, single-bit errors corrected; the lines stay, clean, or go where
`drop` is set. A write-back that meets an uncorrectable error discards its dirty bytes and sets the event of R96.
Answers whether one did. -/
def State.cleanLines (s : State) (t : Nat) (drop : Bool) : List DLine → Bool × State
  | [] => (false, s)
  | l :: ls =>
    let s := if l.dirty = 0 then s else (s.correctLine t l).tally t 0x006
    let r := s.writeBack l
    let s := if r.1 then r.2.event TL_EVT_dcache_ue t else r.2
    let s := s.onTile t fun x =>
      if drop then { x with dcache := x.dcache.filter fun m => m.line != l.line }
      else if l.dirty = 0 then x
      else x.dPut { l with dirty := 0, valid := if r.1 then l.valid &&& ~~~l.dirty else l.valid, ce := false, ue := false }
    let q := State.cleanLines s t drop ls
    (r.1 || q.1, q.2)

/-- Whether the global addresses `a` to `a + n - 1` overlap a line of own-node HBM, under either name of the node (R356). -/
def State.overlapsLine (s : State) (a n line : Nat) : Bool :=
  n != 0 && [s.node, s.selfId].any fun id =>
    decide (a < hbmAddr id (line * 64) + 64) && decide (hbmAddr id (line * 64) < a + n)

/-- The data-cache lines of own-node HBM that overlap a range of global addresses (R171, R172). A range that begins at a
malformed address matches none. -/
def State.linesIn (s : State) (t a n : Nat) : List DLine :=
  if malformed a then [] else (s.tile t).dcache.filter fun l => s.overlapsLine a n l.line

/-- The lines whose dirty bytes a REL writes back: those of its range, and none where the range runs past the end of the
address space (R171). -/
def State.relLines (s : State) (t a n : Nat) : List DLine := if 2 ^ 64 < a + n then [] else s.linesIn t a n

/-- The line that holds an HBM offset. -/
def lineOf (off : Nat) : Nat := off / 64

/-- The lines of the data cache with one line number. -/
def Tile.dLine (x : Tile) (line : Nat) : List DLine := x.dcache.filter fun l => l.line == line

/-- The instruction word at an HBM offset, where the instruction cache holds its line (R97). -/
def Tile.fetch (x : Tile) (off : Nat) : Option Nat :=
  match x.icache.find? fun l => l.line == off / 64 with
  | some l => if l.parity then none else some (bitsOf l.data.toNat (8 * (off % 64) + 63) (8 * (off % 64)))
  | none => none

/-- A line fetched into the instruction cache (R79: 256 sets of 4 ways; R97). A set that is full loses a line that the
spec does not name: a free value chooses it (log entry 12). Answers whether the fetch met an uncorrectable error. -/
def State.iFill (s : State) (t line : Nat) : Bool × State :=
  let r := s.hbmRead (line * 64) 64
  if r.1 then (true, r.2)
  else
    let s := r.2
    let data := lineOfBytes (s.bytes (hbmKey (line * 64)) 64)
    let x := s.tile t
    let rest := x.icache.filter fun l => l.line != line
    let mates := rest.filter fun l => l.line % 256 == line % 256
    if 4 ≤ mates.length then
      let victim := lget mates (s.freeVal % 4) ⟨0, 0, false⟩
      (false, (s.spend).setTile t
        { x with icache := (rest.filter fun l => l.line != victim.line) ++ [⟨line, data, false⟩] })
    else (false, s.setTile t { x with icache := rest ++ [⟨line, data, false⟩] })

end Sys2Proof.Machine
end

