-- ==== Sys2Proof/Machine/Coding.lean ====
section
/-! DEFINITION. The line coding of a lane: 64B/66B blocks and their scrambler, fillers, training periods, and the striping
of link blocks over the lanes (R229 to R231, R235, R240). -/
namespace Sys2Proof.Machine

/-- A data block (R229). -/
def dataBlock (w : Word64) : LaneBlock := ⟨1, w⟩

/-- A control block (R229, R230). -/
def controlBlock (w : Word64) : LaneBlock := ⟨2, w⟩

/-- What a receiver takes a block for (R230). -/
inductive BlockKind where
  | data | idle | filler | train | error
  deriving DecidableEq, Repr

/-- A block classified by its sync header and, for a control block, its first payload byte (R230). -/
def LaneBlock.kind (b : LaneBlock) : BlockKind :=
  if b.sync = 1 then .data
  else if b.sync = 2 then
    let t := bitsOf b.payload.toNat 7 0
    if t = 0xA1 then .idle else if t = 0xA2 then .filler else if t = 0xA3 then .train else .error
  else .error

/-! ### The scrambler x⁵⁸ + x³⁹ + 1 (R229) -/

/-- The payload bits in the order of the line, lowest first. -/
def payloadBits (w : Word64) : List Bool := (List.range 64).map fun i => w.getLsbD i

/-- What the scrambler adds to a bit, from the bits it sent before, latest first. -/
def scramblerTap (sent : List Bool) : Bool := lget sent 38 false != lget sent 57 false

/-- The scrambler after it has sent a bit. -/
def scramblerNext (sent : List Bool) (b : Bool) : List Bool := (b :: sent).take 58

/-- Payload bits scrambled, from the bits sent before. -/
def scramble : List Bool → List Bool → List Bool
  | _, [] => []
  | sent, d :: ds =>
    let b := d != scramblerTap sent
    b :: scramble (scramblerNext sent b) ds

/-- Received bits descrambled, from the bits received before. -/
def descramble : List Bool → List Bool → List Bool
  | _, [] => []
  | got, b :: bs => (b != scramblerTap got) :: descramble (scramblerNext got b) bs

/-- The 66 bits of a block on the line: the sync header as it is, bit 1 first, and the payload scrambled. -/
def lineBits (sent : List Bool) (b : LaneBlock) : List Bool :=
  bitAt b.sync 1 :: bitAt b.sync 0 :: scramble sent (payloadBits b.payload)

/-! ### Fillers, training periods and stripes -/

/-- An IDLE block (R230); its other bits are zero (log entry 139). -/
def idleBlock : LaneBlock := controlBlock 0xA1

/-- A FILLER block of a logical lane (R231). -/
def fillerBlock (logical group : Nat) : LaneBlock :=
  controlBlock (BitVec.ofNat 64 (0xA2 + (logical % 8) <<< 8 + (group % 65536) <<< 16))

/-- The four FILLER blocks of a filler group (R231). -/
def fillerGroup (logical group : Nat) : List LaneBlock := List.replicate 4 (fillerBlock logical group)

/-- A training period: the frame's four blocks, the first a control block, and 60 data blocks of zeros (R235). -/
def trainingPeriod : List Word64 → List LaneBlock
  | [] => []
  | w :: ws => controlBlock w :: ws.map dataBlock ++ List.replicate 60 (dataBlock 0)

/-- The words of a link block that lane `l` of `width` active lanes carries, in order (R240). -/
def stripe (width l : Nat) (ws : List Word64) : List Word64 :=
  (List.range (32 / width)).map fun i => lget ws (width * i + l) 0

/-- The link block that the words of its active lanes make (R240). -/
def unstripe (lanes : List (List Word64)) : List Word64 :=
  (List.range 32).map fun w => lget (lget lanes (w % lanes.length) []) (w / lanes.length) 0

end Sys2Proof.Machine
end

