-- ==== Sys2Proof/Machine/Fabric.lean ====
section
/-! DEFINITION. What the router, the link layer and the beat timer share: time and slots (R284, R294, R295), input buffers
and credit (R265, R266), the links' state, and putting packets at output ports (R252, R267, R270 to R274). -/
namespace Sys2Proof.Machine

/-! ### Links and lanes -/

/-- The link layer of an external port. -/
def State.link (s : State) (k : Nat) : LinkPort := agetD s.links k LinkPort.reset

/-- The state with a port's link layer replaced. -/
def State.setLink (s : State) (k : Nat) (x : LinkPort) : State := { s with links := aset s.links k x }

/-- The state with a port's link layer changed. -/
def State.onLink (s : State) (k : Nat) (f : LinkPort → LinkPort) : State := s.setLink k (f (s.link k))

/-- A lane by its physical number, 8 × port + lane (R19). -/
def State.lane (s : State) (n : Nat) : Lane := agetD s.lanes n Lane.reset

/-- The state with a lane changed. -/
def State.onLane (s : State) (n : Nat) (f : Lane → Lane) : State := { s with lanes := aset s.lanes n (f (s.lane n)) }

/-- The state with an output sent on a bus of the module. -/
def State.emit (s : State) (o : Output) : State := { s with out := s.out ++ [o] }

-- The training states of R236 and the power states of R249.
def tsOff : Nat := 0
def tsDetect : Nat := 1
def tsLock : Nat := 2
def tsAlign : Nat := 3
def tsEq : Nat := 4
def tsConfirm : Nat := 5
def tsActive : Nat := 6
def tsFailed : Nat := 7

/-- The floor-plan units of ports and fold units (R426). -/
def portUnit (k : Nat) : Nat := 12 + k
def foldUnit (k : Nat) : Nat := 20 + k

/-- Whether a port may be enabled: its unit has not failed its test and is not soft-disabled (R417, R419). -/
def State.portFree (s : State) (k : Nat) : Bool :=
  s.flag FUS_FP_UNIT_fused_on (portUnit k) && !s.flag FUS_FP_UNIT_test_fail (portUnit k) && !s.flag FUS_FP_UNIT_si_off (portUnit k)
    && !s.flag FUS_FP_UNIT_rt_off (portUnit k)

/-- The training state of an external port. -/
def State.tstate (s : State) (k : Nat) : Nat := s.fld RTR_LINK_STAT_tstate k

/-- Whether an external port's link is up: ACTIVE and not Off. -/
def State.linkUp (s : State) (k : Nat) : Bool := decide (k < 8) && s.tstate k == tsActive

/-- down(q) of R270: an external port that is FAILED or OFF, or in DETECT and so without a far end (R245, R274), or whose
heft entry is not AGREED (R343). -/
def State.down (s : State) (q : Nat) : Bool :=
  decide (8 ≤ q) || s.tstate q == tsFailed || s.tstate q == tsOff || s.tstate q == tsDetect
    || s.fld RTR_HEFT_FAR1_state q != 2

/-! ### Time and slots (R284, R294, R295) -/

/-- The period P in units of 100 ps. -/
def State.period (s : State) : Nat := s.fld BT_PERIOD_period_ns * 10

/-- The start of beat `n` (R284). -/
def State.beatStart (s : State) (n : Nat) : Nat :=
  (((s.beat.tb : Nat) : Int) + (((n : Nat) : Int) - ((s.beat.nb : Nat) : Int)) * ((s.period : Nat) : Int)).toNat

/-- The slot that T lies in (R284): the last slot whose start is not after T. After a step no slot of the beat that has
begun begins again (R293). -/
def State.slotNow (s : State) : Nat :=
  max (if s.beat.stepBeat = s.beatNo then s.beat.stepSlot else 0)
    (min 255 (((s.beat.t - s.beatStart s.beatNo + 1) * 256 - 1) / s.period))

/-- The active entry of the slot table of a port (R294). -/
def State.slotEntry (s : State) (k slot : Nat) : Nat :=
  (agetD (if s.flag BT_FLIP_active then s.slot1 else s.slot0) (k * 256 + slot) 0).toNat

/-- The active entry of the circuit table (R295). -/
def State.circuit (s : State) (c : Nat) : Nat :=
  (agetD (if s.flag BT_FLIP_active then s.circ1 else s.circ0) c 0).toNat

def circOut (e : Nat) : Nat := bitsOf e 3 0
def circPartition (e : Nat) : Nat := bitsOf e 15 4
def circValid (e : Nat) : Bool := bitAt e 16

/-- Whether a slot entry is claimed and its circuit's partition differs (R294). -/
def State.slotMismatch (s : State) (k slot : Nat) : Bool :=
  let e := s.slotEntry k slot
  let c := s.circuit (bitsOf e 11 0)
  bitAt e 24 && !(circValid c && circPartition c == bitsOf e 23 12)

/-- The circuit that claims a slot of a port, if one does (R294). -/
def State.slotOwner (s : State) (k slot : Nat) : Option Nat :=
  let e := s.slotEntry k slot
  if bitAt e 24 && !s.slotMismatch k slot then some (bitsOf e 11 0) else none

/-- Whether the active slot table of a port claims any slot (R246). -/
def State.claimsAny (s : State) (k : Nat) : Bool := (List.range 256).any fun i => (s.slotOwner k i).isSome

/-- Whether a circuit claims a slot of a port (R298). -/
def State.claimsFor (s : State) (k c : Nat) : Bool := (List.range 256).any fun i => s.slotOwner k i == some c

/-- The last slot of a port that a circuit claims. -/
def State.lastSlotOf (s : State) (k c : Nat) : Option Nat :=
  (List.range 256).foldl (fun l i => if s.slotOwner k i == some c then some i else l) none

/-! ### Input buffers and credit (R265, R266) -/

/-- pool_free of R266. -/
def State.poolFree (s : State) (port : Nat) : Nat :=
  sharedUnits port - ((List.range 8).map fun v => s.fld RTR_VC_CREDIT_grant port v - 1024).foldl (· + ·) 0

/-- Credit to return to the far end of an external port. -/
def State.oweCredit (s : State) (port vc u : Nat) : State :=
  if port < 8 then s.onLink port fun x => { x with owed := lset x.owed vc (lget x.owed vc 0 + u) } else s

/-- Units that waited behind an internal port enter a packet of its virtual channel as far as there is room: of one
that is leaving, all its copies. -/
def State.admitOut (s : State) (tag : Nat) : State :=
  match s.output.find? fun o => o.tag == tag with
  | some o =>
    let n := min (o.packet.length - o.came) (s.room o.inPort o.inVc)
    let grown := fun q : OutPacket => if q.tag == tag then { q with came := o.came + n } else q
    { s with output := s.output.map grown }
  | none => s

/-- The same for the packet at position `i` of the input buffers. -/
def State.admitIn (s : State) (port i : Nat) : State :=
  match s.input[i]? with
  | some e =>
    if e.port == port && decide (e.came < e.packet.length) then
      let n := min (e.packet.length - e.came) (s.room port e.packet.vc)
      { s with input := lset s.input i { e with came := e.came + n } }
    else s
  | none => s

/-- Space of an internal port's buffer filled with the units that wait behind it, in order (R265). -/
def State.refill (s : State) (port : Nat) : State :=
  if port < 8 then s
  else
    let os := s.output.filter fun o => o.inPort == port && decide (o.came < o.packet.length)
    let s := os.foldl (fun s o => s.admitOut o.tag) s
    (List.range s.input.length).foldl (fun s i => s.admitIn port i) s

/-- The loan of R266 that goes with each link block a port sends. -/
def State.lend (s : State) (port : Nat) : State :=
  let x := s.link port
  let free := s.poolFree port
  match ((List.range 8).map fun i => (x.lendLast + 1 + i) % 8).find? fun v =>
      let g := s.fld RTR_VC_CREDIT_grant port v
      decide (g / 2 ≤ s.wireOcc port v) && decide (g < s.vcCap port v) && decide (0 < free) with
  | none => s
  | some v =>
    let g := s.fld RTR_VC_CREDIT_grant port v
    let n := min 256 (min (s.vcCap port v - g) free)
    let s := (s.setFld RTR_VC_CREDIT_grant port v (g + n)).oweCredit port v n
    s.onLink port fun x => { x with lendLast := v }

/-- The highest occupancy since clr_max, as RTR_VC_DEPTH shows it (R283). The field keeps the highest one before units
left; the present one may be higher. -/
def State.occMax (s : State) (port vc : Nat) : Nat := max (s.fld RTR_VC_DEPTH_occ_max port vc) (s.vcOcc port vc)

/-- The highest occupancy of a virtual channel raised to `n` (R283). -/
def State.raiseMax (s : State) (port vc n : Nat) : State :=
  if s.fld RTR_VC_DEPTH_occ_max port vc < n then s.setFld RTR_VC_DEPTH_occ_max port vc n else s

/-- `u` units of a virtual channel, which came on channel `wire`, have left an input buffer (R266, R283): the highest
occupancy is kept, and the credit is returned or part of it kept back. At an internal port the credit is spent at once by
the units that wait, and a loan goes with each departure, as with each block that an external port sends (log entry
140). -/
def State.leave (s : State) (port vc wire u : Nat) : State :=
  let s := s.raiseMax port vc (s.vcOcc port vc + u)
  let s := s.wrapCount RTR_VC_BYTES_bytes port vc (16 * u)
  let g := s.fld RTR_VC_CREDIT_grant port wire
  let keep := if decide (1024 < g) && decide (s.wireOcc port wire < g / 4) then min u (g - 1024) else 0
  let s := s.setFld RTR_VC_CREDIT_grant port wire (g - keep)
  if port < 8 then s.oweCredit port wire (u - keep) else ((s.refill port).lend port).refill port

/-- A packet has left an input buffer (R283); `rest` units of it passed without standing there. -/
def State.leftWhole (s : State) (port vc rest : Nat) : State :=
  (s.wrapCount RTR_VC_BYTES_bytes port vc (16 * rest)).wrapCount RTR_VC_PKTS_packets port vc

/-- The buffer after copies of the packet of `o` have sent units or are gone; `before` is what every copy had sent. A
packet without copies has left; units of it that have not come on a link never stood there. -/
def State.afterCopies (s : State) (o : OutPacket) (before : Nat) : State :=
  match leastSent s.output o.tag with
  | some n => if n ≤ before then s else s.leave o.inPort o.inVc o.wire (n - before)
  | none => (s.leave o.inPort o.inVc o.wire (o.came - before)).leftWhole o.inPort o.inVc
      (if o.inPort < 8 then 0 else o.packet.length - o.came)

/-- One copy of a packet dropped. The units still to come to a packet without copies are discarded as they come. -/
def State.dropCopy (s : State) (o : OutPacket) : State :=
  let before := (leastSent s.output o.tag).getD 0
  let os := s.output.filter fun q => !(q.port == o.port && q.tag == o.tag)
  let coming := decide (o.inPort < 8) && decide (o.came < o.packet.length) && !(os.any fun q => q.tag == o.tag)
  let s := { s with output := if coming then os ++ [{ o with port := 9, sent := o.came }] else os }
  s.afterCopies o before

/-! ### Delivery and output (R28, R252, R263, R270, R272) -/

/-- The output port of a delivered packet (R252). A TOKEN or CREDIT with entries for tiles behind several ports goes to
M. -/
def deliverPort (p : Packet) : Nat :=
  if p.type = tTOKEN || p.type = tCREDIT then
    match (p.body.drop 1).take (bitsOf (p.word 2) 34 32) with
    | [] => portM
    | w :: ws =>
      let q := tilePort (bitsOf w.toNat 39 32)
      if ws.all fun v => tilePort (bitsOf v.toNat 39 32) == q then q else portM
  else if p.type = tTOKEN_NAK then (if bitAt p.sequence 15 then portM else tilePort (p.sequence % 256))
  else if p.type = tFOLD_DATA || p.type = tFOLD_CTRL then portF
  else if p.type = tWRITE || p.type = tFLAGGED_WRITE || p.type = tGET_DATA then addrPort p.addr
  else if p.type = tGET_REQ then addrPort (p.word 2)
  else if p.type = tCOMPLETION then tilePort (pcSrcTile (p.word 2))
  else portM

/-- Whether R28 refuses a packet at the router: a register-space access that is no management packet, or a management
request that comes neither from the fabric manager nor from the own management complex on port M. -/
def State.refused28 (s : State) (inPort : Nat) (p : Packet) : Bool :=
  if p.type = tWRITE || p.type = tFLAGGED_WRITE || p.type = tGET_DATA then gaSpace p.addr == 2
  else if p.type = tGET_REQ then gaSpace (p.word 2) == 2
  else if p.type = tMGMT_REQ then p.src != s.fld RTR_HEFT_CTRL_fm_node && !(inPort == portM && s.isOwn p.src)
  else false

/-- A management response (R262). -/
def mgmtResp (p : Packet) (status cause data : Nat) : Packet :=
  { Packet.blank with
    dst := p.src, length := 3, vc := 6, type := tMGMT_RESP, status := status, sequence := p.sequence,
    body := [BitVec.ofNat 64 (p.word 2), BitVec.ofNat 64 data,
      BitVec.ofNat 64 (p.word 4 % 16 + (cause % 16) <<< 4), 0] }

/-- The number of the limiter's entry that a destination uses: its own, or, where every entry serves another destination
below the full rate, entry 255, which such destinations share (R279). -/
def State.limiterUsed (s : State) (dst : Nat) : Option Nat :=
  match s.limiter.find? fun e => e.dst == dst with
  | some e => some e.number
  | none => if decide (256 ≤ s.limiter.length) && s.limiter.all fun e => decide (e.rate < 10000) then some 255 else none

/-- A marked completion noted in the limiter's entry of its source (R279). -/
def State.noteMark (s : State) (p : Packet) : State :=
  if p.type = tCOMPLETION && p.raddle then
    match s.limiterUsed p.src with
    | some n => { s with limiter := s.limiter.map fun e => if e.number == n then { e with marked := true } else e }
    | none => s
  else s

/-- A packet delivered on this node (R252). One with status 3 is discarded and counted (R258). A register access that
R28 refuses is counted at the input port; a management request among them is answered here, and every other one fails
check 1 of R276 at its target. A paired node discards a node packet that does not name it (R356). -/
def State.deliver (s : State) (inPort : Nat) (p : Packet) : State :=
  let s := s.noteMark p
  if p.status = 3 then s.countMalformed inPort
  else if s.paired && !isRankType p.type && p.dst != s.node then s.satCount RTR_PAIR_STAT_node_discard
  else if s.refused28 inPort p then
    let s := (s.satCount RTR_PORT_STAT_reg_refused inPort).event RTR_PORT_EVT_reg_refused inPort
    if p.type = tMGMT_REQ then s.sendNode (mgmtResp p 1 1 0)
    else { s with delivered := s.delivered ++ [(deliverPort p, p)] }
  else { s with delivered := s.delivered ++ [(deliverPort p, p)] }

/-- A training of a port starts with LOCK and is counted (R249). -/
def State.startTraining (s : State) (k : Nat) : State :=
  let s := s.setFld RTR_LINK_STAT_tstate k 0 tsLock
  s.satCount RTR_LINK_STAT_trainings k

/-- The physical lane that sends logical lane `l` of a port, by its map (R237). -/
def State.txLane (s : State) (k l : Nat) : Nat :=
  8 * k + bitsOf (s.fld RTR_LINK_MAP_map k) (3 * l + 2) (3 * l)

/-- The physical lane that receives logical lane `l` of a port: under reversal the receiver renumbers its lanes (R237). -/
def State.physLane (s : State) (k l : Nat) : Nat :=
  s.txLane k (if s.flag RTR_LINK_STAT_reversed k then 7 - l else l)

/-- The physical lanes of a port. -/
def portLanes (k : Nat) : List Nat := (List.range 8).map fun i => 8 * k + i

/-- A field of every lane of a port set. -/
def State.setLanes (s : State) (k : Nat) (f : Fld) (v : Nat) : State :=
  (portLanes k).foldl (fun s n => s.setFld f n 0 v) s

/-- A field of LN_TAPS. Main runs from 48 to 128, so that its eight bits name a positive value (R238). -/
def tapOf (v i : Nat) : Int :=
  let b := bitsOf v (8 * i + 7) (8 * i)
  if i = 2 then ((b : Nat) : Int) else signedOf 8 b

/-- The presets of R238; preset 7 takes the stored taps, or preset 1 where none are stored. -/
def State.preset (s : State) (n no : Nat) : List Int :=
  match no with
  | 0 => [0, 0, 128, 0, 0]
  | 1 => [0, -8, 112, -8, 0]
  | 2 => [0, -12, 100, -16, 0]
  | 3 => [2, -16, 88, -20, -2]
  | _ =>
    if s.flag LN_TAPS_stored_valid n then (List.range 5).map fun i => tapOf (s.fld LN_TAPS_taps n) i
    else [0, -8, 112, -8, 0]

/-- Whether the lane map of a port is a permutation (R237). -/
def State.mapIsPermutation (s : State) (k : Nat) : Bool :=
  (List.range 8).all fun n => (List.range 8).any fun i => bitsOf (s.fld RTR_LINK_MAP_map k) (3 * i + 2) (3 * i) == n

/-! ### Heft (R338 to R342) -/

/-- The role compatible with a role, 16 where there is none (R338). -/
def farRole (r : Nat) : Nat :=
  match r with
  | 1 => 2 | 2 => 1 | 3 => 4 | 4 => 3 | 5 => 6 | 6 => 5 | 7 => 8 | 8 => 7 | _ => 16

/-- A hello of a port (R341). -/
def State.hello (s : State) (k : Nat) : Packet :=
  let w0 := k <<< 3 + s.fld RTR_PORT_ROLE_role k <<< 6 + s.fld RTR_NODE_ID_pos <<< 10
    + s.fld RTR_NODE_ID_valid <<< 16 + natOfBool (s.link k).heard <<< 17
    + (if s.flag RTR_NODE_ID_valid then s.node else 0) <<< 18
  { Packet.blank with
    vc := 6, type := tHEFT, body := [BitVec.ofNat 64 w0, BitVec.ofNat 64 (s.reg .MGT_SERIAL), 0, 0, 0, 0] }

/-- Whether a port sends hellos (R340). -/
def State.sendsHello (s : State) (k : Nat) : Bool :=
  let r := s.fld RTR_PORT_ROLE_role k
  decide (1 ≤ r) && decide (r ≤ 7) && s.flag RTR_HEFT_CTRL_enable && s.linkUp k

/-- Whether a packet is a router's own on a link, put there without a lookup: a bell or a packet of heft discovery (R287,
R340, R346). -/
def ownOfLink (p : Packet) : Bool := p.type == tBELL || p.type == tHEFT

/-- A packet that is leaving put back in its input buffer, where it waits under R273. -/
def OutPacket.back (o : OutPacket) : InPacket := ⟨o.inPort, { o.packet with vc := o.inVc }, o.wire, o.came, true, false, false⟩

/-- The packets that `f` selects and of which no unit has left go back to their input buffers, where they are looked up
again; copies of replicated packets stay (R272). -/
def State.recall (s : State) (f : OutPacket → Bool) : State :=
  let g := fun o => f o && o.sent == 0 && !o.multi && !ownOfLink o.packet
  { s with output := s.output.filter (fun o => !g o), input := (s.output.filter g).map OutPacket.back ++ s.input }

/-- The packets of a port whose heft entry is no longer AGREED (R343, R351): those with no unit in a link block wait under
R273, and bells are not sent. Copies of replicated packets wait at the port while its entry is in WAIT, and are dropped and
counted otherwise (R272, log entry 141). -/
def State.recallPort (s : State) (k : Nat) : State :=
  let s := s.recall fun o => o.port == k
  let copies := s.output.filter fun o => o.port == k && o.sent == 0 && o.multi && s.fld RTR_HEFT_FAR1_state k != 1
  let s := copies.foldl (fun s o => (s.dropCopy o).satCount RTR_PORT_STAT_mcast_drop o.inPort) s
  (s.output.filter fun o => o.port == k && o.packet.type == tBELL && o.sent == 0).foldl (fun s o => s.dropCopy o) s

/-- The entry of a port that leaves ACTIVE, or whose role changes, waits for a hello (R342). -/
def State.heftWait (s : State) (k : Nat) : State :=
  (s.setFld RTR_HEFT_FAR1_state k 0 (if s.fld RTR_PORT_ROLE_role k = 0 then 5 else 1)).recallPort k

/-! ### Losing a link (R244, R274) -/

/-- Packets lost at a port (R274). -/
def State.countLost (s : State) (k n : Nat) : State :=
  if n = 0 then s else (s.satCount RTR_PORT_STAT_lost k 0 n).event RTR_PORT_EVT_lost k

/-- A list of packets whose space in an input buffer is freed as they are discarded. -/
def State.freeIn (s : State) : List InPacket → State
  | [] => s
  | e :: es =>
    State.freeIn ((s.leave e.port e.packet.vc e.wire e.came).leftWhole e.port e.packet.vc
      (if e.port < 8 then 0 else e.packet.length - e.came)) es

/-- The packets of an input port that `f` selects discarded, leaving ones with all their copies. -/
def State.discardFrom (s : State) (f : InPacket → Bool) (g : OutPacket → Bool) : State :=
  let ins := s.input.filter f
  let held := ins.map (fun e => (e.port, e.packet.vc)) ++ (s.output.filter g).map fun o => (o.inPort, o.inVc)
  let s := held.foldl (fun s q => s.raiseMax q.1 q.2 (s.vcOcc q.1 q.2)) s
  let s := { s with input := s.input.filter fun e => !f e }
  let s := s.freeIn ins
  let tags := ((s.output.filter g).map (·.tag)).eraseDups
  tags.foldl (fun s t =>
    match s.output.find? fun o => o.tag == t with
    | some o =>
      let before := (leastSent s.output t).getD 0
      { s with output := s.output.filter fun q => q.tag != t }.afterCopies o before
    | none => s) s

/-- Whether units of a packet that came on a port, on a virtual channel of `vs`, are still to come. -/
def InPacket.comingOn (k : Nat) (vs : List Nat) (e : InPacket) : Bool :=
  e.port == k && vs.contains e.wire && decide (e.came < e.packet.length)
def OutPacket.comingOn (k : Nat) (vs : List Nat) (o : OutPacket) : Bool :=
  o.inPort == k && vs.contains o.wire && decide (o.came < o.packet.length)

/-- The partly received packets of a port's virtual channels discarded (R274). -/
def State.dropComing (s : State) (k : Nat) (vs : List Nat) : State :=
  s.discardFrom (·.comingOn k vs) (·.comingOn k vs)

/-- How many packets are partly received on a port. -/
def State.comingCount (s : State) (k : Nat) : Nat :=
  (s.input.filter (·.comingOn k (List.range 8))).length
    + (((s.output.filter fun o => o.comingOn k (List.range 8) && o.port != 9).map (·.tag)).eraseDups).length

/-- The packets that still stand in a port's input buffer when a training begins after FAILED or OFF are discarded and
counted, so that the buffer is empty (R266, R274). -/
def State.flushPort (s : State) (k : Nat) : State :=
  let n := (s.input.filter fun e => e.port == k).length
    + (((s.output.filter fun o => o.inPort == k).map (·.tag)).eraseDups).length
  (s.discardFrom (fun e => e.port == k) (fun o => o.inPort == k)).countLost k n

/-- A port that goes to FAILED or OFF (R244, R274): its replay buffer is discarded, the packets with a unit in it or in a
sent block are lost, partly received packets are discarded, and the packets not begun are routed again. A copy of a
replicated packet whose port went down is dropped (R272). Complete packets in its input buffer go on. -/
def State.dropLink (s : State) (k : Nat) : State :=
  let x := s.link k
  let s := s.recallPort k
  let mine := s.output.filter fun o => o.port == k
  let begun := mine.filter fun o => decide (0 < o.sent)
  let copies := mine.filter fun o => o.sent == 0 && o.multi
  let s := mine.foldl (fun s o => s.dropCopy o) s
  let s := copies.foldl (fun s o => s.satCount RTR_PORT_STAT_mcast_drop o.inPort) s
  let lost := total (x.replay.map (·.ends)) + begun.length + s.comingCount k
  let s := (s.dropComing k (List.range 8)).countLost k lost
  let s := s.setFld RTR_LINK_REPLAY_used k 0 0
  let s := s.setFld RTR_LINK_REPLAY_next_seq k 0 0
  let s := if s.tstate k = tsActive then s.heftWait k else s
  s.setLink k { LinkPort.reset with bells := x.bells, wasActive := x.wasActive, vcRounds := x.vcRounds, partRound := x.partRound }

/-- A port goes to FAILED with a cause (R236, R237, R243). -/
def State.failPort (s : State) (k cause : Nat) : State :=
  let s := s.dropLink k
  let s := s.setFld RTR_LINK_STAT_tstate k 0 tsFailed
  let s := s.setFld RTR_LINK_STAT_fail_cause k 0 cause
  let s := (s.setLanes k LN_STAT_state tsFailed).setLanes k LN_STAT_in_use 0
  s.event RTR_LINK_EVT_down k

/-- The lanes of a port that is to take the lane firmware in use at its next training load it (R502, R504): its svn is noted.
Without a slot in use nothing is loaded. -/
def State.loadLanes (s : State) (k : Nat) : State :=
  let svn := if s.flag FWU_SLOT_in_use 2 0 then some (s.fld FWU_SLOT_svn 2 0)
    else if s.flag FWU_SLOT_in_use 2 1 then some (s.fld FWU_SLOT_svn 2 1) else none
  if s.mgmt.laneDue.contains k then
    match svn with
    | some v =>
      let m : Mgmt := s.mgmt
      { s with mgmt := { m with laneFw := aset m.laneFw k v, laneDue := m.laneDue.filter fun p => p != k } }
    | none => s
  else s

/-- A port enters LOCK (R236 to R238): every lane starts from preset 1, or from preset 7 on a Dormant exit; a lane map
that is no permutation fails the port with cause 1. -/
def State.enterLock (s : State) (k : Nat) (dormant keep : Bool) : State :=
  let s := s.loadLanes k
  let s := if s.tstate k = tsActive then s.heftWait k else s
  let s := if keep then s else (s.flushPort k).onLink k fun x => { x with owed := List.replicate 8 0 }
  let s := s.startTraining k
  let s := s.onLink k fun x => { x with
    dormantExit := dormant, kept := keep, pwrAsked := none, pwrNext := none, degAsked := none, degNext := none,
    retrainAsked := false, reachAsk := s.flag RTR_LINK_CTRL_reach k, rttSum := 0, rttCount := 0 }
  let s := s.setFld RTR_LINK_STAT_reversed k 0 0
  let s := (s.setLanes k LN_STAT_state tsLock).setLanes k LN_STAT_in_use 0
  let s := (s.setLanes k LN_STAT_failed 0).setLanes k LN_STAT_lock 0
  let s := (portLanes k).foldl (fun s n =>
    let taps := s.preset n (if dormant then 7 else 1)
    s.onLane n fun l => { l with taps := taps, ackSeq := 0, status := 0, presetDone := false, ready := false,
                                 farReady := false, farLane := 8, farReach := false }) s
  if s.mapIsPermutation k then s else s.failPort k 1

/-- The exit of a Dormant port (R245, R246). -/
def State.wakePort (s : State) (k : Nat) : State :=
  if s.tstate k = tsActive && s.fld RTR_LINK_STAT_pstate k = 2 then
    (s.setFld RTR_LINK_STAT_pstate k 0 0).enterLock k true true
  else s

/-- A copy of a packet placed at an external output port; a Dormant port wakes (R246). -/
def State.toOut (s : State) (o : OutPacket) : State :=
  let s := { s with output := s.output ++ [o] }
  if s.tstate o.port = tsActive && s.fld RTR_LINK_STAT_pstate o.port = 2 then (s.emit (.wake o.port)).wakePort o.port
  else s

/-- A packet put at an external port without a lookup: a bell, or a packet of heft discovery (R287, R340, R346). -/
def State.sendOnPort (s : State) (k : Nat) (p : Packet) : State :=
  let p := { p.sized with src := s.node, epoch := 0 }
  ({ s with routed := s.routed + 1 }).toOut ⟨k, p, 0, portM, p.vc, p.vc, p.length, s.routed, false⟩

/-- A hello sent on a port that sends hellos (R340). -/
def State.sendHello (s : State) (k : Nat) : State := if s.sendsHello k then s.sendOnPort k (s.hello k) else s

/-- C[q][v] not yet taken by packets that wait at the port. -/
def State.freeCredit (s : State) (q v : Nat) : Nat :=
  s.fld RTR_VC_CREDIT_credit q v
    - ((s.output.filter fun o => o.port == q && o.packet.vc == v).map fun o => o.packet.length - o.sent).foldl (· + ·) 0

/-! ### Anti-rollback (R502) -/

/-- An image with a security version above the counter starts to run: fuses are blown until the counter equals it. -/
def State.advanceSvn (s : State) (svn : Nat) : State :=
  if s.fuse.svn < svn then
    let m : Mgmt := s.mgmt
    { s with mgmt := { m with update := { m.update with advance := some (max svn (m.update.advance.getD 0)) } } }
  else s

end Sys2Proof.Machine
end

