-- ==== Sys2Proof/Machine/Link.lean ====
section
/-! DEFINITION. The serial lanes and the link layer: training, link blocks, resending, width and power states (R229 to
R250). -/
namespace Sys2Proof.Machine

/-! ### Link blocks (R240, R242) -/

/-- One bit of CRC-32C, reflected. -/
def crcBit (c : Nat) : Nat := if c % 2 = 1 then (c / 2) ^^^ 0x82F63B78 else c / 2

/-- One byte of CRC-32C. -/
def crcByte (c : Nat) (b : Byte) : Nat :=
  crcBit (crcBit (crcBit (crcBit (crcBit (crcBit (crcBit (crcBit (c ^^^ b.toNat))))))))

/-- CRC-32C of a list of bytes (R240). -/
def crc32c (bs : List Byte) : Nat := (bs.foldl crcByte 0xFFFFFFFF) ^^^ 0xFFFFFFFF

/-- The bytes that the CRC of a link block covers: bytes 0 to 251. -/
def crcCover (words : List Word64) : List Byte := (bytesOfWords words).take 252

/-- A link block made of words 0 to 30, with its sequence, ack and CRC in word 31 (R240). -/
def linkBlock (ws : List Word64) (seq ack : Nat) : List Word64 :=
  let body := (ws ++ List.replicate (31 - ws.length) 0).take 31
  let lo := seq % 65536 + (ack % 65536) <<< 16
  let crc := crc32c (crcCover (body ++ [BitVec.ofNat 64 lo]))
  body ++ [BitVec.ofNat 64 (lo + crc <<< 32)]

-- The fields of a link block (R240).
def lbWord (ws : List Word64) (i : Nat) : Nat := (lget ws i 0).toNat
def lbKind (ws : List Word64) : Nat := bitsOf (lbWord ws 0) 1 0
def lbStart (ws : List Word64) (u : Nat) : Bool := bitAt (lbWord ws 0) (2 + u)
def lbVc (ws : List Word64) : Nat := bitsOf (lbWord ws 0) 19 17
def lbUnits (ws : List Word64) : Nat := bitsOf (lbWord ws 0) 23 20
def lbCrdValid (ws : List Word64) : Bool := bitAt (lbWord ws 0) 24
def lbCrdVc (ws : List Word64) : Nat := bitsOf (lbWord ws 0) 27 25
def lbCrdUnits (ws : List Word64) : Nat := bitsOf (lbWord ws 0) 39 28
def lbSeq (ws : List Word64) : Nat := bitsOf (lbWord ws 31) 15 0
def lbAck (ws : List Word64) : Nat := bitsOf (lbWord ws 31) 31 16
def lbCrc (ws : List Word64) : Nat := bitsOf (lbWord ws 31) 63 32

/-- The logical lanes that carry link blocks (R240, R243). -/
def State.activeLanes (s : State) (k : Nat) : List Nat :=
  if s.flag RTR_LINK_STAT_width_x4 k then (List.range 4).map fun i => 4 * s.fld RTR_LINK_STAT_half k + i else List.range 8

/-- The words of a link block on the physical lanes that send it (R240). -/
def State.stripes (s : State) (k : Nat) (ws : List Word64) : List (Nat × List LaneBlock) :=
  let ls := s.activeLanes k
  (List.range ls.length).map fun i => (s.txLane k (lget ls i 0), (stripe ls.length i ws).map dataBlock)

/-- A link block sent on a port's active lanes, with the loan that goes with each block a port sends (R240, R266). -/
def State.putBlock (s : State) (k : Nat) (ws : List Word64) : State := (s.emit (.linkBlock k (s.stripes k ws))).lend k

/-- The sequence of the last data block sent, which a null block carries (R240). -/
def State.lastSeq (s : State) (k : Nat) : Nat := (s.fld RTR_LINK_REPLAY_next_seq k + 65535) % 65536

/-- A link-control block sent (R242). -/
def State.sendCtl (s : State) (k code arg : Nat) : State :=
  s.putBlock k (linkBlock [2, BitVec.ofNat 64 (code + (arg % 65536) <<< 8)] (s.lastSeq k) (s.link k).expect)

/-- A null block sent (R240). -/
def State.sendNull (s : State) (k : Nat) : State :=
  s.putBlock k (linkBlock [1] (s.lastSeq k) (s.link k).expect)

-- The codes of R242.
def lcPwrReq : Nat := 1
def lcPwrAck : Nat := 2
def lcPwrNak : Nat := 3
def lcDegrade : Nat := 4
def lcDegradeAck : Nat := 5
def lcResend : Nat := 6
def lcRetrain : Nat := 7

/-! ### Retraining (R244) -/

/-- A retrain of a port that is ACTIVE: its link state is kept. -/
def State.retrain (s : State) (k : Nat) : State :=
  if s.tstate k = tsActive then (s.event RTR_LINK_EVT_retrain k).enterLock k false true else s

/-- A retrain that this end begins: RETRAIN is sent to the far end, and the port stays ACTIVE, repeating it, until the
far end has left ACTIVE (R242, log entry 108). A degrade under way is abandoned (R244). A Dormant port wakes and trains. -/
def State.retrainOwn (s : State) (k : Nat) : State :=
  if s.tstate k = tsActive && s.fld RTR_LINK_STAT_pstate k = 2 then
    ((s.emit (.wake k)).setFld RTR_LINK_STAT_pstate k 0 0).retrain k
  else if s.tstate k = tsActive && !(s.link k).retrainAsked then
    (s.sendCtl k lcRetrain 0).onLink k fun x => { x with retrainAsked := true, degAsked := none, degNext := none }
  else s

/-! ### Training (R234 to R238) -/

/-- Entry to DETECT (R236, R541): the class of the cable is read. -/
def State.enterDetect (s : State) (k cls : Nat) : State :=
  let s := (s.setFld RTR_LINK_STAT_tstate k 0 tsDetect).setLanes k LN_STAT_state tsDetect
  (s.setFld RTR_PORT_CABLE_cable_class k 0 cls).setFld RTR_PORT_CABLE_class_valid k 0 1

/-- A port in OFF enters DETECT where it is enabled, its power state is not Off, and its unit may be enabled (R236, R417,
R419). -/
def State.tryDetect (s : State) (k cls : Nat) : State :=
  if s.flag RTR_LINK_CTRL_enable k && s.tstate k == tsOff && s.fld RTR_LINK_STAT_pstate k != 3 && s.portFree k then
    s.enterDetect k cls
  else s

/-- LINK_ENABLE (R236, R249): enable is set unless locked, and a port in OFF whose power state is not Off enters DETECT;
`cls` is the class of its cable (R531). -/
def execLinkEnable (port cls : Nat) (s : State) : Host.Outcome State Fault Refusal :=
  if 8 ≤ port then .next s
  else
    let s := if s.flag RTR_LINK_CTRL_lock port then s else s.setFld RTR_LINK_CTRL_enable port 0 1
    .next (s.tryDetect port cls)

/-- LINK_LOCK (R236): port-present and a signal on at least four of the lanes in the mask `signal`. -/
def execLinkLock (port signal : Nat) (s : State) : Host.Outcome State Fault Refusal :=
  if decide (port < 8) && s.tstate port == tsDetect && s.flag RTR_PORT_CABLE_present port && decide (4 ≤ popCount 8 signal)
  then .next (s.enterLock port false false) else .next s

/-- LINK_ALIGN (R236, R248): `locked` tells the physical lanes with block lock, `inverted` those with inverted polarity; with
at least four the port enters ALIGN, and the others and those that force_fail names are failed. -/
def execLinkAlign (port locked inverted : Nat) (s : State) : Host.Outcome State Fault Refusal :=
  if decide (port < 8) && s.tstate port == tsLock && decide (4 ≤ popCount 8 locked) then
    let s := (List.range 8).foldl (fun s i =>
      let n := 8 * port + i
      let s := s.setFld LN_STAT_lock n 0 (natOfBool (bitAt locked i))
      let s := s.setFld LN_STAT_pol_inv n 0 (natOfBool (bitAt inverted i))
      s.setFld LN_STAT_failed n 0 (natOfBool (!bitAt locked i || s.flag LN_CTRL_force_fail n))) s
    .next ((s.setFld RTR_LINK_STAT_tstate port 0 tsAlign).setLanes port LN_STAT_state tsAlign)
  else .next s

/-- Whether a lane is failed, or treated so (R248). -/
def State.laneFailed (s : State) (n : Nat) : Bool := s.flag LN_STAT_failed n || s.flag LN_CTRL_force_fail n

/-- Whether a lane takes part in the training: locked and not failed. -/
def State.laneGood (s : State) (n : Nat) : Bool := s.flag LN_STAT_lock n && !s.laneFailed n

/-- The lane map and reversal checked (R237): reversal is declared when every locked lane reads 7 − k; otherwise a lane
that does not read its own index fails. Lanes of the mask `skewed` lie more than 64 blocks apart and fail. -/
def State.alignLanes (s : State) (k skewed : Nat) : State :=
  let s := (List.range 8).foldl (fun s i =>
    if bitAt skewed i then s.setFld LN_STAT_failed (8 * k + i) 0 1 else s) s
  let locked := (List.range 8).filter fun l => s.flag LN_STAT_lock (s.txLane k l)
  let rev := !locked.isEmpty && locked.all fun l => (s.lane (s.txLane k l)).farLane == 7 - l
  let s := if rev then s else (List.range 8).foldl (fun s l =>
    let n := s.txLane k l
    if s.laneGood n && (s.lane n).farLane != l then s.setFld LN_STAT_failed n 0 1 else s) s
  let s := s.setFld RTR_LINK_STAT_reversed k 0 (natOfBool rev)
  (List.range 8).foldl (fun s l => s.setFld LN_STAT_logical (s.physLane k l) 0 l) s

/-- LINK_EQ (R236, R237): the alignment ends. -/
def execLinkEq (port skewed : Nat) (s : State) : Host.Outcome State Fault Refusal :=
  if decide (port < 8) && s.tstate port == tsAlign && !(s.link port).dormantExit then
    let s := s.alignLanes port skewed
    .next ((s.setFld RTR_LINK_STAT_tstate port 0 tsEq).setLanes port LN_STAT_state tsEq)
  else .next s

/-- ready at the end of EQ: a lane whose figure of merit is 96 or more (R236). -/
def State.settleReady (s : State) (k : Nat) : State :=
  (portLanes k).foldl (fun s n => s.onLane n fun l =>
    { l with ready := s.laneGood n && (l.ready || decide (96 ≤ s.fld LN_FOM_fom n)) }) s

/-- LINK_CONFIRM (R236, R245): EQ ends, or on a Dormant exit ALIGN ends with no EQ; `skewed` as for LINK_EQ. -/
def execLinkConfirm (port skewed : Nat) (s : State) : Host.Outcome State Fault Refusal :=
  if 8 ≤ port then .next s
  else if s.tstate port = tsEq || (s.tstate port == tsAlign && (s.link port).dormantExit) then
    let s := if s.tstate port = tsAlign then s.alignLanes port skewed else s
    let s := s.settleReady port
    .next ((s.setFld RTR_LINK_STAT_tstate port 0 tsConfirm).setLanes port LN_STAT_state tsConfirm)
  else .next s

/-- Whether logical lane `l` of a port is ready in both directions (R243). -/
def State.laneReady (s : State) (k l : Nat) : Bool :=
  let n := s.physLane k l
  s.laneGood n && (s.lane n).ready && (s.lane n).farReady

/-- Whether all lanes of a half are ready. -/
def State.halfReady (s : State) (k h : Nat) : Bool := (List.range 4).all fun i => s.laneReady k (4 * h + i)

/-- The taps of a lane as LN_TAPS holds them. -/
def tapsWord (ts : List Int) : Nat := ts.foldr (fun t v => twosOf 8 t + 256 * v) 0

/-- The lanes that carry link blocks at a width, in either direction (R240, R248). -/
def State.useLanes (s : State) (k : Nat) (x4 : Bool) (half : Nat) : State :=
  let used := (List.range 8).filter fun l => !x4 || l / 4 == half
  (portLanes k).foldl (fun s n =>
    s.setFld LN_STAT_in_use n 0 (natOfBool (used.any fun l => s.physLane k l == n || s.txLane k l == n))) s

/-- The taps of each lane stored at entry to ACTIVE (R239). -/
def State.storeTaps (s : State) (k : Nat) : State :=
  (portLanes k).foldl (fun s n =>
    (s.setFld LN_TAPS_taps n 0 (tapsWord (s.lane n).taps)).setFld LN_TAPS_stored_valid n 0 1) s

/-- The credits of a port set to 1,024 after FAILED or OFF (R266). -/
def State.resetCredit (s : State) (k : Nat) : State :=
  (List.range 8).foldl (fun s v =>
    (s.setFld RTR_VC_CREDIT_grant k v 1024).setFld RTR_VC_CREDIT_credit k v 1024) s

/-- A port enters ACTIVE at a width (R239, R243, R244, R266), and sends a hello (R340). -/
def State.enterActive (s : State) (k : Nat) (x4 : Bool) (half : Nat) : State :=
  let x := s.link k
  let reach := x.reachAsk || (portLanes k).any fun n => s.laneGood n && (s.lane n).farReach
  let s := s.setFld RTR_LINK_STAT_width_x4 k 0 (natOfBool x4)
  let s := s.setFld RTR_LINK_STAT_half k 0 half
  let s := s.setFld RTR_LINK_STAT_reach k 0 (natOfBool reach)
  let s := if x.rttCount = 0 then s else s.setFld RTR_LINK_STAT_rtt k 0 (x.rttSum / x.rttCount)
  let s := match (portLanes k).find? fun n => s.laneGood n with
    | some n => s.setFld RTR_LINK_STAT_far_port k 0 (s.lane n).farPort
    | none => s
  let s := (s.setFld RTR_LINK_STAT_tstate k 0 tsActive).setLanes k LN_STAT_state tsActive
  let s := (s.setFld RTR_LINK_STAT_pstate k 0 0).useLanes k x4 half
  let s := s.storeTaps k
  let s := if x.kept then s else s.resetCredit k
  let s := if x.replay.isEmpty then s else s.satCount RTR_LINK_REPLAY_resends k
  let s := s.onLink k fun y => { y with
    dormantExit := false, retrainAsked := false, wasActive := true, heard := false, farHeard := false, helloDone := false,
    resendAt := y.replay.head?.map (·.seq) }
  s.sendHello k

/-- The limits of a tap (R238). -/
def tapLimits (i : Nat) : Int × Int :=
  match i with
  | 0 => (-16, 16)
  | 1 => (-40, 0)
  | 2 => (48, 128)
  | 3 => (-40, 0)
  | _ => (-16, 16)

/-- The sum of the taps' magnitudes. -/
def tapSum (ts : List Int) : Nat := (ts.map Int.natAbs).foldl (· + ·) 0

/-- A request for tap `i` applied (R238): the taps, and the two status bits. -/
def tapStep (ts : List Int) (i code : Nat) : List Int × Nat :=
  if code = 1 || code = 2 then
    let v := lget ts i 0 + (if code = 1 then 1 else -1)
    let ts' := lset ts i v
    if (tapLimits i).1 ≤ v && v ≤ (tapLimits i).2 && decide (tapSum ts' ≤ 128) then (ts', 1) else (ts, 2)
  else (ts, 0)

/-- The five taps requested one after the other. -/
def tapSteps (ts : List Int) (req : Nat) : List Int × Nat :=
  (List.range 5).foldl (fun r i =>
    let q := tapStep r.1 i (bitsOf req (2 * i + 1) (2 * i))
    (q.1, r.2 + q.2 <<< (2 * i))) (ts, 0)

/-- The tap request in block 2 of a frame applied by a lane's transmitter (R238): one whose req_seq differs from the last
ack_seq. Presets 4 to 6 change nothing. -/
def State.applyTaps (s : State) (n block2 : Nat) : State :=
  let l := s.lane n
  let seq := bitsOf block2 3 0
  if seq = l.ackSeq then s
  else if bitAt block2 14 then
    let no := bitsOf block2 17 15
    if no ≤ 3 || no = 7 then
      s.onLane n fun l => { l with ackSeq := seq, taps := s.preset n no, status := 0, presetDone := true }
    else s.onLane n fun l => { l with ackSeq := seq, status := 0, presetDone := false }
  else
    let r := tapSteps l.taps (bitsOf block2 13 4)
    s.onLane n fun l => { l with ackSeq := seq, taps := r.1, status := r.2, presetDone := false }

/-- The frame that the transmitter of physical lane `n` sends next (R235). What it says of receiving (ready, the figure of
merit, the tap request, the probe) is of the receiver of its logical lane, which is on another physical lane under
reversal; the tap acknowledgement is of the transmitter. -/
def State.frameOf (s : State) (n : Nat) : List Word64 :=
  let k := n / 8
  let l := s.lane n
  let logical := ((List.range 8).find? fun i => s.txLane k i == n).getD 0
  let m := s.physLane k logical
  let r := s.lane m
  let b1 := logical + k <<< 3 + natOfBool (s.link k).reachAsk <<< 6 + s.tstate k <<< 7
    + natOfBool r.ready <<< 10 + s.fld LN_FOM_fom m <<< 11 + (s.now % 2 ^ 24) <<< 40
  let b3 := l.ackSeq + (l.status % 1024) <<< 4 + natOfBool l.presetDone <<< 14
    + ((s.now - r.probeAt) % 2 ^ 24) <<< 16 + r.probe <<< 40
  [BitVec.ofNat 64 (0xA3 + (l.frame % 256) <<< 8), BitVec.ofNat 64 b1, BitVec.ofNat 64 (r.request.toNat % 2 ^ 18),
    BitVec.ofNat 64 b3]

/-- A lane sends a frame and the blocks that follow it (R235). -/
def State.sendFrame (s : State) (n : Nat) : State :=
  (s.emit (.frame n (trainingPeriod (s.frameOf n)))).onLane n fun l => { l with frame := (l.frame + 1) % 256 }

/-- Whether a port trains: from LOCK to CONFIRM (R235). -/
def State.training (s : State) (k : Nat) : Bool := decide (tsLock ≤ s.tstate k) && decide (s.tstate k ≤ tsConfirm)

/-- The lanes on which a port sends IDLE blocks: all in DETECT and FAILED (R236), the active ones in Quiet (R245). -/
def State.idleLanes (s : State) (k : Nat) : List Nat :=
  if s.tstate k = tsDetect ∨ s.tstate k = tsFailed then portLanes k
  else if s.tstate k = tsActive ∧ s.fld RTR_LINK_STAT_pstate k = 1 then (s.activeLanes k).map (s.txLane k)
  else []

/-- What a port sends over the next 64 blocks when it sends no link blocks: a frame on each lane from LOCK to CONFIRM,
IDLE blocks in DETECT, FAILED and Quiet (R235, R236, R245). -/
def State.sendPeriod (s : State) (k : Nat) : State :=
  if s.training k then (portLanes k).foldl (fun s n => s.sendFrame n) s
  else if s.idleLanes k = [] then s
  else s.emit (.idle k ((s.idleLanes k).map fun n => (n, List.replicate 64 idleBlock)))

/-- The periods that ports start in the 100 ps that have passed: one every 64 blocks of 0.16 ns (R229, R235). -/
def State.frameTurn (s : State) : State :=
  if s.now * 5 / 512 = (s.now - 1) * 5 / 512 then s else (List.range 8).foldl (fun s k => s.sendPeriod k) s

/-! ### What the lanes receive (R230, R233) -/

/-- Whether a received block is a block error (R230), as every block of an uncorrectable codeword is in reach mode
(R233). -/
def blockError (reach : Bool) (b : LaneBlock × Bool) : Bool := decide (b.1.kind = .error) || (reach && b.2)

/-- The block errors of a physical lane counted, and in reach mode its codewords (R230, R233). -/
def State.countLane (s : State) (n : Nat) (reach : Bool) (r : RxLane) (f : FecErrs) : State :=
  let s := s.satCount LN_ERR_sync_err n 0 (r.filter (blockError reach)).length
  if reach then (s.satCount LN_ERR_fec_corr n 0 f.corrected).satCount LN_ERR_fec_uncorr n 0 f.uncorrectable else s

/-- The lanes of a link block counted; `ls` are their logical lanes. -/
def State.countLanes (s : State) (k : Nat) (reach : Bool) : List Nat → List RxLane → List FecErrs → State
  | l :: ls, r :: rs, fs =>
    State.countLanes (s.countLane (s.physLane k l) reach r (fs.headD ⟨0, 0⟩)) k reach ls rs (fs.drop 1)
  | _, _, _ => s

/-- The four payloads of the frame that a training period begins with; none where one of its blocks is a block error, from
which nothing is delivered, or of another kind (R230, R235). -/
def RxRun.frame (reach : Bool) (r : RxRun) : Option (List Word64) :=
  match r.blocks with
  | a :: b :: c :: d :: _ =>
    if a.1.kind = .train ∧ b.1.kind = .data ∧ c.1.kind = .data ∧ d.1.kind = .data
        ∧ [a, b, c, d].any (blockError reach) = false then
      some [a.1.payload, b.1.payload, c.1.payload, d.1.payload]
    else none
  | _ => none

/-- The physical lane that sends the logical lane which physical lane `n` receives. -/
def State.txOf (s : State) (n : Nat) : Nat :=
  let k := n / 8
  s.txLane k (((List.range 8).find? fun l => s.physLane k l == n).getD 0)

/-- The fields of a frame taken on a lane (R235, R238): what it says is kept, its tap request goes to the transmitter of the
same logical lane, and its echo gives a round trip. -/
def State.takeFrame (s : State) (lane : Nat) (ws : List Word64) (request : Word64) : State :=
    let k := lane / 8
    let b1 := lbWord ws 1
    let b2 := lbWord ws 2
    let b3 := lbWord ws 3
    let l := s.lane lane
    let echoed := bitsOf b3 3 0 == bitsOf l.request.toNat 3 0
    let s := s.onLane lane fun l => { l with
      farReady := bitAt b1 10, farLane := bitsOf b1 2 0, farPort := bitsOf b1 5 3, farState := bitsOf b1 9 7,
      farReach := bitAt b1 6, probe := bitsOf b1 63 40, probeAt := s.now, request := if echoed then request else l.request }
    let s := s.applyTaps (s.txOf lane) b2
    s.onLink k fun x =>
      if s.tstate k = tsConfirm && x.rttCount < 64 then
        { x with rttSum := x.rttSum + (s.now + 2 ^ 25 - bitsOf b3 63 40 - bitsOf b3 39 16) % 2 ^ 24,
                 rttCount := x.rttCount + 1 }
      else x

/-- TRAINING_FRAME (R230, R233, R235, R237 to R239): a training period arrives on a lane: the frame's four blocks and those
that follow. On a lane with block lock its block errors and codewords count. The frame is taken from ALIGN to CONFIRM.
`request` is block 2 of the frame that the lane's receiver wants to send next; it replaces the former one once that was
echoed. On a port that is ACTIVE and has sent RETRAIN, a frame shows that the far end has left ACTIVE (R242). -/
def execTrainingFrame (lane : Nat) (blocks : RxRun) (request : Word64) (s : State) :
    Host.Outcome State Fault Refusal :=
  let k := lane / 8
  let reach := s.flag RTR_LINK_STAT_reach k
  if 64 ≤ lane then .next s
  else
    let s := if s.flag LN_STAT_lock lane then s.countLane lane reach blocks.blocks blocks.fec else s
    match blocks.frame reach with
    | none => .next s
    | some ws =>
      if s.tstate k = tsActive then .next (if (s.link k).retrainAsked then s.retrain k else s)
      else if s.tstate k < tsAlign || s.tstate k = tsFailed then .next s
      else .next (s.takeFrame lane ws request)

/-! ### Failing lanes (R243, R244) -/

/-- Whether every lane of a half is usable. -/
def State.halfUsable (s : State) (k h : Nat) : Bool :=
  (List.range 4).all fun i => !s.laneFailed (s.physLane k (4 * h + i))

/-- A lane of an ACTIVE port fails (R244): the port degrades to a usable half, or retrains. -/
def State.failLane (s : State) (n : Nat) : State :=
  let k := n / 8
  if decide (64 ≤ n) || s.tstate k != tsActive || s.flag LN_STAT_failed n then s
  else
    let s := (s.setFld LN_STAT_failed n 0 1).event RTR_LINK_EVT_lane_failed k
    let x := s.link k
    let h := match x.degNext with
      | some h => some h
      | none => x.degAsked
    match h with
    | some h => if s.halfUsable k h then s else s.retrainOwn k
    | none =>
      if x.retrainAsked then s
      else if s.flag RTR_LINK_STAT_width_x4 k || !s.flag RTR_LINK_CTRL_allow_x4 k then s.retrainOwn k
      else if s.halfUsable k 0 then
        (s.sendCtl k lcDegrade 0).onLink k fun x => { x with degAsked := some 0 }
      else if s.halfUsable k 1 then
        (s.sendCtl k lcDegrade 1).onLink k fun x => { x with degAsked := some 1 }
      else s.retrainOwn k

/-- FOM_MEASURE (R236, R239): a lane's figure of merit. -/
def execFomMeasure (lane fom : Nat) (s : State) : Host.Outcome State Fault Refusal :=
  let k := lane / 8
  if decide (64 ≤ lane) || s.tstate k < tsEq || s.tstate k = tsFailed then .next s
  else
    let f := min 255 fom
    let warned := s.flag LN_STAT_warn lane
    let low := decide (f < s.fld LN_CTRL_fom_warn lane)
    let s := s.setFld LN_FOM_fom lane 0 f
    let s := if f < s.fld LN_FOM_fom_min lane then s.setFld LN_FOM_fom_min lane 0 f else s
    let s := s.setFld LN_STAT_warn lane 0 (natOfBool low)
    let s := if low && !warned then s.event RTR_LINK_EVT_fom_warn k else s
    if s.tstate k = tsEq && s.laneGood lane && decide (max 96 (s.fld LN_CTRL_fom_target lane) ≤ f) then
      .next (s.onLane lane fun l => { l with ready := true })
    else .next s

/-- BLOCK_LOCK_LOSS (R244): a lane has lost block lock for 1 µs. A port that has sent RETRAIN and hears nothing on any lane
in use takes the far end to have left ACTIVE (log entry 108). -/
def execBlockLockLoss (lane : Nat) (s : State) : Host.Outcome State Fault Refusal :=
  if 64 ≤ lane then .next s
  else
    let k := lane / 8
    let s := (s.setFld LN_STAT_lock lane 0 0).failLane lane
    if (s.link k).retrainAsked && (portLanes k).all fun n => !(s.flag LN_STAT_in_use n && s.flag LN_STAT_lock n) then
      .next (s.retrain k)
    else .next s

/-- FOM_HOLD_EXPIRY (R244): a lane's figure of merit has stayed below 96 for fom_hold_ms. -/
def execFomHoldExpiry (lane : Nat) (s : State) : Host.Outcome State Fault Refusal :=
  if s.fld LN_FOM_fom lane < 96 then .next (s.failLane lane) else .next s

/-- A write of 1 to LN_CTRL.force_fail (R244, R248). -/
def State.forceFail (s : State) (lane : Nat) : State := (s.setFld LN_CTRL_force_fail lane 0 1).failLane lane

/-- LANE_FORCE_FAIL (R244, R248). -/
def execLaneForceFail (lane : Nat) (s : State) : Host.Outcome State Fault Refusal :=
  if lane < 64 then .next (s.forceFail lane) else .next s

/-- A write of 1 to LN_FOM.clr_min (R248). -/
def State.lnClrMin (s : State) (lane : Nat) : State := s.setFld LN_FOM_fom_min lane 0 (s.fld LN_FOM_fom lane)

/-- LN_CLR_MIN (R248). -/
def execLnClrMin (lane : Nat) (s : State) : Host.Outcome State Fault Refusal :=
  if lane < 64 then .next (s.lnClrMin lane) else .next s

/-! ### Acknowledgement and resend (R241) -/

/-- A resend started from a stored sequence; the port retrains at resend_limit resends in a row from one sequence. -/
def State.resendFrom (s : State) (k seq : Nat) : State :=
  let x := s.link k
  if !(x.replay.any fun b => b.seq == seq) then s
  else
    let run := if x.resendRun ≠ 0 ∧ x.resendSeq = seq then x.resendRun + 1 else 1
    let s := s.satCount RTR_LINK_REPLAY_resends k
    let s := s.setLink k { x with resendAt := some seq, resendSeq := seq, resendRun := run }
    if max 1 (s.fld RTR_LINK_CTRL_resend_limit k) ≤ run then
      (s.onLink k fun x => { x with resendRun := 0 }).retrainOwn k
    else s

/-- An ack received (R241): inside [oldest stored, next seq] it frees the blocks below it; outside it is ignored and
counted, and sixteen such in a row retrain the port. -/
def State.takeAck (s : State) (k a : Nat) : State :=
  let x := s.link k
  let next := s.fld RTR_LINK_REPLAY_next_seq k
  let oldest := match x.replay with
    | [] => next
    | b :: _ => b.seq
  let n := (a + 65536 - oldest) % 65536
  if n ≤ (next + 65536 - oldest) % 65536 then
    let at_ := match x.resendAt with
      | some q => if (q + 65536 - oldest) % 65536 < n then (if n = x.replay.length then none else some a) else some q
      | none => none
    let s := s.setLink k { x with
      replay := x.replay.drop n, badRun := 0, resendAt := at_, resendRun := if n = 0 then x.resendRun else 0 }
    s.setFld RTR_LINK_REPLAY_used k 0 (x.replay.length - n)
  else
    let s := s.satCount RTR_LINK_REPLAY_bad_ack k
    let run := x.badRun + 1
    let s := s.onLink k fun x => { x with badRun := if run = 16 then 0 else run }
    if run = 16 then s.retrainOwn k else s

/-- The receiver waits for its expected sequence, and sends RESEND as it begins to (R241). -/
def State.askResend (s : State) (k : Nat) : State :=
  let x := s.link k
  if x.waiting then s else (s.sendCtl k lcResend x.expect).onLink k fun x => { x with waiting := true }

/-- A packet whose first unit arrives at an external port on a virtual channel (R240, R267): a packet of the channel that
was not complete is discarded. -/
def State.startPacket (s : State) (k vc : Nat) (w0 w1 : Word64) : State :=
  match packetOfWords [w0, w1] with
  | some p =>
    let s := s.dropComing k [vc]
    let q := s.place k { p with vc := vc, length := max 1 p.length }
    { s with input := s.input ++ [⟨k, q, vc, 1, false, false, s.fld RTR_HEFT_FAR1_state k != 2⟩] }
  | none => s

/-- A unit more of the packet of `o`, which is leaving: the copies have it, one that is delivered or discarded takes it
from the buffer, and a whole one is delivered. -/
def State.moreOut (s : State) (o : OutPacket) (w0 w1 : Word64) : State :=
  let before := (leastSent s.output o.tag).getD 0
  let grown := fun q : OutPacket => { q with
    packet := { q.packet with body := q.packet.body ++ [w0, w1] }, came := q.came + 1,
    sent := if 8 ≤ q.port then q.sent + 1 else q.sent }
  let os := s.output.map fun q => if q.tag == o.tag then grown q else q
  let whole := fun q : OutPacket => q.tag == o.tag && decide (8 ≤ q.port) && decide (q.packet.length ≤ q.came)
  let here := os.filter fun q => whole q && q.port == 8
  let s := ({ s with output := os.filter fun q => !whole q }).afterCopies (grown o) before
  here.foldl (fun s q => s.deliver q.inPort q.packet) s

/-- A further unit of the packet that a virtual channel of an external port receives (R240, R267). -/
def State.morePacket (s : State) (k vc : Nat) (w0 w1 : Word64) : State :=
  match lfind (·.comingOn k [vc]) s.input with
  | some i =>
    match s.input[i]? with
    | some e =>
      let p := { e.packet with body := e.packet.body ++ [w0, w1] }
      { s with input := lset s.input i { e with packet := p, came := e.came + 1 } }
    | none => s
  | none =>
    match s.output.find? (·.comingOn k [vc]) with
    | some o => s.moreOut o w0 w1
    | none => s

/-- The packet units of a data block taken into the input port's buffer (R240). The first argument counts the units that
remain, `u` is the next one. -/
def State.takeUnits : Nat → Nat → State → Nat → List Word64 → State
  | 0, _, s, _, _ => s
  | n + 1, u, s, k, ws =>
    let w0 := lget ws (2 * u + 1) 0
    let w1 := lget ws (2 * u + 2) 0
    let s := if lbStart ws u then s.startPacket k (lbVc ws) w0 w1 else s.morePacket k (lbVc ws) w0 w1
    State.takeUnits n (u + 1) s k ws

/-- Credit that a data block returns (R240, R265). -/
def State.takeCredit (s : State) (k : Nat) (ws : List Word64) : State :=
  if lbCrdValid ws then
    s.setFld RTR_VC_CREDIT_credit k (lbCrdVc ws) (s.fld RTR_VC_CREDIT_credit k (lbCrdVc ws) + lbCrdUnits ws)
  else s

/-- A data block that passed its check (R241). -/
def State.takeData (s : State) (k : Nat) (ws : List Word64) : State :=
  let x := s.link k
  if lbSeq ws = x.expect then
    let s := s.setLink k { x with expect := (x.expect + 1) % 65536, waiting := false }
    let s := if s.fld RTR_LINK_STAT_pstate k = 1 then s.setFld RTR_LINK_STAT_pstate k 0 0 else s
    State.takeUnits (lbUnits ws) 0 (s.takeCredit k ws) k ws
  else s.askResend k

/-! ### Power states (R245, R246) -/

/-- Whether a port's transmit queue and replay buffer are empty (R246). -/
def State.linkIdle (s : State) (k : Nat) : Bool :=
  (s.output.filter fun o => o.port == k).isEmpty && (s.link k).replay.isEmpty

/-- Whether a degrade is outstanding (R246). -/
def LinkPort.degrading (x : LinkPort) : Bool := x.degAsked.isSome || x.degNext.isSome

/-- A PWR_REQ for a power state sent. -/
def State.askPower (s : State) (k t : Nat) : State :=
  (s.sendCtl k lcPwrReq t).onLink k fun x => { x with pwrAsked := some t }

/-- PWR_REQ received (R246): deferred while a degrade is outstanding; of two crossing requests the shallower state
counts. -/
def State.takePwrReq (s : State) (k t : Nat) : State :=
  let x := s.link k
  if decide (t < 1) || decide (3 < t) || x.degrading then s
  else
    let t' := match x.pwrAsked with
      | some u => min t u
      | none => t
    if s.linkIdle k && !s.claimsAny k then
      (s.sendCtl k lcPwrAck t').onLink k fun x => { x with pwrNext := some t', pwrAsked := none }
    else s.sendCtl k lcPwrNak t

/-- PWR_ACK received (R246): the state changes at the next filler group. -/
def State.takePwrAck (s : State) (k t : Nat) : State :=
  let x := s.link k
  match x.pwrAsked with
  | some u => s.setLink k { x with pwrAsked := none, pwrNext := some (min t u) }
  | none => s

/-- PWR_NAK received (R242). -/
def State.takePwrNak (s : State) (k : Nat) : State := s.onLink k fun x => { x with pwrAsked := none }

/-- DEGRADE received (R244): answered; both directions switch at the next filler group. -/
def State.takeDegrade (s : State) (k h : Nat) : State :=
  let h := h % 2
  let s := (s.sendCtl k lcDegradeAck h).onLink k fun x => { x with degNext := some h }
  if s.halfUsable k h then s else s.retrainOwn k

/-- DEGRADE_ACK received (R244). -/
def State.takeDegradeAck (s : State) (k h : Nat) : State :=
  let x := s.link k
  if x.degAsked = some (h % 2) then s.setLink k { x with degAsked := none, degNext := some (h % 2) } else s

/-- A link-control message received (R242); an unlisted code is ignored. -/
def State.takeControl (s : State) (k code arg : Nat) : State :=
  if code = lcPwrReq then s.takePwrReq k arg
  else if code = lcPwrAck then s.takePwrAck k arg
  else if code = lcPwrNak then s.takePwrNak k
  else if code = lcDegrade then s.takeDegrade k arg
  else if code = lcDegradeAck then s.takeDegradeAck k arg
  else if code = lcResend then s.resendFrom k arg
  else if code = lcRetrain then s.retrain k
  else s

/-- The words of a link block from its lanes (R240). -/
def rxWords (lanes : List RxLane) : List Word64 := unstripe (lanes.map fun r => r.map fun b => b.1.payload)

/-- Whether a link block on `width` lanes passes its check (R240): its lane blocks are valid data blocks, its CRC matches,
and its kind is not 3. -/
def blockPasses (reach : Bool) (width : Nat) (lanes : List RxLane) : Bool :=
  let ws := rxWords lanes
  lanes.length == width
    && lanes.all (fun r => r.length == 32 / width
      && r.all fun b => decide (b.1.kind = .data) && !blockError reach b)
    && lbCrc ws == crc32c (crcCover ws) && lbKind ws != 3

/-- LINK_BLOCK_RECEIVE (R230, R233, R240, R241, R245, R266): a link block of an ACTIVE port arrives on its active lanes,
listed by logical lane, with what their codewords showed; or a run of the IDLE blocks of Quiet, in which no block is a
data block and of which only the block errors count. -/
def execLinkBlockReceive (port : Nat) (lanes : List RxLane) (fec : List FecErrs) (s : State) : Host.Outcome State Fault Refusal :=
  if !s.linkUp port then .next s
  else
    let words := rxWords lanes
    let reach := s.flag RTR_LINK_STAT_reach port
    let ls := s.activeLanes port
    let s := s.countLanes port reach ls lanes fec
    if lanes.all fun r => r.all fun b => decide (b.1.kind ≠ .data) then .next s
    else if !blockPasses reach ls.length lanes then .next (if lbKind words = 0 then s.askResend port else s)
    else
      let s := s.takeAck port (lbAck words)
      if !s.linkUp port then .next s
      else if lbKind words = 0 then .next (s.takeData port words)
      else if lbKind words = 1 then .next (if lbCrdValid words then s.countMalformed port else s)
      else .next (s.takeControl port (bitsOf (lbWord words 1) 7 0) (bitsOf (lbWord words 1) 23 8))

/-- RESEND (R241): the message arrives. -/
def execResend (port seq : Nat) (s : State) : Host.Outcome State Fault Refusal :=
  if s.linkUp port then .next (s.resendFrom port seq) else .next s

/-- RESEND_REPEAT (R241): still waiting after 1 µs, the receiver repeats RESEND. -/
def execResendRepeat (port : Nat) (s : State) : Host.Outcome State Fault Refusal :=
  if s.linkUp port && (s.link port).waiting then .next (s.sendCtl port lcResend (s.link port).expect) else .next s

/-- ACK_TIMEOUT (R241): no ack has advanced for ack_timeout_ns while blocks are stored. -/
def execAckTimeout (port : Nat) (s : State) : Host.Outcome State Fault Refusal :=
  match (s.link port).replay with
  | [] => .next s
  | b :: _ => if s.linkUp port then .next (s.resendFrom port b.seq) else .next s

/-- PWR_REQ (R246). -/
def execPwrReq (port target : Nat) (s : State) : Host.Outcome State Fault Refusal :=
  if s.linkUp port then .next (s.takePwrReq port target) else .next s

/-- PWR_ACK (R246). -/
def execPwrAck (port state : Nat) (s : State) : Host.Outcome State Fault Refusal :=
  if s.linkUp port then .next (s.takePwrAck port state) else .next s

/-- PWR_NAK (R242). -/
def execPwrNak (port state : Nat) (s : State) : Host.Outcome State Fault Refusal :=
  if s.linkUp port && (s.link port).pwrAsked == some state then .next (s.takePwrNak port) else .next s

/-- DEGRADE (R244). -/
def execDegrade (port half : Nat) (s : State) : Host.Outcome State Fault Refusal :=
  if s.linkUp port then .next (s.takeDegrade port half) else .next s

/-- DEGRADE_ACK (R244). -/
def execDegradeAck (port half : Nat) (s : State) : Host.Outcome State Fault Refusal :=
  if s.linkUp port then .next (s.takeDegradeAck port half) else .next s

/-- RETRAIN (R242, R244). -/
def execRetrain (port : Nat) (s : State) : Host.Outcome State Fault Refusal :=
  if s.linkUp port then .next (s.retrain port) else .next s

/-- LINK_CONTROL_REPEAT (R242): the unanswered messages of a port are sent again; a port whose target names Dormant or
Off and that has become idle sends its request (R246). -/
def execLinkControlRepeat (port : Nat) (s : State) : Host.Outcome State Fault Refusal :=
  if 8 ≤ port then .next s
  else
    let x := s.link port
    let t := s.fld RTR_LINK_PWR_target port
    if !s.linkUp port then .next s
    else
      let s := if x.retrainAsked then s.sendCtl port lcRetrain 0 else s
      let s := match x.degAsked with
        | some h => s.sendCtl port lcDegrade h
        | none => s
      match x.pwrAsked with
      | some t => .next (if x.degrading then s else s.sendCtl port lcPwrReq t)
      | none =>
        if decide (2 ≤ t) && decide (s.fld RTR_LINK_STAT_pstate port ≤ 1) && x.pwrNext.isNone && s.linkIdle port
            && !x.degrading && (t == 3 || !s.claimsAny port) then .next (s.askPower port t)
        else .next s

/-- DEGRADE_TIMEOUT (R244): no DEGRADE_ACK within 50 µs. -/
def execDegradeTimeout (port : Nat) (s : State) : Host.Outcome State Fault Refusal :=
  if s.linkUp port && (s.link port).degAsked.isSome then .next (s.retrainOwn port) else .next s

/-- A write of 1 to RTR_LINK_CTRL.retrain (R249). -/
def State.retrainCmd (s : State) (k : Nat) : State :=
  if s.tstate k = tsFailed then s.enterLock k false false else s.retrainOwn k

/-- LINK_RETRAIN_CMD (R249). -/
def execLinkRetrainCmd (port : Nat) (s : State) : Host.Outcome State Fault Refusal :=
  if port < 8 then .next (s.retrainCmd port) else .next s

/-- QUIET_IDLE (R246): the port has been idle for quiet_idle_ns, or is idle with target 1. -/
def execQuietIdle (port : Nat) (s : State) : Host.Outcome State Fault Refusal :=
  let t := s.fld RTR_LINK_PWR_target port
  if s.linkUp port && s.fld RTR_LINK_STAT_pstate port == 0 && s.linkIdle port && !s.claimsAny port
      && !(s.link port).degrading && (s.link port).pwrAsked.isNone && (s.link port).pwrNext.isNone
      && (t == 1 || (t == 0 && s.flag RTR_LINK_PWR_auto_quiet port)) then .next (s.askPower port 1)
  else .next s

/-- A write of RTR_LINK_PWR.target (R245, R246): an idle ACTIVE port asks for Dormant or Off, a Dormant port named Active
wakes, and an Off port that is no longer named Off goes to DETECT; `cls` is the class of its cable. -/
def State.writeTarget (s : State) (k t cls : Nat) : State :=
  let s := s.setFld RTR_LINK_PWR_target k 0 t
  let t := t % 4
  if s.linkUp k then
    if s.fld RTR_LINK_STAT_pstate k = 2 then
      if t ≤ 1 then (s.emit (.wake k)).wakePort k else s
    else if decide (2 ≤ t) && s.linkIdle k && !(s.link k).degrading && (t == 3 || !s.claimsAny k) then s.askPower k t
    else s
  else if s.tstate k = tsOff && s.fld RTR_LINK_STAT_pstate k = 3 && t ≠ 3 then
    let s := s.setFld RTR_LINK_STAT_pstate k 0 0
    s.tryDetect k cls
  else s

/-- LINK_PWR_TARGET_WRITE (R246). -/
def execLinkPwrTargetWrite (port target cls : Nat) (s : State) : Host.Outcome State Fault Refusal :=
  if port < 8 then .next (s.writeTarget port target cls) else .next s

/-- WAKE_PATTERN (R245): the far end wakes a Dormant port. -/
def execWakePattern (port : Nat) (s : State) : Host.Outcome State Fault Refusal :=
  if port < 8 then .next (s.wakePort port) else .next s

/-! ### Filler groups (R231, R244, R246) -/

/-- The power state that a filler group brings (R246). -/
def State.enterPower (s : State) (k t : Nat) : State :=
  if t = 3 then
    let s := (s.dropLink k).setFld RTR_LINK_STAT_pstate k 0 3
    let s := s.setFld RTR_LINK_STAT_tstate k 0 tsOff
    ((s.setLanes k LN_STAT_state tsOff).setLanes k LN_STAT_in_use 0).setLanes k LN_STAT_lock 0
  else
    let s := (s.setFld RTR_LINK_STAT_pstate k 0 t).onLink k fun x => { x with pwrNext := none }
    if t = 2 then s.setLanes k LN_STAT_lock 0 else s

/-- The switch of both directions to ×4 (R244): transmission goes on from the oldest unacknowledged data block. -/
def State.degradeTo (s : State) (k h : Nat) : State :=
  let s := (s.setFld RTR_LINK_STAT_width_x4 k 0 1).setFld RTR_LINK_STAT_half k 0 h
  let s := (s.useLanes k true h).event RTR_LINK_EVT_degraded k
  let s := s.onLink k fun x => { x with degNext := none, degAsked := none, resendAt := x.replay.head?.map (·.seq) }
  if (s.link k).replay.isEmpty then s else s.satCount RTR_LINK_REPLAY_resends k

/-- The filler group of a port: every active lane with its four blocks (R231). -/
def State.fillers (s : State) (k group : Nat) : List (Nat × List LaneBlock) :=
  (s.activeLanes k).map fun l => (s.txLane k l, fillerGroup l group)

/-- FILLER_GROUP (R230, R231, R233): the active lanes of a port that is not Dormant send a filler group, and the far end's
group arrives, whose block errors count; scheduled changes take effect. Where the receiver would have to insert or delete
more than four FILLER blocks, every lane in use fails. -/
def execFillerGroup (port : Nat) (adjust : RxFillers) (s : State) : Host.Outcome State Fault Refusal :=
  if !s.linkUp port || decide (2 ≤ s.fld RTR_LINK_STAT_pstate port) then .next s
  else
    let x := s.link port
    let s := s.countLanes port (s.flag RTR_LINK_STAT_reach port) (s.activeLanes port) (adjust.lanes.map (·.blocks))
      (adjust.lanes.map (·.fec))
    let s := (s.emit (.filler port (s.fillers port x.group))).setLink port { x with group := (x.group + 1) % 65536 }
    if 4 < adjust.adjust then
      .next ((portLanes port).foldl (fun s n => if s.flag LN_STAT_in_use n then s.failLane n else s) s)
    else
      let s := match x.degNext with
        | some h => s.degradeTo port h
        | none => s
      match x.pwrNext with
      | some t => .next (s.enterPower port t)
      | none => .next s

/-! ### Port-present (R541) -/

/-- The level of PORT_PRESENT_N of a port at the pin. -/
def State.cableLevel (s : State) (k : Nat) (present : Bool) : State :=
  let rest := s.tray.cables.filter fun n => n != k
  { s with tray := { s.tray with cables := if present then rest ++ [k] else rest } }

/-- PORT_PRESENT_CHANGE (R541): the line PORT_PRESENT_N of a port changes. Without main power only the pin's level does. -/
def execPortPresentChange (port : Nat) (present : Bool) (s : State) : Host.Outcome State Fault Refusal :=
  if 8 ≤ port then .next s
  else
  let s := s.cableLevel port present
  if !s.tray.good || s.flag RTR_PORT_CABLE_present port == present then .next s
  else .next ((s.setFld RTR_PORT_CABLE_present port 0 (natOfBool present)).satCount RTR_PORT_CABLE_present_changes port)

end Sys2Proof.Machine
end

