-- ==== Sys2Proof/Machine/Fold.lean ====
section
/-! DEFINITION. The fold engine: commits, instances, chunks, combination, completion, faults and aborts (R306 to R334). -/
namespace Sys2Proof.Machine

/-- A collective-table entry's part beside its registers. -/
def State.foldE (s : State) (e : Nat) : FoldEntry := agetD s.fold e FoldEntry.empty

/-- The state with an entry's part replaced. -/
def State.setFold (s : State) (e : Nat) (x : FoldEntry) : State := { s with fold := aset s.fold e x }

/-- The state with an entry's part changed. -/
def State.onFold (s : State) (e : Nat) (f : FoldEntry → FoldEntry) : State := s.setFold e (f (s.foldE e))

/-- The state with one flow of an entry changed. -/
def State.onFlow (s : State) (e d : Nat) (f : FoldFlow → FoldFlow) : State :=
  s.onFold e fun x => { x with flows := aset x.flows d (f (agetD x.flows d FoldFlow.start)) }

/-- A flow of an entry. -/
def State.flow (s : State) (e d : Nat) : FoldFlow := agetD (s.foldE e).flows d FoldFlow.start

-- The states of an entry (R334).
def fsFree : Nat := 0
def fsReady : Nat := 1
def fsRunning : Nat := 2
def fsConfirming : Nat := 3
def fsRefused : Nat := 4

def State.fstate (s : State) (e : Nat) : Nat := s.fld FLD_COLL_STAT_state e
def State.setFstate (s : State) (e v : Nat) : State := s.setFld FLD_COLL_STAT_state e 0 v

/-- Whether an instance runs at an entry. -/
def State.fRunning (s : State) (e : Nat) : Bool := s.fstate e == fsRunning || s.fstate e == fsConfirming

/-- Whether an entry is committed (R320). -/
def State.fCommitted (s : State) (e : Nat) : Bool := s.fstate e == fsReady || s.fRunning e

/-! ### The configuration of an entry (R309 to R311, R333) -/

def State.fOp (s : State) (e : Nat) : Nat := s.fld FLD_COLL_CFG_op e
def State.fFmt (s : State) (e : Nat) : Nat := s.fld FLD_COLL_CFG_fmt e
def State.fOut (s : State) (e : Nat) : Nat := s.fld FLD_COLL_CFG_out_fmt e
def State.fOperator (s : State) (e : Nat) : Nat := s.fld FLD_COLL_CFG_operator e
def State.fPart (s : State) (e : Nat) : Nat := s.fld FLD_COLL_CFG_partition e
def State.fChunk (s : State) (e : Nat) : Nat := 1024 * 2 ^ s.fld FLD_COLL_CFG_chunk e
def State.fDepth (s : State) (e : Nat) : Nat := s.fld FLD_COLL_CFG_depth e
def State.fEager (s : State) (e : Nat) : Bool := s.flag FLD_COLL_CFG_eager e
def State.fUp (s : State) (e : Nat) : Nat := s.fld FLD_COLL_TREE_up e
def State.fRank (s : State) (e : Nat) : Nat := s.fld FLD_COLL_TREE_rank e
def State.fRanks (s : State) (e : Nat) : Nat := s.fld FLD_COLL_TREE_n_ranks_m1 e + 1
def State.fKids (s : State) (e : Nat) : Nat := s.fld FLD_COLL_TREE_n_children e
def State.fLen (s : State) (e : Nat) : Nat := s.fld FLD_COLL_LEN_length e
def State.fInstance (s : State) (e : Nat) : Nat := s.fld FLD_COLL_STAT_instance e
def State.fDone (s : State) (e : Nat) : Nat := s.fld FLD_COLL_LEN_done_dom e

/-- Child `j` of an entry. -/
def State.fKid (s : State) (e j : Nat) : Nat :=
  if j < 4 then bitsOf (s.reg .FLD_COLL_KIDS0 e) (16 * j + 15) (16 * j)
  else bitsOf (s.reg .FLD_COLL_KIDS1 e) (16 * (j - 4) + 15) (16 * (j - 4))

/-- Whether the member is the root of the tree (R306). -/
def State.fRoot (s : State) (e : Nat) : Bool := s.isOwn (s.fUp e)

/-- Whether an operation goes along the tree (R309). -/
def isTreeOp (op : Nat) : Bool := op ≤ 3

/-- The working form (R311): for sum FP64, FP32 or WA96; for the others and for ops without arithmetic the format. -/
def workingFmt (op operator fmt : Nat) : Nat :=
  if 2 ≤ op || operator != 0 then fmt
  else if fmt = 0 then 0 else if fmt ≤ 3 then 1 else 11

def State.fWork (s : State) (e : Nat) : Nat := workingFmt (s.fOp e) (s.fOperator e) (s.fFmt e)

/-- The size of an element of a fold format in bytes. -/
def elemBytes (fmt : Nat) : Nat := formatBits fmt / 8

/-- Elements per chunk (R311). -/
def State.fPerChunk (s : State) (e : Nat) : Nat := s.fChunk e / elemBytes (s.fWork e)

/-- The elements of one contribution; of one block for all-to-all. -/
def State.fElems (s : State) (e : Nat) : Nat :=
  (if s.fOp e = 6 then s.fLen e / s.fRanks e else s.fLen e) / elemBytes (s.fFmt e)

/-- The chunks of one contribution. -/
def State.fChunks (s : State) (e : Nat) : Nat := (s.fElems e + s.fPerChunk e - 1) / s.fPerChunk e

/-- The elements of chunk `c`. -/
def State.fCount (s : State) (e c : Nat) : Nat := min (s.fPerChunk e) (s.fElems e - c * s.fPerChunk e)

/-- The result chunks due at the member. -/
def State.fDue (s : State) (e : Nat) : Nat :=
  if s.fOp e = 2 || s.fOp e = 6 then s.fRanks e * s.fChunks e else s.fChunks e

/-- The bytes of the result at the member (R309). -/
def State.fResultBytes (s : State) (e : Nat) : Nat :=
  let n := s.fRanks e
  let all := s.fElems e * elemBytes (s.fOut e)
  match s.fOp e with
  | 0 => all
  | 1 => all / n
  | 2 => n * s.fLen e
  | _ => s.fLen e

/-! ### Elements (R310 to R312) -/

/-- The working anchor (R311). -/
def State.fAnchor (s : State) (e : Nat) : Nat := if s.fFmt e = 11 then s.fld FLD_COLL_CFG_anchor e else 96

/-- A source element in the working form (R311). -/
def toWorking (fmt work anchor bits : Nat) : Nat :=
  if work = fmt && fmt != 11 then bits
  else if work = 11 then
    if fmt = 11 then
      let c := wa96Read bits
      wa96Bits (realign c.1 c.2 anchor) anchor
    else wa96Bits (wa96OfNum (decodeElem fmt false bits) anchor) anchor
  else (convertNum work 0 false 0 (decodeElem fmt false bits) false).bits

/-- maximum and minimum of IEEE 754-2019: a NaN gives the canonical NaN, and −0 is below +0 (R310). -/
def foldMinMax (fmt : Nat) (takeMax : Bool) (a b : Nat) : Nat :=
  match fpFormat fmt with
  | some f =>
    if decodeFp f a = .nan || decodeFp f b = .nan then f.nan else (fpMinMax f takeMax a b).bits
  | none =>
    let w := formatBits fmt
    if takeMax == decide (signedOf w a < signedOf w b) then b else a

/-- Two elements combined in the working form (R310, R311). -/
def foldCombine (operator work anchor a b : Nat) : Nat :=
  match operator with
  | 0 =>
    if work = 11 then wa96Bits (wa96Add (wa96Read a) (wa96Read b) anchor) anchor
    else match fpFormat work with
      | some f => (fpAdd f 0 a b).bits
      | none => 0
  | 1 => foldMinMax work true a b
  | 2 => foldMinMax work false a b
  | _ => a ||| b

/-- The root's conversion of a result element (R312): a sum, a maximum and a minimum are converted once, also to their own
working format, where they saturate; the bitwise or keeps the raw element. -/
def foldFinish (operator work out rm : Nat) (sat : Bool) (anchor seed i bits : Nat) : Nat :=
  if operator == 3 || (out == 11 && work == 11) then bits
  else
    let x := if work = 11 then cellNum (wa96Read bits).1 (wa96Read bits).2 else decodeElem work false bits
    if out = 11 then wa96Bits (wa96OfNum x anchor) anchor
    else (convertNum out rm sat (srHash seed (i % 2 ^ 64)) x false).bits

/-- A list of bytes cut into elements of `w` bytes; the first argument is their number. -/
def elemsOf : Nat → Nat → List Byte → List Nat
  | 0, _, _ => []
  | n + 1, w, bs => ofBytes (bs.take w) :: elemsOf n w (bs.drop w)

/-- The bytes of a list of elements of `w` bytes. -/
def bytesOfElems (w : Nat) (xs : List Nat) : List Byte := xs.flatMap fun x => bytesOf w x

/-- Two chunks of working-form elements combined element by element. -/
def combineAll (operator work anchor : Nat) (a b : List Nat) : List Nat :=
  (List.range a.length).map fun i => foldCombine operator work anchor (lget a i 0) (lget b i 0)

/-! ### Packets (R317, R319) -/

/-- A chunk with the CRC of its payload (R321). -/
def mkChunk (c rank : Nat) (payload : List Byte) : FoldChunk := ⟨c, rank, payload, crc32c payload, 0, false⟩

/-- Whether a chunk passes its check (R321): a stored copy with a double-bit error does not (R306). -/
def FoldChunk.good (c : FoldChunk) : Bool := !c.bad && crc32c c.payload == c.crc

/-- The node of a destination number. -/
def State.fNode (s : State) (e d : Nat) : Nat :=
  if d = 0 then s.fUp e
  else if d < 8 then s.fKid e (d - 1)
  else if s.fOp e = 4 then s.fKid e 0
  else ((s.foldE e).ranks[d - 8]?.getD (0, 0)).1

/-- A fold packet's key (R360). -/
def foldKey (a dst arg : Nat) : Nat := emissionKey a (dst * 2 ^ 48 + arg % 2 ^ 32)

/-- A FOLD_DATA packet of an instance sent (R317). The payload read from a stored copy with a double-bit error is undefined
(R306): its words are free values. -/
def State.sendChunkOf (s : State) (e inst d kind late : Nat) (c : FoldChunk) : State :=
  let fmt := if kind = 0 then s.fWork e else if kind = 1 then s.fOut e else s.fFmt e
  let n := (c.payload.length + 7) / 8
  let words := if c.bad then (List.range n).map fun i => Config.freeValue (s.fresh + i) else wordsOfBytes c.payload
  let s := if c.bad then { s with fresh := s.fresh + n } else s
  let w2 := s.fld FLD_COLL_CFG_coll_id e + (inst % 65536) <<< 16 + (c.chunk % 2 ^ 22) <<< 32 + kind <<< 54
    + (if kind = 0 then (s.foldE e).childIndex % 8 else 0) <<< 57 + fmt <<< 60
  let w3 := c.crc + c.srcRank <<< 32 + late <<< 48
  let dst := s.fNode e d
  let p := { Packet.blank with
    dst := dst, vc := 5, type := tFOLD_DATA, partition := s.fPart e,
    body := BitVec.ofNat 64 w2 :: BitVec.ofNat 64 w3 :: words }
  s.sendKeyed portF (foldKey w2 dst 0) p (kind == 0 || kind == 2) false

/-- A FOLD_DATA packet of the current instance sent. -/
def State.sendChunk (s : State) (e d kind late : Nat) (c : FoldChunk) : State :=
  s.sendChunkOf e (s.fInstance e) d kind late c

-- The messages of R319.
def fmCredit : Nat := 1
def fmResend : Nat := 2
def fmConfirm : Nat := 3
def fmRelease : Nat := 4
def fmFault : Nat := 5
def fmAbort : Nat := 6

/-- A FOLD_CTRL packet sent to a node (R319). -/
def State.sendCtrlTo (s : State) (e dst inst msg cause arg : Nat) : State :=
  let w := s.fld FLD_COLL_CFG_coll_id e + (inst % 65536) <<< 16 + msg <<< 32
    + (if s.fUp e = dst then (s.foldE e).childIndex % 8 else 0) <<< 36 + cause <<< 39
  let p := { Packet.blank with
    dst := dst, vc := 5, type := tFOLD_CTRL, partition := s.fPart e,
    body := [BitVec.ofNat 64 w, BitVec.ofNat 64 arg, 0, 0] }
  s.sendKeyed portF (foldKey w dst arg) p false (msg == fmCredit)

/-- A FOLD_CTRL packet of the current instance sent to a destination number. -/
def State.sendCtrl (s : State) (e d msg cause arg : Nat) : State :=
  s.sendCtrlTo e (s.fNode e d) (s.fInstance e) msg cause arg

/-- The tree neighbours of a member, or the peers of a direct instance, as nodes (R323, R327). -/
def State.fNeighbours (s : State) (e : Nat) : List Nat :=
  let kids := (List.range (s.fKids e)).map fun j => s.fKid e j
  let rk := (s.foldE e).ranks
  let r := s.fRank e
  match s.fOp e with
  | 4 => [s.fKid e 0, s.fUp e]
  | 5 => ((rk[r]?.map fun x => (rk[x.2]?.getD (0, 0)).1).toList) ++ ((rk.filter fun x => x.2 == r).map (·.1))
  | 6 => ((List.range rk.length).filter fun k => k != r).map fun k => (rk[k]?.getD (0, 0)).1
  | _ => if s.fRoot e then kids else s.fUp e :: kids

/-- A FOLD_CTRL message sent to every neighbour but one. -/
def State.tellNeighbours (s : State) (e : Nat) (but : Option Nat) (inst msg cause arg : Nat) : State :=
  ((s.fNeighbours e).filter fun n => but != some n).foldl (fun s n => s.sendCtrlTo e n inst msg cause arg) s

/-! ### Commit and release (R307, R308) -/

/-- The store that an entry claims, in bytes (R307). -/
def State.fClaim (s : State) (e : Nat) : Nat :=
  let op := s.fOp e
  if op ≤ 3 then s.fDepth e * s.fChunk e * (s.fKids e + 1)
  else if op = 4 then 0 else roundUp 4096 (8 * s.fRanks e)

/-- Whether R310 and R312 allow the operation, operator, formats and rounding mode. -/
def State.fFormatsOk (s : State) (e : Nat) : Bool :=
  let fmt := s.fFmt e
  let out := s.fOut e
  let rm := s.fld FLD_COLL_CFG_rm e
  isFoldFormat fmt && isFoldFormat out &&
    (if 2 ≤ s.fOp e then out == fmt
     else (rm == 0 || rm == 1 || rm == 4) && (s.fOperator e == 0 || (fmt != 11 && out == fmt)))

/-- Cause 1 of R308. -/
def State.fFieldError (s : State) (e : Nat) : Bool :=
  let op := s.fOp e
  let inc := s.fld FLD_COLL_TRIG_trig_inc e
  decide (op = 7) || decide (4 < s.fld FLD_COLL_CFG_chunk e) || !s.fFormatsOk e
    || decide (s.packetBytes < s.fChunk e) || decide (s.fDepth e < 2) || decide (s.fRanks e - 1 < s.fRank e)
    || s.fLen e % 16 != 0 || ((op == 1 || op == 6) && s.fLen e % (16 * s.fRanks e) != 0)
    || (s.padOfPartition (s.fPart e)).isNone || decide (inc = 0) || decide (2 ^ 31 ≤ inc)

/-- Whether a range of an entry lies on the own node and wholly in the paddock with the right it needs (R308). -/
def State.fRangeOk (s : State) (q a n : Nat) (wr : Bool) : Bool :=
  s.isOwn (gaNode a) && !malformed a && s.rangeOk a n &&
    (match gaSpace a with
     | 0 => s.windowOk q (gaHbm a) n wr
     | 1 => s.padOfTile (gaTile a) == some q
     | _ => false)

/-- Cause 2 of R308: a member of a broadcast below the root has no source. -/
def State.fAddressError (s : State) (e q : Nat) : Bool :=
  let op := s.fOp e
  ((op != 3 || s.fRoot e) && !s.fRangeOk q (s.reg .FLD_COLL_SRC e) (s.fLen e) false)
    || !s.fRangeOk q (s.reg .FLD_COLL_DST e) (s.fResultBytes e) true
    || ((op == 5 || op == 6) && !s.fRangeOk q (s.reg .FLD_COLL_AUX e) (4 * s.fRanks e) false)

/-- Whether the staging region of an endpoint entry passes cause 2 with both rights (R308). -/
def State.fStageOk (s : State) (e q : Nat) : Bool :=
  let a := s.reg .FLD_COLL_AUX e
  gaSpace a == 0 && s.fRangeOk q a (s.fClaim e) false && s.fRangeOk q a (s.fClaim e) true

/-- The outcome of the check of a commit (R308): the refuse cause, 0 for READY, and whether folding is at the
endpoint. -/
def State.fCheck (s : State) (e : Nat) : Nat × Bool :=
  if s.fFieldError e then (1, false)
  else
    match s.padOfPartition (s.fPart e) with
    | none => (1, false)
    | some q =>
      let ep := s.flag FLD_COLL_CFG_fallback_ok e && decide (s.fOp e ≤ 1)
        && decide (s.fld FLD_STORE_free_kib * 1024 < s.fClaim e)
      if s.fAddressError e q then (2, false)
      else if !s.padOwns q (s.fld FLD_COLL_LEN_trig_dom e) || !s.padOwns q (s.fDone e) then (3, false)
      else if ep then (if s.fStageOk e q then (0, true) else (2, false))
      else if s.fld FLD_STORE_free_kib * 1024 < s.fClaim e then (4, false)
      else (0, false)

/-- The number of entries that are not FREE (R332). -/
def State.countEntries (s : State) : State :=
  s.put FLD_STORE_entries_used ((List.range 512).filter fun e => s.fstate e != fsFree).length

/-- A write of FLD_COLL_CMD.commit (R307): the commit waits for its check, behind those written before it. -/
def State.foldCommit (s : State) (e : Nat) : State :=
  if (s.fstate e = fsFree || s.fstate e = fsRefused) && !s.commits.contains e then { s with commits := s.commits ++ [e] }
  else s

/-- FOLD_COMMIT (R307). -/
def execFoldCommit (entry : Nat) (s : State) : Host.Outcome State Fault Refusal :=
  if entry < 512 then .next (s.foldCommit entry) else .next s

/-- The rank table read at commit (R309): 4-byte entries of node and π. A read that is refused or meets an uncorrectable
error delivers none (R216, R221; log entry 136). -/
def State.readRanks (s : State) (e : Nat) : List (Nat × Nat) × State :=
  if s.fOp e = 5 || s.fOp e = 6 then
    let r := s.source (bitsOf (s.reg .FLD_COLL_AUX e) 47 0) (4 * s.fRanks e)
    (if r.1 != 0 then [] else (elemsOf (s.fRanks e) 4 r.2.1).map fun w => (w % 65536, w / 65536), r.2.2)
  else ([], s)

/-- A commit takes effect (R307, R308): the entry becomes READY with its claim, or REFUSED. A commit starts the entry's
instance numbers anew, so that members that commit again agree (R328). The child index at the up node, which no register
holds, is a free value. -/
def State.checkCommit (s : State) (e : Nat) : State :=
  let c := s.fCheck e
  let s := { (s.setFld FLD_COLL_STAT_refuse_cause e 0 c.1) with commits := s.commits.filter (· != e) }
  if c.1 != 0 then ((s.setFstate e fsRefused).event FLD_EVT_refused_setup).countEntries
  else
    let kib := if c.2 then 0 else (s.fClaim e + 1023) / 1024
    let s := s.put FLD_STORE_free_kib (s.fld FLD_STORE_free_kib - kib)
    let s := (s.setFld FLD_COLL_STAT_claimed_kib e 0 kib).setFld FLD_COLL_STAT_endpoint e 0 (natOfBool c.2)
    let r := s.readRanks e
    let s := r.2.setFold e { FoldEntry.empty with ranks := r.1, childIndex := r.2.freeVal % 8 }
    ((s.spend.setFld FLD_COLL_STAT_instance e 0 0).setFstate e fsReady).countEntries

/-- FOLD_COMMIT_CHECKED (R307, R308): the check of a commit ends. Commits take effect in the order in which they were
written, so only the first one that waits can end. -/
def execFoldCommitChecked (entry : Nat) (s : State) : Host.Outcome State Fault Refusal :=
  if decide (512 ≤ entry) || s.commits.head? != some entry || !s.flag FLD_CTRL_enable then .next s
  else .next (s.checkCommit entry)

/-- The commits that wait, of whatever entry, checked in their order: a release takes effect after every commit that was
written before it (R33, R307). -/
def State.settleCommits (s : State) : State :=
  if s.flag FLD_CTRL_enable then s.commits.foldl (fun s k => s.checkCommit k) s else s

/-- A write of FLD_COLL_CMD.release (R308). -/
def State.foldRelease (s : State) (e : Nat) : State :=
  let s := s.settleCommits
  if s.fRunning e then s.event FLD_EVT_busy_write
  else
    let s := s.put FLD_STORE_free_kib (s.fld FLD_STORE_free_kib + s.fld FLD_COLL_STAT_claimed_kib e)
    let s := (s.setFld FLD_COLL_STAT_claimed_kib e 0 0).setFld FLD_COLL_STAT_endpoint e 0 0
    ((s.setFstate e fsFree).setFold e FoldEntry.empty).countEntries

/-- FOLD_RELEASE (R308). -/
def execFoldRelease (entry : Nat) (s : State) : Host.Outcome State Fault Refusal :=
  if entry < 512 then .next (s.foldRelease entry) else .next s

/-! ### Ending an instance (R323, R324, R327, R328) -/

/-- An instance ends without a count. -/
def State.endInstance (s : State) (e : Nat) : State :=
  (s.setFstate e fsReady).onFold e fun x => { x with
    flows := [], partials := [], next := 0, done := [], taken := [], owed := [], paid := [], live := false, first := [], confirms := [],
    confirmed := false, released := false }

/-- An abort of the current instance of an entry (R327): the neighbours but `but` are told, and an instance that has not
completed ends without a count, with err in done_dom. One that was aborted before, or that has completed, is left. -/
def State.abortEntry (s : State) (e cause : Nat) (but : Option Nat) : State :=
  if !s.fRunning e || (s.foldE e).aborted == some (s.fInstance e) then s
  else
    let s := s.tellNeighbours e but (s.fInstance e) fmAbort cause 0
    let s := s.onFold e fun x => { x with aborted := some (s.fInstance e) }
    (s.endInstance e).errDomain (s.fDone e) cause s.node 0

/-- A read of the member's source that failed (R324): the neighbours get ABORT with its cause, and an instance that runs
ends; one that has completed here only sends no more. -/
def State.failSource (s : State) (e cause : Nat) : State :=
  if s.fRunning e then s.abortEntry e cause none
  else
    (s.tellNeighbours e none (s.fInstance e) fmAbort cause 0).onFold e fun x => { x with
      live := false, flows := [], owed := [], aborted := some (s.fInstance e) }

/-- A write of FLD_COLL_CMD.abort (R328). -/
def State.foldAbort (s : State) (e : Nat) : State := (s.abortEntry e 4 none).event FLD_EVT_abort

/-- FOLD_ABORT (R328). -/
def execFoldAbort (entry : Nat) (s : State) : Host.Outcome State Fault Refusal :=
  if entry < 512 then .next (s.foldAbort entry) else .next s

/-- The record of a collective fault (R323, R332). -/
def State.logFault (s : State) (e inst cause node beat : Nat) : State :=
  let s := (s.event FLD_EVT_coll_fault).satCount FLD_STAT_faults
  if s.flag FLD_FAULT_LOG_valid then s
  else
    let s := s.put FLD_FAULT_LOG_coll_id (s.fld FLD_COLL_CFG_coll_id e)
    let s := (s.put FLD_FAULT_LOG_instance inst).put FLD_FAULT_LOG_cause cause
    let s := (s.put FLD_FAULT_LOG_node node).put FLD_FAULT_BEAT_beat beat
    s.event FLD_FAULT_LOG_valid

/-- A fault of an instance taken in (R323, R324): recorded once for each instance, forwarded, and err set in done_dom; an
instance that runs ends without a count. -/
def State.takeFault (s : State) (e inst cause node beat : Nat) (but : Option Nat) : State :=
  if (s.foldE e).faults.contains inst then s
  else
    let s := s.logFault e inst cause node beat
    let s := s.tellNeighbours e but inst fmFault cause beat
    let s := s.onFold e fun x => { x with faults := x.faults ++ [inst] }
    let s := if s.fRunning e && s.fInstance e % 65536 == inst then s.endInstance e else s
    s.errDomain (s.fDone e) cause node 0

/-- A collective fault raised at this member (R323). -/
def State.raiseFault (s : State) (e : Nat) : State :=
  s.takeFault e (s.fInstance e % 65536) 7 s.node s.beatNo none

/-! ### Sources, results and combination (R309, R311, R312, R315, R318) -/

/-- Where the member's own elements of chunk `c` of the block for rank `j` lie: their address and bytes. -/
def State.ownRange (s : State) (e c j : Nat) : Nat × Nat :=
  let es := elemBytes (s.fFmt e)
  let blk := if s.fOp e = 6 then j * (s.fLen e / s.fRanks e) else 0
  (bitsOf (s.reg .FLD_COLL_SRC e) 47 0 + blk + c * s.fPerChunk e * es, s.fCount e c * es)

/-- The member's own elements of chunk `c` of the block for rank `j`, in the format fmt: the cause of a read that failed, or
0, and the bytes. -/
def State.readOwn (s : State) (e c j : Nat) : Nat × List Byte × State := s.source (s.ownRange e c j).1 (s.ownRange e c j).2

/-- Whether a fold unit is usable: one that is not takes no chunks (R419). -/
def State.foldUnits (s : State) : Bool := (List.range 4).any fun k => s.flag FUS_FP_UNIT_usable (foldUnit k)

/-- The elements of a chunk that the member writes, and where (R318): the offset of the first one from dst, and the
elements to skip and to take. -/
def State.placeChunk (s : State) (e c rank : Nat) : Nat × Nat × Nat :=
  let k := s.fPerChunk e
  let es := elemBytes (s.fOut e)
  let m := s.fCount e c
  match s.fOp e with
  | 1 =>
    let seg := s.fElems e / s.fRanks e
    let lo := max (c * k) (s.fRank e * seg)
    let hi := min (c * k + m) ((s.fRank e + 1) * seg)
    ((lo - s.fRank e * seg) * es, lo - c * k, hi - lo)
  | 2 => (rank * s.fLen e + c * k * es, 0, m)
  | 6 => (rank * (s.fLen e / s.fRanks e) + c * k * es, 0, m)
  | _ => (c * k * es, 0, m)

/-- A result or direct chunk written at this member and marked once as performed (R315, R318). A write that its target did
not perform sets err with its cause in done_dom, and the chunk is not marked (R196, R197). -/
def State.writeChunk (s : State) (e : Nat) (ch : FoldChunk) : State :=
  let es := elemBytes (s.fOut e)
  let w := s.placeChunk e ch.chunk ch.srcRank
  let bs := (ch.payload.drop (w.2.1 * es)).take (w.2.2 * es)
  let r := if bs.isEmpty then (0, s) else s.perform (bitsOf (s.reg .FLD_COLL_DST e) 47 0 + w.1) bs
  if r.1 != 0 then r.2.errDomain (r.2.fDone e) r.1 r.2.node 0
  else r.2.onFold e fun x => if x.done.contains (ch.chunk, ch.srcRank) then x
    else { x with done := x.done ++ [(ch.chunk, ch.srcRank)] }

/-- A chunk made ready for every child (R309). -/
def State.toKids (s : State) (e : Nat) (ch : FoldChunk) : State :=
  (List.range (s.fKids e)).foldl (fun s j =>
    s.onFlow e (1 + j) fun f => { f with ready := f.ready ++ [{ ch with tries := 0 }] }) s

/-- A result chunk taken at this member: written and passed to the children. -/
def State.takeResult (s : State) (e : Nat) (ch : FoldChunk) : State := (s.writeChunk e ch).toKids e ch

/-- The stored partials of chunk `c` checked before they are combined: one whose copy fails its check is dropped and
asked for again (R306, R321). -/
def State.recheck (s : State) (e c : Nat) : State :=
  let fails := fun p : Nat × FoldChunk => p.2.chunk == c && !p.2.good
  let kids := ((s.foldE e).partials.filter fails).map (·.1)
  if kids.isEmpty then s
  else
    let s := s.onFold e fun x => { x with partials := x.partials.filter fun p => !fails p }
    kids.foldl (fun s j => s.sendCtrl e (1 + j) fmResend 0 c) s

/-- The working-form elements of chunk `c` combined at this vertex, in child order (R311): none while an input is
missing. -/
def State.combineChunk (s : State) (e c : Nat) (own : List Byte) : Option (List Nat) :=
  let x := s.foldE e
  let ins := (List.range (s.fKids e)).map fun j => x.partials.find? fun p => p.1 == j && p.2.chunk == c
  if ins.any (·.isNone) then none
  else
    let m := s.fCount e c
    let work := s.fWork e
    let a := s.fAnchor e
    let acc := (elemsOf m (elemBytes (s.fFmt e)) own).map (toWorking (s.fFmt e) work a)
    some (ins.foldl (fun acc p => match p with
      | some p => combineAll (s.fOperator e) work a acc (elemsOf m (elemBytes work) p.2.payload)
      | none => acc) acc)

/-- The partials of chunk `c` consumed, and their credits returned (R316). -/
def State.consume (s : State) (e c : Nat) : State :=
  let kids := ((s.foldE e).partials.filter fun p => p.2.chunk == c).map (·.1)
  let s := s.onFold e fun x => { x with partials := x.partials.filter (fun p => p.2.chunk != c), next := c + 1 }
  kids.foldl (fun s j => s.sendCtrl e (1 + j) fmCredit 0 1) s

/-- The result chunk of the root (R312). -/
def State.finishChunk (s : State) (e c : Nat) (acc : List Nat) : FoldChunk :=
  let out := s.fOut e
  let anchor := if s.fWork e = 11 then s.fAnchor e else s.fld FLD_COLL_CFG_anchor e
  let base := c * s.fPerChunk e
  mkChunk c 0 (bytesOfElems (elemBytes out) ((List.range acc.length).map fun i =>
    foldFinish (s.fOperator e) (s.fWork e) out (s.fld FLD_COLL_CFG_rm e) (s.flag FLD_COLL_CFG_saturate e) anchor
      (s.reg .FLD_COLL_SEED e) (base + i) (lget acc i 0)))

/-- The node that is latest in the member's subtree (R329). -/
def State.lateNode (s : State) (e : Nat) : Nat :=
  match (s.foldE e).first.getLast? with
  | some f => f.2
  | none => s.selfId

/-- The root's choice of the pace-setter, which its result chunks carry (R329). -/
def State.choosePace (s : State) (e : Nat) : State := s.onFold e fun x => { x with pace := s.lateNode e }

/-- Whether the member still works on its current instance: it runs, or, eager, it has counted its own segment of a
reduce-scatter while chunks of the others pass (R315, R323). -/
def State.fActive (s : State) (e : Nat) : Bool :=
  s.fRunning e || (s.fstate e == fsReady && (s.foldE e).live && s.fEager e && s.fOp e == 1)

/-- The chunks of the root's own making that its children have not all credited: they take the claimed result buffers
(R307, R316). -/
def State.fHeld (s : State) (e : Nat) : Nat :=
  let own := fun c : FoldChunk => s.fOp e != 2 || c.srcRank == s.fRank e
  let cs := ((List.range (s.fKids e)).flatMap fun j =>
    (((s.flow e (1 + j)).ready ++ (s.flow e (1 + j)).kept).filter own).map (·.chunk))
  (cs.foldr (fun c l => if l.contains c then l else c :: l) []).length

/-- The root works on as far as its inputs and its claimed buffers reach (R311, R312, R316): it combines chunk after
chunk for ops 0 and 1, and passes its own contribution down for ops 2 and 3. A source read that meets an uncorrectable
error aborts the instance with cause 2 (R324). The first argument bounds the chunks. -/
def State.rootWork : Nat → State → Nat → State
  | 0, s, _ => s
  | n + 1, s, e =>
    let x := s.foldE e
    let c := x.next
    if !s.fActive e || decide (s.fChunks e ≤ c) || decide (s.fDepth e ≤ s.fHeld e) then s
    else
      let s := s.recheck e c
      let r := s.readOwn e c 0
      if r.1 != 0 then r.2.2.failSource e r.1
      else if 2 ≤ s.fOp e then
        let s := (r.2.2.choosePace e).takeResult e (mkChunk c (if s.fOp e = 2 then s.fRank e else 0) r.2.1)
        State.rootWork n (s.onFold e fun x => { x with next := c + 1 }) e
      else
        match s.combineChunk e c r.2.1 with
        | none => s
        | some acc =>
          let s := r.2.2.choosePace e
          State.rootWork n ((s.consume e c).takeResult e (s.finishChunk e c acc)) e

/-- The root of a tree operation works on. -/
def State.foldRoot (s : State) (e : Nat) : State :=
  if isTreeOp (s.fOp e) && s.fRoot e && s.foldUnits then State.rootWork (s.fChunks e) s e else s

/-- The confirmation of a member in sealed mode (R322): once every result chunk is performed and every child has
confirmed, a member sends CONFIRM, and the root RELEASE. -/
def State.foldSettle (s : State) (e : Nat) : State :=
  let x := s.foldE e
  if !s.fRunning e || s.fEager e || !isTreeOp (s.fOp e) || x.confirmed || decide (x.done.length < s.fDue e)
      || (List.range (s.fKids e)).any (fun j => !x.confirms.contains j) then s
  else
    let s := (s.onFold e fun x => { x with confirmed := true }).setFstate e fsConfirming
    if s.fRoot e then
      let s := s.onFold e fun x => { x with released := true }
      (List.range (s.fKids e)).foldl (fun s j => s.sendCtrl e (1 + j) fmRelease 0 0) s
    else s.sendCtrl e 0 fmConfirm 0 0

/-- Whether every result byte due at the member is performed (R315): eager, a member of a reduce-scatter needs only the
chunks with bytes of its segment; sealed, it has to verify every chunk (R322). -/
def State.fPerformed (s : State) (e : Nat) : Bool :=
  let x := s.foldE e
  if s.fEager e && s.fOp e == 1 then
    (List.range (s.fChunks e)).all fun c => decide ((s.placeChunk e c 0).2.2 = 0) || x.done.any fun d => d.1 == c
  else decide (s.fDue e ≤ x.done.length)

/-- Whether an instance is complete at the member (R315). -/
def State.foldComplete (s : State) (e : Nat) : Bool :=
  let x := s.foldE e
  s.fRunning e && s.fPerformed e && (s.fEager e || x.released || !isTreeOp (s.fOp e))

/-- FOLD_INSTANCE_DONE (R315, R329): the instance counts once in done_dom, and the entry returns to READY. -/
def execFoldInstanceDone (entry : Nat) (s : State) : Host.Outcome State Fault Refusal :=
  if decide (512 ≤ entry) || !s.foldComplete entry then .next s
  else
    let x := s.foldE entry
    let s := s.setFld FLD_COLL_PACE_pace_node entry 0 x.pace
    let s := { s with power := { s.power with pace := x.pace } }
    let s := s.setFld FLD_COLL_PACE_wait_ns entry 0 (min (2 ^ 32 - 1) ((s.now - x.startAt) / 10))
    .next ((s.countDomain (s.fDone entry)).setFstate entry fsReady)

/-! ### Instances (R314, R316) -/

/-- The chunks that a started instance leaves behind (R314, R316): result chunks of the former one that are ready and hold a
credit are still sent; the rest of it can get no credit any more, since R320 refuses its credits. -/
def FoldEntry.leftOver (x : FoldEntry) (inst : Nat) : List LateChunk :=
  x.late ++ x.flows.flatMap fun f => (f.2.ready.take f.2.credit).map fun c => ⟨inst, f.1, c⟩

/-- The destination numbers of the members that send to this one (R316): for all-to-all every rank, the own one too. -/
def State.fSenders (s : State) (e : Nat) : List Nat :=
  let rk := (s.foldE e).ranks
  match s.fOp e with
  | 5 => ((List.range rk.length).filter fun k => (rk[k]?.getD (0, 0)).2 == s.fRank e).map fun k => 8 + k
  | 6 => (List.range rk.length).map fun k => 8 + k
  | _ => []

/-- The credits with which an instance starts (R316). -/
def State.startCredits (s : State) (e : Nat) : State :=
  let d := s.fDepth e
  let s := if isTreeOp (s.fOp e) && !s.fRoot e then s.sendCtrl e 0 fmCredit 0 d else s
  let s := if s.fOp e ≤ 2 then (List.range (s.fKids e)).foldl (fun s j => s.sendCtrl e (1 + j) fmCredit 0 d) s else s
  if s.fOp e = 4 then s.sendCtrl e 0 fmCredit 0 d
  else (s.fSenders e).foldl (fun s k => s.sendCtrl e k fmCredit 0 d) s

/-- The block that an all-to-all member keeps for itself, copied without a packet (R309); the first argument bounds the
chunks. -/
def State.selfBlock : Nat → Nat → State → Nat → State
  | 0, _, s, _ => s
  | n + 1, c, s, e =>
    let r := s.readOwn e c (s.fRank e)
    if r.1 != 0 then r.2.2.failSource e r.1
    else State.selfBlock n (c + 1) (r.2.2.writeChunk e (mkChunk c (s.fRank e) r.2.1)) e

/-- The staging region of an endpoint entry in own-node HBM, which an instance uses as its buffers (R308): no rule states
what it then holds, so its bytes are free values. -/
def State.stageBuffers (s : State) (e : Nat) : State :=
  if s.flag FLD_COLL_STAT_endpoint e then
    let n := s.fClaim e / 8
    let ws := (List.range n).map fun i => Config.freeValue (s.fresh + i)
    (({ s with fresh := s.fresh + n }).perform (bitsOf (s.reg .FLD_COLL_AUX e) 47 0) (bytesOfWords ws)).2
  else s

/-- Whether a recorded fault's instance number, modulo 2^16, now lies so far back that it would come to name a future
instance. -/
def oldFault (inst f : Nat) : Bool := (inst + 65536 - f % 65536) % 65536 == 32767

/-- FOLD_INSTANCE_START (R314, R316, R324): the trigger domain has reached next_expect. An instance with a recorded fault
ends at once. -/
def execFoldInstanceStart (entry : Nat) (s : State) : Host.Outcome State Fault Refusal :=
  if decide (512 ≤ entry) || s.fstate entry != fsReady
      || !s.reached (s.fld FLD_COLL_LEN_trig_dom entry) (s.fld FLD_COLL_TRIG_next_expect entry) then .next s
  else
    let old := s.fInstance entry
    let inst := (old + 1) % 2 ^ 32
    let s := s.setFld FLD_COLL_STAT_instance entry 0 inst
    let s := s.wrapCount FLD_COLL_TRIG_next_expect entry 0 (s.fld FLD_COLL_TRIG_trig_inc entry)
    let x := s.foldE entry
    let s := s.setFold entry { FoldEntry.empty with
      ranks := x.ranks, childIndex := x.childIndex, faults := x.faults.filter (fun f => !oldFault inst f),
      startAt := s.now, pace := s.selfId, live := !x.faults.contains (inst % 65536), late := x.leftOver old }
    if x.faults.contains (inst % 65536) then .next s
    else
      let s := ((s.setFstate entry fsRunning).stageBuffers entry).startCredits entry
      let s := if s.fOp entry = 6 && s.foldUnits then State.selfBlock (s.fChunks entry) 0 s entry else s
      .next ((s.foldRoot entry).foldSettle entry)

/-! ### Sending chunks (R316, R321) -/

/-- The kind of the chunks of a destination (R317). -/
def State.kindOf (s : State) (e d : Nat) : Nat := if 4 ≤ s.fOp e then 2 else if d = 0 then 0 else 1

/-- The late_node field of a chunk (R317). -/
def State.lateField (s : State) (e kind : Nat) : Nat :=
  if kind = 0 then s.lateNode e else if kind = 1 then (s.foldE e).pace else 0

/-- A chunk of the instance sent, and kept until its credit returns. -/
def State.sendFlow (s : State) (e d : Nat) (ch : FoldChunk) : State :=
  let kind := s.kindOf e d
  let s := s.onFlow e d fun f => { f with credit := f.credit - 1, kept := f.kept ++ [ch] }
  s.sendChunk e d kind (s.lateField e kind) ch

/-- The next chunk of a flow made by the member itself (R311, R316): a partial once every input is there, or its own
data. -/
def State.makeChunk (s : State) (e d : Nat) : Option FoldChunk × State :=
  let op := s.fOp e
  let f := s.flow e d
  if op ≤ 1 then
    let c := (s.foldE e).next
    if d != 0 || s.fRoot e || decide (s.fChunks e ≤ c) then (none, s)
    else
      let s := s.recheck e c
      let r := s.readOwn e c 0
      if r.1 != 0 then (none, r.2.2.failSource e r.1)
      else
        match r.2.2.combineChunk e c r.2.1 with
        | none => (none, s)
        | some acc => (some (mkChunk c 0 (bytesOfElems (elemBytes (s.fWork e)) acc)), r.2.2.consume e c)
  else if (op == 2 && d == 0 && !s.fRoot e) || decide (4 ≤ op) then
    if s.fChunks e ≤ f.own then (none, s)
    else
      let r := s.readOwn e f.own (d - 8)
      if r.1 != 0 then (none, r.2.2.failSource e r.1)
      else
        let rank := if op = 4 then 0 else s.fRank e
        (some (mkChunk f.own rank r.2.1), r.2.2.onFlow e d fun f => { f with own := f.own + 1 })
  else (none, s)

/-- Whether the read of the member's next own chunk for a destination finds its read-return buffers (R219). -/
def State.ownFits (s : State) (e d : Nat) : Bool :=
  let r := if s.fOp e ≤ 1 then s.ownRange e (s.foldE e).next 0 else s.ownRange e (s.flow e d).own (d - 8)
  s.readFits r.1 r.2

/-- The rank to which a permutation sends the member's data: π(r) (R309). -/
def State.fPi (s : State) (e : Nat) : Option Nat := (s.foldE e).ranks[s.fRank e]?.map fun x => x.2

/-- The rank of an all-to-all's present step (R309): in the order j = (r + s) mod n, the first after the own one whose block
is not all sent. -/
def State.fStep (s : State) (e : Nat) : Option Nat :=
  ((List.range (s.fRanks e)).drop 1).map (fun k => (s.fRank e + k) % s.fRanks e) |>.find? fun j =>
    decide ((s.flow e (8 + j)).own < s.fChunks e)

/-- The destination to which an operation sends, as a number: for a direct one the peer of R309. -/
def State.fTarget (s : State) (e d : Nat) : Bool :=
  match s.fOp e with
  | 4 => d == 8
  | 5 => (s.fPi e).map (8 + ·) == some d
  | 6 => (s.fStep e).map (8 + ·) == some d
  | _ => decide (d ≤ s.fKids e)

/-- A chunk of an earlier instance sent to a destination. -/
def State.sendLate (s : State) (e : Nat) (l : LateChunk) : State :=
  let s := s.onFold e fun x => { x with late := x.late.erase l }
  s.sendChunkOf e l.inst l.dest (s.kindOf e l.dest) (s.lateField e (s.kindOf e l.dest)) l.chunk

/-- FOLD_CHUNK_SEND (R316): a fold unit sends the next chunk of an entry to a destination, 0 the up node, 1 + j child j,
8 + k the peer of rank k, once it holds credit for it: first those of an earlier instance, then the chunks ready, then the
next one of the member's own. Without a usable unit none is sent (R419). -/
def execFoldChunkSend (entry dest : Nat) (s : State) : Host.Outcome State Fault Refusal :=
  if decide (512 ≤ entry) || !s.fCommitted entry || !s.foldUnits then .next s
  else
  match (s.foldE entry).late.find? fun l => l.dest == dest with
  | some l => .next (s.sendLate entry l)
  | none =>
  if !s.fTarget entry dest || (s.flow entry dest).credit = 0 then .next s
  else
    match (s.flow entry dest).ready with
    | ch :: rest =>
      .next ((s.onFlow entry dest fun f => { f with ready := rest }).sendFlow entry dest ch)
    | [] =>
      if !(s.foldE entry).live || !s.ownFits entry dest then .next s
      else
        match s.makeChunk entry dest with
        | (none, s) => .next s
        | (some ch, s) => .next (s.sendFlow entry dest ch)

/-- A chunk of a flow moved behind the others that wait for their credit: of an all-gather, whose chunks carry several ranks,
credits return in the order in which the ranks' chunks are consumed, so one that is asked for again is behind. -/
def FoldFlow.behind (f : FoldFlow) (ch : FoldChunk) : FoldFlow := { f with kept := f.kept.erase ch ++ [ch] }

/-- A kept chunk sent again (R321): after resend_max in a row the sender raises a fault. A result chunk whose own copy
fails its check is asked for from the up node. -/
def State.resendChunk (s : State) (e d : Nat) (ch : FoldChunk) : State :=
  if max 1 (s.fld FLD_CTRL_resend_max) ≤ ch.tries then s.raiseFault e
  else
    let s := s.satCount FLD_STAT_resends
    let s := s.onFlow e d fun f => { f with kept := f.kept.map fun k => if k == ch then { k with tries := k.tries + 1 } else k }
    let kind := s.kindOf e d
    if kind = 1 && !ch.good && !s.fRoot e then s.sendCtrl e 0 fmResend 0 ch.chunk
    else s.sendChunk e d kind (s.lateField e kind) ch

/-- A result chunk that came again: the kept copies of it that fail their check are replaced and sent again (R321). -/
def State.refresh (s : State) (e : Nat) (ch : FoldChunk) : State :=
  (List.range (s.fKids e)).foldl (fun s j =>
    let stale := fun k : FoldChunk => k.chunk == ch.chunk && k.srcRank == ch.srcRank && !k.good
    if (s.flow e (1 + j)).kept.any stale then
      (s.onFlow e (1 + j) fun f => { f with kept := f.kept.map fun k => if stale k then { ch with tries := k.tries } else k }).sendChunk
        e (1 + j) 1 (s.lateField e 1) ch
    else s) s

/-- FOLD_CHUNK_TIMEOUT (R321): no credit for the oldest kept chunk of a destination within chunk_timeout_us. -/
def execFoldChunkTimeout (entry dest : Nat) (s : State) : Host.Outcome State Fault Refusal :=
  if decide (512 ≤ entry) || !s.fCommitted entry then .next s
  else
    match (s.flow entry dest).kept with
    | [] => .next s
    | ch :: _ => .next (s.resendChunk entry dest ch)

/-! ### Arriving packets (R320 to R324) -/

/-- A fold packet refused (R320). -/
def State.foldRefuse (s : State) : State := (s.satCount FLD_STAT_refused).event FLD_EVT_pkt_refused

/-- Whether R320 refuses a fold packet before its entry is looked up. -/
def State.foldClosed (s : State) (part : Nat) : Bool :=
  s.chipReset || !s.flag FLD_CTRL_enable ||
    (match s.padOfPartition part with
     | none => true
     | some q => s.padResetting q)

/-- The committed entry of a partition with a collective ID (R320). -/
def State.foldEntryOf (s : State) (part coll : Nat) : Option Nat :=
  (List.range 512).find? fun e =>
    s.fCommitted e && s.fPart e == part && s.fld FLD_COLL_CFG_coll_id e == coll

-- The fields of a FOLD_DATA packet (R317).
def fdColl (p : Packet) : Nat := bitsOf (p.word 2) 15 0
def fdInstance (p : Packet) : Nat := bitsOf (p.word 2) 31 16
def fdChunk (p : Packet) : Nat := bitsOf (p.word 2) 53 32
def fdKind (p : Packet) : Nat := bitsOf (p.word 2) 56 54
def fdChild (p : Packet) : Nat := bitsOf (p.word 2) 59 57
def fdCrc (p : Packet) : Nat := bitsOf (p.word 3) 31 0
def fdRank (p : Packet) : Nat := bitsOf (p.word 3) 47 32
def fdLate (p : Packet) : Nat := bitsOf (p.word 3) 63 48

/-- The payload bytes due in a chunk of an entry (R311, R317). -/
def State.chunkBytesDue (s : State) (e c kind : Nat) : Nat :=
  s.fCount e c * elemBytes (if kind = 0 then s.fWork e else if kind = 1 then s.fOut e else s.fFmt e)

/-- The node of a rank, where there is such a rank. -/
def State.rankNode (s : State) (e k : Nat) : Option Nat := (s.foldE e).ranks[k]?.map fun x => x.1

/-- Whether a node sends direct chunks that carry a rank's data to this member (R309). -/
def State.sendsTo (s : State) (e node rank : Nat) : Bool :=
  match s.fOp e with
  | 4 => node == s.fUp e
  | 5 => s.rankNode e rank == some node && (s.foldE e).ranks[rank]?.map (fun x => x.2) == some (s.fRank e)
  | 6 => s.rankNode e rank == some node && rank != s.fRank e
  | _ => false

/-- Whether the kind of a FOLD_DATA packet fits its sender's role, and the chunk and rank that it names are some of the
collective's (R318, R320). -/
def State.kindFits (s : State) (e : Nat) (p : Packet) : Bool :=
  let op := s.fOp e
  decide (fdChunk p < s.fChunks e) && (op != 2 || decide (fdRank p < s.fRanks e)) &&
  match fdKind p with
  | 0 => decide (op ≤ 2) && decide (fdChild p < s.fKids e)
  | 1 => decide (op ≤ 3) && !s.fRoot e && p.src == s.fUp e
  | 2 => s.sendsTo e p.src (fdRank p)
  | _ => false

/-- Whether a chunk that the member took still stands in its claimed buffers (R307, R316): one from the up node, and any
at the root, while a child has not credited it; an all-gather's partial below the root while the up node has not. -/
def State.fKept (s : State) (e : Nat) (o : Nat × Nat × Nat) : Bool :=
  let down := s.fRoot e || o.1 == s.fUp e
  let ds := if !isTreeOp (s.fOp e) then [] else if down then (List.range (s.fKids e)).map (1 + ·) else [0]
  ds.any fun d => ((s.flow e d).ready ++ (s.flow e d).kept).any fun c => c.chunk == o.2.1 && c.srcRank == o.2.2

/-- Whether the credit of a chunk may return: it is consumed, and the chunk before it of the same sender and rank has had its
credit, so that the credits, which name no chunk, return in the order of the chunks (R316, R319, R321). -/
def State.fPayable (s : State) (e : Nat) (o : Nat × Nat × Nat) : Bool :=
  !s.fKept e o && (o.2.1 == 0 || (s.foldE e).paid.contains (o.1, o.2.1 - 1, o.2.2))

/-- The credits returned of the chunks that are consumed (R316); the first argument bounds them. -/
def State.payCredits : Nat → State → Nat → State
  | 0, s, _ => s
  | n + 1, s, e =>
    match (s.foldE e).owed.find? fun o => s.fPayable e o with
    | none => s
    | some o =>
      let s := s.onFold e fun x => { x with owed := x.owed.erase o, paid := x.paid ++ [o] }
      State.payCredits n (s.sendCtrlTo e o.1 (s.fInstance e) fmCredit 0 1) e

/-- A chunk taken from a node: its credit returns once it is consumed. -/
def State.owe (s : State) (e node : Nat) (ch : FoldChunk) : State :=
  let s := s.onFold e fun x => { x with owed := x.owed ++ [(node, ch.chunk, ch.srcRank)] }
  State.payCredits (s.foldE e).owed.length s e

/-- An up partial taken (R311, R316, R321, R329). -/
def State.takePartial (s : State) (e : Nat) (p : Packet) (ch : FoldChunk) : State :=
  let j := fdChild p
  if !ch.good then s.sendCtrl e (1 + j) fmResend 0 ch.chunk
  else
    let x := s.foldE e
    let s := if x.first.any (fun f => f.1 == j) then s
      else s.onFold e fun x => { x with first := x.first ++ [(j, fdLate p)] }
    if s.fOp e = 2 then
      if x.taken.contains (ch.chunk, ch.srcRank) then s
      else
        let s := s.onFold e fun x => { x with taken := x.taken ++ [(ch.chunk, ch.srcRank)] }
        if s.fRoot e then (((s.choosePace e).takeResult e ch).owe e p.src ch).foldSettle e
        else (s.onFlow e 0 fun f => { f with ready := f.ready ++ [ch] }).owe e p.src ch
    else if x.partials.any (fun q => q.1 == j && q.2.chunk == ch.chunk) || ch.chunk < x.next then s
    else
      let s := s.onFold e fun x => { x with partials := x.partials ++ [(j, ch)] }
      (s.foldRoot e).foldSettle e

/-- A result or direct chunk taken (R316, R318, R321 to R323): its credit returns once it passed its check and is consumed.
In eager mode it
is written even when its check fails, which raises a fault and returns no credit. One that came before serves the children
that asked for it. -/
def State.takeDown (s : State) (e : Nat) (p : Packet) (ch : FoldChunk) : State :=
  let direct := decide (fdKind p = 2)
  if (s.foldE e).done.contains (ch.chunk, ch.srcRank) then
    if ch.good && !direct then s.refresh e ch else s
  else if !ch.good && (direct || !s.fEager e) then
    s.sendCtrlTo e p.src (s.fInstance e) fmResend 0 ch.chunk
  else
    let s := if direct then s.writeChunk e ch else (s.takeResult e ch).onFold e fun x => { x with pace := fdLate p }
    if ch.good then (s.owe e p.src ch).foldSettle e else s.raiseFault e

/-- FOLD_DATA (R311, R316 to R324, R330): a chunk arrives. One sent with status 1 carries no data; its sender aborts the
instance. Without a usable unit none is taken (R419; log entry 136). -/
def execFoldData (p : Packet) (s : State) : Host.Outcome State Fault Refusal :=
  let s := s.take p
  if p.status = 3 then .next s.dropMalformed
  else
  if s.staleFor p then .next s
  else if s.foldClosed p.partition then .next s.foldRefuse
  else
    match s.foldEntryOf p.partition (fdColl p) with
    | none => .next s.foldRefuse
    | some e =>
      if fdInstance p != s.fInstance e % 65536 || !s.kindFits e p then .next s.foldRefuse
      else if !s.foldUnits then .next s
      else
        let r := if fdKind p = 1 then (true, s) else s.epochCheck p
        if !r.1 then .next (r.2.satCount FLD_STAT_stale)
        else
          let s := r.2
          let n := s.chunkBytesDue e (fdChunk p) (fdKind p)
          let bs := (bytesOfWords (p.body.drop 2)).take n
          let ch : FoldChunk := ⟨fdChunk p, fdRank p, bs, fdCrc p, 0, false⟩
          if p.status != 0 then .next s
          else if !s.fActive e then .next (if fdKind p = 1 && ch.good then s.refresh e ch else s)
          else if fdKind p = 0 then .next (s.takePartial e p ch)
          else .next (s.takeDown e p ch)

-- The fields of a FOLD_CTRL packet (R319).
def fcColl (p : Packet) : Nat := bitsOf (p.word 2) 15 0
def fcInstance (p : Packet) : Nat := bitsOf (p.word 2) 31 16
def fcMsg (p : Packet) : Nat := bitsOf (p.word 2) 35 32
def fcChild (p : Packet) : Nat := bitsOf (p.word 2) 38 36
def fcCause (p : Packet) : Nat := bitsOf (p.word 2) 42 39

/-- The destination number that the sender of a FOLD_CTRL packet is at this member, if it has the role of the message
(R319, R320): credits and resends come from where the member sends chunks, a confirmation from a child, a release from the up
node, an abort from any neighbour or peer. -/
def State.ctrlFrom (s : State) (e : Nat) (p : Packet) (msg : Nat) : Option Nat :=
  let op := s.fOp e
  let flow := msg == fmCredit || msg == fmResend
  if isTreeOp op then
    if p.src = s.fUp e && !s.fRoot e then
      if msg = fmConfirm || (flow && op = 3) then none else some 0
    else if fcChild p < s.fKids e && p.src == s.fKid e (fcChild p) && msg != fmRelease then some (1 + fcChild p)
    else none
  else if op = 4 then
    if p.src = s.fKid e 0 then some 8 else if p.src = s.fUp e && !flow then some 0 else none
  else if op = 5 && flow then
    match s.fPi e with
    | some k => if s.rankNode e k == some p.src then some (8 + k) else none
    | none => none
  else (lfind (fun x => x.1 == p.src) (s.foldE e).ranks).map (8 + ·)

/-- The entry and the sender of a FOLD_CTRL packet of the current instance, or none where R320 refuses it. -/
def State.ctrlEntry (s : State) (p : Packet) (msg : Nat) : Option (Nat × Nat) :=
  if s.foldClosed p.partition || fcMsg p != msg then none
  else
    match s.foldEntryOf p.partition (fcColl p) with
    | none => none
    | some e =>
      if fcInstance p != s.fInstance e % 65536 then none
      else (s.ctrlFrom e p msg).map fun d => (e, d)

/-- Credits that arrive for a flow (R316, R321): the chunks whose credit returned are freed, oldest first; the chunks
that they were copies of are consumed, and a root has room for more. -/
def State.creditFlow (s : State) (e d n : Nat) : State :=
  let s := s.onFlow e d fun f => { f with credit := f.credit + n, kept := f.kept.drop n }
  let s := State.payCredits (s.foldE e).owed.length s e
  if isTreeOp (s.fOp e) && s.fRoot e then (s.foldRoot e).foldSettle e else s

/-- FOLD_CREDIT (R316, R321): credits of the current instance arrive. -/
def execFoldCredit (p : Packet) (s : State) : Host.Outcome State Fault Refusal :=
  let s := s.take p
  if p.status = 3 then .next s.dropMalformed
  else
  if s.staleFor p then .next s
  else
    match s.ctrlEntry p fmCredit with
    | none => .next s.foldRefuse
    | some (e, d) =>
      .next (s.creditFlow e d (p.word 3 % 2 ^ 32))

/-- FOLD_RESEND (R321): a chunk is asked for again. -/
def execFoldResend (p : Packet) (s : State) : Host.Outcome State Fault Refusal :=
  let s := s.take p
  if p.status = 3 then .next s.dropMalformed
  else
  if s.staleFor p then .next s
  else
    match s.ctrlEntry p fmResend with
    | none => .next s.foldRefuse
    | some (e, d) =>
      match (s.flow e d).kept.find? fun ch => ch.chunk == p.word 3 % 2 ^ 22 with
      | none => .next s
      | some ch =>
        let s := if s.fOp e = 2 then s.onFlow e d fun f => f.behind ch else s
        .next (s.resendChunk e d ch)

/-- FOLD_CONFIRM (R322): a child has confirmed. -/
def execFoldConfirm (p : Packet) (s : State) : Host.Outcome State Fault Refusal :=
  let s := s.take p
  if p.status = 3 then .next s.dropMalformed
  else
  if s.staleFor p then .next s
  else
    match s.ctrlEntry p fmConfirm with
    | none => .next s.foldRefuse
    | some (e, d) =>
      if s.fEager e || decide (d = 0) || decide (8 ≤ d) then .next s.foldRefuse
      else if (s.foldE e).confirms.contains (d - 1) then .next s
      else .next ((s.onFold e fun x => { x with confirms := x.confirms ++ [d - 1] }).foldSettle e)

/-- FOLD_RELEASE_MSG (R322): RELEASE is forwarded to the children, and the member may count. -/
def execFoldReleaseMsg (p : Packet) (s : State) : Host.Outcome State Fault Refusal :=
  let s := s.take p
  if p.status = 3 then .next s.dropMalformed
  else
  if s.staleFor p then .next s
  else
    match s.ctrlEntry p fmRelease with
    | none => .next s.foldRefuse
    | some (e, d) =>
      if d != 0 || s.fEager e || !isTreeOp (s.fOp e) then .next s.foldRefuse
      else if s.fRunning e then
        let s := s.onFold e fun x => { x with released := true }
        .next ((List.range (s.fKids e)).foldl (fun s j => s.sendCtrl e (1 + j) fmRelease 0 0) s)
      else .next s

/-- FOLD_FAULT (R323, R324): a fault of any instance of the entry is taken in; the node in the record is the packet's
source. -/
def execFoldFault (p : Packet) (s : State) : Host.Outcome State Fault Refusal :=
  let s := s.take p
  if p.status = 3 then .next s.dropMalformed
  else
  if s.staleFor p then .next s
  else if s.foldClosed p.partition || fcMsg p != fmFault then .next s.foldRefuse
  else
    match s.foldEntryOf p.partition (fcColl p) with
    | none => .next s.foldRefuse
    | some e =>
      if (s.fNeighbours e).contains p.src then
        .next (s.takeFault e (fcInstance p) (fcCause p) p.src (p.word 3) (some p.src))
      else .next s.foldRefuse

/-- FOLD_ABORT_MSG (R327): the instance ends, and the abort is forwarded; a member that has counted the instance, or aborted
it, ignores the message. -/
def execFoldAbortMsg (p : Packet) (s : State) : Host.Outcome State Fault Refusal :=
  let s := s.take p
  if p.status = 3 then .next s.dropMalformed
  else
  if s.staleFor p then .next s
  else
    match s.ctrlEntry p fmAbort with
    | none => .next s.foldRefuse
    | some (e, _) =>
      if !s.fRunning e || (s.foldE e).aborted == some (s.fInstance e) then .next s
      else .next ((s.abortEntry e (fcCause p) (some p.src)).event FLD_EVT_abort)

/-! ### Resets and peers (R327, R328) -/

/-- A reset that reaches an entry (R327): its instance ends, its neighbours get ABORT with cause 4, and the instance and
next_expect return to their start. -/
def State.resetEntry (s : State) (e : Nat) : State :=
  let s := if s.fRunning e then
      (s.tellNeighbours e none (s.fInstance e) fmAbort 4 0).endInstance e |>.event FLD_EVT_abort
    else s
  let s := s.onFold e fun x => { x with faults := [], aborted := none, live := false, late := [], flows := [] }
  (s.setFld FLD_COLL_STAT_instance e 0 0).setFld FLD_COLL_TRIG_next_expect e 0 (s.fld FLD_COLL_TRIG_trig_inc e)

/-- The entries of a paddock, or all of them: those with a register that has been written, free ones too. -/
def State.entriesOf (s : State) (q : Option Nat) : List Nat :=
  let base := RegId.offset .FLD_COLL_CFG 0 0
  let named := s.regs.filterMap fun r =>
    if base ≤ r.1 && r.1 < base + 512 * 128 then some ((r.1 - base) / 128) else none
  (named.foldr (fun e l => if l.contains e then l else e :: l) []).filter fun e => match q with
    | none => true
    | some p => s.padOfPartition (s.fPart e) == some p

/-- The running instances that a peer reported by PEER_STATE ends (R328, R391): those whose neighbours or rank table name it,
and at level 3 only those of the notice's partition. -/
def State.peerEntries (s : State) (node : Nat) (part : Option Nat) : List Nat :=
  (s.entriesOf none).filter fun e => s.fRunning e && (part.isNone || part == some (s.fPart e))
    && ((s.fNeighbours e).contains node || (s.foldE e).ranks.any fun r => r.1 == node)

/-- The instances of a list of entries aborted for a peer (R328). -/
def State.foldPeer (s : State) (es : List Nat) : State :=
  es.foldl (fun s e => (s.abortEntry e 4 none).event FLD_EVT_abort) s

/-- Whether the member has sent all of its own contribution (R329): the root of an all-gather or a broadcast once every child
was sent its chunks; the other members of a broadcast have none. -/
def State.contributed (s : State) (e : Nat) : Bool :=
  let x := s.foldE e
  let n := s.fChunks e
  let sent := fun d => decide (n ≤ (s.flow e d).own)
  match s.fOp e with
  | 0 | 1 => decide (n ≤ x.next)
  | 2 =>
    if s.fRoot e then
      decide (n ≤ x.next) && (List.range (s.fKids e)).all fun j => (s.flow e (1 + j)).ready.all fun c => c.srcRank != s.fRank e
    else sent 0
  | 3 => !s.fRoot e || (decide (n ≤ x.next) && (List.range (s.fKids e)).all fun j => (s.flow e (1 + j)).ready.isEmpty)
  | 4 => sent 8
  | 5 => (match s.fPi e with
    | some k => sent (8 + k)
    | none => true)
  | _ => (s.fStep e).isNone

/-- FLD_WAIT as read (R329, R332): whether an instance has sent all of the node's own contribution and has not completed,
and the number of entries that run. -/
def State.foldWaiting (s : State) : Bool := (s.fold.map (·.1)).any fun e => s.fRunning e && s.contributed e

def State.foldRunning (s : State) : Nat := ((s.fold.map (·.1)).filter fun e => s.fRunning e).length

end Sys2Proof.Machine
end

