-- ==== Sys2Proof/Machine/Pair.lean ====
section
/-! DEFINITION. Shadow pairing: notes, joins, leases and fail-over (R355 to R373). -/
namespace Sys2Proof.Machine

-- The fields of an EPOCH packet (R364).
def epKind (p : Packet) : Nat := bitsOf (p.word 2) 3 0
def epRank (p : Packet) : Nat := bitsOf (p.word 2) 19 4
def epEpoch (p : Packet) : Nat := bitsOf (p.word 2) 35 20
def epHolder (p : Packet) : Nat := bitsOf (p.word 2) 51 36
def epKeys (p : Packet) : List Nat := (List.range (min 4 (bitsOf (p.word 2) 54 52))).map fun i => p.word (4 + i)
def epArg (p : Packet) : Nat := p.word 3

/-- An EPOCH packet that comes from the wrong node, or that names no meaning, is discarded and counted (R364). -/
def State.badEpoch (s : State) : State := s.satCount RTR_PAIR_CNT_bad_src

/-- Whether a packet comes from the arbiter of a paired node, or from its partner (R364). -/
def State.fromArbiter (s : State) (p : Packet) : Bool := p.src == s.fld RTR_PAIR_CTRL_arbiter
def State.fromPartner (s : State) (p : Packet) : Bool := s.paired && p.src == s.fld RTR_PAIR_CTRL_partner

/-- The role of the node in its pair: 1 active, 2 standby, else 0 (R376). -/
def State.pairRole (s : State) : Nat :=
  if s.paired then (if s.fld RTR_PAIR_CTRL_role = 3 then 0 else s.fld RTR_PAIR_CTRL_role) else 0

/-! ### What leaves the active (R362) -/

/-- The rank packets that may leave do: acknowledged ones that need no JOIN any more, or on a solo node all of them; a
fenced node sends none, and neither does a stale one (R366, R373). -/
def State.releaseOut (s : State) : State :=
  if s.flag RTR_PAIR_LEASE_fenced || s.flag RTR_PAIR_LEASE_stale then s
  else
    let solo := s.flag RTR_PAIR_LEASE_solo
    let go := s.pair.out.filter fun o => solo || (o.acked && !o.needJoin)
    let s := { s with pair := { s.pair with out := s.pair.out.filter fun o => !(solo || (o.acked && !o.needJoin)) } }
    go.foldl (fun s o => s.offer o.port (s.stamp o.packet)) s

/-- Whether a packet is FOLD_DATA of kind 0 or 2, which has no note (R317, R362). -/
def noteless (p : Packet) : Bool :=
  p.type == tFOLD_DATA && (bitsOf (p.word 2) 56 54 == 0 || bitsOf (p.word 2) 56 54 == 2)

/-- The notes that a fence held back are sent (R366), and the packets that need none leave. -/
def State.noteRest (s : State) : List PairOut → State
  | [] => s
  | o :: os =>
    if noteless o.packet then (s.offer o.port (s.stamp o.packet)).noteRest os
    else if o.seq.isSome then { s with pair := { s.pair with out := s.pair.out ++ [o] } }.noteRest os
    else
      let q := s.pair.noteSeq
      let s := s.sendNote o.key q
      { s with pair := { s.pair with
          out := s.pair.out ++ [{ o with seq := some q, at_ := s.now }], noteSeq := (q + 1) % 65536 } }.noteRest os

/-- The end of a fence (R366). -/
def State.unfence (s : State) : State :=
  let s := s.put RTR_PAIR_LEASE_fenced 0
  if s.flag RTR_PAIR_LEASE_solo then s.releaseOut
  else
    let os := s.pair.out
    ({ s with pair := { s.pair with out := [] } }.noteRest os).releaseOut

/-- A node fences (R366). -/
def State.fence (s : State) : State :=
  ((s.put RTR_PAIR_LEASE_fenced 1).put RTR_PAIR_LEASE_valid 0).event RTR_PAIR_EVT_fenced

/-- A holder of a lease fences (R366). -/
def State.fenceHolder (s : State) : State :=
  if s.pairRole = 1 && s.flag RTR_PAIR_LEASE_valid then s.fence else s

/-- SUSPECT sent to the arbiter (R369). -/
def State.suspect (s : State) (arg : Nat) : State :=
  s.sendNode (epochPacket (s.fld RTR_PAIR_CTRL_arbiter) 7 s.rank 0 0 arg [])

/-- LOST sent to a node (R370, R373). -/
def State.sendLost (s : State) (dst arg : Nat) : State := s.sendNode (epochPacket dst 8 s.rank 0 0 arg [])

/-- The active goes solo (R369). -/
def State.goSolo (s : State) : State := ((s.put RTR_PAIR_LEASE_solo 1).suspect 1).releaseOut

/-! ### The standby's ledger (R361, R363) -/

/-- The packets that a full ledger kept back enter the hold as room allows (R363). -/
def State.unstall (s : State) : List PairHeld → State
  | [] => s
  | h :: hs =>
    if s.ledgerFull h.packet.length then { s with pair := { s.pair with stalled := h :: hs } }
    else (({ s with pair := { s.pair with stalled := hs } }).holdPacket h.port h.key h.packet
      (isJoined h.packet (isFoldCredit h.packet))).unstall hs

/-- A sequence lies at or below another one, in a window of 2¹⁵ numbers. -/
def seqLe (a b : Nat) : Bool := (b % 65536 + 65536 - a % 65536) % 65536 < 2 ^ 15

/-- The highest sequence received with no gap (R364); the first argument bounds the search. -/
def gapless : Nat → Nat → List Nat → Nat × List Nat
  | 0, a, got => (a, got)
  | f + 1, a, got =>
    let n := (a + 1) % 65536
    if got.contains n then gapless f n (got.filter (· != n)) else (a, got)

/-- One key of a NOTE (R361 to R363): already acknowledged ones are discarded. One that names a held packet removes it;
a full ledger, or a hold with no free space, takes no other. -/
def State.takeNote (s : State) (seq key : Nat) : State :=
  let x := s.pair
  if seqLe seq x.ackSeq || x.got.contains seq then s
  else
    match lfind (fun h => h.key == key) x.hold with
    | some i =>
      let g := gapless 65536 x.ackSeq (seq :: x.got)
      { s with pair := { x with hold := ldel x.hold i, ackSeq := g.1, got := g.2 } }
    | none =>
      if s.noteFull then s.event RTR_PAIR_EVT_ledger_full
      else
        let g := gapless 65536 x.ackSeq (seq :: x.got)
        { s with pair := { x with notes := x.notes ++ [(key, s.now)], ackSeq := g.1, got := g.2 } }

/-- The keys of a NOTE, with sequences that follow one another (R364). -/
def State.takeNotes (s : State) (seq : Nat) : List Nat → State
  | [] => s
  | k :: ks => (s.takeNote (seq % 65536) k).takeNotes (seq + 1) ks

/-- NOTE (R361 to R364, R370): the standby removes or records each key and acknowledges. -/
def execNote (p : Packet) (s : State) : Host.Outcome State Fault Refusal :=
  let s := s.take p
  if p.status = 3 then .next s.dropMalformed
  else
  if !s.fromPartner p || epKind p != 4 then .next s.badEpoch
  else
    let s := s.takeNotes (epArg p % 65536) (epKeys p)
    let s := s.unstall s.pair.stalled
    .next (s.sendNode (epochPacket p.src 6 s.rank 0 0 s.pair.ackSeq []))

/-- JOIN (R359, R362): the matching joined packet needs no JOIN any more, or the key is kept for it. -/
def State.takeJoin (s : State) (key : Nat) : State :=
  match lfind (fun o => o.key == key && o.needJoin) s.pair.out with
  | some i =>
    { s with pair := { s.pair with
        out := match s.pair.out[i]? with
          | some o => lset s.pair.out i { o with needJoin := false }
          | none => s.pair.out } }
  | none => { s with pair := { s.pair with joins := s.pair.joins ++ [key] } }

/-- JOIN (R362). -/
def execJoin (p : Packet) (s : State) : Host.Outcome State Fault Refusal :=
  let s := s.take p
  if p.status = 3 then .next s.dropMalformed
  else
  if !s.fromPartner p || epKind p != 5 then .next s.badEpoch
  else .next ((epKeys p).foldl (fun s k => s.takeJoin k) s).releaseOut

/-- ACK (R362): the packets whose notes are covered leave. -/
def execAck (p : Packet) (s : State) : Host.Outcome State Fault Refusal :=
  let s := s.take p
  if p.status = 3 then .next s.dropMalformed
  else
  if !s.fromPartner p || epKind p != 6 then .next s.badEpoch
  else
    let a := epArg p % 65536
    let out := s.pair.out.map fun o => match o.seq with
      | some q => if seqLe q a then { o with acked := true } else o
      | none => o
    .next { s with pair := { s.pair with out := out } }.releaseOut

/-- NOTE_RESEND (R362): a note not acknowledged for 50 µs is sent again. -/
def execNoteResend (seq : Nat) (s : State) : Host.Outcome State Fault Refusal :=
  match s.pair.out.find? fun o => o.seq == some seq && !o.acked with
  | some o => .next (s.sendNote o.key seq)
  | none => .next s

/-! ### Leases (R364 to R368) -/

/-- A packet that the standby kept back, at its takeover (R370): a recorded note removes it, since the former active has sent
it; else it leaves. -/
def State.offerHeld (s : State) (h : PairHeld) : State :=
  match lfind (fun n => n.1 == h.key) s.pair.notes with
  | some i => { s with pair := { s.pair with notes := ldel s.pair.notes i } }
  | none => s.offer h.port (s.stamp h.packet)

/-- The takeover of a standby (R370): it becomes active with the epoch, sends every held packet, oldest first, and is
solo. -/
def State.takeover (s : State) (epoch : Nat) : State :=
  let s := (s.put RTR_PAIR_CTRL_role 1).put RTR_PAIR_LEASE_epoch epoch
  let s := s.event RTR_PAIR_EVT_takeover
  let held := s.pair.hold ++ s.pair.stalled
  let s := { s with pair := { s.pair with hold := [], stalled := [] } }
  let s := held.foldl (fun s h => s.offerHeld h) s
  s.put RTR_PAIR_LEASE_solo 1

/-- T_exp of a GRANT: at most 1,000 ms ahead (R366). -/
def State.grantExpiry (s : State) (arg : Nat) : Nat := min arg (s.beat.t + 10 ^ 10)

/-- GRANT (R364, R366, R370, R373): the lease's epoch and expiry; a standby takes over, and a fence ends. -/
def execGrant (p : Packet) (s : State) : Host.Outcome State Fault Refusal :=
  let s := s.take p
  if p.status = 3 then .next s.dropMalformed
  else
  if !s.paired || !s.fromArbiter p || epKind p != 1 then .next s.badEpoch
  else if s.flag RTR_PAIR_LEASE_stale || !epochNewer (epEpoch p) (s.fld RTR_PAIR_LEASE_epoch)
      || s.pairRole = 0 then .next s
  else
    let s := s.put RTR_PAIR_TEXP_t_exp (s.grantExpiry (epArg p))
    let s := { s with pair := { s.pair with grantAt := s.beat.t } }
    let s := s.put RTR_PAIR_LEASE_valid 1
    if s.pairRole = 2 then .next ((s.takeover (epEpoch p)).put RTR_PAIR_LEASE_fenced 0)
    else
      let s := s.put RTR_PAIR_LEASE_epoch (epEpoch p)
      .next (if s.flag RTR_PAIR_LEASE_fenced then s.unfence else s)

/-- Whether the node holds a lease (R376): the epoch is 0 when none is held, and a fenced node still holds its own. -/
def State.holdsLease (s : State) : Bool := s.flag RTR_PAIR_LEASE_valid || s.fld RTR_PAIR_LEASE_epoch != 0

/-- The rank table's entry advanced by a BUMP (R365). -/
def State.bumpRank (s : State) (rank epoch : Nat) : State :=
  match s.rankEntry rank with
  | some i => if epochNewer epoch (s.fld RTR_RANK_TBL_epoch i) then s.setFld RTR_RANK_TBL_epoch i 0 epoch else s
  | none => s

/-- BUMP (R364, R365, R370): the rank's entry takes a newer epoch; a holder that sees another node named for its own rank
is deposed, and holds no lease from then on. -/
def execBump (p : Packet) (s : State) : Host.Outcome State Fault Refusal :=
  let s := s.take p
  if p.status = 3 then .next s.dropMalformed
  else
  if !s.fromArbiter p || epKind p != 3 then .next s.badEpoch
  else
    let s := s.bumpRank (epRank p) (epEpoch p)
    if s.paired && epRank p == s.rank && epHolder p != s.node && s.holdsLease then
      let s := ((s.fence.put RTR_PAIR_LEASE_stale 1).put RTR_PAIR_LEASE_epoch 0).event RTR_PAIR_EVT_deposed
      .next (s.sendLost (s.fld RTR_PAIR_CTRL_partner) 3)
    else .next s

/-- LOST (R364, R369): the partner's copy is lost; the active goes solo. -/
def execLost (p : Packet) (s : State) : Host.Outcome State Fault Refusal :=
  let s := s.take p
  if p.status = 3 then .next s.dropMalformed
  else
  if !s.fromPartner p || epKind p != 8 then .next s.badEpoch
  else
    let s := s.event RTR_PAIR_EVT_lost
    .next (if s.pairRole = 1 && !s.flag RTR_PAIR_LEASE_solo then s.goSolo else s)

/-- RENEW_SEND (R366): the holder asks for a new lease. -/
def execRenewSend (s : State) : Host.Outcome State Fault Refusal :=
  if s.pairRole = 1 && s.fld RTR_PAIR_LEASE_epoch != 0 && !s.flag RTR_PAIR_LEASE_stale then
    .next (s.sendNode (epochPacket (s.fld RTR_PAIR_CTRL_arbiter) 2 s.rank (s.fld RTR_PAIR_LEASE_epoch) 0 0 []))
  else .next s

/-- LEASE_FENCE (R366): T reaches T_exp − guard_us. -/
def execLeaseFence (s : State) : Host.Outcome State Fault Refusal := .next s.fenceHolder

/-- PAIR_WATCH_EXPIRY (R369): a packet held without its note, or a note not acknowledged, for longer than watch_us. -/
def execPairWatchExpiry (s : State) : Host.Outcome State Fault Refusal :=
  if s.pairRole = 2 && !s.pair.hold.isEmpty then .next ((s.suspect 0).event RTR_PAIR_EVT_suspect)
  else if s.pairRole = 1 && !s.flag RTR_PAIR_LEASE_solo && s.pair.out.any (fun o => o.seq.isSome && !o.acked) then
    .next s.goSolo
  else .next s

/-- PAIR_BEHIND (R363): the oldest recorded note without its packet is older than lag_beats beats. -/
def execPairBehind (s : State) : Host.Outcome State Fault Refusal :=
  if s.pairRole = 2 && !s.pair.notes.isEmpty then .next (s.event RTR_PAIR_EVT_behind) else .next s

/-- The loss of a node's copy by a partition reset (arg 1) or a chip reset (arg 2) (R373). -/
def State.loseCopy (s : State) (arg : Nat) : State :=
  if s.pairRole = 0 then s
  else
    let s := ((s.put RTR_PAIR_LEASE_stale 1).put RTR_PAIR_LEASE_valid 0).event RTR_PAIR_EVT_stale
    let s := (s.put RTR_PAIR_LEASE_epoch 0)
    (s.sendLost (s.fld RTR_PAIR_CTRL_partner) arg).sendLost (s.fld RTR_PAIR_CTRL_arbiter) arg

end Sys2Proof.Machine
end

