-- ==== Sys2Proof/Machine/Reset.lean ====
section
/-! DEFINITION. The reset levels: records, what partition and chip resets clear, the dump that precedes them, and the
absorption of requests (R13, R15 to R17, R70, R381 to R398). -/
namespace Sys2Proof.Machine

def State.onRec (s : State) (f : Recovery → Recovery) : State := { s with recovery := f s.recovery }

/-! ### PEER_STATE (R389, R390) -/

/-- A PEER_STATE packet to the fabric manager, with the beat and T at the start of the reset. -/
def State.sendPeerState (s : State) (kind level part beat t : Nat) : State :=
  let w0 := kind + level <<< 3 + part <<< 6 + s.node <<< 18 + (s.fld MGT_RST_STAT_resets) <<< 34
  s.sendNode { Packet.blank with
    dst := s.fld RTR_HEFT_CTRL_fm_node, vc := 6, type := tPEER_STATE,
    body := [BitVec.ofNat 64 w0, BitVec.ofNat 64 beat, BitVec.ofNat 64 t, 0, 0, 0] }

/-! ### What a reset does to registers (R13) -/

/-- The depth of a reset level, and of a Survives entry. -/
def Surv.depth : Surv → Nat
  | .none => 0 | .engine => 2 | .partition => 3 | .chip => 4 | .powerCycle => 5

/-- A register's value after a reset of a level that reaches its block: a field that does not survive takes its reset
value. -/
def survivors (level rst : Nat) : List FieldRow → Nat → Nat
  | [], v => v
  | f :: fs, v =>
    survivors level rst fs (if f.surv.depth < level then withBits v f.hi f.lo (bitsOf rst f.hi f.lo) else v)

/-- The stored registers that `reached` names after a reset of a level. -/
def State.resetRegs (s : State) (level : Nat) (reached : RegId → Nat → Bool) : State :=
  { s with regs := s.regs.map fun e =>
      match locateIn e.1 (regsOfOffset e.1) with
      | some (r, i, j) =>
        if reached r i then
          (e.1, BitVec.ofNat 64 (survivors level (regReset s.fuse r i j) r.desc.fields e.2.toNat))
        else e
      | none => e }

/-- Whether a register belongs to the block of a tile, or to an HBM stack or a die's HBM controllers. -/
def RegId.ofTile (r : RegId) : Bool := regsOfTile.contains r
def RegId.ofHbm (r : RegId) : Bool := regsOfHbm.contains r

/-- Whether a register belongs to a paddock in the intake: its counters, and its completion domains (R70, R199). -/
def State.ofPad (s : State) (p : Nat) (r : RegId) (i : Nat) : Bool :=
  match r with
  | .GI_PAD_OCC | .GI_PAD_RATE | .GI_PAD_COUNT | .GI_PAD_REFUSE | .GI_PAD_TAGPTR => i == p
  | .GI_CD => s.padOwns p i
  | _ => false

/-! ### Records of resets (R381, R385, R401) -/

/-- A reset entered in MGT_RST_LOG (R381, R384, R385, R401), with the low bits of the beat number. -/
def State.logReset (s : State) (level cause tile slot pad unit : Nat) : State :=
  s.setReg .MGT_RST_LOG 0 0
    (level + cause <<< 3 + (tile % 256) <<< 11 + (slot % 32) <<< 19 + (pad % 8) <<< 24 + (unit % 16) <<< 27
      + (s.beatNo % 2 ^ 24) <<< 32 + 1 <<< 63)

/-- The level codes of MGT_RST_REQ and MGT_RST_LOG (R400, R401): 1 context to 5 power cycle. -/
def levelContext : Nat := 1
def levelEngine : Nat := 2
def levelPartition : Nat := 3
def levelChip : Nat := 4
def levelPowerCycle : Nat := 5

/-- The deepest level among resets in progress (R401). -/
def deepest (l : List ResetJob) : Nat := l.foldl (fun m j => max m j.level) 0

/-- MGT_RST_STAT.active brought up to date. -/
def State.settleActive (s : State) : State :=
  s.put MGT_RST_STAT_active (max (deepest s.recovery.running) (deepest s.recovery.waiting))

/-- A reset that starts (R401). -/
def State.beginReset (s : State) (level unit : Nat) : State :=
  let j : ResetJob := ⟨level, unit, s.beatNo, s.beat.t⟩
  let r : Recovery := s.recovery
  { s with recovery := { r with running := r.running ++ [j] } }.settleActive

/-- The running reset of a level and unit. -/
def State.runningReset (s : State) (level unit : Nat) : Option ResetJob :=
  s.recovery.running.find? fun j => j.level == level && j.unit == unit

/-- A reset that completes: kept for the recurrence test (R382). -/
def State.finishReset (s : State) (level unit : Nat) : State :=
  if (s.runningReset level unit).isSome then
    let r : Recovery := s.recovery
    let note : ResetNote := ⟨level, unit, s.now⟩
    let s := { s with recovery := { r with
      running := r.running.filter fun (j : ResetJob) => !(j.level == level && j.unit == unit),
      done := (r.done.filter fun (n : ResetNote) => !(n.level == level && n.unit == unit)) ++ [note] } }
    (s.put MGT_RST_STAT_last level).settleActive
  else s

/-! ### Partition and chip resets (R70, R102, R386, R387) -/

/-- A tile in a partition or deeper reset: every engine cleared and held, slots, early tokens and caches emptied (R102). -/
def Tile.inFullReset (x : Tile) (now : Nat) : Tile :=
  { Tile.reset with
    inReset := [.sequencer, .matrix, .vector, .dma], cycAt := now, putNo := x.putNo }

/-- A tile taken into a partition or deeper reset, its scratchpad zeroed. -/
def State.resetTile (s : State) (t : Nat) : State :=
  let s := s.onTile t fun x => x.inFullReset s.now
  { s with meters := adel s.meters t, mem := memZero s.mem (spadKey t 0) (spadKey t 0 + spadSize) }

/-- The rest of a queued graph packet's descriptors refused with cause 8. -/
def QueuedGraph.refuseRest : Nat → QueuedGraph → QueuedGraph
  | 0, e => e
  | n + 1, e => if e.rest.isEmpty then e else (e.advance 8).refuseRest n

/-- R70 for a paddock: the queue and the request FIFO flushed and answered, grants and counters reset. -/
def State.flushPad (s : State) (p : Nat) : State :=
  let x := s.pad p
  let s := s.setPad p { x with queue := [], requests := [], retired := [] }
  let s := { s with grants := s.grants.filter fun g => g.pad != p }
  let s := x.requests.foldl (fun s r => s.answerRequest r.header r.tag 3) s
  let s := x.queue.foldl (fun s e => s.finishGraph (e.refuseRest e.rest.length)) s
  let s := if x.queue.any fun e => !e.rest.isEmpty then s.eventBit GI_EVT_refused p else s
  (s.resetRegs 3 (s.ofPad p)).rearm p

/-- A range without another one. -/
def rangeMinus (o : Nat × Nat) (r : Nat × Nat) : List (Nat × Nat) :=
  [(r.1, min r.2 o.1), (max r.1 o.2, r.2)].filter fun q => decide (q.1 < q.2)

/-- A list of ranges without those of another list. -/
def rangesMinus (rs : List (Nat × Nat)) : List (Nat × Nat) → List (Nat × Nat)
  | [] => rs
  | o :: os => rangesMinus (if o.1 < o.2 then rs.flatMap (rangeMinus o) else rs) os

/-- The valid windows of a paddock (R277). -/
def State.windowsOf (s : State) (p : Nat) : List Nat :=
  (List.range 64).filter fun w => s.flag RTR_WIN_BASE_valid w && s.fld RTR_WIN_BASE_paddock w == p

/-- A window as a range of HBM offsets. -/
def State.windowRange (s : State) (w : Nat) : Nat × Nat := (s.fld RTR_WIN_BASE_base w, s.fld RTR_WIN_LIM_limit w)

/-- The HBM ranges that a partition reset of a paddock zeroes (R387): in a window of it, and in no valid window of another
paddock. -/
def State.zeroRanges (s : State) (p : Nat) : List (Nat × Nat) :=
  let mine := (s.windowsOf p).map s.windowRange
  let others := (List.range 64).filter fun w => s.flag RTR_WIN_BASE_valid w && s.fld RTR_WIN_BASE_paddock w != p
  rangesMinus (mine.filter fun r => decide (r.1 < r.2)) (others.map s.windowRange)

/-- The whole 1 MiB regions of a range. -/
def wholeRegions (r : Nat × Nat) : Nat × Nat := ((r.1 + 1048575) / 1048576, r.2 / 1048576)

/-- A range of HBM zeroed: its errors are gone, and its whole regions are marked pending (R387). An access to a pending
region finds zeros, as the region is zeroed first. -/
def State.zeroHbm (s : State) (r : Nat × Nat) : State :=
  let keep := fun g => !(decide (r.1 ≤ g * 64) && decide (g * 64 < r.2))
  let w := wholeRegions r
  let s := { s with
    mem := memZero s.mem r.1 r.2, hbmUe := s.hbmUe.filter keep, hbmCe := s.hbmCe.filter keep,
    hbmOndie := s.hbmOndie.filter keep }
  if w.1 < w.2 then s.onRec fun x => { x with zero := x.zero ++ [w] } else s

/-- The tiles of a paddock. -/
def State.tilesOf (s : State) (p : Nat) : List Nat := (List.range 144).filter fun t => s.padOfTile t == some p

/-- A partition reset of a paddock starts (R386). -/
def State.startPartition (s : State) (p : Nat) : State :=
  let s := (s.beginReset levelPartition p).loseCopy 1
  let s := { s with padReset := if s.padReset.contains p then s.padReset else s.padReset ++ [p] }
  let s := s.discardHeld (fun h => h.pad == p) 3
  let s := (s.entriesOf (some p)).foldl (fun s e => s.resetEntry e) s
  let s := s.flushPad p
  let ts := s.tilesOf p
  let s := ts.foldl (fun s t => s.resetTile t) s
  let s := s.resetRegs 3 fun r i => r.ofTile && ts.contains i
  (s.zeroRanges p).foldl (fun s r => s.zeroHbm r) s

/-- A chip reset starts (R17, R217, R228, R386, R425); a structure reload clears the locks of R413. It takes over the
partition resets that run (R16). -/
def State.startChip (s : State) : State :=
  let s := (s.beginReset levelChip 0).loseCopy 2
  let s := { s with chipReset := true, padReset := [] }
  let s := if s.recovery.reload.isSome then (s.put GI_CTRL_lock 0).put RTR_CTRL_lock 0 else s
  let s := s.discardHeld (fun _ => true) 3
  let s := (s.entriesOf none).foldl (fun s e => s.resetEntry e) s
  let s := (List.range 8).foldl (fun s p => s.flushPad p) s
  let s := (List.range 144).foldl (fun s t => s.resetTile t) s
  let s := s.resetRegs 4 fun r _ => r.ofTile || r.ofHbm || r == .GI_CD
  let s := { s with
    mem := [], hbmUe := [], hbmCe := [], hbmOndie := [], reads := [], hbmCool := [], bankActs := [], gets := [],
    muster := { s.muster with got := [] } }
  let s := s.onRec fun x => { x with zero := [] }
  (s.put MGT_CAP_ID_valid 0).put FUS_STAT_kat_done 0

/-! ### The dump before a reset (R393, R396, R398) -/

/-- Whether the dump area holds a dump that is not drained. -/
def State.dumpHeld (s : State) : Bool := s.flag FWU_DUMP_STAT_held

/-- How wide the scope of a dump is (R393): a partition; the chip, also for a dump without a reset (level 0); or the chip
with the power controller and the interrupt controllers. -/
def dumpRank (level : Nat) : Nat := if level = 3 then 1 else if level = 5 then 3 else 2

/-- A running dump that another cause joins (R398): it takes the wider scope, and the level and cause of the deeper reset. -/
def DumpJob.widen (d : DumpJob) (level cause : Nat) (pads : List Nat) : DumpJob :=
  let wider := decide (dumpRank d.level < dumpRank level) || (d.level == 0 && level == 4)
  { d with
    level := if wider then level else d.level, cause := if wider && level != 0 then cause else d.cause,
    pads := d.pads ++ pads.filter fun p => !d.pads.contains p }

/-- A dump asked for (R393, R396, R398): a running one widens; while one is held it is skipped. Answers whether a dump now
runs. -/
def State.askDump (s : State) (level cause : Nat) (pads : List Nat) : Bool × State :=
  match s.recovery.dumping with
  | some d =>
    (true, s.onRec fun x => { x with dumping := some (d.widen level cause pads) })
  | none =>
    if !s.flag FWU_DUMP_CTRL_enable then (false, s)
    else if s.dumpHeld then (false, s.satCount FWU_DUMP_STAT_skipped)
    else
      let s := s.onRec fun x => { x with dumping := some ⟨level, cause, pads, s.beatNo, s.beat.t, []⟩ }
      (true, s.put FWU_DUMP_STAT_busy 1)

/-! ### Requests and absorption (R16, R381 to R385) -/

/-- The tile of a context or engine unit. -/
def unitTile (level unit : Nat) : Nat := if level = 1 then unit / 32 else unit / 8

/-- Whether an engine reset of a slot's tile takes the slot in: it aborts the task in RUN, and a slot in ABORT is already on
its way to FREE (R71, R102). -/
def State.slotStops (s : State) (u : Nat) : Bool :=
  let st := ((s.tile (u / 32)).slot (u % 32)).state
  st == .run || st == .abort

/-- The engine of an engine-reset unit (R15): the four channels, units 3 to 6, are one tile DMA. -/
def unitEngine (unit : Nat) : Nat := if 3 ≤ unit % 8 && unit % 8 ≤ 6 then 3 else unit % 8

/-- Whether the reach of a reset takes in a unit at its level or a shallower one (R15, R16). -/
def State.inReach (s : State) (level unit l u : Nat) : Bool :=
  if 4 ≤ level then true
  else if level = 3 then (if l = 3 then u == unit else decide (l < 3) && s.padOfTile (unitTile l u) == some unit)
  else if level = 2 then
    decide (l ≤ 2) && unitTile l u == unit / 8
      && (if l = 1 then s.slotStops u else unit % 8 == 7 || unitEngine unit == unitEngine u)
  else l == 1 && u == unit

/-- The record of a reset in MGT_RST_LOG (R385, R401). -/
def State.logUnit (s : State) (level unit cause : Nat) : State :=
  match level with
  | 1 => s.logReset 1 cause (unit / 32) (unit % 32) ((s.padOfTile (unit / 32)).getD 0) 0
  | 2 => s.logReset 2 cause (unit / 8) 0 ((s.padOfTile (unit / 8)).getD 0) (unit % 8)
  | 3 => s.logReset 3 cause 0 0 unit 0
  | _ => s.logReset level cause 0 0 0 0

/-- An absorbed request recorded (R385). -/
def State.absorb (s : State) (level : Nat) : State := (s.put MGT_RST_LOG_absorbed 1).put MGT_RST_LOG_absorbed_level level

/-- The resets that an earlier one waits behind: those pending or running at a deeper or equal level whose reach takes in
a unit. -/
def State.covers (s : State) (level unit : Nat) : Bool :=
  (s.recovery.waiting ++ s.recovery.running).any fun j => decide (level ≤ j.level) && s.inReach j.level j.unit level unit

/-! ### Escalation (R382) -/

/-- The action code of a level (R381). -/
def State.watchAct (s : State) (level : Nat) : Nat :=
  match level with
  | 1 => s.fld MGT_WATCH_ACT_ctx
  | 2 => s.fld MGT_WATCH_ACT_eng
  | 3 => s.fld MGT_WATCH_ACT_part
  | _ => s.fld MGT_WATCH_ACT_chip

/-- Whether a unit's last reset of the level completed within recur_ms (R382). -/
def State.recurs (s : State) (level unit : Nat) : Bool :=
  s.recovery.done.any fun n => n.level == level && s.inReach level n.unit level unit
    && decide (s.now ≤ n.at_ + max 1 (s.fld MGT_WATCH_ACT_recur_ms) * 10000000)

end Sys2Proof.Machine
end

