-- ==== Sys2Proof/Machine/Seq.lean ====
section
/-! DEFINITION. The tile sequencer's shared operations: instruction fields (R147, R148), registers (R142), faults and
aborts (R177 to R183), engine resets of a tile (R71, R102), entry to S level (R145), and issue (R143). -/
namespace Sys2Proof.Machine

-- The fields of an instruction word (R147, R148).
def iOp (w : Nat) : Nat := bitsOf w 63 58
def iPr (w : Nat) : Nat := bitsOf w 57 55
def iPn (w : Nat) : Bool := bitAt w 54
def iF1 (w : Nat) : Nat := bitsOf w 53 49
def iF2 (w : Nat) : Nat := bitsOf w 48 44
def iF3 (w : Nat) : Nat := bitsOf w 43 39
def iF4 (w : Nat) : Nat := bitsOf w 38 34
def iFnR (w : Nat) : Nat := bitsOf w 33 22
def iFnI (w : Nat) : Nat := bitsOf w 43 36
def iImm36 (w : Nat) : Nat := sext64 36 (bitsOf w 35 0)
def iImm48 (w : Nat) : Nat := sext64 48 (bitsOf w 47 0)
def iCond (w : Nat) : Nat := bitsOf w 43 40
def iOff40 (w : Nat) : Int := signedOf 40 (bitsOf w 39 0)
def iSz (w : Nat) : Nat := bitsOf w 43 41
def iSubM (w : Nat) : Nat := bitsOf w 40 38
def iDisp (w : Nat) : Nat := sext64 38 (bitsOf w 37 0)
def iPm (w : Nat) : Nat := bitsOf w 33 31
def iFmt (w : Nat) : Nat := bitsOf w 30 27
def iRm (w : Nat) : Nat := bitsOf w 26 24
def iFnV (w : Nat) : Nat := bitsOf w 23 13
def iGs (w : Nat) : Nat := bitsOf w 12 8
def iImm8 (w : Nat) : Nat := bitsOf w 7 0
def iSubE (w : Nat) : Nat := bitsOf w 33 31
def iCtl (w : Nat) : Nat := bitsOf w 30 0
def iFnS (w : Nat) : Nat := bitsOf w 33 28
def iImmS (w : Nat) : Nat := bitsOf w 27 0

/-! ### Registers (R142, R144) -/

/-- A read of g register `r`: g0 is zero, and g24–g31 come from the S bank at S level. -/
def Tile.gr (x : Tile) (r : Nat) : Nat :=
  if r = 0 then 0
  else if x.sLevel && 24 ≤ r then (lget x.gS (r - 24) 0).toNat
  else (lget x.g r 0).toNat

/-- A write of g register `r`: a write to g0 is discarded. -/
def Tile.setG (x : Tile) (r v : Nat) : Tile :=
  if r = 0 then x
  else if x.sLevel && 24 ≤ r then { x with gS := lset x.gS (r - 24) (BitVec.ofNat 64 v) }
  else { x with g := lset x.g r (BitVec.ofNat 64 v) }

/-- A write of g register `r` in the bank of a level. -/
def Tile.setGAt (x : Tile) (sup : Bool) (r v : Nat) : Tile := { ({ x with sLevel := sup }.setG r v) with sLevel := x.sLevel }

/-- A read of predicate `r`: p0 is all ones. -/
def Tile.pr (x : Tile) (r : Nat) : Nat := if r = 0 then 2 ^ 64 - 1 else (lget x.p r 0).toNat

/-- A write of predicate `r`: a write to p0 is discarded. -/
def Tile.setP (x : Tile) (r v : Nat) : Tile := if r = 0 then x else { x with p := lset x.p r (BitVec.ofNat 64 v) }

/-- PC + 8. -/
def nextPc (pc : BitVec 40) : BitVec 40 := pc + 8

/-- The tile with its PC moved past the instruction. -/
def Tile.advance (x : Tile) : Tile := { x with pc := nextPc x.pc }

/-- A vector register. -/
def Tile.vr (x : Tile) (r : Nat) : Nat := (lget x.v r 0).toNat

/-- A tile with a vector register replaced. -/
def Tile.setV (x : Tile) (r v : Nat) : Tile := { x with v := lset x.v r (BitVec.ofNat 2048 v) }

/-- A plane. -/
def Tile.plane (x : Tile) (k : Nat) : Plane := lget x.planes k Plane.zero

/-- A tile with a plane replaced. -/
def Tile.setPlane (x : Tile) (k : Nat) (p : Plane) : Tile := { x with planes := lset x.planes k p }

/-! ### The fault record (R180, R182, R183) -/

/-- A fault recorded: the first since TL_FAULT.valid was cleared; a later one sets more (R180). -/
def State.recordFault (s : State) (t cause : Nat) (level precise : Bool) (slot unit task pc addr : Nat) : State :=
  if s.flag TL_FAULT_valid t then s.event TL_FAULT_more t
  else
    let v := cause + natOfBool level <<< 5 + natOfBool precise <<< 6 + 1 <<< 7
      + bitsOf (s.reg .TL_FAULT t) 8 8 <<< 8 + slot <<< 9 + unit <<< 16 + task <<< 32
    let s := s.setReg .TL_FAULT t 0 v
    let s := s.setReg .TL_FAULT_PC t 0 (pc % 2 ^ 40)
    s.setReg .TL_FAULT_ADDR t 0 addr

/-! ### Aborts and engine resets (R58, R71, R102) -/

/-- A channel without the commands of the slots that `q` names (R102): what waits to be sent again is dropped, and what
was sent stays, marked as of a discarded command. -/
def DmaChan.dropWhere (c : DmaChan) (q : Nat → Bool) : DmaChan :=
  ⟨c.queue.filter fun d => !q d.slot,
    (c.awaits.filter fun a => !(q a.slot && a.waiting)).map fun a => if q a.slot then { a with gone := true } else a,
    (c.flags.filter fun f => !(q f.slot && f.waiting)).map fun f => if q f.slot then { f with gone := true } else f,
    c.since⟩

/-- A channel without the commands of one slot. -/
def DmaChan.drop (c : DmaChan) (k : Nat) : DmaChan := c.dropWhere fun j => j == k

/-- Whether a put whose data a GET_REQ brings still has that GET_REQ at its channel (R164, R165). -/
def Tile.fetched (x : Tile) (o : OutPut) : Bool :=
  (x.chan o.chan).awaits.any fun a => a.packet.type == tGET_REQ
    && decide ((a.packet.word 3) ≤ o.packet.addr) && decide (o.packet.addr < a.packet.word 3 + bitsOf (a.packet.word 4) 31 0)

/-- The tile without the puts whose GET_REQ its channel no longer holds (R102, R165). -/
def Tile.prune (x : Tile) : Tile := { x with puts := x.puts.filter fun o => o.packet.type != tGET_DATA || x.fetched o }

/-- A packet that joins the outbound token queue (R61); the queue's watch timer starts where it was empty (R378). -/
def Tile.queueToken (x : Tile) (now : Nat) (q : QueuedToken) : Tile :=
  { x with tokq := x.tokq ++ [q], watch := if x.tokq.isEmpty then { x.watch with tok := now } else x.watch }

/-- The commands of a slot's task discarded (R102). -/
def Tile.dropCommands (x : Tile) (k : Nat) : Tile :=
  ({ x with
    matq := x.matq.filter fun c => c.slot != k,
    vecq := x.vecq.filter fun c => c.slot != k,
    dma := x.dma.map fun c : DmaChan => c.drop k }).prune

/-- A context abort of a slot (R58, R102): the slot goes to ABORT and its task's commands are discarded; for a task in
RUN the sequencer's wait ends, and the ready logic of the idle sequencer runs (R67). -/
def State.abortSlot (s : State) (t k : Nat) : State :=
  let run := ((s.tile t).slot k).state == .run
  let s := s.onTile t fun x =>
    let sl := x.slot k
    let x := x.dropCommands k
    let x := if run then
        { x with wait := if x.sLevel then x.wait else none, watch := { x.watch with task := s.now } }
      else x
    x.setSlot k { sl with state := .abort }
  if run then s.markReady t else s

/-- An engine of a tile held in reset until its reset ends. -/
def State.engineHold (s : State) (t : Nat) (e : Engine) : State :=
  let s := s.rebase t
  s.onTile t fun x => { x with inReset := if x.inReset.contains e then x.inReset else x.inReset ++ [e] }

/-- What an engine reset clears in a tile (R102). -/
def Tile.clearEngine (x : Tile) : Engine → Tile
  | .sequencer =>
    { x with
      g := List.replicate 32 0, gS := List.replicate 8 0, pc := 0, sLevel := false, vxflags := 0, epc := 0,
      prev := false, ie := true, ecause := 0, escr0 := 0, escr1 := 0, wait := none, stores := [], icache := [],
      tokq := [], tokSent := [], refused := [], icOp := false, cmdNo := 0 }
  | .matrix => { x with matq := [], planes := List.replicate 4 Plane.zero }
  | .vector => { x with vecq := [], v := List.replicate 32 0, p := List.replicate 8 0 }
  | .dma => ({ x with dma := x.dma.map fun c : DmaChan => c.dropWhere fun _ => true }).prune

/-- An engine reset (R71, R102): the task in RUN is aborted, the engine is cleared and held until its reset ends. An
engine reset of the sequencer also clears TIC_INSVC (R477, R478). -/
def State.engineReset (s : State) (t : Nat) (e : Engine) : State :=
  let s := s.engineHold t e
  let s := match (s.tile t).runSlot with
    | some k => s.abortSlot t k
    | none => s
  let s := s.onTile t fun x => x.clearEngine e
  if e = .sequencer then s.setReg .TIC_INSVC t 0 0 else s

/-- The slot and task ID of the task in RUN. -/
def State.runTask (s : State) (t : Nat) : Nat × Nat :=
  match (s.tile t).runSlot with
  | some k => (k, dTaskId ((s.tile t).slot k).desc)
  | none => (0, 0)

/-- The slot that a command belongs to: that of the task in RUN, or 32, which is none, where the handler issues it (R144). -/
def State.cmdSlot (s : State) (t : Nat) : Nat := if (s.tile t).sLevel then 32 else (s.runTask t).1

/-- The unit codes of TL_FAULT.unit (R182). -/
def unitSeq : Nat := 0
def unitMatrix : Nat := 1
def unitVector : Nat := 2
def unitDma (c : Nat) : Nat := 3 + c
def unitFetch : Nat := 8

/-! ### Context aborts, reset requests and escalation (R16, R58, R381 to R385, R389) -/

/-- A context abort of a slot in WAIT, READY or RUN (R58, R105, R177): recorded with cause 0x10. -/
def State.contextAbort (s : State) (t k : Nat) : State :=
  let x := s.tile t
  let sl := x.slot k
  match sl.state with
  | .run =>
    let pc := if x.sLevel then x.epc.toNat else x.pc.toNat
    (s.recordFault t 0x10 false false k unitSeq (dTaskId sl.desc) pc 0).abortSlot t k
  | .wait | .ready =>
    (s.recordFault t 0x10 false false k unitSeq (dTaskId sl.desc) (dEntry sl.desc) 0).abortSlot t k
  | _ => s

/-- A reset of a level at a unit starts at once. -/
def State.startReset (s : State) (level unit : Nat) : State :=
  match level with
  | 1 =>
    let s := s.contextAbort (unit / 32) (unit % 32)
    if ((s.tile (unit / 32)).slot (unit % 32)).state = .abort then s.beginReset 1 unit else s
  | 2 =>
    let t := unit / 8
    let s := match unit % 8 with
      | 0 => s.engineReset t .sequencer
      | 1 => s.engineReset t .matrix
      | 2 => s.engineReset t .vector
      | 7 => (((s.engineReset t .sequencer).engineReset t .matrix).engineReset t .vector).engineReset t .dma
      | _ => s.engineReset t .dma
    s.beginReset 2 unit
  | 3 => s.startPartition unit
  | 4 => s.startChip
  | _ => (s.onRec fun x => { x with pcWaits := true, mustDrain := s.dumpHeld }).beginReset levelPowerCycle 0

/-- A reset request (R16, R384, R385, R389, R393): absorbed by a deeper one, else logged; a partition or deeper one is
counted, tells the fabric manager and waits for its dump. -/
def State.requestReset (s : State) (level unit cause : Nat) (noDump : Bool) : State :=
  if s.covers level unit then s.absorb level
  else
    let s := if level = 4 then s.onRec fun x => { x with retried := false } else s
    let s := s.logUnit level unit cause
    let inner := fun j : ResetJob => s.inReach level unit j.level j.unit
    let old := (s.recovery.waiting ++ s.recovery.running).filter inner
    let s := s.onRec fun x => { x with
      waiting := x.waiting.filter (fun j => !inner j), running := x.running.filter fun j => !inner j }
    let s := if old.isEmpty then s else s.absorb (deepest old)
    if level ≤ 2 then (s.startReset level unit).settleActive
    else
      let s := s.wrapCount MGT_RST_STAT_resets
      let s := s.sendPeerState 1 level (if level = 3 then s.fld GI_PAD_CFG_partition unit else 0) s.beatNo s.beat.t
      let d := if noDump then (false, s) else s.askDump level cause (if level = 3 then [unit] else [])
      if d.1 then
        (d.2.onRec fun x => { x with waiting := x.waiting ++ [⟨level, unit, d.2.beatNo, d.2.beat.t⟩] }).settleActive
      else (d.2.startReset level unit).settleActive

/-- A reset that escalates to the next deeper level (R382): a chip reset is retried once, and after that the compute dies
stay held in reset. -/
def State.escalate (s : State) (level unit cause : Nat) : State :=
  let s := s.event MGT_RST_EVT_escalated
  match level with
  | 1 => s.requestReset 2 (unit / 32 * 8) cause false
  | 2 =>
    match s.padOfTile (unit / 8) with
    | some p => s.requestReset 3 p cause false
    | none => s.requestReset 4 0 cause false
  | 3 => s.requestReset 4 0 cause false
  | _ =>
    if 2 ≤ s.fld MGT_WATCH_ACT_pcyc then s.requestReset 5 0 cause false
    else if s.recovery.retried then
      let s := if s.chipReset then s else s.requestReset 4 0 cause false
      s.put MGT_RST_STAT_stuck 1
    else
      let s := s.onRec fun x => { x with running := x.running.filter fun j => j.level != 4 }
      (s.requestReset 4 0 cause false).onRec fun x => { x with retried := true }

/-- The reset of the sequencer after a fault at S level (R177, R384): logged with cause 5 and counted towards recurrence,
where it escalates with action 3 as a watch that fires does. -/
def State.sLevelReset (s : State) (t : Nat) : State :=
  let s := s.engineReset t .sequencer
  if s.watchAct levelEngine = 3 && s.recurs levelEngine (t * 8) then s.escalate levelEngine (t * 8) 2
  else s.requestReset levelEngine (t * 8) 5 false

/-! ### Faults (R177 to R179) -/

/-- A precise fault at the present instruction (R177, R179): at T level the task is aborted; at S level the sequencer is
reset, and the reset is logged at engine level with cause 5 (R384). -/
def State.preciseFault (s : State) (t cause : Nat) (pc addr unit : Nat) : State :=
  let x := s.tile t
  if x.sLevel then
    let s := s.recordFault t cause true true 0 unit 0 pc addr
    s.sLevelReset t
  else
    let kt := s.runTask t
    let s := s.recordFault t cause false true kt.1 unit kt.2 pc addr
    match x.runSlot with
    | some k => s.abortSlot t k
    | none => s

/-- An imprecise fault that an engine or channel reports (R179): the task in RUN is aborted; the handler at S level goes
on (R145), also where the command was its own (log entry 130). -/
def State.impreciseFault (s : State) (t cause unit pc : Nat) : State :=
  let kt := s.runTask t
  let s := s.recordFault t cause false false kt.1 unit kt.2 pc 0
  match (s.tile t).runSlot with
  | some k => s.abortSlot t k
  | none => s

/-- An imprecise fault of the sequencer's own access (R93, R96, R177): at T level the task is aborted, at S level the
sequencer is reset. -/
def State.ownFault (s : State) (t cause : Nat) (pc : Nat) : State :=
  if (s.tile t).sLevel then
    let s := s.recordFault t cause true false 0 0 0 pc 0
    s.sLevelReset t
  else s.impreciseFault t cause 0 pc

/-- The fault of a data-cache write-back that HBM did not perform (R96): the event, and an imprecise fault of the task
in RUN. -/
def State.writeBackFault (s : State) (t : Nat) : State :=
  let s := s.event TL_EVT_dcache_ue t
  if (s.tile t).runSlot.isSome then s.impreciseFault t 0x09 unitSeq (s.tile t).pc.toNat else s

/-! ### Entry to S level and return (R145) -/

/-- The entry to S level: prev, cause and ie set, the S bank selected, PC at TL_SEQ_EVEC. -/
def State.enterS (s : State) (t cause : Nat) (epc : BitVec 40) : State :=
  s.onTile t fun x =>
    { x with
      prev := x.sLevel, ecause := BitVec.ofNat 16 cause, ie := false, sLevel := true, epc := epc, wait := none,
      pc := BitVec.ofNat 40 (s.fld TL_SEQ_EVEC_evec t * 8),
      watch := if x.sLevel then x.watch else { x.watch with sup := s.now } }

/-- The return from S level: the level restored, the T bank selected, ie set, PC from EPC. -/
def Tile.returnS (x : Tile) : Tile := { x with sLevel := x.prev, ie := true, pc := x.epc }

/-! ### Issue (R143, R147, R177) -/

/-- Whether the sequencer has an instruction stream to issue from: a task in RUN or the handler, not
waiting, not held, and its gate open (R436, R444). -/
def State.seqActive (s : State) (t : Nat) : Bool :=
  decide (t < 144) && !s.tileHeld t && s.gateOpen t && ((s.tile t).sLevel || (s.tile t).runSlot.isSome) && (s.tile t).wait.isNone

/-- Whether the guard of a word is true (R143). -/
def Tile.guard (x : Tile) (w : Nat) : Bool := bitAt (x.pr (iPr w)) 0 != iPn w

/-- The g registers that a queued vector command will write (R161). -/
def VecCmd.gDest (c : VecCmd) : List Nat := if c.op = .moveToG then [iGs c.word] else []

/-- The predicates that a queued vector command will write (R161). -/
def VecCmd.pDest (c : VecCmd) : List Nat :=
  match c.op with
  | .fcmp _ _ => [iF1 c.word]
  | .icmp _ => [iF1 c.word]
  | _ => []

/-- Whether an instruction that uses these g registers and predicates waits for a pending vector result (R161): of g24–g31,
one in the bank of the present level. -/
def Tile.pendingUse (x : Tile) (gs ps : List Nat) : Bool :=
  x.vecq.any fun c => (c.gDest.any fun r => gs.contains r && (decide (r < 24) || c.sup == x.sLevel))
    || (c.pDest.any fun r => ps.contains r)

/-- An instruction with its uses: the g registers and predicates that it reads or writes. -/
structure Uses where
  gs : List Nat
  ps : List Nat

/-- The effect of one command that names an instruction of a class. `accepts` tells the words of the class, `legal` the
ones of them that decoding takes, `uses` their registers. Where the word at the PC is not of the class, is not in the
instruction cache, or waits for a register, nothing happens. A fetch beyond the installed HBM capacity faults (R152). A
false guard has no effect but the advance (R143); a true one runs `act`. -/
def State.issue (s : State) (t : Nat) (accepts legal : Nat → Bool) (uses : Nat → Uses)
    (act : State → Nat → State) : State :=
  if !s.seqActive t then s
  else
    let x := s.tile t
    let pc := x.pc.toNat
    if s.hbmCap ≤ pc then s.preciseFault t 0x03 pc (hbmAddr s.selfId pc) unitFetch
    else
      match x.fetch pc with
      | none => s
      | some w =>
        if !accepts w then s
        else if !legal w then s.preciseFault t 0x01 pc 0 unitSeq
        else if x.pendingUse (uses w).gs (iPr w :: (uses w).ps) then s
        else if !x.guard w then (s.setTile t x.advance).tally t 0x001
        else act s w

/-- An instruction that retires: the result `f` on the tile, the PC past it, and the tally event (R468). -/
def State.retire (s : State) (t : Nat) (f : Tile → Tile) : State := (s.onTile t fun x => (f x).advance).tally t 0x001

/-- A precise fault of the instruction at the PC. -/
def State.faultHere (s : State) (t cause addr : Nat) : State := s.preciseFault t cause (s.tile t).pc.toNat addr unitSeq

/-- The words of one major opcode. -/
def hasOp (op : Nat) (w : Nat) : Bool := iOp w == op

/-- The producer word of R360 for the task in RUN: tile, task ID and start count. -/
def State.producerA (s : State) (t : Nat) : Nat :=
  match (s.tile t).runSlot with
  | some k => t * 2 ^ 56 + dTaskId ((s.tile t).slot k).desc * 2 ^ 24 + ((s.tile t).slot k).startCount % 2 ^ 24
  | none => t * 2 ^ 56

end Sys2Proof.Machine
end

