-- ==== Sys2Proof/Machine/Scalar.lean ====
section
/-! DEFINITION. Scalar, predicate and branch instructions (R151, R152). -/
namespace Sys2Proof.Machine

/-- A relation between two 64-bit values; lt, le, gt, ge are signed, ltu and geu unsigned (R151, R152). -/
def relHolds (r : Rel) (a b : Nat) : Bool :=
  match r with
  | .eq => a == b
  | .ne => a != b
  | .lt => decide (signedOf 64 a < signedOf 64 b)
  | .le => decide (signedOf 64 a ≤ signedOf 64 b)
  | .gt => decide (signedOf 64 b < signedOf 64 a)
  | .ge => decide (signedOf 64 b ≤ signedOf 64 a)
  | .ltu => decide (a < b)
  | .geu => decide (b ≤ a)
  | .unordered => false

/-- 64-bit negation as an integer truncated to 64 bits. -/
def wrap64 (x : Int) : Nat := twosOf 64 x

/-- The signed quotient and remainder of R151: division by zero gives all ones and the dividend. -/
def divS64 (a b : Nat) : Nat := if b = 0 then 2 ^ 64 - 1 else wrap64 (Int.tdiv (signedOf 64 a) (signedOf 64 b))
def remS64 (a b : Nat) : Nat := if b = 0 then a else wrap64 (Int.tmod (signedOf 64 a) (signedOf 64 b))

/-- The unsigned quotient and remainder of R151. -/
def divU64 (a b : Nat) : Nat := if b = 0 then 2 ^ 64 - 1 else a / b
def remU64 (a b : Nat) : Nat := if b = 0 then a else a % b

/-- The value of an ALU operation on 64-bit operands (R151); `p` is the selecting predicate's bit 0. A compare into a
predicate gives 0 or 1 here. -/
def aluValue (op : AluOp) (a b : Nat) (p : Bool) : Nat :=
  match op with
  | .add => (a + b) % 2 ^ 64
  | .sub => (a + (2 ^ 64 - b % 2 ^ 64)) % 2 ^ 64
  | .and => a &&& b
  | .or => a ||| b
  | .xor => a ^^^ b
  | .andn => a &&& notBits 64 b
  | .sll => (a <<< (b % 64)) % 2 ^ 64
  | .srl => a >>> (b % 64)
  | .sra => wrap64 (signedOf 64 a / 2 ^ (b % 64))
  | .cmp r => natOfBool (relHolds r a b)
  | .cmpP r => natOfBool (relHolds r a b)
  | .minS => if signedOf 64 a ≤ signedOf 64 b then a else b
  | .maxS => if signedOf 64 a ≤ signedOf 64 b then b else a
  | .minU => if a ≤ b then a else b
  | .maxU => if a ≤ b then b else a
  | .sel _ => if p then a else b
  | .clz => leadingZeros 64 a
  | .ctz => trailingZeros 64 a
  | .cpop => popCount 64 a
  | .extract pos width sg =>
    let f := (a >>> pos) % 2 ^ width
    if sg then (if width = 0 then 0 else wrap64 (signedOf width f)) else f
  | .insert pos width => (a - (((a >>> pos) % 2 ^ width) <<< pos) + ((b % 2 ^ width) <<< pos)) % 2 ^ 64
  | .mul => (a * b) % 2 ^ 64
  | .mulhS => wrap64 (signedOf 64 a * signedOf 64 b / 2 ^ 64)
  | .mulhU => a * b / 2 ^ 64
  | .divS => divS64 a b
  | .divU => divU64 a b
  | .remS => remS64 a b
  | .remU => remU64 a b

/-- A predicate with the same bit in all 64 places (R143). -/
def allBits (b : Bool) : Nat := if b then 2 ^ 64 - 1 else 0

/-- Whether a field may name a predicate: its high two bits are zero (R148). -/
def predField (f : Nat) : Bool := decide (f < 8)

/-- Whether decoding takes an ALU word under an operation: format R ends in zeros, and a predicate destination has its
high bits zero (R147, R148). -/
def aluLegal (op : AluOp) (w : Nat) : Bool :=
  (iOp w == 0x02 || bitsOf w 21 0 == 0) && (match op with | .cmpP _ => predField (iF1 w) | _ => true)

/-- The second operand of an ALU word: rb, or the immediate (R148, R149). -/
def aluB (x : Tile) (w : Nat) : Nat := if iOp w = 0x02 then iImm36 w else x.gr (iF3 w)

/-- The registers of an ALU word. -/
def aluUses (op : AluOp) (w : Nat) : Uses :=
  let gs := iF2 w :: (if iOp w = 0x02 then [] else [iF3 w])
  match op with
  | .cmpP _ => ⟨gs, [iF1 w]⟩
  | .sel p => ⟨iF1 w :: gs, [p % 8]⟩
  | _ => ⟨iF1 w :: gs, []⟩

/-- The destination of an ALU word written. -/
def aluWrite (op : AluOp) (w v : Nat) (x : Tile) : Tile :=
  match op with
  | .cmpP _ => x.setP (iF1 w) (allBits (v == 1))
  | _ => x.setG (iF1 w) v

/-- ALU (R151): register and immediate forms. -/
def execAlu (tile : Nat) (op : AluOp) (s : State) : Host.Outcome State Fault Refusal :=
  .next (s.issue tile (fun w => iOp w == 0x01 || iOp w == 0x02) (aluLegal op) (aluUses op) fun s w =>
    let x := s.tile tile
    let p := match op with
      | .sel k => bitAt (x.pr (k % 8)) 0
      | _ => false
    s.retire tile (aluWrite op w (aluValue op (x.gr (iF2 w)) (aluB x w) p)))

/-- The value of a long immediate (R148): h = 0 sign-extends, h = 1 replaces bits [63:48]. -/
def liValue (w old : Nat) : Nat := if bitAt w 48 then withBits old 63 48 (bitsOf w 15 0) else iImm48 w

/-- LI (R148, R149). -/
def execLi (tile : Nat) (s : State) : Host.Outcome State Fault Refusal :=
  .next (s.issue tile (hasOp 0x03) (fun _ => true) (fun w => ⟨[iF1 w], []⟩) fun s w =>
    s.retire tile fun x => x.setG (iF1 w) (liValue w (x.gr (iF1 w))))

/-- Whether decoding takes a predicate word under an operation (R147, R148). -/
def predLegal (op : PredOp) (w : Nat) : Bool :=
  bitsOf w 21 0 == 0 &&
    (match op with
      | .fromG => predField (iF1 w)
      | .toG => predField (iF2 w)
      | .cmp _ => predField (iF1 w)
      | .not => predField (iF1 w) && predField (iF2 w)
      | _ => predField (iF1 w) && predField (iF2 w) && predField (iF3 w))

/-- The registers of a predicate word. -/
def predUses (op : PredOp) (w : Nat) : Uses :=
  match op with
  | .fromG => ⟨[iF2 w], [iF1 w]⟩
  | .toG => ⟨[iF1 w], [iF2 w]⟩
  | .cmp _ => ⟨[iF2 w, iF3 w], [iF1 w]⟩
  | _ => ⟨[], [iF1 w, iF2 w, iF3 w]⟩

/-- The effect of a predicate word (R151). -/
def predWrite (op : PredOp) (w : Nat) (x : Tile) : Tile :=
  let a := x.pr (iF2 w % 8)
  let b := x.pr (iF3 w % 8)
  match op with
  | .and => x.setP (iF1 w) (a &&& b)
  | .or => x.setP (iF1 w) (a ||| b)
  | .xor => x.setP (iF1 w) (a ^^^ b)
  | .not => x.setP (iF1 w) (notBits 64 a)
  | .fromG => x.setP (iF1 w) (x.gr (iF2 w))
  | .toG => x.setG (iF1 w) a
  | .cmp r => x.setP (iF1 w) (allBits (relHolds r (x.gr (iF2 w)) (x.gr (iF3 w))))

/-- PREDICATE (R151). -/
def execPredicate (tile : Nat) (op : PredOp) (s : State) : Host.Outcome State Fault Refusal :=
  .next (s.issue tile (hasOp 0x04) (predLegal op) (predUses op) fun s w => s.retire tile (predWrite op w))

/-- Whether a branch condition holds (R152). -/
def brTaken (x : Tile) (w : Nat) : Bool :=
  let a := x.gr (iF1 w)
  let b := x.gr (iF2 w)
  match iCond w with
  | 0 => relHolds .eq a b
  | 1 => relHolds .ne a b
  | 2 => relHolds .lt a b
  | 3 => relHolds .ge a b
  | 4 => relHolds .ltu a b
  | 5 => relHolds .geu a b
  | 6 => bitAt (x.pr (iF1 w % 8)) 0
  | _ => !bitAt (x.pr (iF1 w % 8)) 0

/-- The target of a relative jump as an integer, for the check of R152 at its fetch. -/
def brTargetInt (x : Tile) (w : Nat) : Int := (x.pc.toNat : Int) + iOff40 w * 8

/-- A jump to a target (R152): one that lies below zero or at or above the installed capacity raises an address fault
at its fetch, with the target in FAULTPC (log entry 134). -/
def State.jumpTo (s : State) (t : Nat) (target : Int) : State :=
  if target < 0 || (s.hbmCap : Int) ≤ target then
    let p := twosOf 40 target
    s.preciseFault t 0x03 p (hbmAddr s.selfId p) unitFetch
  else s.onTile t fun x => { x with pc := BitVec.ofNat 40 target.toNat }

/-- BR (R152): conditions 8 to 15 are reserved; a predicate test names its predicate in ra. -/
def execBr (tile : Nat) (s : State) : Host.Outcome State Fault Refusal :=
  .next (s.issue tile (hasOp 0x08)
    (fun w => decide (iCond w < 8) && (decide (iCond w < 6) || predField (iF1 w)))
    (fun w => if iCond w < 6 then ⟨[iF1 w, iF2 w], []⟩ else ⟨[], [iF1 w]⟩)
    fun s w =>
      let x := s.tile tile
      let s := s.tally tile 0x001
      if brTaken x w then s.jumpTo tile (brTargetInt x w) else s.onTile tile Tile.advance)

/-- J (R152): the link PC + 8, and the jump. -/
def execJ (tile : Nat) (s : State) : Host.Outcome State Fault Refusal :=
  .next (s.issue tile (hasOp 0x09) (fun w => iF2 w == 0 && iCond w == 0) (fun w => ⟨[iF1 w], []⟩) fun s w =>
    let x := s.tile tile
    let s := (s.onTile tile fun x => x.setG (iF1 w) (nextPc x.pc).toNat).tally tile 0x001
    s.jumpTo tile (brTargetInt x w))

/-- The target of JR: ra + imm, signed (R152). -/
def jrTarget (x : Tile) (w : Nat) : Int := signedOf 64 (x.gr (iF2 w)) + signedOf 64 (iImm36 w)

/-- JR (R152): a target whose low three bits are not zero raises an alignment fault at the JR, with the target's global
address in TL_FAULT_ADDR (R183). -/
def execJr (tile : Nat) (s : State) : Host.Outcome State Fault Refusal :=
  .next (s.issue tile (hasOp 0x0A) (fun _ => true) (fun w => ⟨[iF1 w, iF2 w], []⟩) fun s w =>
    let x := s.tile tile
    let target := jrTarget x w
    if target % 8 != 0 then s.faultHere tile 0x04 (hbmAddr s.selfId (twosOf 40 target))
    else
      let s := (s.onTile tile fun x => x.setG (iF1 w) (nextPc x.pc).toNat).tally tile 0x001
      s.jumpTo tile target)

end Sys2Proof.Machine
end

