-- ==== Sys2Proof/Machine/Access.lean ====
section
/-! DEFINITION. The address rules of scalar and vector memory accesses (R153), and the scratchpad and HBM as the
sequencer and the vector engine see them. -/
namespace Sys2Proof.Machine

/-- Where an access goes, or the fault it raises (R153). -/
inductive Target where
  | hbm (off : Nat)
  | spad (off : Nat)
  | reg (off : Nat)
  | fault (cause : Nat)
  deriving DecidableEq, Repr

/-- The BAR0 offset of a tile's register block (R29). -/
def tileBlock (t : Nat) : Nat := 0x1000000 + t * 0x40000

/-- Whether a BAR0 offset lies in a tile's register block. -/
def inTileBlock (t off : Nat) : Bool := decide (tileBlock t ≤ off) && decide (off < tileBlock t + 0x40000)

/-- The target of an access of `n` bytes at address `a` by tile `t` (R153). `regs` tells whether the instruction may
reach registers; `align` is the alignment it needs. An address or privilege fault goes before an alignment fault (the
own register block: log entry 134). -/
def State.target (s : State) (t a n align : Nat) (regs : Bool) : Target :=
  if malformed a || !s.isOwn (gaNode a) then .fault 0x03
  else
    match gaSpace a with
    | 0 =>
      if !s.rangeOk a n || !s.hbmOn then .fault 0x03
      else if a % align != 0 then .fault 0x04 else .hbm (gaHbm a)
    | 1 =>
      if gaTile a != t || !s.rangeOk a n then .fault 0x03
      else if a % align != 0 then .fault 0x04 else .spad (gaSpad a)
    | _ =>
      let off := gaReg a
      if !inTileBlock t off then .fault 0x03
      else if !(s.tile t).sLevel then .fault 0x05
      else if !regs || n != 8 || (locateIn (off / 8 * 8) regsOfTile).isNone then .fault 0x03
      else if off % 8 != 0 then .fault 0x04
      else .reg off

/-- The bytes of a load as the store buffer shows them: the oldest store first, later ones over it (R154). -/
def overlay (a : Nat) (bs : List Byte) (st : BufStore) : List Byte :=
  (List.range bs.length).map fun i =>
    if st.addr ≤ a + i && a + i < st.addr + st.size then byteAt st.data (a + i - st.addr) else lget bs i 0

/-- The bytes at an own-node address with the buffered stores over them. -/
def overlayAll (a : Nat) (bs : List Byte) (l : List BufStore) : List Byte := l.foldl (overlay a) bs

/-- Whether the store buffer holds every byte of a range. -/
def allBuffered (a n : Nat) (l : List BufStore) : Bool :=
  (List.range n).all fun i => l.any fun st => decide (st.addr ≤ a + i) && decide (a + i < st.addr + st.size)

/-- The own-node key of a target: the address bits [47:0] (R24). -/
def Target.key (t : Nat) : Target → Nat
  | .hbm off => hbmKey off
  | .spad off => spadKey t off
  | _ => 0

/-- The value of a load of `n` bytes (R153). -/
def loadValue (n : Nat) (sg : Bool) (bs : List Byte) : Nat := if sg then sext64 (8 * n) (ofBytes bs) else ofBytes bs

/-- A line of the data cache used, where the cache holds it (R94). -/
def State.useLine (s : State) (t line : Nat) : State :=
  s.onTile t fun x => match x.dFind line with
    | some i => x.dTouch (lget x.dcache i ⟨0, 0, 0, 0, 0, 0, false, false⟩)
    | none => x

/-- A read of bytes through the data cache, lines fetched where they are not valid (R94): whether it met an uncorrectable
error. A write-back that HBM refuses faults the task (R96). -/
def State.cachedLine (s : State) (t line : Nat) (mask : BitVec 64) : Bool × State :=
  let r := s.dRead t line mask
  match r.1 with
  | .hit _ => (false, r.2)
  | .error => (true, r.2)
  | .miss =>
    let s := r.2.tally t 0x005
    let f := s.dFill t line
    let s := if f.2.1 then f.2.2.writeBackFault t else f.2.2
    (f.1, if f.1 then s else s.useLine t line)

/-- Whether an access of `n` bytes within one line finds them in the data cache, or a buffer for its miss (R219). -/
def State.lineFits (s : State) (t off n : Nat) : Bool :=
  match (s.dRead t (off / 64) (rangeMask (off % 64) n)).1 with
  | .miss => s.bufferFits off n
  | _ => true

/-- The bytes of a line in the data cache from an offset. -/
def Tile.cachedBytes (x : Tile) (off n : Nat) : List Byte :=
  match x.dFind (off / 64) with
  | some i => (lineBytes (lget x.dcache i ⟨0, 0, 0, 0, 0, 0, false, false⟩).data |>.drop (off % 64)).take n
  | none => List.replicate n 0

/-- A read of `n` bytes of own-node HBM through the data cache, line by line; the first argument bounds the lines. -/
def State.cachedRead : Nat → State → Nat → Nat → Nat → Bool × List Byte × State
  | 0, s, _, _, _ => (false, [], s)
  | k + 1, s, t, off, n =>
    if n = 0 then (false, [], s)
    else
      let m := min n (64 - off % 64)
      let r := s.cachedLine t (off / 64) (rangeMask (off % 64) m)
      let bs := (r.2.tile t).cachedBytes off m
      let q := State.cachedRead k r.2 t (off + m) (n - m)
      (r.1 || q.1, bs ++ q.2.1, q.2.2)

/-- Bytes stored to own-node HBM through the data cache, line by line. -/
def State.cachedWrite : Nat → State → Nat → Nat → List Byte → State
  | 0, s, _, _, _ => s
  | _ + 1, s, _, _, [] => s
  | k + 1, s, t, off, bs =>
    let m := 64 - off % 64
    State.cachedWrite k (s.dStore t off (bs.take m)) t (off + m) (bs.drop m)

/-- A load of the vector engine or the sequencer (R83): the scratchpad directly, HBM through the data cache. The fault cause
that it raises, 0x09 for either (R197), or 0. -/
def State.engineRead (s : State) (t : Nat) (tg : Target) (n : Nat) : Nat × List Byte × State :=
  match tg with
  | .hbm off =>
    let r := State.cachedRead (n / 64 + 2) s t off n
    (if r.1 then 0x09 else 0, r.2.1, r.2.2)
  | .spad off =>
    let r := s.spadRead t off n
    (if r.1 then 0x09 else 0, r.2.bytes (spadKey t off) n, r.2)
  | _ => (0, List.replicate n 0, s)

/-- A data write of at most 8 bytes within one word, or of whole words: the scratchpad directly, HBM through the data
cache. The fault cause that it raises, or 0. -/
def State.engineWrite (s : State) (t : Nat) (tg : Target) (bs : List Byte) : Nat × State :=
  match tg with
  | .hbm off => (0, State.cachedWrite (bs.length / 64 + 2) s t off bs)
  | .spad off =>
    if bs.length % 8 = 0 && off % 8 = 0 then (0, s.spadWrite t off bs)
    else
      let r := s.spadWritePart t off bs
      (if r.1 then 0x08 else 0, r.2)
  | _ => (0, s)

end Sys2Proof.Machine
end

