-- ==== Sys2Proof/Machine/Dma.lean ====
section
/-! DEFINITION. The tile DMA: issue, packets, gets, graph-sends, flagged writes and retries (R98 to R100, R163 to R167,
R201, R261), and TOK with the outbound token queue (R61, R168). -/
namespace Sys2Proof.Machine

/-! ### Issue (R163 to R167) -/

def dcChan (c : Nat) : Nat := bitsOf c 1 0
def dcDstDom (c : Nat) : Nat := bitsOf c 11 2
def dcAckDom (c : Nat) : Nat := bitsOf c 21 12
def dcAckEn (c : Nat) : Bool := bitAt c 22
def dcFlen (c : Nat) : Nat := bitsOf c 24 23

/-- Whether an address names the own tile's scratchpad (R164). -/
def State.inOwnSpad (s : State) (t a : Nat) : Bool := s.isOwn (gaNode a) && gaSpace a == 1 && gaTile a == t

/-- The rows of a transfer: how many, the bytes of each, the source stride and the destination stride. -/
def DmaCmd.rows (c : DmaCmd) : Nat × Nat × Nat × Nat :=
  if c.kind = .copy2d then (bitsOf c.r3 63 32, bitsOf c.r3 31 0, bitsOf c.r4 31 0, bitsOf c.r4 63 32)
  else (1, c.r3, 0, 0)

/-- The illegal-command checks of a DMA instruction (R163, R164, R166). -/
def State.dmaIllegal (s : State) (c : DmaCmd) (w : Nat) : Bool :=
  (c.kind != .flaggedWrite && c.flen != 0) || (c.kind != .copy2d && iF4 w != 0)
    || (match c.kind with
      | .copy | .copy2d => !s.isOwn (gaNode c.r1) && !s.isOwn (gaNode c.r2)
      | .fill => false
      | .graphSend => decide (c.r3 < 1) || decide (s.maxDescriptors < c.r3) || bitsOf c.r2 63 16 != 0
      | .flaggedWrite => bitsOf c.r3 63 32 != 0)

/-- The scratchpad range that a graph-send or a flagged write reads (R166, R167). -/
def DmaCmd.ownRange (c : DmaCmd) : Nat := if c.kind = .graphSend then 64 + 128 * c.r3 else 16 * (c.flen + 1)

/-- The address and alignment checks at issue, with the address recorded (R164, R166, R167; log entry 134). -/
def dmaAddrFault (c : DmaCmd) : Option (Nat × Nat) :=
  match c.kind with
  | .graphSend | .flaggedWrite =>
    if bitsOf c.r1 63 23 != 0 || decide (spadSize < bitsOf c.r1 22 0 + c.ownRange) then some (3, c.r1)
    else if c.r1 % 16 != 0 then some (4, c.r1)
    else none
  | .copy =>
    if c.r1 % 16 != 0 then some (4, c.r1) else if c.r2 % 16 != 0 then some (4, c.r2)
    else if c.r3 % 16 != 0 then some (4, 0) else none
  | .copy2d =>
    if c.r1 % 16 != 0 then some (4, c.r1) else if c.r2 % 16 != 0 then some (4, c.r2)
    else if bitsOf c.r3 31 0 % 16 != 0 || bitsOf c.r4 31 0 % 16 != 0 || bitsOf c.r4 63 32 % 16 != 0 then some (4, 0)
    else none
  | .fill => if c.r2 % 16 != 0 then some (4, c.r2) else if c.r3 % 16 != 0 then some (4, 0) else none

/-- Whether a tile's paddock owns a domain (R165). -/
def State.tileOwns (s : State) (t d : Nat) : Bool :=
  match s.padOfTile t with
  | some q => s.padOwns q d
  | none => false

/-- The domain check at issue (R164, R165): dst_dom of a get, ack_dom of a put with ack_en. -/
def State.dmaDomainBad (s : State) (t : Nat) (c : DmaCmd) : Bool :=
  match c.kind with
  | .graphSend | .flaggedWrite => false
  | k =>
    if s.inOwnSpad t c.r2 then k != .fill && !s.inOwnSpad t c.r1 && !s.tileOwns t c.dstDom
    else c.ackEn && !s.tileOwns t c.ackDom

/-- The number of distinct commands in a list of identities. -/
def distinctCount : List (Nat × Nat × Nat) → Nat
  | [] => 0
  | a :: t => (if t.contains a then 0 else 1) + distinctCount t

/-- The commands of a channel that have sent every packet and still hold their queue entry (R81, R170). -/
def DmaChan.held (c : DmaChan) : List (Nat × Nat × Nat) :=
  let ids := (c.awaits.filter fun a => !a.gone).map (fun a => (a.slot, a.key, a.number))
    ++ (c.flags.filter fun f => f.waiting && !f.gone).map fun f => (f.slot, f.key, f.number)
  ids.filter fun i => !(c.queue.any fun d => (d.slot, d.key, d.number) == i)

/-- The queue entries in use (R81, R109). -/
def DmaChan.occupied (c : DmaChan) : Nat := c.queue.length + distinctCount c.held

/-- A DMA instruction issued: decoded, checked, and queued in its channel's 16-entry queue (R79, R81, R163). -/
def State.issueDma (s : State) (t : Nat) (kind : DmaKind) (sub : Nat) : State :=
  s.issue t (fun w => iOp w == 0x2C && iSubE w == sub) (fun w => bitsOf (iCtl w) 30 25 == 0)
    (fun w => ⟨[iF1 w, iF2 w, iF3 w, iF4 w], []⟩) fun s w =>
    let x := s.tile t
    let k := iCtl w
    let c : DmaCmd := ⟨kind, x.gr (iF1 w), x.gr (iF2 w), x.gr (iF3 w), x.gr (iF4 w), dcDstDom k, dcAckDom k, dcAckEn k,
      dcFlen k, x.pc.toNat, s.cmdSlot t, s.producerA t, x.cmdNo, false, 0, 0, 0, .toRequest, 0, 0, 0⟩
    if s.dmaIllegal c w then s.faultHere t 2 0
    else
      match dmaAddrFault c with
      | some f => s.faultHere t f.1 f.2
      | none =>
        if s.dmaDomainBad t c then s.faultHere t 7 0
        else
          let ch := x.chan (dcChan k)
          if 16 ≤ ch.occupied then s
          else s.retire t fun x =>
            { (x.setChan (dcChan k) { ch with queue := ch.queue ++ [c] }) with cmdNo := x.cmdNo + 1 }

/-- DMA_COPY (R163, R164). -/
def execDmaCopy (tile : Nat) (s : State) : Host.Outcome State Fault Refusal := .next (s.issueDma tile .copy 0)

/-- DMA_COPY_2D (R163, R164). -/
def execDmaCopy2d (tile : Nat) (s : State) : Host.Outcome State Fault Refusal := .next (s.issueDma tile .copy2d 1)

/-- DMA_FILL (R163, R164). -/
def execDmaFill (tile : Nat) (s : State) : Host.Outcome State Fault Refusal := .next (s.issueDma tile .fill 2)

/-- GRAPH_SEND (R163, R166). -/
def execGraphSend (tile : Nat) (s : State) : Host.Outcome State Fault Refusal := .next (s.issueDma tile .graphSend 3)

/-- FLAGGED_WRITE_CMD (R163, R167). -/
def execFlaggedWriteCmd (tile : Nat) (s : State) : Host.Outcome State Fault Refusal :=
  .next (s.issueDma tile .flaggedWrite 4)

/-! ### The channel -/

/-- Whether a tile's DMA runs: not in reset. -/
def State.dmaRuns (s : State) (t : Nat) : Bool :=
  decide (t < 144) && !s.chipReset && s.gateOpen t && !(s.tile t).inReset.contains .dma

/-- A channel's cause recorded in TL_DMA_STAT (R109). -/
def State.dmaCause (s : State) (t c cause : Nat) : State := s.setFld TL_DMA_STAT_last_cause t c cause

/-- A range of `n` bytes at a global address as the channel checks it before it sends anything (R25, R100): 0 if it
passes, 1 malformed, 4 an own-node range that fails R26. -/
def State.dmaRange (s : State) (a n : Nat) : Nat :=
  if malformed a then 1
  else if s.isOwn (gaNode a) then
    (if s.rangeOk a n && (gaSpace a != 0 || s.hbmOn) then 0 else 4)
  else
    let o := match gaSpace a with
      | 0 => decide (gaHbm a + n ≤ 2 ^ 40)
      | 1 => decide (gaSpad a + n ≤ 2 ^ 23)
      | _ => decide (gaReg a + n ≤ 2 ^ 26)
    if o then 0 else 1

/-- The source and destination addresses of a row. -/
def DmaCmd.srcRow (c : DmaCmd) (i : Nat) : Nat := (c.r1 + i * c.rows.2.2.1) % 2 ^ 64
def DmaCmd.dstRow (c : DmaCmd) (i : Nat) : Nat := (c.r2 + i * c.rows.2.2.2) % 2 ^ 64

/-- The causes of a list of checks: malformed first, then an own-node address error, else 0. -/
def worstRange (l : List Nat) : Nat := if l.contains 1 then 1 else if l.contains 4 then 4 else 0

/-- The check of R100 on a command that starts. -/
def State.dmaStartCause (s : State) (c : DmaCmd) : Nat :=
  match c.kind with
  | .graphSend => 0
  | .flaggedWrite => s.dmaRange c.r2 (16 * (c.flen + 1))
  | k =>
    let n := c.rows.2.1
    if n = 0 then 0
    else worstRange ((List.range c.rows.1).flatMap fun i =>
      (if k = .fill then [] else [s.dmaRange (c.srcRow i) n]) ++ [s.dmaRange (c.dstRow i) n])

/-- A command that stops under R100: the channel's queue is discarded and the task faults. -/
def State.dmaStop (s : State) (t ch cause : Nat) (c : DmaCmd) : State :=
  let s := s.setTile t ((s.tile t).setChan ch { (s.tile t).chan ch with queue := [] })
  let s := (s.event TL_EVT_dma_error t).dmaCause t ch cause
  s.impreciseFault t 0x0A (unitDma ch) c.pc

/-- The head of a channel's queue replaced. -/
def Tile.setHead (x : Tile) (ch : Nat) (c : DmaCmd) : Tile :=
  x.setChan ch { x.chan ch with queue := c :: (x.chan ch).queue.drop 1 }

/-- The head of a channel's queue taken out. -/
def Tile.dropHead (x : Tile) (ch : Nat) : Tile := x.setChan ch { x.chan ch with queue := (x.chan ch).queue.drop 1 }

/-- Whether a channel executes a command (R109). -/
def DmaChan.active (c : DmaChan) : Bool :=
  (match c.queue with
    | [] => false
    | d :: _ => d.started) || c.awaits.any (fun a => !a.gone) || c.flags.any fun f => f.waiting && !f.gone

/-- DMA_CMD_START (R98, R100, R164): the head command of a channel starts; one that moves nothing completes at once. -/
def execDmaCmdStart (tile chan : Nat) (s : State) : Host.Outcome State Fault Refusal :=
  if !s.dmaRuns tile || decide (4 ≤ chan) then .next s
  else
    match ((s.tile tile).chan chan).queue with
    | [] => .next s
    | c :: _ =>
      if c.started then .next s
      else
        let cause := s.dmaStartCause c
        if cause != 0 then .next (s.dmaStop tile chan cause c)
        else if (c.kind = .copy || c.kind = .copy2d || c.kind = .fill) && (c.rows.1 = 0 || c.rows.2.1 = 0) then
          .next (s.onTile tile fun x => x.dropHead chan)
        else .next (s.onTile tile fun x =>
          let ch := x.chan chan
          (x.setChan chan { ch with since := if ch.active then ch.since else s.now }).setHead chan { c with started := true })

/-! ### Packets -/

/-- The oldest flagged write that the channel retries: refused with "retry" and not yet answered otherwise (R201). -/
def DmaChan.retrying (c : DmaChan) : Option Nat := lfind (fun f : SentFlag => f.interval != 0 && !f.gone) c.flags

/-- Whether the channel retries a flagged write: it sends no packet of a later command meanwhile (R201). -/
def DmaChan.blocked (c : DmaChan) : Bool := c.retrying.isSome

/-- The virtual channel on which a command's next packet enters the router (R263). -/
def State.dmaVc (s : State) (c : DmaCmd) (get : Bool) : Nat :=
  match c.kind with
  | .graphSend => if c.phase = .granted then s.dataVc { Packet.blank with dst := bitsOf c.r2 15 0 } else 0
  | .flaggedWrite => 1
  | _ => if get then 0 else s.dataVc { Packet.blank with dst := gaNode (c.r2) }

/-- Whether a channel has a packet to send. -/
def DmaChan.ready (c : DmaChan) : Bool :=
  !c.blocked &&
    match c.queue with
    | [] => false
    | d :: _ => d.started && (d.kind != .graphSend || d.phase == .toRequest || d.phase == .granted)

/-- Words that no value is stated for: free values. -/
def freeWords (s : State) (n : Nat) : List Word64 := (List.range n).map fun i => Config.freeValue (s.fresh + i)

/-- The source data of a packet: its cause, the payload words, and the state. An uncorrectable error gives cause 2 and
an undefined payload (R93, R197); register space gives cause 1 (R28). -/
def State.dmaSource (s : State) (t ch a n : Nat) : Nat × List Word64 × State :=
  if gaSpace a = 2 then (1, freeWords s (n / 8), { s with fresh := s.fresh + n / 8 })
  else
    let r := s.source a n
    if r.1 != 0 then (r.1, freeWords r.2.2 (n / 8), ({ r.2.2 with fresh := r.2.2.fresh + n / 8 }).dmaCause t ch r.1)
    else (0, wordsOfBytes r.2.1, r.2.2)

/-- A packet sent by a channel: counted in TL_DMA_STAT and the tally (R109, R468), and offered to the router at the
tile's port (R252). -/
def State.dmaSend (s : State) (t ch key : Nat) (p : Packet) : State :=
  let s := s.wrapCount TL_DMA_STAT_packets t ch
  let s := s.onTile t fun x => x.setChan ch { x.chan ch with since := s.now }
  let s := (s.tally t 0x030).tally t 0x031 p.sized.length
  s.sendKeyed (tilePort t) key p false false

/-- The emission key of a command's next packet (R360). -/
def DmaCmd.nextKey (c : DmaCmd) : Nat := emissionKey c.key (c.number * 65536 + c.seq % 65536)

/-- A packet without its payload, as the channel remembers it. -/
def Packet.trimmed (p : Packet) (n : Nat) : Packet := { p.sized with body := p.body.take n }

/-- Whether the command's data is brought by GET_REQs (R164): its source lies on another node, or outside the own tile's
scratchpad with a destination inside it. -/
def State.dmaIsGet (s : State) (t : Nat) (c : DmaCmd) : Bool :=
  (c.kind = .copy || c.kind = .copy2d)
    && (!s.isOwn (gaNode c.r1) || (s.inOwnSpad t c.r2 && !s.inOwnSpad t c.r1))

/-- The source address and the size of a command's next packet, and its address (R98, R256). -/
def State.dmaPiece (s : State) (c : DmaCmd) : Nat × Nat × Nat :=
  let a := (c.dstRow c.row + c.off) % 2 ^ 64
  ((c.srcRow c.row + c.off) % 2 ^ 64, min (c.rows.2.1 - c.off) (s.packetBytes - a % s.packetBytes), a)

/-- Whether the read of a command's next packet finds its read-return buffers (R219). -/
def State.dmaFits (s : State) (t : Nat) (c : DmaCmd) : Bool :=
  !(c.kind == .copy || c.kind == .copy2d) || s.dmaIsGet t c || s.readFits (s.dmaPiece c).1 (s.dmaPiece c).2.1

/-- Whether a channel's next packet can be sent: its read finds its buffers, and the router takes it (R99, R219, R265). -/
def State.dmaReady (s : State) (t ch : Nat) : Bool :=
  let c := (s.tile t).chan ch
  c.ready && !s.pairStalls &&
    match c.queue with
    | [] => false
    | d :: _ => s.dmaFits t d && s.canEnter (tilePort t) (s.dmaVc d (s.dmaIsGet t d))

/-- The channel whose turn it is on the hub link: round-robin among those that have a packet which can enter the router; one
whose destination takes none holds it and blocks no other (R99). -/
def State.dmaTurn (s : State) (t : Nat) : Option Nat :=
  ((List.range 4).map fun i => ((s.tile t).dmaLast + 1 + i) % 4).find? fun c => s.dmaReady t c

/-- Whether a channel may send again a packet on a virtual channel: the router takes it, and no channel that comes
before it in turn has a packet which can enter (R99, R265). -/
def State.dmaMaySend (s : State) (t ch vc : Nat) : Bool :=
  !s.pairStalls && s.canEnter (tilePort t) vc
    && ((List.range 4).map fun i => ((s.tile t).dmaLast + 1 + i) % 4).find? (fun c => c == ch || s.dmaReady t c) == some ch

/-- The hub link has served a channel (R99). -/
def State.dmaServed (s : State) (t ch : Nat) : State := s.onTile t fun x => { x with dmaLast := ch }

/-- The data packets that `n` bytes at an address make (R98): each with its address and its bytes. The first argument bounds
them. -/
def cutPackets (P : Nat) : Nat → Nat → Nat → List (Nat × Nat)
  | 0, _, _ => []
  | k + 1, a, n =>
    if n = 0 then [] else
      let m := min n (P - a % P)
      (a, m) :: cutPackets P k (a + m) (n - m)

/-- The command after `n` bytes of its row in `packets` data packets; `none` once every row is sent. -/
def DmaCmd.progress (c : DmaCmd) (n packets : Nat) : Option DmaCmd :=
  let c := { c with seq := c.seq + packets }
  if c.off + n < c.rows.2.1 then some { c with off := c.off + n }
  else if c.row + 1 < c.rows.1 then some { c with row := c.row + 1, off := 0 }
  else none

/-- The channel's queue after its head made progress. -/
def Tile.stepHead (x : Tile) (ch : Nat) (c : Option DmaCmd) : Tile :=
  match c with
  | some c => x.setHead ch c
  | none => x.dropHead ch

/-- The next WRITE packet of a put, fill or local copy (R98, R165, R256, R257). -/
def State.sendWrite (s : State) (t ch : Nat) (c : DmaCmd) : State :=
  let b := s.dmaPiece c
  let n := b.2.1
  let a := b.2.2
  let isLocal := s.inOwnSpad t a
  let r := if c.kind = .fill then (0, List.replicate (n / 8) (BitVec.ofNat 64 c.r1), s) else s.dmaSource t ch b.1 n
  let s := r.2.2
  let pcw := payloadControl t ch (if isLocal then 0 else c.ackDom) (!isLocal && c.ackEn) (!isLocal) r.1 0
  let p := { Packet.blank with
    dst := gaNode a, type := tWRITE, status := if r.1 = 0 then 0 else 1, sequence := c.seq % 65536,
    partition := s.partitionOfTile t, domain := c.dstDom, body := BitVec.ofNat 64 a :: pcw :: r.2.1 }
  let p := { p with vc := s.dataVc p }
  let s := s.onTile t fun x =>
    let x := x.stepHead ch (c.progress n 1)
    if isLocal then
      x.setChan ch { x.chan ch with
        awaits := (x.chan ch).awaits ++ [⟨c.slot, c.key, c.number, p.trimmed 2, n, 0, false, false⟩] }
    else { x with puts := x.puts ++ [⟨x.putNo, ch, p.trimmed 2, s.isOwn (gaNode a)⟩], putNo := x.putNo + 1 }
  s.dmaSend t ch c.nextKey p

/-- The puts of the data packets that a GET_REQ brings to a place outside the own tile's scratchpad (R164, R165): each one's
completion is due when its data is performed (log entry 104). -/
def fetchPuts (part t ch : Nat) (c : DmaCmd) (own : Nat) (ps : List (Nat × Nat)) : List OutPut :=
  (List.range ps.length).map fun i =>
    let a := (lget ps i (0, 0)).1
    ⟨own + i, ch, { Packet.blank with
      dst := gaNode a, type := tGET_DATA, sequence := (c.seq + i) % 65536, partition := part, domain := c.dstDom,
      body := [BitVec.ofNat 64 a, payloadControl t ch c.ackDom c.ackEn true 0 0] }, true⟩

/-- The next GET_REQ of a copy whose data it brings (R164, R261), of at most 64 KiB; its sequence is the number of its first
data packet in the command (R195, log entry 103). -/
def State.sendGet (s : State) (t ch : Nat) (c : DmaCmd) : State :=
  let src := (c.srcRow c.row + c.off) % 2 ^ 64
  let dst := (c.dstRow c.row + c.off) % 2 ^ 64
  let n := min (c.rows.2.1 - c.off) (65536 - dst % 65536)
  let w2 := n % 2 ^ 32 + c.dstDom <<< 32 + t <<< 42 + ch <<< 50
  let p := { Packet.blank with
    dst := gaNode src, vc := 0, type := tGET_REQ, sequence := c.seq % 65536, partition := s.partitionOfTile t,
    domain := c.dstDom, body := [BitVec.ofNat 64 src, BitVec.ofNat 64 dst, BitVec.ofNat 64 w2, 0] }
  let ps := cutPackets s.packetBytes 65 dst n
  let isPut := !s.inOwnSpad t dst
  let s := s.onTile t fun x =>
    let x := x.stepHead ch (c.progress n ps.length)
    let x := x.setChan ch { x.chan ch with
      awaits := (x.chan ch).awaits ++ [⟨c.slot, c.key, c.number, p.trimmed 4, n, 0, false, false⟩] }
    if isPut then
      { x with puts := x.puts ++ fetchPuts p.partition t ch c x.putNo ps, putNo := x.putNo + ps.length }
    else x
  s.dmaSend t ch c.nextKey p

/-- The packet of a flagged write (R167, R257). -/
def State.sendFlagged (s : State) (t ch : Nat) (c : DmaCmd) : State :=
  let n := 16 * (c.flen + 1)
  let r := s.dmaSource t ch (spadAddr s.selfId t (bitsOf c.r1 22 0)) n
  let s := r.2.2
  let pcw := payloadControl t ch c.ackDom c.ackEn true r.1 (bitsOf c.r3 31 0)
  let p := { Packet.blank with
    dst := gaNode c.r2, vc := 1, type := tFLAGGED_WRITE, status := if r.1 = 0 then 0 else 1, flagged := true,
    sequence := 0, partition := s.partitionOfTile t, domain := c.dstDom,
    body := BitVec.ofNat 64 c.r2 :: pcw :: r.2.1 }
  let s := s.onTile t fun x =>
    let x := x.dropHead ch
    x.setChan ch { x.chan ch with flags := (x.chan ch).flags ++ [⟨c.slot, c.key, c.number, p.sized, 0, false, false⟩] }
  s.dmaSend t ch c.nextKey p

/-! ### Graph-send (R48 to R51, R166) -/

/-- The request tags that the node's graph-sends have outstanding. -/
def State.tagsInUse (s : State) : List Nat :=
  s.tiles.flatMap fun e => e.2.dma.flatMap fun ch =>
    (ch.queue.filter fun c => c.kind == .graphSend && c.phase != .toRequest).map (·.tag)

/-- A request tag that no graph-send of the node has outstanding: the first such number from a free value on. -/
def State.newTag (s : State) : Nat :=
  let used := s.tagsInUse
  let start := s.freeVal
  match (List.range (used.length + 1)).find? fun k => !used.contains ((start + k) % 65536) with
  | some k => (start + k) % 65536
  | none => start % 65536

/-- The INTAKE_REQ of a graph-send (R48, R50). -/
def State.sendRequest (s : State) (t ch : Nat) (c : DmaCmd) (tag : Nat) : State :=
  let p := { Packet.blank with
    dst := bitsOf c.r2 15 0, vc := 0, type := tINTAKE_REQ, sequence := c.seq % 65536, partition := s.partitionOfTile t,
    body := [BitVec.ofNat 64 (1 + 2 * c.r3 + tag <<< 16), 0] }
  let s := s.onTile t fun x => x.setHead ch { c with phase := .requested, tag := tag, seq := c.seq + 1 }
  s.dmaSend t ch c.nextKey p

/-- The first request of a graph-send. -/
def State.firstRequest (s : State) (t ch : Nat) (c : DmaCmd) : State := (s.spend).sendRequest t ch c s.newTag

/-- The GRAPH packet of a granted graph-send (R166): the preamble's ticket field replaced. A read that meets an
uncorrectable error ends it unsent, and the task faults. -/
def State.sendGraph (s : State) (t ch : Nat) (c : DmaCmd) : State :=
  let n := 64 + 128 * c.r3
  let r := s.source (spadAddr s.selfId t (bitsOf c.r1 22 0)) n
  let s := r.2.2.onTile t fun x => x.dropHead ch
  if r.1 != 0 then (s.dmaCause t ch r.1).impreciseFault t 0x08 (unitDma ch) c.pc
  else
    let ws := wordsOfBytes r.2.1
    let w0 := BitVec.ofNat 64 (withBits (lget ws 0 0).toNat 31 16 c.ticket)
    let p := { Packet.blank with
      dst := bitsOf c.r2 15 0, type := tGRAPH, partition := s.partitionOfTile t, sequence := c.seq % 65536,
      body := w0 :: ws.drop 1 }
    s.dmaSend t ch c.nextKey { p with vc := s.dataVc p }

/-- The reply_domain of a graph-send's preamble in the scratchpad (R51). -/
def State.replyDomain (s : State) (t : Nat) (c : DmaCmd) : Nat :=
  bitsOf (ofBytes (s.bytes (spadKey t (bitsOf c.r1 22 0 + 16)) 8)) 9 0

/-- A graph-send that ends unsent, with err in its reply_domain without a count, where the tile's paddock owns it. -/
def State.endGraph (s : State) (t ch cause src : Nat) (c : DmaCmd) : State :=
  let d := s.replyDomain t c
  let s := s.onTile t fun x => x.dropHead ch
  if s.tileOwns t d then s.errDomain d cause src 0 else s

/-- DMA_PACKET_SEND (R98, R99, R165 to R167): the channel whose turn it is sends its next packet. -/
def execDmaPacketSend (tile chan : Nat) (s : State) : Host.Outcome State Fault Refusal :=
  if !s.dmaRuns tile || s.dmaTurn tile != some chan then .next s
  else
    match ((s.tile tile).chan chan).queue with
    | [] => .next s
    | c :: _ =>
      let s := s.dmaServed tile chan
      match c.kind with
      | .graphSend =>
        if c.phase = .granted then .next (s.sendGraph tile chan c) else .next (s.firstRequest tile chan c)
      | .flaggedWrite => .next (s.sendFlagged tile chan c)
      | _ => if s.dmaIsGet tile c then .next (s.sendGet tile chan c) else .next (s.sendWrite tile chan c)

/-- The tile and channel whose graph-send has a request outstanding with a tag at a node (R50). -/
def State.grantee (s : State) (tag node : Nat) : Option (Nat × Nat) :=
  s.tiles.findSome? fun e =>
    (List.range 4).findSome? fun ch =>
      match (e.2.chan ch).queue with
      | c :: _ =>
        if c.kind == .graphSend && c.started && c.phase == .requested && c.tag == tag && bitsOf c.r2 15 0 == node
        then some (e.1, ch) else none
      | [] => none

/-- INTAKE_GRANT_RECEIVE (R50, R99, R166): a granted graph-send sends its packet where it is the channel's turn, and else
at its turn; "retry" schedules a repeat with a wait of 1 µs that doubles up to 64 µs, and results 2 to 4 end it unsent. A
grant that no request awaits is ignored. -/
def execIntakeGrantReceive (p : Packet) (s : State) : Host.Outcome State Fault Refusal :=
  let s := s.take p
  if p.status = 3 then .next s.dropMalformed
  else
  if s.staleFor p then .next s
  else
    let e := s.ctrlEpoch p
    let s := e.2
    if !e.1 then .next s
    else
    match s.grantee (bitsOf (p.word 2) 31 16) p.src with
    | none => .next s
    | some (t, ch) =>
      match ((s.tile t).chan ch).queue with
      | [] => .next s
      | c :: _ =>
        match bitsOf (p.word 2) 51 48 with
        | 0 =>
          let c := { c with phase := .granted, ticket := bitsOf (p.word 2) 47 32 }
          let s := s.onTile t fun x => x.setHead ch c
          if !s.dmaRuns t || s.dmaTurn t != some ch then .next s else .next ((s.dmaServed t ch).sendGraph t ch c)
        | 1 =>
          .next (s.onTile t fun x => x.setHead ch
            { c with phase := .retryWait, wait := if c.wait = 0 then 1 else min 64 (2 * c.wait) })
        | 2 => .next ((s.dmaCause t ch 3).endGraph t ch 8 p.src c)
        | 3 => .next ((s.dmaCause t ch 3).endGraph t ch 3 p.src c)
        | 4 => .next ((s.dmaCause t ch 3).endGraph t ch 8 p.src c)
        | _ => .next s

/-- GRAPH_SEND_RETRY (R99, R166): the retry wait has ended, and the request is repeated where it is the channel's turn. -/
def execGraphSendRetry (tile chan : Nat) (s : State) : Host.Outcome State Fault Refusal :=
  if !s.dmaRuns tile || decide (4 ≤ chan) || !s.dmaMaySend tile chan 0 then .next s
  else
    match ((s.tile tile).chan chan).queue with
    | [] => .next s
    | c :: _ =>
      if c.kind = .graphSend && c.phase = .retryWait && !((s.tile tile).chan chan).blocked then
        .next (((s.dmaServed tile chan).tally tile 0x032).sendRequest tile chan c c.tag)
      else .next s

/-! ### Retries of flagged writes and gets (R201, R261) -/

/-- Whether a GET_REQ may be sent again: it belongs to no command later than the flagged write that the channel retries
(R201). -/
def DmaChan.mayResend (c : DmaChan) (a : DmaAwait) : Bool :=
  match c.retrying with
  | none => true
  | some i =>
    match c.flags[i]? with
    | none => true
    | some f => a.key == f.key && decide (a.number < f.number)

/-- DMA_RETRY (R99, R201, R261): where it is the channel's turn, the flagged write that it retries is sent again if it waits;
else the oldest GET_REQ that waits and may go. -/
def execDmaRetry (tile chan : Nat) (s : State) : Host.Outcome State Fault Refusal :=
  if !s.dmaRuns tile || decide (4 ≤ chan) then .next s
  else
    let ch := (s.tile tile).chan chan
    match lfind (fun f : SentFlag => f.interval != 0 && !f.gone && f.waiting) (ch.flags.take ((ch.retrying.getD 0) + 1)) with
    | some i =>
      match ch.flags[i]? with
      | none => .next s
      | some f =>
        if !s.dmaMaySend tile chan 1 then .next s else
        let s := (s.dmaServed tile chan).onTile tile fun x =>
          x.setChan chan { ch with flags := lset ch.flags i { f with waiting := false } }
        .next ((s.tally tile 0x032).dmaSend tile chan (emissionKey f.key (f.number * 65536)) f.packet)
    | none =>
      match lfind (fun a : DmaAwait => a.waiting && !a.gone && ch.mayResend a) ch.awaits with
      | none => .next s
      | some i =>
        match ch.awaits[i]? with
        | none => .next s
        | some a =>
          if !s.dmaMaySend tile chan 0 then .next s else
          let s := (s.dmaServed tile chan).onTile tile fun x =>
            x.setChan chan { ch with awaits := lset ch.awaits i { a with waiting := false } }
          .next ((s.tally tile 0x032).dmaSend tile chan
            (emissionKey a.key (a.number * 65536 + a.packet.sequence)) a.packet)

/-! ### TOK and the outbound token queue (R61, R168) -/

/-- The entries that a TOK reads from consecutive registers. -/
def tokEntries (x : Tile) (r n : Nat) : List Nat := (List.range n).map fun i => x.gr (r + i)

/-- The illegal-command checks of TOK (R168). -/
def tokIllegal (n kind flagged dom r1 : Nat) (es : List Nat) : Bool :=
  n == 0 || decide (5 < n) || bitsOf r1 63 16 != 0 || (flagged == 0 && dom != 0)
    || es.any fun w => bitsOf w 63 48 == 0 || bitsOf w 47 43 != 0 || (kind == 1 && bitAt w 42)

/-- TOK (R168): the packet of R61 is built and queued; nothing happens while the outbound token queue holds 64. A range
of entry registers that passes g31 is an illegal instruction. -/
def execTok (tile : Nat) (s : State) : Host.Outcome State Fault Refusal :=
  .next (s.issue tile (hasOp 0x30) (fun w => iSubE w == 0 && bitsOf (iCtl w) 30 15 == 0)
    (fun w => ⟨[iF1 w, iF3 w] ++ (List.range (bitsOf (iCtl w) 2 0)).map fun i => iF2 w + i, []⟩) fun s w =>
    let x := s.tile tile
    let k := iCtl w
    let n := bitsOf k 2 0
    let kind := bitsOf k 3 3
    let fl := bitsOf k 4 4
    let dom := bitsOf k 14 5
    let r1 := x.gr (iF1 w)
    if 1 ≤ n && n ≤ 5 && decide (32 < iF2 w + n) then s.faultHere tile 1 0
    else
      let es := tokEntries x (iF2 w) n
      if tokIllegal n kind fl dom r1 es then s.faultHere tile 2 0
      else if 64 ≤ x.tokq.length then s
      else
        let p := { Packet.blank with
          dst := bitsOf r1 15 0, vc := 0, type := if kind = 1 then tCREDIT else tTOKEN, flagged := fl == 1,
          sequence := tile, partition := s.partitionOfTile tile, domain := dom,
          body := BitVec.ofNat 64 ((if fl = 1 then bitsOf (x.gr (iF3 w)) 31 0 else 0) + n <<< 32)
            :: es.map (BitVec.ofNat 64) }
        let a := s.producerA tile
        s.retire tile fun x => { x.queueToken s.now ⟨p.sized, a, x.cmdNo⟩ with cmdNo := x.cmdNo + 1 })

/-- The entries of a packet that leaves the outbound token queue. -/
def sentEntries (e : QueuedToken) : List SentToken :=
  let ws := tokenEntries e.packet
  (List.range ws.length).map fun i =>
    ⟨tokenEntry e.packet.dst e.packet (e.packet.type == tCREDIT) (lget ws i 0), e.producer, e.number, i⟩

/-- The emission key of a packet of the outbound token queue (R360). -/
def QueuedToken.key (e : QueuedToken) : Nat := emissionKey e.producer (e.number * 65536)

/-- TOKEN_QUEUE_SEND (R61): the oldest packet leaves the outbound token queue, where the router takes it (R265); the
partition of R166 is that of the tile's paddock. -/
def execTokenQueueSend (tile : Nat) (s : State) : Host.Outcome State Fault Refusal :=
  match (s.tile tile).tokq with
  | [] => .next s
  | e :: es =>
    if decide (144 ≤ tile) || s.tileHeld tile || s.parked || s.pairStalls || !s.canEnter (tilePort tile) 0 then .next s
    else
      .next ((s.onTile tile fun x =>
        { x with tokq := es, tokSent := x.tokSent ++ sentEntries e, watch := { x.watch with tok := s.now } }).sendKeyed
        (tilePort tile) e.key e.packet false false)

end Sys2Proof.Machine
end

