-- ==== Sys2Proof/Machine/Atomic.lean ====
section
/-! DEFINITION. Accesses of a word past the data cache: LDA, STR and AMO (R155, R173). -/
namespace Sys2Proof.Machine

/-- The data-cache line of an HBM word written back and invalidated, with its write-backs that still wait: whether a
write-back met an uncorrectable error (R96). -/
def State.bypassLine (s : State) (t off : Nat) : Bool × State :=
  let w := s.settleLine t (off / 64)
  let r := w.2.cleanLines t true ((w.2.tile t).dLine (off / 64))
  (w.1 || r.1, r.2)

/-- A read of `n` bytes past the data cache: the fault cause, or 0, and the value. A scratchpad error has cause 0x09 for a
load (R197), and 0x08 for the read of an AMO (R93, R178). -/
def State.rawRead (s : State) (t : Nat) (tg : Target) (n : Nat) (load : Bool) : Nat × Nat × State :=
  match tg with
  | .hbm off =>
    let r := s.hbmRead off n
    (if r.1 then 0x09 else 0, ofBytes (r.2.bytes (hbmKey off) n), r.2)
  | .spad off =>
    let r := s.spadRead t off n
    (if r.1 then (if load then 0x09 else 0x08) else 0, ofBytes (r.2.bytes (spadKey t off) n), r.2)
  | _ => (0, 0, s)

/-- A write of `n` bytes past the data cache: the fault cause, or 0. -/
def State.rawWrite (s : State) (t : Nat) (tg : Target) (n v : Nat) : Nat × State :=
  match tg with
  | .hbm off =>
    let r := s.hbmWrite off (bytesOf n v)
    (if r.1 then 0x09 else 0, r.2)
  | .spad off =>
    let r := s.spadWritePart t off (bytesOf n v)
    (if r.1 then 0x08 else 0, r.2)
  | _ => (0, s)

/-- Whether a read past the data cache finds its read-return buffer (R219). -/
def State.targetFits (s : State) (tg : Target) (n : Nat) : Bool :=
  match tg with
  | .hbm off => s.bufferFits off n
  | _ => true

/-- The write-back and invalidation that precede an access past the data cache. -/
def State.bypass (s : State) (t : Nat) (tg : Target) : Bool × State :=
  match tg with
  | .hbm off => s.bypassLine t off
  | _ => (false, s)

/-- The address of a format M access. -/
def memAddr (x : Tile) (w : Nat) : Nat := (x.gr (iF2 w) + iDisp w) % 2 ^ 64

/-- The size of a format M access in bytes. -/
def memSize (w : Nat) : Nat := 2 ^ iSz w

/-- The store of an STR once its release is complete (R173): the line written back and invalidated, the word stored past
the data cache. -/
def State.strStore (s : State) (t w : Nat) : State :=
  let x := s.tile t
  let a := memAddr x w
  let n := memSize w
  let v := x.gr (iF1 w)
  match s.target t a n n false with
  | .fault c => s.faultHere t c a
  | tg =>
    let b := s.bypass t tg
    let s := if b.1 then b.2.writeBackFault t else b.2
    if (s.tile t).wait.isNone then s
    else
      let r := s.rawWrite t tg n v
      if r.1 != 0 then r.2.ownFault t r.1 x.pc.toNat
      else r.2.retire t fun x => { x with wait := none }

/-- The new value of an AMO (R155): `old`, the operand and the compare value in `w` bits. -/
def amoResult (op w old b c : Nat) : Nat :=
  let so := signedOf w old
  let sb := signedOf w b
  match op with
  | 0 => (old + b) % 2 ^ w
  | 1 => b % 2 ^ w
  | 2 => if old % 2 ^ w = c % 2 ^ w then b % 2 ^ w else old
  | 3 => if so < sb then b % 2 ^ w else old
  | 4 => if sb < so then b % 2 ^ w else old
  | 5 => old ||| b % 2 ^ w
  | _ => old &&& b % 2 ^ w

/-- The size of an AMO in bytes. -/
def amoSize (w : Nat) : Nat := if bitAt (iFnR w) 3 then 8 else 4

/-- AMO (R155): checked at issue; it then waits for the store buffer. -/
def execAmo (tile : Nat) (s : State) : Host.Outcome State Fault Refusal :=
  .next (s.issue tile (hasOp 0x14)
    (fun w => bitsOf w 21 0 == 0 && iFnR w % 8 != 7 && decide (iFnR w < 16))
    (fun w => ⟨[iF1 w, iF2 w, iF3 w, iF4 w], []⟩) fun s w =>
    let a := (s.tile tile).gr (iF2 w)
    match s.target tile a (amoSize w) (amoSize w) false with
    | .fault c => s.faultHere tile c a
    | _ => s.onTile tile fun x => { x with wait := some ⟨.amo, w, [], false⟩ })

/-- The write of an AMO, whose read has met no error: a part of a scratchpad word needs no second read of it (R93). -/
def State.amoWrite (s : State) (t : Nat) (tg : Target) (n v : Nat) : State :=
  match tg with
  | .spad off => if n = 8 then s.spadWrite t off (bytesOf n v) else s.store (spadKey t off) (bytesOf n v)
  | _ => (s.rawWrite t tg n v).2

/-- The read-modify-write of an AMO on its target (R155). -/
def State.amoRun (s : State) (t w : Nat) (tg : Target) : State :=
  let b := s.bypass t tg
  let s := if b.1 then b.2.writeBackFault t else b.2
  let x := s.tile t
  if x.wait.isNone then s
  else
    let n := amoSize w
    let r := s.rawRead t tg n false
    if r.1 != 0 then r.2.2.ownFault t r.1 x.pc.toNat
    else
      let v := amoResult (iFnR w % 8) (8 * n) r.2.1 (x.gr (iF3 w)) (x.gr (iF4 w))
      (r.2.2.amoWrite t tg n v).retire t fun y => { (y.setG (iF1 w) (sext64 (8 * n) r.2.1)) with wait := none }

/-- AMO_DONE (R155): with the store buffer drained, the operation is performed and the old value written to rd. -/
def execAmoDone (tile : Nat) (s : State) : Host.Outcome State Fault Refusal :=
  let x := s.tile tile
  match x.wait with
  | some ⟨.amo, w, _, _⟩ =>
    let tg := s.target tile (x.gr (iF2 w)) (amoSize w) (amoSize w) false
    if decide (144 ≤ tile) || s.tileHeld tile || s.parked || !x.stores.isEmpty || !s.targetFits tg (amoSize w) then .next s
    else .next (s.amoRun tile w tg)
  | _ => .next s

/-- Whether decoding takes an LDA or STR word (R173). -/
def ldaLegal (w : Nat) : Bool := (iSz w == 2 || iSz w == 3) && decide (iSubM w < 5)

/-- LDA (R173): checked at issue; it then waits for the word. -/
def execLda (tile : Nat) (s : State) : Host.Outcome State Fault Refusal :=
  .next (s.issue tile (hasOp 0x12) ldaLegal (fun w => ⟨[iF1 w, iF2 w], []⟩) fun s w =>
    let a := memAddr (s.tile tile) w
    match s.target tile a (memSize w) (memSize w) false with
    | .fault c => s.faultHere tile c a
    | _ => s.onTile tile fun x => { x with wait := some ⟨.lda, w, [], false⟩ })

/-- The load of an LDA (R173): the line written back and invalidated, the word read past the data cache. A 4-byte word is
zero-extended, as sub names the scope and no sign extension. -/
def State.ldaRun (s : State) (t w : Nat) (tg : Target) : State :=
  let b := s.bypass t tg
  let s := if b.1 then b.2.writeBackFault t else b.2
  let x := s.tile t
  if x.wait.isNone then s
  else
    let r := s.rawRead t tg (memSize w) true
    if r.1 != 0 then r.2.2.ownFault t r.1 x.pc.toNat
    else r.2.2.retire t fun y => { (y.setG (iF1 w) r.2.1) with wait := none }

/-- LDA_DONE (R173): with the store buffer drained, the load returns its value. -/
def execLdaDone (tile : Nat) (s : State) : Host.Outcome State Fault Refusal :=
  let x := s.tile tile
  match x.wait with
  | some ⟨.lda, w, _, _⟩ =>
    let tg := s.target tile (memAddr x w) (memSize w) (memSize w) false
    if decide (144 ≤ tile) || s.tileHeld tile || s.parked || !x.stores.isEmpty || !s.targetFits tg (memSize w) then .next s
    else .next (s.ldaRun tile w tg)
  | _ => .next s

end Sys2Proof.Machine
end

