-- ==== Sys2Proof/Machine/Router.lean ====
section
/-! DEFINITION. The router: lookups, replication, output ports, the VC7 rate limiter and the routing tables (R251 to R283,
R294 to R298). -/
namespace Sys2Proof.Machine

/-! ### Checks at an input port (R254, R259) -/

/-- The longest packet of a type that the node's packet mode allows, in units (R253, R259). -/
def State.maxLength (s : State) (t : Nat) : Nat :=
  if isControlType t then 4
  else if t = tFLAGGED_WRITE then 6
  else if t = tWRITE || t = tGET_DATA then 2 + s.packetBytes / 16
  else if t = tGRAPH then 1 + s.packetBytes / 16
  else 2 + s.packetBytes / 16

/-- Whether an input port discards a packet for its length (R254). -/
def State.oversize (s : State) (p : Packet) : Bool := decide (s.maxLength p.type < p.length)

/-- The packet at position `i` of the input buffers put where it leaves at once, port 8 for the delivery and port 9 for a
discard; its units still to come follow it there (R267). -/
def State.sinkAt (s : State) (i : Nat) (e : InPacket) (port : Nat) : State :=
  let o : OutPacket := ⟨port, e.packet, e.came, e.port, e.packet.vc, e.wire, e.came, s.routed, false⟩
  ({ s with input := ldel s.input i, output := s.output ++ [o], routed := s.routed + 1 }).leave
    e.port e.packet.vc e.wire e.came

/-- The packet at position `i` of the input buffers taken out, with its space freed. Of a packet that an external port has
received in part, the rest is discarded as it comes. -/
def State.dropInput (s : State) (i : Nat) (e : InPacket) : State :=
  if decide (e.port < 8) && decide (e.came < e.packet.length) then s.sinkAt i e 9
  else (({ s with input := ldel s.input i }).leave e.port e.packet.vc e.wire e.came).leftWhole e.port e.packet.vc
    (e.packet.length - e.came)

/-- The packet at position `i` of the input buffers delivered on this node, once its last unit has come (R252). -/
def State.deliverAt (s : State) (i : Nat) (e : InPacket) (p : Packet) : State :=
  if decide (e.port < 8) && decide (e.came < e.packet.length) then s.sinkAt i { e with packet := p } 8
  else (s.dropInput i e).deliver e.port p

/-! ### The lookup (R270, R272, R295, R298) -/

/-- What the lookup does with a packet. -/
inductive RouteAct where
  | deliver | replicate (mask : Nat) | send (port vc : Nat) | hold | refuse
  deriving DecidableEq, Repr

/-- The circuit ID of a VC4 packet (R257). -/
def Packet.circuitId (p : Packet) : Nat := bitsOf p.control 43 32

/-- The lookup of a VC4 packet (R295, R298). -/
def State.routeCircuit (s : State) (p : Packet) : RouteAct :=
  let c := p.circuitId
  let e := s.circuit c
  let q := circOut e
  if !circValid e || circPartition e != p.partition then .refuse
  else if q = 8 then .deliver
  else if decide (8 < q) || s.down q || !s.claimsFor q c then .hold
  else .send q 4

/-- The port of two with more free VC2 credit, ties to the first. -/
def State.richer (s : State) (p a : Nat) : Nat := if s.freeCredit p 2 < s.freeCredit a 2 then a else p

/-- Whether a port can take a VC2 packet whole (R267, R270). -/
def State.takesWhole (s : State) (q len : Nat) : Bool :=
  decide (q < 8) && !s.down q && decide (len ≤ s.freeCredit q 2)

/-- The lookup of R270. A primary code above 8 names no port: the packet waits, and its entry's alternate, which stands for
a primary port that is down (R274), is not taken. A paired node's own access to its rank ID is turned here (R356). -/
def State.routeAct (s : State) (port : Nat) (p : Packet) : RouteAct :=
  if !s.flag RTR_NODE_ID_valid then .hold
  else if p.vc = 4 then s.routeCircuit p
  else if !p.mcast && (p.dst == s.node || (s.paired && p.dst == s.rank && decide (8 ≤ port))) then .deliver
  else if p.mcast then .replicate (s.mcEntry (p.dst % 4096))
  else
    let e := s.ucEntry p.dst
    if ucMcast e then .replicate (s.mcEntry (ucGroup e))
    else if ucPrimary e = 8 then .deliver
    else
      let a := ucAlternate e
      let q := if decide (ucPrimary e < 8) && s.down (ucPrimary e) then a else ucPrimary e
      if q = 8 then .deliver
      else if s.down q then .hold
      else if (p.vc == 2 || p.vc == 3) && (p.type == tWRITE || p.type == tGET_DATA || p.type == tGRAPH) then
        match s.takesWhole q p.length, s.takesWhole a p.length with
        | true, true => .send (s.richer q a) 2
        | true, false => .send q 2
        | false, true => .send a 2
        | false, false => .send q 3
      else .send q p.vc

/-- The congestion mark of a packet whose head leaves the buffer of an input port (R278). -/
def State.mark (s : State) (port vc : Nat) (p : Packet) : Packet :=
  if vc = 7 && decide (s.fld RTR_RAD_CTRL_mark_kib * 64 ≤ s.vcOcc port 7) then { p with raddle := true } else p

/-- The packet at position `i` of the input buffers replicated (R272): a copy for each port of the mask that is not down,
and a local one, which waits for the last unit. -/
def State.replicate (s : State) (i : Nat) (e : InPacket) (p : Packet) (mask : Nat) : State :=
  let ports := (List.range 8).filter fun q => bitAt mask q
  let ups := ports.filter fun q => !s.down q
  let s := s.satCount RTR_PORT_STAT_mcast_drop e.port 0 (ports.length - ups.length)
  if ups.isEmpty then (if bitAt mask 8 then s.deliverAt i e (s.mark e.port e.packet.vc p) else s.dropInput i e)
  else
    let part := decide (e.port < 8) && decide (e.came < e.packet.length)
    let s := if bitAt mask 8 && !part then s.deliver e.port (s.mark e.port e.packet.vc p) else s
    let copy := fun q => OutPacket.mk q (if q = 8 then s.mark e.port e.packet.vc p else p) (if q = 8 then e.came else 0)
      e.port e.packet.vc e.wire e.came s.routed true
    let s := { s with input := ldel s.input i, routed := s.routed + 1,
                      output := if bitAt mask 8 && part then s.output ++ [copy 8] else s.output }
    ups.foldl (fun s q => s.toOut (copy q)) s

/-- A VC4 head that reaches its port after the last claimed slot of its circuit has ended is late (R297). -/
def State.noteLate (s : State) (q : Nat) (p : Packet) : State :=
  match s.lastSlotOf q p.circuitId with
  | some l => if l < s.slotNow then (s.satCount BT_PORT_STAT0_late q).event BT_EVT_late else s
  | none => s

/-- The packet at position `i` of the input buffers routed (R270 to R273). -/
def State.routeAt (s : State) (i : Nat) (e : InPacket) : State :=
  let p := e.packet
  match s.routeAct e.port p with
  | .hold => { s with input := lset s.input i { e with held := true, limited := false } }
  | .refuse =>
    let s := (s.dropInput i e).event BT_EVT_circuit_refused
    if e.port < 8 then s.satCount BT_PORT_STAT1_refused e.port else s
  | .deliver => s.deliverAt i e (s.mark e.port e.packet.vc p)
  | .replicate mask => s.replicate i e p mask
  | .send q vc =>
    let p := { p with vc := vc }
    let s := if vc = 4 then s.noteLate q p else s
    ({ s with input := ldel s.input i, routed := s.routed + 1 }).toOut
      ⟨q, p, 0, e.port, e.packet.vc, e.wire, e.came, s.routed, false⟩

/-! ### The VC7 rate limiter (R279) -/

/-- Packet bytes of a port in 100 ps: numerator and denominator (R232). -/
def State.portRate (s : State) (k : Nat) : Nat × Nat :=
  let x4 := if s.flag RTR_LINK_STAT_width_x4 k then 2 else 1
  if s.flag RTR_LINK_STAT_reach k then (40 * 16384 * 240 * 33, 16388 * 256 * 34 * x4)
  else (40 * 16384 * 240, 16388 * 256 * x4)

/-- The port in use for a destination (R270): the primary one, or the alternate while the primary is a port that is
down. -/
def State.portInUse (s : State) (dst : Nat) : Nat :=
  let e := s.ucEntry dst
  if decide (ucPrimary e < 8) && s.down (ucPrimary e) then ucAlternate e else ucPrimary e

/-- The bucket of an entry now: refilled at its rate, at most 16 KiB. -/
def State.bucketNow (s : State) (e : LimiterEntry) : Nat :=
  let r := s.portRate (s.portInUse e.dst)
  min 16384 (e.bucket + (s.now - e.filledAt) * r.1 * e.rate / (r.2 * 10000))

/-- The entry numbers in use. -/
def State.limiterFree (s : State) : Option Nat :=
  (List.range 256).find? fun n => !(s.limiter.any fun e => e.number == n)

/-- The least recently used entry with rate 10,000. -/
def leastUsed (es : List LimiterEntry) : Option LimiterEntry :=
  es.foldl (fun b e =>
    if e.rate = 10000 then
      match b with
      | none => some e
      | some c => if e.lastUse < c.lastUse then some e else some c
    else b) none

/-- The limiter with an entry for a destination (R279), and the entry that the destination uses. -/
def State.limiterFor (s : State) (dst : Nat) : LimiterEntry × State :=
  match s.limiter.find? fun e => e.dst == dst with
  | some e => (e, s)
  | none =>
    let fresh := fun n => LimiterEntry.mk n dst 10000 16384 s.now false s.now
    match s.limiterFree with
    | some n => (fresh n, { s with limiter := s.limiter ++ [fresh n] })
    | none =>
      match leastUsed s.limiter with
      | some l => (fresh l.number,
          { s with limiter := (s.limiter.filter fun e => e.number != l.number) ++ [fresh l.number] })
      | none => ((s.limiter.find? fun e => e.number == 255).getD (fresh 255), s)

/-- An entry replaced by its number. -/
def State.putLimiter (s : State) (e : LimiterEntry) : State :=
  { s with limiter := s.limiter.map fun x => if x.number == e.number then e else x }

/-- Whether the limiter applies to a packet: VC7, from an internal port (R279). -/
def limiterApplies (e : InPacket) : Bool := e.packet.vc == 7 && decide (8 ≤ e.port)

/-- The tokens of a packet taken from its entry's bucket. -/
def State.takeTokens (s : State) (e : LimiterEntry) (p : Packet) : State :=
  s.putLimiter { e with bucket := s.bucketNow e - 16 * p.length, filledAt := s.now, lastUse := s.now }

/-- A packet that comes to the limiter: it goes on where its bucket allows it, and is held otherwise. A packet longer
than the bucket goes when the bucket is full. -/
def State.limit (s : State) (i : Nat) (e : InPacket) : State :=
  let r := s.limiterFor e.packet.dst
  let s := r.2
  if min 16384 (16 * e.packet.length) ≤ s.bucketNow r.1 then (s.takeTokens r.1 e.packet).routeAt i e
  else { s with input := lset s.input i { e with limited := true } }

/-- The packet of a port and virtual channel that the router looks at next: the first one, or, where the limiter holds
packets, the first one to a destination for which it holds none (R279). Packets that came while the port's heft entry
waited stay while it waits, and packets of the link itself bypass them (R343); on a node without an ID heft packets bypass
all others, which it holds (R336). -/
def State.headOf (s : State) (port vc : Nat) : Option Nat :=
  let held := (s.input.filter fun e => e.port == port && e.packet.vc == vc && e.limited).map fun e => e.packet.dst
  let waits := decide (port < 8) && s.fld RTR_HEFT_FAR1_state port ≤ 1
  let heft := fun e : InPacket => e.packet.type == tHEFT
  let here := fun e : InPacket => e.port == port && e.packet.vc == vc && !e.limited && !held.contains e.packet.dst
    && (!(waits && e.early) || heft e || (s.flag RTR_NODE_ID_valid && e.packet.type == tBELL))
  if !s.flag RTR_NODE_ID_valid && decide (port < 8) && (s.input.any fun e => here e && heft e) then
    lfind (fun e => here e && heft e) s.input
  else lfind here s.input

/-- Whether enough of a packet has come for its lookup (R267, R295): the header; for a VC4 packet the unit with its
circuit ID too; all of a packet of the link itself. -/
def InPacket.headHere (e : InPacket) : Bool :=
  if ownOfLink e.packet then decide (e.packet.length ≤ e.came)
  else if e.packet.vc = 4 then decide (min 2 e.packet.length ≤ e.came)
  else decide (1 ≤ e.came)

/-- PACKET_ROUTE (R254, R258, R259, R267, R270 to R273, R279, R287, R336, R343): the next packet of an input port and
virtual channel, once its head has come. A bell or a packet of heft discovery goes no further than this router, though
a node without an ID holds a bell, and a packet that came from a far end that heft has not accepted is discarded. -/
def execPacketRoute (port vc : Nat) (s : State) : Host.Outcome State Fault Refusal :=
  match s.headOf port vc with
  | none => .next s
  | some i =>
    match s.input[i]? with
    | none => .next s
    | some e =>
      if !e.headHere then .next s
      else if s.oversize e.packet then
        .next (((s.dropInput i e).satCount RTR_PORT_STAT_oversize port).event RTR_PORT_EVT_oversize port)
      else if !vcAllowed e.packet.type e.packet.vc then .next ((s.dropInput i e).countMalformed port)
      else if e.packet.type = tHEFT || (e.packet.type = tBELL && s.flag RTR_NODE_ID_valid) then
        let s := s.dropInput i e
        if e.packet.status = 3 then .next (s.countMalformed port)
        else .next { s with delivered := s.delivered ++ [(portM, e.packet)] }
      else if e.early && decide (3 ≤ s.fld RTR_HEFT_FAR1_state port) then
        .next ((s.dropInput i e).satCount RTR_HEFT_FAR1_blocked port)
      else if limiterApplies e && !e.held then .next (s.limit i e)
      else .next (s.routeAt i e)

/-- LIMITER_RELEASE (R279): the bucket of a destination allows its next held packet. -/
def execLimiterRelease (dst : Nat) (s : State) : Host.Outcome State Fault Refusal :=
  match lfind (fun e => e.limited && e.packet.dst == dst) s.input with
  | none => .next s
  | some i =>
    match s.input[i]? with
    | none => .next s
    | some e =>
      let r := s.limiterFor dst
      .next ((r.2.takeTokens r.1 e.packet).routeAt i { e with limited := false })

/-- RADDLE_WINDOW (R279): a window of a limiter entry ends. -/
def execRaddleWindow (entry : Nat) (s : State) : Host.Outcome State Fault Refusal :=
  match s.limiter.find? fun e => e.number == entry with
  | none => .next s
  | some e =>
    let low := max 1 (s.fld RTR_RAD_CTRL_r_min)
    let r := if e.marked then max low (e.rate * 7 / 8)
      else if e.rate < 10000 then min 10000 (e.rate + s.fld RTR_RAD_CTRL_step) else e.rate
    .next (s.putLimiter { e with rate := r, marked := false, bucket := s.bucketNow e, filledAt := s.now })

/-- A packet discarded for want of a route, counted at its input port (R273). -/
def State.countUnroutable (s : State) (port : Nat) : State :=
  (s.satCount RTR_PORT_STAT_unroutable port).event RTR_PORT_EVT_unroutable port

/-- Whether a packet that is leaving can go no further: of a VC4 packet, its circuit claims no slot on its port (R298, R299);
a copy of a replicated packet waits at a port that is down (R351). -/
def State.stranded (s : State) (o : OutPacket) : Bool :=
  decide (o.port < 8) && ((o.packet.vc == 4 && !s.claimsFor o.port o.packet.circuitId)
    || (o.multi && o.sent == 0 && s.down o.port))

/-- UNROUTABLE_TIMEOUT (R273, R298, R351): the packet of a port's virtual channel that waits without a usable port is
discarded, be it in the input buffer or, on a circuit, partly sent; so is a copy that waits at a port. -/
def execUnroutableTimeout (port vc : Nat) (s : State) : Host.Outcome State Fault Refusal :=
  match lfind (fun e => e.port == port && e.packet.vc == vc && e.held) s.input with
  | some i =>
    match s.input[i]? with
    | none => .next s
    | some e => .next ((s.dropInput i e).countUnroutable port)
  | none =>
    match s.output.find? fun o => o.inPort == port && o.inVc == vc && s.stranded o with
    | some o => .next ((s.dropCopy o).countUnroutable port)
    | none => .next s

/-- The packets on circuits that wait at output ports when the circuit and slot tables have flipped (R298, R299): those of
which no unit has left are looked up again; the rest of one that has begun follows the new tables, and is discarded
where its circuit is no longer valid for it. -/
def State.relookCircuits (s : State) : State :=
  let s := s.recall fun o => o.packet.vc == 4
  (s.output.filter fun o => decide (o.port < 8) && o.packet.vc == 4 && decide (s.routeCircuit o.packet = .refuse)).foldl
    (fun s o =>
      let s := (s.dropCopy o).event BT_EVT_circuit_refused
      if o.inPort < 8 then s.satCount BT_PORT_STAT1_refused o.inPort else s) s

/-! ### Output ports (R267, R268, R294, R297) -/

/-- The packets that may leave on a virtual channel of an output port, in order: on a port whose heft entry is not AGREED
only heft packets and those already begun (R343, R351). -/
def State.outQueue (s : State) (k vc : Nat) : List OutPacket :=
  let agreed := s.fld RTR_HEFT_FAR1_state k == 2
  s.output.filter fun o =>
    o.port == k && o.packet.vc == vc && (agreed || o.packet.type == tHEFT || decide (0 < o.sent))

/-- The units that each packet of a list gives to a block with room for `n`: those that have come, of one packet after the
other, each to its end (R267). -/
def planUnits (n : Nat) : List OutPacket → List (OutPacket × Nat)
  | [] => []
  | o :: os =>
    let u := min n (o.came - o.sent)
    if u = 0 then [] else if o.sent + u < o.packet.length then [(o, u)] else (o, u) :: planUnits (n - u) os

/-- The units that the next block of a list of packets holds. -/
def blockUnits (os : List OutPacket) : Nat := total ((planUnits 15 os).map (·.2))

/-- Whether a list of packets can send a block on a virtual channel: it has units, and C covers them (R265). -/
def State.readyBlock (s : State) (k vc : Nat) (os : List OutPacket) : Bool :=
  decide (0 < blockUnits os) && decide (blockUnits os ≤ s.fld RTR_VC_CREDIT_credit k vc)

/-- The words of a plan. -/
def planWords (ps : List (OutPacket × Nat)) : List Word64 :=
  ps.flatMap fun e => ((packetWords e.1.packet).drop (2 * e.1.sent)).take (2 * e.2)

/-- The start bits of a plan: bit 2 + u where unit u begins a packet. -/
def planStarts : Nat → List (OutPacket × Nat) → Nat
  | _, [] => 0
  | u, (o, n) :: ps => (if o.sent = 0 then 2 ^ (2 + u) else 0) + planStarts (u + n) ps

/-- A bell that starts to leave is stamped with T (R287). -/
def State.stampBell (s : State) (o : OutPacket) : OutPacket :=
  if o.packet.type = tBELL && o.sent = 0 then
    { o with packet := { o.packet with body := lset o.packet.body 2 (BitVec.ofNat 64 s.beat.t) } }
  else o

/-- The units of a plan entry have left: the packet's progress, and the buffer space freed (R266, R272). -/
def State.sentUnits (s : State) (e : OutPacket × Nat) : State :=
  let o := e.1
  let before := (leastSent s.output o.tag).getD 0
  let here := fun q : OutPacket => q.port == o.port && q.tag == o.tag
  let s := { s with output := if decide (o.packet.length ≤ o.sent + e.2) then s.output.filter fun q => !here q
    else s.output.map fun q => if here q then { q with packet := o.packet, sent := o.sent + e.2 } else q }
  match s.output.find? fun q => q.tag == o.tag with
  | some q => s.afterCopies { o with came := q.came } before
  | none => s.afterCopies o before

/-- The entries of a plan leave one after the other; the words of each are those it leaves with, a head with its mark and
a bell with its stamp (R278, R287). -/
def State.sendPlan (s : State) : List (OutPacket × Nat) → List (OutPacket × Nat) × State
  | [] => ([], s)
  | (o, n) :: ps =>
    let o := s.stampBell (if o.sent = 0 then { o with packet := s.mark o.inPort o.inVc o.packet } else o)
    let r := (s.sentUnits (o, n)).sendPlan ps
    ((o, n) :: r.1, r.2)

/-- A data block sent and stored (R240, R241, R266): units of a virtual channel, with credit where some is owed. -/
def State.sendData (s : State) (k vc : Nat) (ps : List (OutPacket × Nat)) : State :=
  let r := s.sendPlan ps
  let ps := r.1
  let s := r.2
  let n := total (ps.map (·.2))
  let ws := planWords ps
  let starts := planStarts 0 ps
  let ends := (ps.filter fun e => e.1.packet.length ≤ e.1.sent + e.2).length
  let circuit := if vc = 4 then ps.head?.map fun e => (e.1.packet.circuitId, e.1.packet.partition) else none
  let s := s.setFld RTR_VC_CREDIT_credit k vc (s.fld RTR_VC_CREDIT_credit k vc - n)
  let s := s.lend k
  let x := s.link k
  let v := ((List.range 8).map fun i => (x.crdLast + 1 + i) % 8).find? fun v => decide (0 < lget x.owed v 0)
  let cu := match v with
    | some v => min 4095 (lget x.owed v 0)
    | none => 0
  let w0 := starts + vc <<< 17 + n <<< 20
    + (match v with
      | some v => 1 <<< 24 + v <<< 25 + cu <<< 28
      | none => 0)
  let x : LinkPort := match v with
    | some v => { x with owed := lset x.owed v (lget x.owed v 0 - cu), crdLast := v }
    | none => x
  let seq := s.fld RTR_LINK_REPLAY_next_seq k
  let blk := linkBlock (BitVec.ofNat 64 w0 :: ws) seq x.expect
  let s := s.setLink k { x with replay := x.replay ++ [⟨seq, blk, ends, circuit⟩] }
  let s := s.setFld RTR_LINK_REPLAY_next_seq k 0 (seq + 1)
  let s := s.setFld RTR_LINK_REPLAY_used k 0 (x.replay.length + 1)
  let s := if x.replay.length + 1 = 4096 then s.event RTR_LINK_EVT_rtt_high k else s
  let s := if s.fld RTR_LINK_STAT_pstate k = 1 then s.setFld RTR_LINK_STAT_pstate k 0 0 else s
  s.emit (.linkBlock k (s.stripes k blk))

/-- The partition class of a packet at a port: the first valid share entry that names it, else 4 (R268). -/
def State.partClass (s : State) (k part : Nat) : Nat :=
  ((List.range 4).find? fun j =>
    s.flag RTR_PORT_SHARE_valid k j && s.fld RTR_PORT_SHARE_partition k j == part).getD 4

/-- Whether partitions share a port (R268). -/
def State.shared (s : State) (k : Nat) : Bool := (List.range 4).any fun j => s.flag RTR_PORT_SHARE_valid k j

/-- The packets of a bulk virtual channel that partition class `j` may put into a block, in order: the one that has begun
to leave goes first, and where it is of another class, none may (R267, R268). -/
def State.classQueue (s : State) (k vc j : Nat) : List OutPacket :=
  let os := s.outQueue k vc
  let mine := fun o : OutPacket => s.partClass k o.packet.partition == j
  match os.find? fun o => decide (0 < o.sent) with
  | some b => if mine b then b :: os.filter (fun o => o.sent == 0 && mine o) else []
  | none => os.filter mine

/-- Whether a virtual channel of a port has a block ready. -/
def State.vcReady (s : State) (k vc : Nat) : Bool := s.readyBlock k vc (s.outQueue k vc)

/-- The packets of a VC2 queue that may leave, in order: one that has not begun only where the credit `c` left by those
before it covers it whole (R267). -/
def coveredWhole : Nat → List OutPacket → List OutPacket
  | _, [] => []
  | c, o :: os =>
    let n := o.packet.length - o.sent
    if 0 < o.sent ∨ n ≤ c then o :: coveredWhole (c - n) os else []

/-- One turn after another of a deficit round robin: the index served, and the round robin after it. The first argument
bounds the turns; each turn adds 16 bytes for each unit of weight, and each round takes the weights `live` (R282). -/
def drr : Nat → List Nat → List Bool → List Nat → Drr → Option (Nat × Drr)
  | 0, _, _, _, _ => none
  | f + 1, live, ready, need, d =>
    if lget ready d.turn false && decide (lget need d.turn 0 ≤ lget d.deficit d.turn 0) then
      some (d.turn, { d with deficit := lset d.deficit d.turn (lget d.deficit d.turn 0 - lget need d.turn 0) })
    else
      let deficit := if lget ready d.turn false then d.deficit else lset d.deficit d.turn 0
      let next := (d.turn + 1) % live.length
      let weights := if next = 0 then live else d.weights
      let deficit := if lget ready next false then
          lset deficit next (lget deficit next 0 + 16 * lget weights next 0) else deficit
      drr f live ready need ⟨next, deficit, weights⟩

/-- The ready indices whose weight is not zero. -/
def weighted (weights : List Nat) (ready : List Bool) : List Bool :=
  (List.range weights.length).map fun i => lget ready i false && decide (0 < lget weights i 0)

/-- The index that a deficit round robin serves; an index of weight zero only where no other one is ready (R267). Where
none with weight is ready in this round, the next round begins. -/
def drrPick (live : List Nat) (ready : List Bool) (need : List Nat) (d : Drr) : Option (Nat × Drr) :=
  let d := if (weighted d.weights ready).any id then d else { d with weights := live }
  let w := weighted d.weights ready
  let rest := (lfind id ready).map fun i => (i, d)
  if w.any id then (drr 512 live w need d).or rest else rest

/-- The bulk virtual channels of step 4 of R267. -/
def bulkVcs : List Nat := [2, 5, 7]

/-- The bulk channel that a deficit round robin serves of the queues `q` gives, the packets it serves, and the round robin
after it. -/
def State.serveBulk (s : State) (k : Nat) (q : Nat → List OutPacket) (d : Drr) :
    Option (Nat × List OutPacket × Drr) :=
  let q := fun v => if v = 2 then coveredWhole (s.fld RTR_VC_CREDIT_credit k 2) (q 2) else q v
  let weights := [s.fld RTR_PORT_CFG_w2 k, s.fld RTR_PORT_CFG_w5 k, s.fld RTR_PORT_CFG_w7 k]
  let ready := bulkVcs.map fun v => s.readyBlock k v (q v)
  let need := bulkVcs.map fun v => 16 * blockUnits (q v)
  (drrPick weights ready need d).map fun r => let v := lget bulkVcs r.1 2; (v, q v, r.2)

/-- The round robin of a partition class, or the sixth one. -/
def LinkPort.round (x : LinkPort) (j : Nat) : Drr := lget x.vcRounds j ⟨0, [0, 0, 0], [128, 64, 32]⟩

/-- The virtual channel of step 4 of R267 with the packets it serves, divided among partitions where they share the port
(R268), and the port's rounds after it. -/
def State.pickBulk (s : State) (k : Nat) : Option (Nat × List OutPacket × LinkPort) :=
  let x := s.link k
  let serve := fun (j : Nat) (q : Nat → List OutPacket) (x : LinkPort) =>
    (s.serveBulk k q (x.round j)).map fun r => (r.1, r.2.1, { x with vcRounds := lset x.vcRounds j r.2.2 })
  if s.shared k then
    let live := (List.range 5).map fun j => if j = 4 then s.fld RTR_PORT_CFG_w_other k
      else if s.flag RTR_PORT_SHARE_valid k j then s.fld RTR_PORT_SHARE_weight k j else 0
    let next := fun j => (serve j (fun v => s.classQueue k v j) x).map fun r => 16 * blockUnits r.2.1
    let ready := (List.range 5).map fun j => (next j).isSome
    let need := (List.range 5).map fun j => (next j).getD 0
    match drrPick live ready need x.partRound with
    | none => none
    | some r => serve r.1 (fun v => s.classQueue k v r.1) { x with partRound := r.2 }
  else serve 5 (s.outQueue k) x

/-- The virtual channel that an unclaimed slot serves and its packets (R267), with the port's turns after it: VC6, VC1, VC0
in strict priority within their share of any 64 blocks in which data waits, then VC3, then the bulk channels. -/
def State.pickVc (s : State) (k : Nat) : Option (Nat × List OutPacket × LinkPort) :=
  let x := s.link k
  let pct := s.fld RTR_PORT_CFG_ctrl_pct k
  let pct := if 1 ≤ pct && pct ≤ 100 then pct else 25
  let bulk := s.pickBulk k
  let data := s.vcReady k 3 || bulk.isSome
  let used := (x.ctrlHist.filter id).length
  let ctrl := if !data || decide ((used + 1) * 100 ≤ pct * 64) then [6, 1, 0].find? fun v => s.vcReady k v else none
  let push := fun b => if data then ((x.ctrlHist ++ [b]).drop (x.ctrlHist.length - 62)) else x.ctrlHist
  match ctrl with
  | some v => some (v, s.outQueue k v, { x with ctrlHist := push true })
  | none =>
    if s.vcReady k 3 then some (3, s.outQueue k 3, { x with ctrlHist := push false })
    else bulk.map fun r => (r.1, r.2.1, { r.2.2 with ctrlHist := push false })

/-- The last slot of a port accounted for (R297). -/
def State.closeSlot (s : State) (k : Nat) : State :=
  let x := s.link k
  match x.slotCircuit with
  | none => s
  | some c =>
    let s := if !x.slotReady && !x.slotStalled then s.satCount BT_PORT_STAT1_idle_slots k else s
    let waits := s.output.any fun o => o.port == k && o.packet.vc == 4 && o.packet.circuitId == c
    let s := if waits && s.lastSlotOf k c == some (x.slotKey % 256) then s.satCount BT_PORT_STAT0_carry k else s
    s.onLink k fun x => { x with slotCircuit := none }

/-- The slot that the port's next block belongs to (R294): on a change the former slot is accounted for, and an entry
whose partition does not match is counted. -/
def State.openSlot (s : State) (k : Nat) : State :=
  let slot := s.slotNow
  let key := s.beatNo * 256 + slot
  if (s.link k).slotKey = key then s
  else
    let s := s.closeSlot k
    let s := if s.slotMismatch k slot then
      (s.satCount BT_PORT_STAT1_mismatch k).event BT_EVT_claim_mismatch else s
    let owner := s.slotOwner k slot
    s.onLink k fun x => { x with slotKey := key, slotCircuit := owner, slotReady := false, slotStalled := false }

/-- A null block sent in a slot, with the loan that goes with each block a port sends (R266). A Quiet port sends none
(R245). -/
def State.sendIdle (s : State) (k : Nat) : State :=
  if s.fld RTR_LINK_STAT_pstate k = 1 then s else s.sendNull k

/-- The packets that a circuit's slots on a port carry, in order (R294, R297, R300): those of the circuit, of the partition
that owns it. While a VC4 packet has begun to leave by the port, no other one begins (R267). -/
def State.circuitQueue (s : State) (k c : Nat) : List OutPacket :=
  let os := s.outQueue k 4
  let mine := fun o : OutPacket => o.packet.circuitId == c && o.packet.partition == circPartition (s.circuit c)
  match os.find? fun o => decide (0 < o.sent) with
  | some b => if mine b then b :: os.filter (fun o => o.sent == 0 && mine o) else []
  | none => os.filter mine

/-- What the slot of a circuit finds, accounted for (R297): a VC4 block of the circuit was ready, or one was but for
credit. -/
def State.noteReady (s : State) (k c : Nat) : State :=
  let os := s.circuitQueue k c
  if s.readyBlock k 4 os then s.onLink k fun x => { x with slotReady := true }
  else if decide (0 < blockUnits os) && !(s.link k).slotStalled then
    (s.satCount BT_PORT_STAT1_credit_stall k).onLink k fun x => { x with slotStalled := true }
  else s

/-- The block of a claimed slot (R267, R297): VC4 packets of the owning circuit, or a null block. -/
def State.sendClaimed (s : State) (k c : Nat) : State :=
  let os := s.circuitQueue k c
  let s := s.noteReady k c
  if s.readyBlock k 4 os then s.sendData k 4 (planUnits 15 os) else s.sendIdle k

/-- A stored block sent again with the receiver's present ack (R241), with the loan of R266. -/
def State.resendBlock (s : State) (k seq : Nat) : State :=
  let x := s.link k
  match lfind (fun b => b.seq == seq) x.replay with
  | none => s.setLink k { x with resendAt := none }
  | some i =>
    let ws := match x.replay[i]? with
      | some b => b.words
      | none => []
    let s := s.setLink k { x with resendAt := (x.replay[i + 1]?).map (·.seq) }
    s.putBlock k (linkBlock (ws.take 31) seq x.expect)

/-- The circuit of a stored block and its partition (R294, R300). -/
def LinkPort.storedCircuit (x : LinkPort) (seq : Nat) : Option (Nat × Nat) :=
  (x.replay.find? fun b => b.seq == seq).bind (·.circuit)

/-- LINK_BLOCK_SEND (R240, R241, R245, R266, R267, R294, R297): an ACTIVE port chooses and sends its next link block. A
claimed slot carries only blocks of its circuit, also when stored blocks are sent again (log entry 109). -/
def execLinkBlockSend (port : Nat) (s : State) : Host.Outcome State Fault Refusal :=
  if !s.linkUp port || decide (2 ≤ s.fld RTR_LINK_STAT_pstate port) then .next s
  else
    let s := s.openSlot port
    let x := s.link port
    match x.slotCircuit, x.resendAt with
    | some c, some q =>
      if x.storedCircuit q = some (c, circPartition (s.circuit c)) then
        .next ((s.onLink port fun x => { x with slotReady := true }).resendBlock port q)
      else .next ((s.noteReady port c).sendIdle port)
    | none, some q => .next (s.resendBlock port q)
    | some c, none =>
      if 4096 ≤ x.replay.length then .next ((s.noteReady port c).sendIdle port) else .next (s.sendClaimed port c)
    | none, none =>
      if 4096 ≤ x.replay.length then .next (s.sendIdle port)
      else
        match s.pickVc port with
        | some r => .next ((s.setLink port r.2.2).sendData port r.1 (planUnits 15 r.2.1))
        | none =>
          if x.owed.any fun u => decide (0 < u) then .next (s.sendData port 0 []) else .next (s.sendIdle port)

/-! ### Tables (R275, R285) -/

/-- The beat that a field with the low 32 bits `f` names, and whether it has begun (R285). -/
def resolveBeat (n f : Nat) : Nat × Bool :=
  let d := (f % 2 ^ 32 + 2 ^ 32 - n % 2 ^ 32) % 2 ^ 32
  if 1 ≤ d && d < 2 ^ 31 then (n + d, false) else (n + 1, true)

/-- A write of RTR_TBL_CTRL.arm (R275). -/
def State.armTables (s : State) : State :=
  let r := resolveBeat s.beatNo (s.fld RTR_TBL_CTRL_flip_beat)
  let s := { s with beat := { s.beat with rtrFlip := r.1 } }
  let s := s.put RTR_TBL_CTRL_armed 1
  if r.2 then s.event RTR_EVT_flip_late else s

/-- RTR_TBL_ARM (R275): flip_beat is written, and then arm. -/
def execRtrTblArm (flipBeat : Nat) (s : State) : Host.Outcome State Fault Refusal :=
  .next ((s.put RTR_TBL_CTRL_flip_beat flipBeat).armTables)

/-- A write of RTR_TBL_CTRL.disarm (R281). -/
def State.disarmTables (s : State) : State := s.put RTR_TBL_CTRL_armed 0

/-- RTR_TBL_DISARM (R281). -/
def execRtrTblDisarm (s : State) : Host.Outcome State Fault Refusal := .next s.disarmTables

/-- Both routing tables swap banks (R275). -/
def State.flipTables (s : State) : State :=
  let s := (s.put RTR_TBL_CTRL_active (1 - s.fld RTR_TBL_CTRL_active)).put RTR_TBL_CTRL_armed 0
  let s := { s with beat := { s.beat with rtrFlipAt := some s.beat.t } }
  if s.flag BT_CTRL_master || s.flag BT_STAT_sync then s else s.event RTR_EVT_flip_unsync

/-- The index and bank of RTR_TBL_IDX as an entry: whether the multicast table is meant, whether bank 1, and the index. -/
def State.tblSel (s : State) : Bool × Bool × Nat :=
  let mc := s.flag RTR_TBL_IDX_table
  let bank1 := s.flag RTR_TBL_CTRL_active == s.flag RTR_TBL_IDX_bank
  (mc, bank1, if mc then s.fld RTR_TBL_IDX_index % 4096 else s.fld RTR_TBL_IDX_index)

/-- RTR_TBL_DATA as read (R281). -/
def State.tblRead (s : State) : Nat :=
  let q := s.tblSel
  let t := if q.1 then (if q.2.1 then s.mc1 else s.mc0) else (if q.2.1 then s.uc1 else s.uc0)
  (agetD t q.2.2 (if q.1 then 0 else ucDefault)).toNat

/-- The index advances where auto_inc is set (R281). -/
def State.tblNext (s : State) : State :=
  if s.flag RTR_TBL_IDX_auto_inc then s.wrapCount RTR_TBL_IDX_index else s

/-- A write of RTR_TBL_DATA (R275): a shadow entry; one that names the active bank is ignored. The bits that R269 reserves
stay zero. -/
def State.tblWrite (s : State) (v : Nat) : State :=
  if s.flag RTR_TBL_IDX_bank then s.event RTR_EVT_active_write
  else
    let s := if s.beat.rtrFlipAt = some s.beat.t then s.event RTR_EVT_flip_race else s
    let q := s.tblSel
    let e : Word32 := BitVec.ofNat 32 (if q.1 then v % 2 ^ 9 else v % 2 ^ 22)
    match q.1, q.2.1 with
    | true, true => { s with mc1 := aput 0 s.mc1 q.2.2 e }
    | true, false => { s with mc0 := aput 0 s.mc0 q.2.2 e }
    | false, true => { s with uc1 := aput ucDefault s.uc1 q.2.2 e }
    | false, false => { s with uc0 := aput ucDefault s.uc0 q.2.2 e }

/-- RTR_TBL_DATA_ACCESS (R275, R281): PCI Express reads or writes the entry at the index. -/
def execRtrTblDataAccess (write : Bool) (data : Word64) (s : State) : Host.Outcome State Fault Refusal :=
  if write then .next (s.tblWrite data.toNat).tblNext
  else .next (s.emit (.regRead (RegId.offset .RTR_TBL_DATA 0 0) (BitVec.ofNat 64 s.tblRead))).tblNext

/-- A write of clr_max (R283). -/
def State.vcClrMax (s : State) (port vc : Nat) : State := s.setFld RTR_VC_DEPTH_occ_max port vc (s.vcOcc port vc)

/-- VC_CLR_MAX (R283). -/
def execVcClrMax (port vc : Nat) (s : State) : Host.Outcome State Fault Refusal :=
  if decide (port < 14) && decide (vc < 8) then .next (s.vcClrMax port vc) else .next s

end Sys2Proof.Machine
end

