-- ==== Sys2Proof/Machine/Beat.lean ====
section
/-! DEFINITION. The beat timer, bells, and the slot, circuit and steering tables (R284 to R305), and the clones that start
with a beat (R374). -/
namespace Sys2Proof.Machine

/-! ### Time -/

/-- The time of 100 ps passing: T advances with the rate offset of a slew, and stands still after a backward step (R284,
R293). The master runs freely (R289). -/
def State.tick (s : State) : State :=
  let b := s.beat
  let b := if 0 < b.still then { b with still := b.still - 1 }
    else
      let f := (((b.frac + 65536 : Nat) : Int) + (if s.flag BT_CTRL_master then 0 else b.rate)).toNat
      { b with t := b.t + f / 65536, frac := f % 65536 }
  { s with now := s.now + 1, beat := b }

/-- Whether the node counts as synchronised: the master always does (R289, R291). -/
def State.synced (s : State) : Bool := s.flag BT_CTRL_master || s.flag BT_STAT_sync

/-- sync goes from 1 to 0 (R291): the event, and the fence of a lease holder (R366). -/
def State.loseSync (s : State) : State :=
  if s.flag BT_STAT_sync then ((s.put BT_STAT_sync 0).event BT_EVT_sync_lost).fenceHolder else s

/-! ### Flips (R299) -/

/-- The exit of a port on which a flip has installed claims (R299). -/
def State.claimWake (s : State) (k : Nat) : State :=
  if s.linkUp k && s.claimsAny k then
    if s.fld RTR_LINK_STAT_pstate k = 1 then s.setFld RTR_LINK_STAT_pstate k 0 0
    else if s.fld RTR_LINK_STAT_pstate k = 2 then (s.emit (.wake k)).wakePort k
    else s
  else s

/-- The slot, circuit and steering tables swap banks (R299). -/
def State.flipSlots (s : State) : State :=
  let s := (s.put BT_FLIP_active (1 - s.fld BT_FLIP_active)).put BT_FLIP_armed 0
  let s := { s with beat := { s.beat with slotFlipAt := some s.beat.t } }
  let s := if s.synced then s else s.event BT_EVT_flip_unsync
  let s := s.relookCircuits
  (List.range 8).foldl (fun s k => s.claimWake k) s

/-- A write of BT_FLIP.arm (R299): ignored while a copy runs. -/
def State.armSlots (s : State) : State :=
  if s.flag BT_FLIP_copy_busy then s
  else
    let r := resolveBeat s.beatNo (s.fld BT_FLIP_flip_beat)
    let s := { s with beat := { s.beat with slotFlip := r.1 } }
    let s := s.put BT_FLIP_armed 1
    if r.2 then s.event BT_EVT_flip_late else s

/-- BT_FLIP_ARM (R299): flip_beat is written, and then arm. -/
def execBtFlipArm (flipBeat : Nat) (s : State) : Host.Outcome State Fault Refusal :=
  .next ((s.put BT_FLIP_flip_beat flipBeat).armSlots)

/-- A write of BT_FLIP.disarm (R304). -/
def State.disarmSlots (s : State) : State := s.put BT_FLIP_armed 0

/-- BT_FLIP_DISARM (R304). -/
def execBtFlipDisarm (s : State) : Host.Outcome State Fault Refusal := .next s.disarmSlots

/-- A write of BT_FLIP.copy (R299). -/
def State.copySlots (s : State) : State := s.put BT_FLIP_copy_busy 1

/-- BT_FLIP_COPY (R299): the copy of every active bank starts. -/
def execBtFlipCopy (s : State) : Host.Outcome State Fault Refusal := .next s.copySlots

/-- COPY_DONE (R299): every shadow bank holds what the active bank holds. -/
def execCopyDone (s : State) : Host.Outcome State Fault Refusal :=
  if s.flag BT_FLIP_copy_busy then
    let s := s.put BT_FLIP_copy_busy 0
    if s.flag BT_FLIP_active then .next { s with slot0 := s.slot1, circ0 := s.circ1, steer0 := s.steer1 }
    else .next { s with slot1 := s.slot0, circ1 := s.circ0, steer1 := s.steer0 }
  else .next s

/-- The entry that BT_TBL_IDX names: whether bank 1 is meant, and the key; none for the reserved table or an index beyond
its table. -/
def State.btSel (s : State) : Option (Bool × Nat) :=
  let bank1 := s.flag BT_FLIP_active == s.flag BT_TBL_IDX_bank
  let i := s.fld BT_TBL_IDX_index
  match s.fld BT_TBL_IDX_table with
  | 0 => if i < 256 then some (bank1, s.fld BT_TBL_IDX_port * 256 + i) else none
  | 1 => some (bank1, i)
  | 2 => if i < 256 then some (bank1, i) else none
  | _ => none

/-- BT_TBL_DATA as read (R304). -/
def State.btRead (s : State) : Nat :=
  match s.btSel with
  | none => 0
  | some (b1, k) =>
    let t := match s.fld BT_TBL_IDX_table with
      | 0 => if b1 then s.slot1 else s.slot0
      | 1 => if b1 then s.circ1 else s.circ0
      | _ => if b1 then s.steer1 else s.steer0
    (agetD t k 0).toNat

/-- The index advances where auto_inc is set (R304). -/
def State.btNext (s : State) : State :=
  if s.flag BT_TBL_IDX_auto_inc then s.wrapCount BT_TBL_IDX_index else s

/-- A write of BT_TBL_DATA (R299): a shadow entry; one that names an active bank is ignored. The bits that R294 to R296
give as zero stay zero. -/
def State.btWrite (s : State) (v : Nat) : State :=
  if s.flag BT_TBL_IDX_bank then s.event BT_EVT_active_write
  else
    let s := if s.beat.slotFlipAt = some s.beat.t then s.event BT_EVT_flip_race else s
    match s.btSel with
    | none => s
    | some (b1, k) =>
      match s.fld BT_TBL_IDX_table with
      | 0 =>
        let e : Word64 := BitVec.ofNat 64 (v % 2 ^ 25)
        if b1 then { s with slot1 := aput 0 s.slot1 k e } else { s with slot0 := aput 0 s.slot0 k e }
      | 1 =>
        let e : Word64 := BitVec.ofNat 64 (v % 2 ^ 17)
        if b1 then { s with circ1 := aput 0 s.circ1 k e } else { s with circ0 := aput 0 s.circ0 k e }
      | _ =>
        let e : Word64 := BitVec.ofNat 64 (v % 2 ^ 51)
        if b1 then { s with steer1 := aput 0 s.steer1 k e } else { s with steer0 := aput 0 s.steer0 k e }

/-- BT_TBL_DATA_ACCESS (R299, R304): PCI Express reads or writes the entry at the index. -/
def execBtTblDataAccess (write : Bool) (data : Word64) (s : State) : Host.Outcome State Fault Refusal :=
  if write then .next (s.btWrite data.toNat).btNext
  else .next (s.emit (.regRead (RegId.offset .BT_TBL_DATA 0 0) (BitVec.ofNat 64 s.btRead))).btNext

/-! ### Periods (R286) -/

/-- What a period of next_ns acts as: its nearer limit where it lies outside them; 0 stays 0 (R303). -/
def clampPeriod (n : Nat) : Nat := if n = 0 then 0 else max 1000 (min 64000 n)

/-- A pending period with its change beat, resolved against the current beat (R285, R286). -/
def State.pendPeriod (s : State) (next change : Nat) : State :=
  let r := resolveBeat s.beatNo change
  let s := (s.put BT_PERIOD_next_ns next).put BT_PERIOD_change_beat change
  let s := { s with beat := { s.beat with periodBeat := r.1 } }
  if r.2 && next != 0 then s.event BT_EVT_flip_late else s

/-- A write of next_ns and change_beat: ignored on a node that is not the master (R286). -/
def State.writePeriod (s : State) (next change : Nat) : State :=
  if s.flag BT_CTRL_master then s.pendPeriod next change else s

/-- BT_PERIOD_WRITE (R286). -/
def execBtPeriodWrite (next change : Nat) (s : State) : Host.Outcome State Fault Refusal :=
  .next (s.writePeriod next change)

/-- The pending period applied at the start of beat `n` (R286). -/
def State.applyPeriod (s : State) (n : Nat) : State :=
  let next := s.fld BT_PERIOD_next_ns
  if next ≠ 0 && s.beat.periodBeat ≤ n then
    let t := s.beatStart n
    let s := { s with beat := { s.beat with nb := n, tb := t } }
    (s.put BT_PERIOD_period_ns (clampPeriod next)).put BT_PERIOD_next_ns 0
  else s

/-! ### Beats -/

/-- The start of a clone (R374): the paddocks stop, and the ledger is emptied, its sequences too. -/
def State.startClone (s : State) : State :=
  let s := (List.range 8).foldl (fun s p => s.setFld GI_PAD_CFG_run p 0 0) s
  let s := s.put RTR_PAIR_CLONE_busy 1
  { s with pair := { Pair.empty with grantAt := s.pair.grantAt } }

/-- BEAT_START (R284 to R286, R275, R299, R374): the next beat starts at its time on the grid; a pending period, armed
flips and an armed clone that are due take effect. -/
def execBeatStart (s : State) : Host.Outcome State Fault Refusal :=
  let n := s.beatNo + 1
  let t := max s.beat.t (s.beatStart n)
  let s := (List.range 8).foldl (fun s k => s.closeSlot k) s
  let s := { s with beatNo := n, now := s.now + (t - s.beat.t), beat := { s.beat with t := t, still := 0 } }
  let s := s.applyPeriod n
  let s := if s.flag RTR_TBL_CTRL_armed && s.beat.rtrFlip ≤ n then s.flipTables else s
  let s := if s.flag BT_FLIP_armed && s.beat.slotFlip ≤ n then s.flipSlots else s
  .next (if s.pair.cloneArmed && s.beat.cloneBeat ≤ n then s.startClone else s)

/-! ### Bells (R287 to R293) -/

/-- A bell of a port (R288); t_send is stamped as it leaves. -/
def State.bellPacket (s : State) (k : Nat) : Packet :=
  let m := s.flag BT_CTRL_master
  let w3 := s.fld BT_PERIOD_period_ns + (if m then 0 else s.fld BT_STAT_hops) <<< 16
    + (if m then s.node else s.fld BT_STAT_master) <<< 24 + natOfBool s.synced <<< 40 + natOfBool m <<< 41
  { Packet.blank with
    vc := 6, type := tBELL, sequence := (s.link k).bells % 65536,
    body := [BitVec.ofNat 64 s.beatNo, BitVec.ofNat 64 (s.beatStart s.beatNo), BitVec.ofNat 64 s.beat.t,
      BitVec.ofNat 64 w3, BitVec.ofNat 64 (s.fld BT_PERIOD_next_ns + s.fld BT_PERIOD_change_beat <<< 16), 0] }

/-- A bell sent on one child port; a port whose heft entry is not AGREED sends none (R343), and a node without an ID holds
every packet of port M but those of heft (R336, log entry 110). -/
def State.sendBell (s : State) (k : Nat) : State :=
  if s.flag RTR_NODE_ID_valid && bitAt (s.fld BT_CTRL_child_mask) k && s.linkUp k && s.fld RTR_HEFT_FAR1_state k == 2 then
    (s.sendOnPort k (s.bellPacket k)).onLink k fun x => { x with bells := x.bells + 1 }
  else s

/-- BELL_SEND (R287): the node sends bells on its child ports. -/
def execBellSend (s : State) : Host.Outcome State Fault Refusal :=
  .next ((List.range 8).foldl (fun s k => s.sendBell k) s)

/-- A step of T by `e` ps (R293), after which the grid of a bell is adopted; beat numbers do not repeat, nor do the slots of
the beat that has begun. -/
def State.stepTo (s : State) (e : Int) (beat start period : Nat) : State :=
  let d := e.tdiv 100
  let want := (((s.beat.t : Nat) : Int) + d).toNat
  let s := { s with beat := { s.beat with
    stepBeat := s.beatNo, stepSlot := s.slotNow,
    t := if 0 ≤ d then want else s.beat.t, still := if 0 ≤ d then 0 else d.natAbs, rate := 0, frac := 0,
    nb := beat, tb := start } }
  let s := s.put BT_PERIOD_period_ns period
  let m := if s.period = 0 then s.beatNo else beat + (want - start) / s.period
  let old := s.beatNo
  let s := { s with beatNo := max old m }
  if old < m && 0 ≤ d then
    let s := s.event BT_EVT_beat_skip
    if s.flag BT_FLIP_armed && s.beat.slotFlip ≤ m then s.event BT_EVT_flip_late else s
  else s

/-- The rate offset of a slew (R289): what removes `e` ps by the next bell, within ±500 ppm, in 2⁻¹⁶. -/
def State.slewRate (s : State) (e : Int) : Int :=
  let bells : Nat := match s.fld BT_CTRL_bells_per_beat with
    | 0 => 1 | 1 => 2 | _ => 4
  let ticks : Int := ((s.period / bells : Nat) : Int)
  if ticks = 0 then 0 else max (-32) (min 32 ((e * 65536).tdiv (100 * ticks)))

/-- Whether the node's grid differs from the one of a bell, which says that beat `beat` starts at `start` and lasts
`period` ns: the pending period counts from its beat on (R286). A bell of a beat before the grid's base tells nothing. -/
def State.gridDiffers (s : State) (beat start period : Nat) : Bool :=
  let c := s.beat.periodBeat
  let next := clampPeriod (s.fld BT_PERIOD_next_ns)
  if beat < s.beat.nb then false
  else if next ≠ 0 && c ≤ beat then start != s.beatStart c + (beat - c) * next * 10 || period != next
  else start != s.beatStart beat || period != s.fld BT_PERIOD_period_ns

/-- BELL (R286, R289 to R293, R336): a bell arrives on a port at T; one from another port than the parent, at the master, or
from 64 hops or more is stray. A node without an ID holds it as unroutable. A node whose
grid differs from its parent's adopts that by a step. -/
def execBell (port : Nat) (p : Packet) (s : State) : Host.Outcome State Fault Refusal :=
  if !s.flag RTR_NODE_ID_valid then .next s
  else
  let s := s.take p
  if p.status = 3 then .next (s.countMalformed port)
  else
  let hops := bitsOf (p.word 5) 23 16
  if decide (8 ≤ port) || s.flag BT_CTRL_master || port != s.fld BT_CTRL_parent || decide (64 ≤ hops)
      || s.fld RTR_HEFT_FAR1_state port != 2 then .next (s.satCount BT_BELL_STAT_stray)
  else
    let d : Int := ((s.fld RTR_LINK_STAT_rtt port * 100 / 2 : Nat) : Int) + signedOf 16 (s.fld BT_TRIM_trim_ps port)
    let e : Int := ((p.word 4 * 100 : Nat) : Int) + d - ((s.beat.t * 100 : Nat) : Int)
    let jump : Int := ((max 1 (s.fld BT_CTRL_jump_ns) * 1000 : Nat) : Int)
    let step := !s.flag BT_STAT_adopted || decide (jump < e) || decide (e < -jump)
      || s.gridDiffers (p.word 2) (p.word 3) (bitsOf (p.word 5) 15 0)
    let s : State := if step then
        let s := (s.stepTo e (p.word 2) (p.word 3) (bitsOf (p.word 5) 15 0)).put BT_STAT_adopted 1
        { s with beat := { s.beat with good := 0 } }
      else { s with beat := { s.beat with rate := s.slewRate e } }
    let ok := decide (-10000 ≤ e) && decide (e ≤ 10000) && bitAt (p.word 5) 40
    let s : State := if ok then { s with beat := { s.beat with good := min 4 (s.beat.good + 1) } }
      else { s with beat := { s.beat with good := 0 } }.loseSync
    let s := if s.beat.good = 4 then s.put BT_STAT_sync 1 else s
    let s := s.pendPeriod (bitsOf (p.word 6) 15 0) (bitsOf (p.word 6) 47 16)
    let s := (s.put BT_STAT_master (bitsOf (p.word 5) 39 24)).put BT_STAT_hops (hops + 1)
    let s := (s.put BT_BELL_STAT_last_err (twosOf 32 e)).satCount BT_BELL_STAT_bells
    .next { s with beat := { s.beat with lastBell := s.beat.t } }

/-- A write of BT_CTRL that makes the node the master: it holds sync at 1 and hops at 0, and both stand when another node
becomes the master, until R291 takes sync away. -/
def State.holdMaster (s : State) : State :=
  if s.flag BT_CTRL_master then (s.put BT_STAT_sync 1).put BT_STAT_hops 0 else s

/-- SYNC_TIMEOUT (R291): 50 µs have passed since the last parent bell; the bells in a row that passed still count. -/
def execSyncTimeout (s : State) : Host.Outcome State Fault Refusal :=
  if s.flag BT_CTRL_master then .next s else .next s.loseSync

/-- BT_STAT.holdover as read (R291): the node is synchronised, and its next parent bell is overdue. -/
def State.holdover (s : State) : Bool :=
  let bells : Nat := match s.fld BT_CTRL_bells_per_beat with
    | 0 => 1 | 1 => 2 | _ => 4
  !s.flag BT_CTRL_master && s.flag BT_STAT_sync && decide (s.beat.lastBell + s.period / bells < s.beat.t)

/-! ### Clones (R374) -/

/-- A write of RTR_PAIR_CLONE.arm (R374). -/
def State.armClone (s : State) : State :=
  let r := resolveBeat s.beatNo (s.fld RTR_PAIR_CLONE_start_beat)
  { s with beat := { s.beat with cloneBeat := r.1 }, pair := { s.pair with cloneArmed := true } }

/-- PAIR_CLONE_ARM (R374): start_beat is written, and then arm. -/
def execPairCloneArm (startBeat : Nat) (s : State) : Host.Outcome State Fault Refusal :=
  .next ((s.put RTR_PAIR_CLONE_start_beat startBeat).armClone)

end Sys2Proof.Machine
end

