-- ==== Sys2Proof/Machine/Hbm.lean ====
section
/-! DEFINITION. The HBM controllers: the interleave check, patrol scrub, refresh and training (R213 to R228). -/
namespace Sys2Proof.Machine

/-! ### Interleave (R215, R216) -/

/-- The entries in use of a copy: the die whose half each belongs to (none in package-wide mode), and its index. -/
def ilvInUse (mode len : Nat) : List (Option Nat × Nat) :=
  if mode = 0 then (List.range len).map fun i => (none, i)
  else ((List.range (len / 2)).map fun i => (some 0, i)) ++ (List.range (len / 2)).map fun i => (some 1, 2048 + i)

/-- An interleave entry of a die's copy: stack and slot. -/
def State.ilvEntry (s : State) (die i : Nat) : Nat × Nat :=
  (s.fld HBM_ILV_ENT_stack die i, s.fld HBM_ILV_ENT_slot die i)

/-- Whether a stack is enabled and has not failed training (R216). -/
def State.stackGood (s : State) (k : Nat) : Bool :=
  decide (k < 12) && s.stackFused k && !s.flag FUS_FP_UNIT_test_fail k

/-- Whether no two elements of a list are equal. -/
def allDistinct : List (Nat × Nat) → Bool
  | [] => true
  | a :: t => !t.contains a && allDistinct t

/-- The first case of R216 that applies to a die's copy, 0 where it is valid. -/
def State.ilvCheck (s : State) (die : Nat) : Nat :=
  let mode := s.fld HBM_ILV_CTRL_mode die
  let len := s.fld HBM_ILV_CTRL_length die
  let other := 1 - die
  let use := ilvInUse mode len
  let share := len / s.stackCount
  if len != s.fuse.ilvLength then 1
  else if use.any fun e =>
      let k := (s.ilvEntry die e.2).1
      !s.stackGood k || (match e.1 with
        | some h => k / 6 != h
        | none => false) then 2
  else
    let es := use.map fun e => s.ilvEntry die e.2
    if es.any (fun e => decide (share ≤ e.2)) || !allDistinct es
        || (List.range 12).any (fun k => s.stackFused k && (es.filter fun e => e.1 == k).length != share) then 3
    else if mode != s.fld HBM_ILV_CTRL_mode other || len != s.fld HBM_ILV_CTRL_length other
        || use.any (fun e => s.ilvEntry die e.2 != s.ilvEntry other e.2) then 4
    else 0

/-- A write of HBM_ILV_CTRL.commit (R216). -/
def State.ilvCommit (s : State) (die : Nat) : State := s.setFld HBM_ILV_CTRL_state die 0 1

/-- ILV_COMMIT (R216): the check of a die's copy starts. -/
def execIlvCommit (die : Nat) (s : State) : Host.Outcome State Fault Refusal :=
  if decide (die < 2) && !s.chipReset then .next (s.ilvCommit die) else .next s

/-- HBM service starts in every enabled stack once both copies are valid (R216, R227). -/
def State.startService (s : State) : State :=
  if s.hbmOn then
    (List.range 12).foldl (fun s k => if s.stackFused k then s.setFld HBM_STAT_in_service k 0 1 else s) s
  else s

/-- ILV_CHECK_DONE (R216, R411): a die's check ends with state valid or failed; the element that management firmware wrote
is refused when it fails. -/
def execIlvCheckDone (die : Nat) (s : State) : Host.Outcome State Fault Refusal :=
  if decide (2 ≤ die) || s.fld HBM_ILV_CTRL_state die != 1 then .next s
  else
    let c := s.ilvCheck die
    let s := s.setFld HBM_ILV_CTRL_fail_cause die 0 c
    let s := if c != 0 && (s.boot.step < 11 || s.chipReset) then s.event FUS_EVT_si_element else s
    .next ((s.setFld HBM_ILV_CTRL_state die 0 (if c = 0 then 2 else 3)).startService)

/-! ### Patrol scrub (R222) -/

/-- The granules of a pseudo-channel: 1.5 GiB of 64 bytes (R213). -/
def pcGranules : Nat := 25165824

/-- The stack-local offset of granule `n` of a pseudo-channel (R215). -/
def scrubLocal (pc n : Nat) : Nat := n / 2 * 4096 + pc * 128 + n % 2 * 64

/-- The granule of a list that lies at a stack-local offset of a stack. -/
def State.granuleAt (s : State) (l : List Nat) (stack loc : Nat) : Option Nat :=
  l.find? fun g => s.stackOf (g * 64) == stack && s.stackLocal (g * 64) == loc

/-- PATROL_SCRUB (R221, R222): a pseudo-channel reads its next granule; one symbol in error is corrected and rewritten, an
uncorrectable error is recorded. Scrubbing stops during Park and chip reset. -/
def execPatrolScrub (stack pc : Nat) (s : State) : Host.Outcome State Fault Refusal :=
  if decide (12 ≤ stack) || decide (32 ≤ pc) || !s.stackFused stack || !s.flag HBM_SCRUB_enable stack || s.chipReset
      || s.fld PWR_STAT_state = 2 || !s.flag HBM_STAT_in_service stack
      || (!s.openReads.isEmpty && !s.bufferFree (stack * 32 + pc)) then .next s
  else
    let key := stack * 32 + pc
    let n := agetD s.scrubAt key 0
    let loc := scrubLocal pc n
    let n' := (n + 1) % pcGranules
    let s := { s with scrubAt := aput 0 s.scrubAt key n' }
    let s := if decide (pc = 0) && decide (n' = 0) then s.wrapCount HBM_SCRUB_passes stack else s
    let s := s.activate stack loc
    let s := match s.granuleAt (s.hbmOndie ++ s.hbmCe) stack loc with
      | some g => s.correctGranule g
      | none => s
    match s.granuleAt s.hbmUe stack loc with
    | some g => .next (s.logHbmUe (g * 64) true)
    | none => .next s

/-! ### Temperature, refresh management, training (R223 to R225) -/

/-- The counts of reads in a row 3 °C below each boundary. -/
def coolNext (c : Nat × Nat) (temp : Nat) : Nat × Nat :=
  (if temp ≤ 82 then c.1 + 1 else 0, if temp ≤ 92 then c.2 + 1 else 0)

/-- The refresh rate code after a temperature read (R223): it rises at once and falls after 100 reads below. -/
def refreshRate (rate temp : Nat) (c : Nat × Nat) : Nat :=
  if 95 < temp then 2
  else if rate = 2 && decide (c.2 < 100) then 2
  else if 85 < temp then 1
  else if decide (1 ≤ rate) && decide (c.1 < 100) then 1
  else 0

/-- HBM_TEMP_READ (R223): a controller reads its stack's temperature, in °C, and sets the refresh rate. -/
def execHbmTempRead (stack temp : Nat) (s : State) : Host.Outcome State Fault Refusal :=
  if decide (12 ≤ stack) || !s.stackFused stack || s.chipReset then .next s
  else
    let c := coolNext (agetD s.hbmCool stack (0, 0)) temp
    let old := s.fld HBM_TEMP_rate stack
    let r := refreshRate old temp c
    let s := { s with hbmCool := aput (0, 0) s.hbmCool stack c }
    let s := (s.setFld HBM_TEMP_temp stack 0 temp).setFld HBM_TEMP_rate stack 0 r
    .next (if decide (r = 2) && decide (old ≠ 2) then s.event HBM_EVT_hot stack else s)

/-- RFM_ISSUE (R224): refresh management of a bank whose count has reached the threshold is issued, and its activate count
starts again. -/
def execRfmIssue (stack bank : Nat) (s : State) : Host.Outcome State Fault Refusal :=
  if decide (12 ≤ stack) || decide (4096 ≤ bank)
      || decide (agetD s.bankActs (stack * 4096 + bank) 0 < s.rfmThreshold stack) then .next s
  else .next { s with bankActs := adel s.bankActs (stack * 4096 + bank) }

/-! ### The interleave element (R217, R406) -/

/-- The enabled stacks alternately from die 0 and die 1, each die in ascending order (R217). -/
def State.stackOrder (s : State) : List Nat :=
  let die := fun d => (List.range' (6 * d) 6).filter fun n => s.stackFused n
  (List.range 6).flatMap fun k => ((die 0)[k]?).toList ++ ((die 1)[k]?).toList

/-- The default table of R217 in a die's copy. -/
def State.defaultTable (s : State) (die : Nat) : State :=
  let l := s.stackOrder
  if l.isEmpty then s
  else (List.range s.fuse.ilvLength).foldl (fun s i =>
    s.setReg .HBM_ILV_ENT die i (lget l (i % l.length) 0 + (i / l.length) <<< 4)) s

/-- A register write of the interleave element applied to a die's copy. -/
def State.ilvWrite (s : State) (die : Nat) (e : Nat × Word64) : State :=
  match locateIn e.1 regsOfHbm with
  | some (.HBM_ILV_CTRL, _, _) =>
    let m := bitsOf e.2.toNat HBM_ILV_CTRL_mode.hi HBM_ILV_CTRL_mode.lo
    let n := bitsOf e.2.toNat HBM_ILV_CTRL_length.hi HBM_ILV_CTRL_length.lo
    (s.setFld HBM_ILV_CTRL_mode die 0 m).setFld HBM_ILV_CTRL_length die 0 n
  | some (.HBM_ILV_ENT, _, j) => s.setReg .HBM_ILV_ENT die j (e.2.toNat % 2 ^ 13)
  | _ => s

/-- Whether an interleave element holds a table. -/
def hasTable (l : List (Nat × Word64)) : Bool :=
  l.any fun e => match locateIn e.1 regsOfHbm with
    | some (.HBM_ILV_ENT, _, _) => true
    | _ => false

/-- Management firmware writes both copies of the interleave from the element it keeps, commits and locks them; an element
without a table takes the default table, and one that is absent is package-wide (R216, R406, R408). -/
def State.applyIlv (s : State) : State :=
  let s := [0, 1].foldl (fun s die =>
    let s := (s.setFld HBM_ILV_CTRL_mode die 0 0).setFld HBM_ILV_CTRL_length die 0 s.fuse.ilvLength
    let s := if hasTable s.boot.ilv then s else s.defaultTable die
    s.boot.ilv.foldl (fun s e => s.ilvWrite die e) s) s
  let s := (s.ilvCommit 0).ilvCommit 1
  (s.setFld HBM_ILV_CTRL_lock 0 0 1).setFld HBM_ILV_CTRL_lock 1 0 1

/-- Whether every enabled stack has ended its training. -/
def State.trainingEnded (s : State) : Bool :=
  (List.range 12).all fun k => !s.stackFused k || s.flag HBM_STAT_trained k || s.flag HBM_STAT_train_fail k

/-- HBM_TRAINING_DONE (R225, R406): a stack's training ends after `attempts` attempts in success, or after the third in
failure, which is also recorded in its floor-plan entry. Once every stack has ended it, the interleave is written. -/
def execHbmTrainingDone (stack attempts : Nat) (ok : Bool) (s : State) : Host.Outcome State Fault Refusal :=
  if decide (12 ≤ stack) || !s.stackFused stack || s.flag HBM_STAT_trained stack || s.flag HBM_STAT_train_fail stack then
    .next s
  else
    let s := if ok then
        let s := (s.setFld HBM_STAT_trained stack 0 1).setFld HBM_STAT_attempts stack 0 (max 1 (min 3 attempts))
        s.setFld FUS_FP_UNIT_test_fail stack 0 0
      else
        let s := (s.setFld HBM_STAT_train_fail stack 0 1).setFld HBM_STAT_attempts stack 0 3
        ((s.event HBM_EVT_train_fail stack).event FUS_EVT_kat_disagree).setFld FUS_FP_UNIT_test_fail stack 0 1
    let s := s.setFld FUS_FP_UNIT_usable stack 0 (natOfBool ok)
    .next (if s.trainingEnded then s.applyIlv else s)

end Sys2Proof.Machine
end

