-- ==== Sys2Proof/Machine/Irq.lean ====
section
/-! DEFINITION. The tile and chip interrupt controllers, tally overflow, the tag sampler and the level monitors
(R457 to R478). -/
namespace Sys2Proof.Machine

/-! ### Tile interrupt controller (R457 to R460) -/

/-- The level of a tile source (R457). -/
def State.ticLevel (s : State) (t n : Nat) : Bool :=
  if n = 0 then s.flag TL_FAULT_valid t
  else if n < 8 then bitAt (s.reg .TL_EVT t) (n - 1)
  else if n < 16 then s.flag TL_TALLY_CNT_ovf t (n - 8) && s.flag TL_TALLY_CFG_ovf_ie t (n - 8)
  else if n = 16 then s.flag TL_TAG_STAT_drop_evt t
  else if n = 17 then s.flag TL_LMON_STAT_alarm t
  else false

/-- Whether a tile source pends (R458). -/
def State.ticPend (s : State) (t n : Nat) : Bool :=
  s.ticLevel t n && bitAt (s.fld TIC_ENABLE_enable t) n && !bitAt (s.fld TIC_INSVC_insvc t) n

/-- Whether a tile source is presentable (R458). -/
def State.ticPresentable (s : State) (t n : Nat) : Bool := s.ticPend t n && !s.flag TIC_HOLD_active t (n / 4)

/-- Whether some tile source is presentable. -/
def State.ticAny (s : State) (t : Nat) : Bool := (List.range 64).any fun n => s.ticPresentable t n

/-- A word of bits given by a test. -/
def bitsWhere (n : Nat) (q : Nat → Bool) : Nat := (List.range n).foldl (fun v i => if q i then v + 2 ^ i else v) 0

/-- TIC_LEVEL and TIC_PEND as read (R479). -/
def State.ticLevelWord (s : State) (t : Nat) : Nat := bitsWhere 64 fun n => s.ticLevel t n
def State.ticPendWord (s : State) (t : Nat) : Nat := bitsWhere 64 fun n => s.ticPend t n

/-- A hold-off timer started, where its group has a time (R459). -/
def State.startHold (s : State) : HoldGroup → State
  | .tile t g => if s.fld TIC_HOLD_holdoff_us t g = 0 then s else s.setFld TIC_HOLD_active t g 1
  | .chip g => if s.fld CIC_HOLD_holdoff_us g = 0 then s else s.setFld CIC_HOLD_active g 0 1

/-- A write of TIC_ACK (R458). -/
def State.ticAck (s : State) (t n : Nat) : State :=
  if s.ticPend t n then
    (s.setFld TIC_INSVC_insvc t 0 (withBit (s.fld TIC_INSVC_insvc t) n true)).startHold (.tile t (n / 4))
  else s

/-- A write of TIC_EOI (R458). -/
def State.ticEoi (s : State) (t n : Nat) : State :=
  s.setFld TIC_INSVC_insvc t 0 (withBit (s.fld TIC_INSVC_insvc t) n false)

/-- TIC_ACK (R458): a pending source of a tile enters service. -/
def execTicAck (tile source : Nat) (s : State) : Host.Outcome State Fault Refusal :=
  if decide (tile < 144) && decide (source < 64) && !s.tileInReset tile then .next (s.ticAck tile source) else .next s

/-- TIC_EOI (R458): a source of a tile leaves service. -/
def execTicEoi (tile source : Nat) (s : State) : Host.Outcome State Fault Refusal :=
  if decide (tile < 144) && decide (source < 64) && !s.tileInReset tile then .next (s.ticEoi tile source) else .next s

/-- The summary level of a tile (R460); a tile that is not usable or is held in reset gives 0. -/
def State.tileSummary (s : State) (t : Nat) : Bool :=
  s.tileUsable t && !s.tileHeld t && (s.ticPendWord t &&& s.fld TIC_CHIP_chip t) != 0

/-! ### Chip interrupt controller (R461 to R466) -/

/-- Bit `b` of a register. -/
def State.regBit (s : State) (r : RegId) (b : Nat) (i : Nat := 0) (j : Nat := 0) : Bool := bitAt (s.reg r i j) b

/-- The level of a chip source (R461). -/
def State.cicLevel (s : State) (n : Nat) : Bool :=
  if n = 0 then s.flag MGT_EVT_BADACC_valid
  else if n ≤ 2 then s.regBit .CIC_EVT (n - 1)
  else if 16 ≤ n && n ≤ 24 then s.regBit .MGT_RST_EVT (n - 16)
  else if 32 ≤ n && n ≤ 64 then s.regBit .GI_EVT (n - 32)
  else if 96 ≤ n && n ≤ 120 then s.regBit .GI_CD_EVT (n - 96)
  else if 128 ≤ n && n < 192 && (n - 128) % 8 ≤ 5 then s.regBit .RTR_LINK_EVT ((n - 128) % 8) ((n - 128) / 8)
  else if 192 ≤ n && n < 248 then s.regBit .RTR_PORT_EVT ((n - 192) % 4) ((n - 192) / 4)
  else if 256 ≤ n && n ≤ 259 then s.regBit .RTR_EVT (n - 256)
  else if 264 ≤ n && n ≤ 283 then s.regBit .RTR_HEFT_EVT (n - 264)
  else if 288 ≤ n && n ≤ 296 then s.regBit .RTR_PAIR_EVT (n - 288)
  else if 304 ≤ n && n ≤ 312 then s.regBit .BT_EVT (n - 304)
  else if 320 ≤ n && n ≤ 324 then s.regBit .FLD_EVT (n - 320)
  else if 336 ≤ n && n ≤ 341 then s.regBit .FUS_EVT (n - 336)
  else if 352 ≤ n && n ≤ 362 then s.regBit .PWR_EVT (n - 352)
  else if 384 ≤ n && n < 432 then
    let k := (n - 384) / 4
    s.stackFused k && (if (n - 384) % 4 = 3 then s.flag HBM_LMON_STAT_alarm k else s.regBit .HBM_EVT ((n - 384) % 4) k)
  else if 448 ≤ n && n < 592 then s.tileSummary (n - 448)
  else if 600 ≤ n && n ≤ 615 then s.flag MGT_LMON_STAT_alarm (n - 600)
  else false

/-- Whether a chip source is in service. -/
def State.cicInsvc (s : State) (n : Nat) : Bool := s.regBit .CIC_INSVC (n % 64) (n / 64)

/-- Whether a chip source pends (R462). -/
def State.cicPend (s : State) (n : Nat) : Bool := s.cicLevel n && s.flag CIC_SRC_enable n && !s.cicInsvc n

/-- Whether a chip source is presentable (R458, R462). -/
def State.cicPresentable (s : State) (n : Nat) : Bool := s.cicPend n && !s.flag CIC_HOLD_active (s.fld CIC_SRC_group n)

/-- CIC_LEVEL and CIC_PEND as read (R482). -/
def State.cicLevelWord (s : State) (i : Nat) : Nat := bitsWhere 64 fun b => s.cicLevel (64 * i + b)
def State.cicPendWord (s : State) (i : Nat) : Nat := bitsWhere 64 fun b => s.cicPend (64 * i + b)

/-- A chip source put in service or taken out of it. -/
def State.setInsvc (s : State) (n : Nat) (b : Bool) : State :=
  s.setReg .CIC_INSVC (n / 64) 0 (withBit (s.reg .CIC_INSVC (n / 64)) (n % 64) b)

/-- The group field of a source's priority (R463). -/
def State.cicGroup (s : State) (n : Nat) : Nat := s.fld CIC_SRC_prio n >>> s.fld CIC_CTRL_split

/-- A management core. -/
def State.core (s : State) (c : Nat) : MgtCore := lget s.cores c MgtCore.reset

/-- run[c] plus one: 0 where no source is in service on the core (R463). -/
def MgtCore.run1 (m : MgtCore) : Nat := m.insvc.foldl (fun v e => max v (e.2 + 1)) 0

/-- Whether a source is a candidate for a core (R463). -/
def State.cicCandidate (s : State) (c n : Nat) : Bool :=
  s.cicPresentable n && !s.flag CIC_SRC_host n && s.fld CIC_SRC_core n == c
    && decide ((s.core c).run1 < s.cicGroup n + 1)

/-- The source that the controller selects for a core (R463): the largest priority, ties to the lowest number. -/
def State.cicBest (s : State) (c : Nat) : Option Nat :=
  ((List.range 1024).filter fun n => s.cicCandidate c n).foldl
    (fun b n => match b with
      | none => some n
      | some m => if s.fld CIC_SRC_prio m < s.fld CIC_SRC_prio n then some n else some m) none

/-- CIC_CUR of a core after its in-service sources changed (R483). -/
def State.setCur (s : State) (c : Nat) : State :=
  let m := s.core c
  let s := s.setFld CIC_CUR_depth c 0 m.insvc.length
  s.setFld CIC_CUR_run c 0 (if m.run1 = 0 then 0x1FF else m.run1 - 1)

/-- A core with mstatus.MIE and mie.MEIE as its firmware has left them. -/
def State.coreEnables (s : State) (c : Nat) (e : Bool × Bool) : State :=
  { s with cores := lset s.cores c { s.core c with mie := e.1, meie := e.2 } }

/-- Whether a core accepts a delivery (R463, R464): its machine external interrupt is enabled and fewer than eight sources
are in service on it. While management firmware is being activated deliveries stay pending (R503). -/
def State.coreAccepts (s : State) (c : Nat) : Bool :=
  let m := s.core c
  m.mie && m.meie && s.flag CIC_CTRL_enable && decide (m.insvc.length < 8) && s.mgmt.update.proving.isNone

/-- CIC_DELIVER (R463, R464): the selected source is delivered to a core whose machine external interrupt is enabled;
`pc` is where the core's program stands, and `enabled` is what its firmware has left in mstatus.MIE and mie.MEIE. -/
def execCicDeliver (core pc : Nat) (enabled : Bool × Bool) (s : State) : Host.Outcome State Fault Refusal :=
  let s := if core < 4 then s.coreEnables core enabled else s
  if decide (4 ≤ core) || !s.coreAccepts core then .next s
  else
    match s.cicBest core with
    | none => .next s
    | some n =>
      let m := s.core core
      let m := { m with
        mepc := pc % 2 ^ 64, mcause := 2 ^ 63 + 11, mpie := true, mie := false,
        pc := (s.fld CIC_VBASE_vbase core * 2 ^ 16 + n * 64) % 2 ^ 64, insvc := m.insvc ++ [(n, s.cicGroup n)] }
      let s := { s with cores := lset s.cores core m }
      let s := ((s.setInsvc n true).setFld CIC_CUR_vector core 0 n).setCur core
      let s := if m.insvc.length = 8 then s.event CIC_EVT_nest_full else s
      .next (s.startHold (.chip (s.fld CIC_SRC_group n)))

/-- A core's write of CIC_EOI (R465). -/
def State.cicEoi (s : State) (core n : Nat) : State :=
  let m := s.core core
  match lfind (fun e => e.1 == n) m.insvc with
  | none => s.event CIC_EVT_bad_eoi
  | some i =>
    let s := { s with cores := lset s.cores core { m with insvc := ldel m.insvc i } }
    (s.setInsvc n false).setCur core

/-- CIC_EOI (R465). -/
def execCicEoi (core source : Nat) (s : State) : Host.Outcome State Fault Refusal :=
  if core < 4 then .next (s.cicEoi core (source % 1024)) else .next s

/-- Whether a source is in service on some management core. -/
def State.onCore (s : State) (n : Nat) : Bool := s.cores.any fun m => m.insvc.any fun e => e.1 == n

/-- The host's write of CIC_HOST_EOI (R466): a source in service for the host leaves service. -/
def State.hostEoi (s : State) (n : Nat) : State := if s.cicInsvc n && !s.onCore n then s.setInsvc n false else s

/-- CIC_HOST_EOI (R466). -/
def execCicHostEoi (source : Nat) (s : State) : Host.Outcome State Fault Refusal := .next (s.hostEoi (source % 1024))

/-- Whether an MSI-X vector is masked (R466). -/
def State.vectorMasked (s : State) (v : Nat) : Bool := s.flag CIC_MSIX_DATA_mask v || s.pcie.functionMask

/-- The pending bit array (R466): the vectors that a presentable host source waits for while they are masked. -/
def State.pbaWord (s : State) : Nat :=
  bitsWhere 32 fun v => s.vectorMasked v
    && (List.range 1024).any fun n => s.cicPresentable n && s.flag CIC_SRC_host n && s.fld CIC_SRC_msix n == v

/-- MSIX_SEND (R466): a presentable host source with an unmasked vector sends its message and enters service. -/
def execMsixSend (source : Nat) (s : State) : Host.Outcome State Fault Refusal :=
  let v := s.fld CIC_SRC_msix source
  if decide (source < 1024) && s.flag CIC_CTRL_enable && s.cicPresentable source && s.flag CIC_SRC_host source
      && s.pcie.msixEnable && !s.vectorMasked v then
    let s := { s with out := s.out ++ [Output.msix (s.fld CIC_MSIX_ADDR_addr v) (s.fld CIC_MSIX_DATA_data v)] }
    .next ((s.setInsvc source true).startHold (.chip (s.fld CIC_SRC_group source)))
  else .next s

/-- HOLDOFF_EXPIRY (R459): a group's timer ends. -/
def execHoldoffExpiry (g : HoldGroup) (s : State) : Host.Outcome State Fault Refusal :=
  match g with
  | .tile t g => if decide (t < 144) && decide (g < 16) then .next (s.setFld TIC_HOLD_active t g 0) else .next s
  | .chip g => if g < 32 then .next (s.setFld CIC_HOLD_active g 0 0) else .next s

/-- A write of holdoff_us (R459): a running timer restarts with the new value, and ends where that is 0. -/
def State.writeHold (s : State) (g : HoldGroup) (v : Nat) : State :=
  match g with
  | .tile t g =>
    let s := s.setFld TIC_HOLD_holdoff_us t g v
    if v % 65536 = 0 then s.setFld TIC_HOLD_active t g 0 else s
  | .chip g =>
    let s := s.setFld CIC_HOLD_holdoff_us g 0 v
    if v % 65536 = 0 then s.setFld CIC_HOLD_active g 0 0 else s

/-- HOLDOFF_US_WRITE (R459). -/
def execHoldoffUsWrite (g : HoldGroup) (value : Nat) (s : State) : Host.Outcome State Fault Refusal :=
  match g with
  | .tile t k => if decide (t < 144) && decide (k < 16) && !s.tileInReset t then .next (s.writeHold g value) else .next s
  | .chip k => if k < 32 then .next (s.writeHold g value) else .next s

/-! ### Tally overflow (R469, R470) -/

/-- The value that a code gives in every cycle from what the tile holds (R468). -/
def State.tallyLevel (s : State) (t ev : Nat) : Nat :=
  let x := s.tile t
  if ev = 0x011 then natOfBool (!x.matq.isEmpty)
  else if ev = 0x040 then (x.slots.filter fun sl => sl.state == .ready).length
  else if ev = 0x041 then x.etb.length
  else if ev = 0x042 then x.tokq.length
  else 0

/-- The end of a cycle at counter `i` of a tile (R469): in mode 0 the events of the cycle have been counted already. -/
def State.tallyCycle (s : State) (t i : Nat) : State :=
  let m := s.meter t
  let level := s.tallySeen t i (s.partitionOfTile t) (s.tallyLevel t (s.fld TL_TALLY_CFG_event t i))
  let v := lget m.now i 0 + level
  let mode := s.fld TL_TALLY_CFG_mode t i
  let d := if mode = 0 then level else tallyStep mode (s.fld TL_TALLY_CFG_thr t i) (lget m.before i 0) v
  (s.tallyAdd t i d).onMeter t fun m => { m with now := lset m.now i 0, before := lset m.before i v }

/-- The counters that are set up, of the tiles whose cycle has ended since `old` (R467, R469). -/
def State.tallyTurn (old s : State) : State :=
  (s.regs.filterMap fun e => RegId.TL_TALLY_CFG.locate e.1).foldl
    (fun s c => if decide (c.1 < 144) && decide (old.cycles c.1 < s.cycles c.1) then s.tallyCycle c.1 c.2 else s) s

/-- TALLY_OVERFLOW (R470): the cycle of value `v` that makes counter `i` of a tile pass 2⁴⁸ − 1; a value that does not
changes nothing here. Packets are filtered by their own partition, so `v` counts those of the counter's one. -/
def execTallyOverflow (tile i v : Nat) (s : State) : Host.Outcome State Fault Refusal :=
  if decide (tile < 144) && decide (i < 8) then
    let ev := s.fld TL_TALLY_CFG_event tile i
    let v := if ev = 0x050 || ev = 0x051 then v else s.tallySeen tile i (s.partitionOfTile tile) v
    let d := tallyStep (s.fld TL_TALLY_CFG_mode tile i) (s.fld TL_TALLY_CFG_thr tile i) (lget (s.meter tile).before i 0) v
    let t := s.tallyAdd tile i d
    if t.fld TL_TALLY_CNT_count tile i < s.fld TL_TALLY_CNT_count tile i then .next t else .next s
  else .next s

/-! ### Tag sampler (R471 to R473) -/

/-- A drop counted at the tile, and at its paddock (R473). -/
def State.tagDrop (s : State) (t : Nat) : State :=
  let s := (s.satCount TL_TAG_STAT_drops t).event TL_TAG_STAT_drop_evt t
  match s.padOfTile t with
  | some p => s.satCount GI_PAD_TAGPTR_drops p
  | none => s

/-- The next interval drawn from the sampler's register (R471): 1 to 2^(e+1) − 1 retired instructions, counted after the
`more` that are still to retire. The register's next value is a free value. -/
def State.drawTag (s : State) (t more : Nat) : State :=
  let e := min 24 (max 8 (s.fld TL_TAG_CTRL_exp t))
  let r := s.freeVal % 2 ^ 32
  ((s.onTile t fun x => { x with tagLfsr := BitVec.ofNat 32 r }).spend).onMeter t fun m =>
    { m with left := more + 1 + r % (2 ^ (e + 1) - 1) }

/-- Whether an instruction is a load or an AMO, whose latency a record gives (R472). -/
def timedAccess (w : Nat) : Bool := iOp w == 0x10 || iOp w == 0x12 || iOp w == 0x14

/-- The record of R472. -/
def State.tagRecord (s : State) (t w : Nat) (retired : Bool) (times : List Nat) (stall lat : Nat) : List Word64 :=
  let x := s.tile t
  let kt := if x.sLevel then (0, 0) else s.runTask t
  let start := if x.sLevel then 0 else (x.slot kt.1).startCount
  let lat := if timedAccess w then lat % 2 ^ 32 else 0
  let w0 := x.pc.toNat + iOp w <<< 40 + (kt.1 % 32) <<< 46 + (t % 256) <<< 51 + natOfBool x.sLevel <<< 59
    + natOfBool retired <<< 60
  [BitVec.ofNat 64 w0, BitVec.ofNat 64 (kt.2 + (start % 2 ^ 24) <<< 32)]
    ++ ((List.range 5).map fun i => BitVec.ofNat 64 (lget times i 0))
    ++ [BitVec.ofNat 64 (stall % 4096 + lat <<< 16)]

/-- TAG_SAMPLE (R471, R472): where the interval has ended, the next instruction is tagged, and the interval after it drawn.
`times` are TALLY_CYC at the five stages, `stall` the stall bits and `lat` the memory latency, as the pipeline measures
them, and `retired` tells whether the instruction will retire. -/
def execTagSample (tile : Nat) (retired : Bool) (times : List Nat) (stall lat : Nat) (s : State) :
    Host.Outcome State Fault Refusal :=
  if !(s.seqActive tile) || !s.flag TL_TAG_CTRL_enable tile || (s.meter tile).left != 0 then .next s
  else
    let x := s.tile tile
    match x.fetch x.pc.toNat with
    | none => .next s
    | some w =>
      let rec_ := s.tagRecord tile w retired times stall lat
      let s := s.drawTag tile (natOfBool retired)
      if 2 ≤ x.tagQueue.length then .next (s.tagDrop tile)
      else
        .next ((s.onTile tile fun x => { x with tagQueue := x.tagQueue ++ [rec_] }).wrapCount TL_TAG_STAT_records tile)

/-- The tile whose record the intake takes next: round-robin after the last one. -/
def State.nextTag (s : State) : Option Nat :=
  ((List.range 144).map fun i => (s.lastTag + 1 + i) % 144).find? fun t => !(s.tile t).tagQueue.isEmpty

/-- TAG_RECORD_WRITE (R473): the oldest record of the next tile goes to its paddock's ring, or is dropped. -/
def execTagRecordWrite (s : State) : Host.Outcome State Fault Refusal :=
  match s.nextTag with
  | none => .next s
  | some t =>
    match (s.tile t).tagQueue with
    | [] => .next s
    | rec_ :: rest =>
      let s := { (s.onTile t fun x => { x with tagQueue := rest }) with lastTag := t }
      match s.padOfTile t with
      | none => .next (s.tagDrop t)
      | some p =>
        let wr := s.fld GI_PAD_TAGPTR_wr p
        let rd := s.fld GI_PAD_TAGPTR_rd p
        let pages := s.fld GI_PAD_TAG_pages p
        let base := s.fld GI_PAD_TAG_base p * 4096
        let cap := 64 * pages
        if !s.flag GI_PAD_TAG_enable p || cap = 0 || (wr + 2 ^ 24 - rd) % 2 ^ 24 = cap % 2 ^ 24
            || !s.windowOk p base (pages * 4096) true then .next (s.tagDrop t)
        else if !s.hbmOn then .next s
        else
          .next ((s.hbmWrite (base + wr % cap * 64) (bytesOfWords rec_)).2.wrapCount GI_PAD_TAGPTR_wr p)

/-! ### Level monitors (R474 to R476) -/

/-- The registers of a monitor, with the copy they lie at. -/
structure MonRegs where
  cfg : RegId
  alarm : RegId
  stat : RegId
  hist : RegId
  i : Nat

/-- The registers of each kind of monitor (R478). -/
def Monitor.regs : Monitor → MonRegs
  | .tile t => ⟨.TL_LMON_CFG, .TL_LMON_ALARM, .TL_LMON_STAT, .TL_LMON_HIST, t⟩
  | .hbm s => ⟨.HBM_LMON_CFG, .HBM_LMON_ALARM, .HBM_LMON_STAT, .HBM_LMON_HIST, s⟩
  | .fabric m => ⟨.MGT_LMON_CFG, .MGT_LMON_ALARM, .MGT_LMON_STAT, .MGT_LMON_HIST, m⟩

/-- Whether a monitor exists. -/
def Monitor.valid : Monitor → Bool
  | .tile t => decide (t < 144)
  | .hbm s => decide (s < 12)
  | .fabric m => decide (m < 16)

/-- The value that a monitor samples (R474): an occupancy from the state, another quantity as measured. Other src values
sample nothing. -/
def State.monValue (s : State) (m : Monitor) (measured : Nat) : Option Nat :=
  let r := m.regs
  let cfg := s.reg r.cfg r.i
  let src := bitsOf cfg 3 0
  let sel := bitsOf cfg 19 4
  match m with
  | .tile t =>
    match src with
    | 2 => some (s.tile t).matq.length
    | 3 => some (s.tile t).vecq.length
    | 4 => some (s.tile t).etb.length
    | 0 | 1 | 5 | 6 => some measured
    | _ => none
  | .hbm k =>
    match src with
    | 1 => some (s.granted.filter fun r => r.channel / 32 == k).length
    | 0 | 2 => some measured
    | _ => none
  | .fabric _ =>
    match src with
    | 0 => some (s.vcOcc (bitsOf sel 3 0) (bitsOf sel 6 4))
    | 1 => some s.flagHold.length
    | 2 => some (s.fld FLD_STORE_free_kib)
    | 3 | 4 => some measured
    | _ => none

/-- The bin of a sample (R475). -/
def monBin (cfg v : Nat) : Nat :=
  if bitAt cfg 20 then (if v = 0 then 0 else min 31 (Nat.log2 v + 1))
  else min 31 ((v - bitsOf cfg 63 48) >>> bitsOf cfg 25 21)

/-- A sample entered in a monitor (R475, R476). -/
def State.monSample (s : State) (m : Monitor) (v : Nat) : State :=
  let r := m.regs
  let cfg := s.reg r.cfg r.i
  let w := min v (2 ^ 24 - 1)
  let st := s.reg r.stat r.i
  let st := if w < bitsOf st 23 0 then withBits st 23 0 w else st
  let st := if bitsOf st 47 24 < w then withBits st 47 24 w else st
  let al := s.reg r.alarm r.i
  let st := if bitAt al 32 && decide (bitsOf al 31 0 < v) then withBit st 48 true else st
  let s := s.setReg r.stat r.i 0 st
  let b := monBin cfg v
  let h := s.reg r.hist r.i (b / 2)
  let lo := 32 * (b % 2)
  s.setReg r.hist r.i (b / 2) (withBits h (lo + 31) lo (satAdd (2 ^ 32 - 1) (bitsOf h (lo + 31) lo) 1))

/-- LMON_SAMPLE (R474 to R476): an enabled monitor takes a sample. `measured` is the latency, current, voltage, power or
queue depth as the unit measures it, where its src names one. -/
def execLmonSample (m : Monitor) (measured : Nat) (s : State) : Host.Outcome State Fault Refusal :=
  if m.valid && bitAt (s.reg m.regs.cfg m.regs.i) 26 then
    match s.monValue m measured with
    | some v => .next (s.monSample m v)
    | none => .next s
  else .next s

/-- A write of LMON_CFG.clear (R475). -/
def State.monClear (s : State) (m : Monitor) : State :=
  let r := m.regs
  let st := withBits (withBits (s.reg r.stat r.i) 23 0 0xFFFFFF) 47 24 0
  (List.range 16).foldl (fun s k => s.setReg r.hist r.i k 0) (s.setReg r.stat r.i 0 st)

/-- LMON_CLEAR (R475). -/
def execLmonClear (m : Monitor) (s : State) : Host.Outcome State Fault Refusal :=
  if m.valid then .next (s.monClear m) else .next s

end Sys2Proof.Machine
end

