-- ==== Sys2Proof/Machine/Matrix.lean ====
section
/-! DEFINITION. Matrix instructions and the matrix engine (R84 to R87, R117 to R134, R156 to R160). -/
namespace Sys2Proof.Machine

/-! ### The ctl fields (R156) -/

def mcFmtA (c : Nat) : Nat := bitsOf c 3 0
def mcFmtB (c : Nat) : Nat := bitsOf c 7 4
def mcPlane (c : Nat) : Nat := bitsOf c 9 8
def mcAnchor (c : Nat) : Nat := bitsOf c 17 10
def mcMxA (c : Nat) : Bool := bitAt c 18
def mcMxB (c : Nat) : Bool := bitAt c 19
def mcUpkA (c : Nat) : Bool := bitAt c 20
def mcUpkB (c : Nat) : Bool := bitAt c 21
def mcRm (c : Nat) : Nat := bitsOf c 12 10
def mcSat (c : Nat) : Bool := bitAt c 13
def mcMx (c : Nat) : Bool := bitAt c 14
def mcUpk (c : Nat) : Bool := bitAt c 15

/-- The bits of an element as stored (R111). -/
def storedBits (fmt : Nat) (upk : Bool) : Nat := if upk then 8 else formatBits fmt

/-- The bytes of `n` elements as stored. -/
def storedBytes (fmt : Nat) (upk : Bool) (n : Nat) : Nat := n * storedBits fmt upk / 8

/-- Element `n` of a run of stored elements. -/
def storedElem (fmt : Nat) (upk : Bool) (run n : Nat) : Nat :=
  (run >>> (n * storedBits fmt upk)) % 2 ^ formatBits fmt

/-! ### The checks at issue (R156, R158) -/

/-- A scratchpad operand of a matrix command: the offset as its register holds it, with any bit that must be zero; whether
one of those is set; the offset, the size of its range, and the alignment it needs. -/
structure MatOperand where
  reg : Nat
  stray : Bool
  off : Nat
  size : Nat
  align : Nat

/-- An operand whose offset is bits [22:0] of a register. -/
def plainOperand (r size align : Nat) : MatOperand := ⟨r, bitsOf r 63 23 != 0, bitsOf r 22 0, size, align⟩

/-- An operand whose offset is a field of the scale register of an accumulate. -/
def scaleOperand (r off size : Nat) : MatOperand :=
  ⟨if bitsOf r 31 23 != 0 then bitsOf r 31 0 else if bitsOf r 63 55 != 0 then bitsOf r 63 32 else off,
    bitsOf r 31 23 != 0 || bitsOf r 63 55 != 0, off, size, 128⟩

/-- The scratchpad operands of a command, in the order of R156. -/
def matOperands (c : MatCmd) : List MatOperand :=
  match c.kind with
  | .mclr => []
  | .macc =>
    let k := c.r3
    [plainOperand c.r1 (storedBytes (mcFmtA c.ctl) (mcUpkA c.ctl) (k * 128)) 64,
      plainOperand c.r2 (storedBytes (mcFmtB c.ctl) (mcUpkB c.ctl) (k * 128)) 64]
      ++ (if mcMxA c.ctl then [scaleOperand c.r4 (bitsOf c.r4 22 0) (k / 32 * 128)] else [])
      ++ (if mcMxB c.ctl then [scaleOperand c.r4 (bitsOf c.r4 54 32) (k / 32 * 128)] else [])
  | .mdrn =>
    plainOperand c.r1 (storedBytes (mcFmtA c.ctl) (mcUpk c.ctl) 16384) 64
      :: (if mcMx c.ctl then [plainOperand c.r4 512 128] else [])
  | .mldp => [plainOperand c.r1 262144 64]

/-- The register fields of a command that must name g0 (R156), with its word. -/
def matG0 (k : MatKind) (w : Nat) : Bool :=
  let ctl := iCtl w
  match k with
  | .mclr => iF1 w == 0 && iF2 w == 0 && iF3 w == 0 && iF4 w == 0
  | .macc => mcMxA ctl || mcMxB ctl || iF4 w == 0
  | .mdrn => mcMx ctl || iF4 w == 0
  | .mldp => iF2 w == 0 && iF3 w == 0 && iF4 w == 0

/-- The reserved ctl bits of a command (R156). -/
def matReserved (sub w : Nat) : Bool :=
  let c := iCtl w
  match sub with
  | 0 => bitsOf c 7 0 != 0 || bitsOf c 30 18 != 0
  | 1 => bitsOf c 30 22 != 0
  | 2 => bitsOf c 7 4 != 0 || bitsOf c 30 16 != 0
  | 3 => bitsOf c 7 0 != 0 || bitsOf c 30 18 != 0
  | 4 => bitsOf c 7 0 != 0 || bitsOf c 30 10 != 0
  | _ => true

/-- The illegal-command rows of R158. -/
def matIllegal (c : MatCmd) : Bool :=
  let k := c.ctl
  match c.kind with
  | .macc =>
    let a := mcFmtA k
    let b := mcFmtB k
    let mx := mcMxA k || mcMxB k
    !isMatrixInput a || !isMatrixInput b || (mcMxA k && !isMxFormat a) || (mcMxB k && !isMxFormat b)
      || (mcUpkA k && !isFp6 a) || (mcUpkB k && !isFp6 b)
      || isIntFormat a != isIntFormat b
      || ((mcMxA k && isIntFormat a || mcMxB k && isIntFormat b) && (a != 9 || b != 9))
      || c.r3 == 0 || decide (65536 < c.r3) || (mx && c.r3 % 32 != 0)
  | .mdrn =>
    !isDrainTarget (mcFmtA k) || (mcUpk k && !isFp6 (mcFmtA k)) || !(mcRm k == 0 || mcRm k == 1 || mcRm k == 4)
      || (mcMx k && !isMxFormat (mcFmtA k))
  | _ => false

/-- The fault that a matrix command raises at issue, with the scratchpad offset that caused it, where it fails a check
(R158, R183). -/
def matFault (w : Nat) (c : MatCmd) : Option (Nat × Nat) :=
  if !matG0 c.kind w || matIllegal c then some (2, 0)
  else
    let ops := matOperands c
    match ops.find? fun o => o.stray || decide (spadSize < o.off + o.size) with
    | some o => some (3, o.reg)
    | none =>
      match ops.find? fun o => o.off % o.align != 0 with
      | some o => some (4, o.off)
      | none => none

/-- A matrix instruction issued: decoded, checked, and queued in the 16-entry matrix queue (R79, R81). -/
def State.issueMat (s : State) (t : Nat) (kind : MatKind) (sub : Nat) : State :=
  s.issue t (fun w => iOp w == 0x28 && iSubE w == sub) (fun w => !matReserved sub w)
    (fun w => ⟨[iF1 w, iF2 w, iF3 w, iF4 w], []⟩) fun s w =>
    let x := s.tile t
    let c : MatCmd := ⟨kind, iCtl w, x.gr (iF1 w), x.gr (iF2 w), x.gr (iF3 w), x.gr (iF4 w), x.pc.toNat, s.cmdSlot t⟩
    match matFault w c with
    | some f => s.faultHere t f.1 f.2
    | none =>
      if 16 ≤ x.matq.length then s
      else s.retire t fun x =>
        { x with
          matq := x.matq ++ [c], cmdNo := x.cmdNo + 1
          watch := if x.matq.isEmpty then { x.watch with mat := s.now } else x.watch }

/-- MCLR (R156, R159). -/
def execMclr (tile : Nat) (s : State) : Host.Outcome State Fault Refusal := .next (s.issueMat tile .mclr 0)

/-- MACC (R156 to R158). -/
def execMacc (tile : Nat) (s : State) : Host.Outcome State Fault Refusal := .next (s.issueMat tile .macc 1)

/-- MDRN (R156, R158, R159). -/
def execMdrn (tile : Nat) (s : State) : Host.Outcome State Fault Refusal := .next (s.issueMat tile .mdrn 2)

/-- MLDP (R156, R158, R159). -/
def execMldp (tile : Nat) (s : State) : Host.Outcome State Fault Refusal := .next (s.issueMat tile .mldp 3)

/-- Whether a queued matrix command names a plane. -/
def Tile.planeBusy (x : Tile) (k : Nat) : Bool := x.matq.any fun c => mcPlane c.ctl == k

/-- MSTAT (R160): the plane's flag summary, anchor and busy bit to rd; r2 to r4 must name g0 (R156). -/
def execMstat (tile : Nat) (s : State) : Host.Outcome State Fault Refusal :=
  .next (s.issue tile (fun w => iOp w == 0x28 && iSubE w == 4) (fun w => !matReserved 4 w)
    (fun w => ⟨[iF1 w], []⟩) fun s w =>
    if iF2 w != 0 || iF3 w != 0 || iF4 w != 0 then s.faultHere tile 2 0
    else
      s.retire tile fun x =>
        let k := mcPlane (iCtl w)
        let p := x.plane k
        x.setG (iF1 w) (p.summary % 32 + (p.anchor % 256) <<< 8 + natOfBool (x.planeBusy k) <<< 16))

/-! ### The matrix engine -/

/-- The cells of a plane: 128 rows of 128. -/
def planeCells : List Nat := List.range 16384

/-- A cell of a plane. -/
def Plane.cell (p : Plane) (i : Nat) : Cell := agetD p.cells i Cell.zero

/-- A plane of cells given by number; cleared cells are not listed. -/
def planeOf (f : Nat → Cell) (anchor : Nat) : Plane :=
  let cs := (planeCells.map fun i => (i, f i)).filter fun e => e.2 != Cell.zero
  ⟨cs, anchor, cs.foldl (fun n e => n ||| e.2.flags.toNat) 0⟩

/-- The products of one cell for `n` K-steps from `k` (R157). -/
def products (ea eb : Nat → Num) (k n : Nat) : List Num :=
  (List.range n).map fun i => mulNum (ea (k + i)) (eb (k + i))

/-- The addends of one cell, in the order of K: each product, or each 32-element block where an operand is MX-scaled
(R118, R124, R125). -/
def addends (mx : Bool) (ea eb : Nat → Num) (sa sb : Nat → Nat) (k : Nat) : List Num :=
  if mx then (List.range (k / 32)).map fun b => mxBlock (products ea eb (32 * b) 32) (sa b) (sb b)
  else products ea eb 0 k

/-- Whether an accumulate runs in exact mode (R124). -/
def exactMode (ctl : Nat) : Bool :=
  isExactFormat (mcFmtA ctl) && isExactFormat (mcFmtB ctl) && !mcMxA ctl && !mcMxB ctl

/-- The anchor of an accumulate (R124): 96 in exact mode. -/
def maccAnchor (ctl : Nat) : Nat := if exactMode ctl then 96 else mcAnchor ctl

/-- A plane after an accumulate of panels given as runs of stored bytes and scale bytes (R117, R118, R124, R125, R157). -/
def macc (p : Plane) (ctl k runA runB scA scB : Nat) : Plane :=
  let mx := mcMxA ctl || mcMxB ctl
  let a := maccAnchor ctl
  let ea := fun i n => decodeElem (mcFmtA ctl) mx (storedElem (mcFmtA ctl) (mcUpkA ctl) runA (n * 128 + i))
  let eb := fun j n => decodeElem (mcFmtB ctl) mx (storedElem (mcFmtB ctl) (mcUpkB ctl) runB (n * 128 + j))
  let sa := fun i b => if mcMxA ctl then bitsOf scA (8 * (b * 128 + i) + 7) (8 * (b * 128 + i)) else 0x7F
  let sb := fun j b => if mcMxB ctl then bitsOf scB (8 * (b * 128 + j) + 7) (8 * (b * 128 + j)) else 0x7F
  planeOf (fun n =>
    let i := n / 128
    let j := n % 128
    (addends mx (ea i) (eb j) (sa i) (sb j) k).foldl (fun c x => addAddend c x a) (realign (p.cell n) p.anchor a)) a

/-- The elements of a drain packed as stored, lowest first. -/
def packElems (bits : Nat) (f : Nat → Nat) : Nat → Nat → Nat
  | 0, _ => 0
  | n + 1, i => f i % 2 ^ bits + (packElems bits f n (i + 1)) <<< bits

/-- The scale code of block `b` of a drain with MX scaling (R119, R159). -/
def drainScale (p : Plane) (fmt b : Nat) : Nat :=
  mxScale fmt ((List.range 32).map fun i => cellNum (p.cell (32 * b + i)) p.anchor)

/-- An element of a drain (R129 to R132). -/
def drainElem (p : Plane) (ctl seed base i : Nat) : Nat :=
  let fmt := mcFmtA ctl
  let c := p.cell i
  if fmt = 11 then wa96Bits c p.anchor
  else
    let h := srHash seed ((base + i) % 2 ^ 64)
    if mcMx ctl then (mxElem fmt (mcRm ctl) h (drainScale p fmt (i / 32)) (cellNum c p.anchor)).bits
    else (convertNum fmt (mcRm ctl) (mcSat ctl) h (cellNum c p.anchor) false).bits

/-- A plane loaded from WA96 values, each realigned to the anchor that the command names (R125, R134). -/
def mldp (run anchor : Nat) : Plane :=
  planeOf (fun i =>
    let c := wa96Read ((run >>> (128 * i)) % 2 ^ 128)
    realign c.1 c.2 anchor) anchor

/-- The operands of a command read from the scratchpad: whether one met a double-bit error, and the runs (R93). -/
def State.readOperands (s : State) (t : Nat) : List MatOperand → Bool × List Nat × State
  | [] => (false, [], s)
  | o :: os =>
    let r := s.spadRead t o.off o.size
    let v := ofBytes (r.2.bytes (spadKey t o.off) o.size)
    let q := State.readOperands r.2 t os
    (r.1 || q.1, v :: q.2.1, q.2.2)

/-- The effect of a matrix command that completes: whether it met a double-bit error, in which case the plane keeps its
content (R93, R177). -/
def State.runMat (s : State) (t : Nat) (c : MatCmd) : Bool × State :=
  let k := mcPlane c.ctl
  let p := (s.tile t).plane k
  match c.kind with
  | .mclr => (false, s.onTile t fun x => x.setPlane k ⟨[], mcAnchor c.ctl, 0⟩)
  | .mdrn =>
    let fmt := mcFmtA c.ctl
    let bits := storedBits fmt (mcUpk c.ctl)
    let v := packElems bits (drainElem p c.ctl c.r2 c.r3) 16384 0
    let s := s.spadWrite t (bitsOf c.r1 22 0) (bytesOf (16384 * bits / 8) v)
    (false, if mcMx c.ctl then s.spadWrite t (bitsOf c.r4 22 0) (bytesOf 512 (packElems 8 (drainScale p fmt) 512 0)) else s)
  | .macc =>
    let r := s.readOperands t (matOperands c)
    if r.1 then (true, r.2.2)
    else
      let v := r.2.1
      let scA := if mcMxA c.ctl then lget v 2 0 else 0
      let scB := if mcMxB c.ctl then lget v (if mcMxA c.ctl then 3 else 2) 0 else 0
      (false, r.2.2.onTile t fun x => x.setPlane k (macc p c.ctl c.r3 (lget v 0 0) (lget v 1 0) scA scB))
  | .mldp =>
    let r := s.readOperands t (matOperands c)
    if r.1 then (true, r.2.2) else (false, r.2.2.onTile t fun x => x.setPlane k (mldp (lget r.2.1 0 0) (mcAnchor c.ctl)))

/-- MATRIX_CMD_DONE (R86, R128): the `k`-th queued matrix command completes, where no earlier one names its plane; a
double-bit error in an operand faults the task (R93). -/
def execMatrixCmdDone (tile k : Nat) (s : State) : Host.Outcome State Fault Refusal :=
  let x := s.tile tile
  match x.matq[k]? with
  | none => .next s
  | some c =>
    if decide (144 ≤ tile) || s.chipReset || !s.gateOpen tile || x.inReset.contains .matrix
        || (x.matq.take k).any (fun d => mcPlane d.ctl == mcPlane c.ctl) then .next s
    else
      let s := s.setTile tile { x with matq := ldel x.matq k, watch := { x.watch with mat := s.now } }
      let r := s.runMat tile c
      if r.1 then .next (r.2.impreciseFault tile 0x08 unitMatrix c.pc)
      else .next (if c.kind = .macc then r.2.tally tile 0x010 c.r3 else r.2)

end Sys2Proof.Machine
end

