-- ==== Sys2Proof/Machine/Transcend.lean ====
section
/-! DEFINITION. The functions of the transcendental unit (R138) in fixed point, close enough to tell whether an FP32 result
keeps its error bound. -/
namespace Sys2Proof.Machine

/-- π/2 in units of 2⁻⁵¹², rounded down. -/
def halfPi : Nat :=
  21060935446725318109723410742279694052627998656744627302797342544051902891138049459896942686123863173221885648458166742663646458312799580771176887101916299

/-- ln 2 in units of 2⁻²⁵⁶, rounded down. -/
def lnTwo : Nat := 80260960185991308862233904206310070533990667611589946606122867505419956976171

/-- The series of eʸ for a `y` in units of 2⁻²⁵⁶, from the term `t` before the division by `k`; the first argument bounds the
terms. -/
def expSeries : Nat → Nat → Nat → Nat → Nat
  | 0, _, _, _ => 0
  | f + 1, k, t, y => t + expSeries f (k + 1) (t * y / 2 ^ 256 / k) y

/-- The alternating series of sine (`k` = 2, `t` = `y`) and cosine (`k` = 1, `t` = 1). -/
def trigSeries : Nat → Nat → Nat → Nat → Int
  | 0, _, _, _ => 0
  | f + 1, k, t, y => (t : Int) - trigSeries f (k + 2) (t * y / 2 ^ 256 * y / 2 ^ 256 / (k * (k + 1))) y

/-- The series of the inverse hyperbolic tangent, `z2` the square of its argument. -/
def atanhSeries : Nat → Nat → Nat → Nat → Nat
  | 0, _, _, _ => 0
  | f + 1, n, t, z2 => t / n + atanhSeries f (n + 2) (t * z2 / 2 ^ 256) z2

/-- `2 ^ a / (m * 2 ^ e)`, rounded down. -/
def inverseOf (a m : Nat) (e : Int) : Nat := if e < 0 then 2 ^ (a + e.natAbs) / m else 2 ^ a / (m * 2 ^ e.toNat)

/-- 2 to the power of a value in units of 2⁻²⁵⁶, in the same units; beyond the range of FP32 only so much as to lie there. -/
def exp2Fixed (x : Int) : Nat :=
  let y := expSeries 80 1 (2 ^ 256) ((x % 2 ^ 256).toNat * lnTwo / 2 ^ 256)
  let i := x / 2 ^ 256
  if i < -300 then 0 else shiftInt y (min i 200)

/-- The binary logarithm of `m * 2 ^ e`. -/
def log2Fixed (m : Nat) (e : Int) : Int :=
  let a := (m <<< 256) >>> Nat.log2 m
  let z := (a - 2 ^ 256) * 2 ^ 256 / (a + 2 ^ 256)
  ((Nat.log2 m : Int) + e) * 2 ^ 256 + ((2 * atanhSeries 90 1 z (z * z / 2 ^ 256) * 2 ^ 256 / lnTwo : Nat) : Int)

/-- Sine of `m * 2 ^ e`, and with `q` = 1 cosine: the argument is reduced by multiples of π/2. -/
def sineFixed (m : Nat) (e : Int) (q : Nat) : Int :=
  let x := shiftInt m (e + 512)
  let r := x % halfPi / 2 ^ 256
  match (x / halfPi + q) % 4 with
  | 0 => trigSeries 50 2 r r
  | 1 => trigSeries 50 1 (2 ^ 256) r
  | 2 => -trigSeries 50 2 r r
  | _ => -trigSeries 50 1 (2 ^ 256) r

/-- The value of a function of R138 at a finite operand in units of 2⁻²⁵⁶, to within the slack below. The functions are
numbered 0 reciprocal, 1 reciprocal square root, 2 exp2, 3 log2, 4 sine, 5 cosine. -/
def transFixed (k : Nat) (neg : Bool) (m : Nat) (e : Int) : Int :=
  let signed := fun v : Int => if neg then -v else v
  match k with
  | 0 => signed (inverseOf 256 m e : Nat)
  | 1 => (natSqrt (inverseOf 512 m e) : Nat)
  | 2 => (exp2Fixed (signed (shiftInt m (e + 256) : Nat)) : Nat)
  | 3 => log2Fixed m e
  | 4 => signed (sineFixed m e 0)
  | _ => sineFixed m e 1

/-- How far the fixed-point value may lie from the true one. -/
def transSlack (v : Int) : Nat := v.natAbs / 2 ^ 200 + 2 ^ 20

/-- A unit in the last place of FP32 at a magnitude in units of 2⁻²⁵⁶; at least 2⁻¹⁴⁹. -/
def ulpFixed (v : Nat) : Nat := 2 ^ max (Nat.log2 v - 23) 107

/-- The error bound of R138 in ulp. -/
def transUlps (k : Nat) (m : Nat) (e : Int) : Nat :=
  match k with
  | 0 => 1
  | 1 => 1
  | 2 => 2
  | 3 => 2
  | _ => if magLt 1 20 m e then 4 else 2

/-- Whether a result keeps the bound of R138 for certain; an infinity only where the value leaves the range of FP32. -/
def transKeeps (k : Nat) (m : Nat) (e v : Int) (r : Num) : Bool :=
  match r with
  | .nan => false
  | .inf s => decide (2 ^ 384 ≤ v.natAbs) && s == decide (v < 0)
  | .fin n q qe =>
    let x := shiftInt q (qe + 256)
    decide ((((if n then -(x : Int) else x) - v).natAbs) + transSlack v ≤ transUlps k m e * ulpFixed v.natAbs)

/-- The FP32 value nearest to a fixed-point value, which keeps every bound of R138. -/
def transNearest (neg : Bool) (v : Int) : Nat :=
  (roundFp ⟨8, 23, 127, true, true, 0x7FC00000⟩ 0 false 0 (if v = 0 then neg else decide (v < 0)) v.natAbs (-256) false).bits

end Sys2Proof.Machine
end

