-- ==== Sys2Proof/Machine/VecArith.lean ====
section
/-! DEFINITION. What the vector engine computes (R88, R133, R135 to R138), on register values as numbers. -/
namespace Sys2Proof.Machine

/-- Element `i` of width `w` of a register value. -/
def elem (w v i : Nat) : Nat := (v >>> (w * i)) % 2 ^ w

/-- A register value with element `i` of width `w` replaced. -/
def setElem (w v i e : Nat) : Nat := v - (elem w v i <<< (w * i)) + ((e % 2 ^ w) <<< (w * i))

/-- A register value with the elements below `n` that a mask makes active taken from `f` (R88). -/
def mapLanes (w n mask old : Nat) (f : Nat → Nat) : Nat :=
  (List.range n).foldl (fun v i => if bitAt mask i then setElem w v i (f i) else v) old

/-- The OR of the flags of the active elements. -/
def laneFlags (n mask : Nat) (f : Nat → Nat) : Nat :=
  (List.range n).foldl (fun fl i => if bitAt mask i then fl ||| f i else fl) 0

/-- The element width of arithmetic on a format: 64 for FP64, 128 for WA96, else 32. -/
def laneWidth (fmt : Nat) : Nat := if fmt = 0 then 64 else if fmt = 11 then 128 else 32

/-- The number of elements: 32 for FP64, 16 for WA96, else 64 (R88, R133). -/
def laneCount (fmt : Nat) : Nat := 2048 / laneWidth fmt

/-- The arithmetic format. -/
def arithFormat (fmt : Nat) : FpFormat :=
  if fmt = 0 then ⟨11, 52, 1023, true, true, 0x7FF8000000000000⟩ else ⟨8, 23, 127, true, true, 0x7FC00000⟩

/-- The number of a transcendental function. -/
def transNo : VecOp → Nat
  | .recip => 0 | .rsqrt => 1 | .exp2 => 2 | .log2 => 3 | .sin => 4 | _ => 5

/-- Whether a finite value is a power of two with the exponent it names. -/
def pow2Exp (m : Nat) (e : Int) : Option Int :=
  if m != 0 && m = 2 ^ Nat.log2 m then some (Nat.log2 m + e) else none

/-- Whether two exact values are the same finite number. -/
def sameNum : Num → Num → Bool
  | .fin n1 m1 e1, .fin n2 m2 e2 => cmpNum (.fin n1 m1 e1) (.fin n2 m2 e2) == .eq
  | _, _ => false

/-- Whether a finite value is an integer, and that integer. -/
def asInt (n : Bool) (m : Nat) (e : Int) : Option Int :=
  let r := cutAt m e 0 false
  if r.lost then none else some (if n then -(r.q : Int) else r.q)

/-- Whether a result equals the function's value at a finite operand (R138: inexact is set for every non-exact result). -/
def transExact (k : Nat) (x r : Num) : Bool :=
  match x with
  | .fin n m e =>
    match k with
    | 0 => mulNum x r == .fin false 1 0 || sameNum (mulNum x r) (.fin false 1 0)
    | 1 => sameNum (mulNum (mulNum r r) x) (.fin false 1 0)
    | 2 =>
      match asInt n m e with
      | some i => sameNum r (.fin false 1 i)
      | none => false
    | 3 =>
      match pow2Exp m e with
      | some i => sameNum r (.fin (i < 0) i.natAbs 0)
      | none => false
    | 4 => m == 0 && sameNum r (.fin false 0 0)
    | _ => m == 0 && sameNum r (.fin false 1 0)
  | _ => true

/-- The flags of a value of Config.transcendental (R137, R138): inexact where it is not exact, and with it overflow where it
is infinite and underflow where it is below the smallest normal magnitude. -/
def transFlags (k : Nat) (x r : Num) : Nat :=
  if transExact k x r then 0
  else
    match r with
    | .nan => 16
    | .inf _ => 16 + 4
    | .fin _ m e => 16 + (if magLt m e 1 (-126) then 8 else 0)

/-- The result of a transcendental function at a finite operand that no special case covers (R138): the value of
Config.transcendental where it keeps the error bound, else the nearest one, which does (log entry 4). -/
def transResult (k x : Nat) : Nat :=
  let r := (Config.transcendental k (BitVec.ofNat 32 x)).toNat
  match decodeFp (arithFormat 1) x with
  | .fin neg m e =>
    let v := transFixed k neg m e
    if transKeeps k m e v (decodeFp (arithFormat 1) r) then r else transNearest neg v
  | _ => r

/-- A transcendental function on an FP32 element (R138): the special cases of the table, where the table states none a value
within the error bound. rsqrt(−0) is rsqrt(+0), as the two zeros are equal (R113), and rsqrt(+∞) is +0 (log entry 4). -/
def transcend (k x : Nat) : FpResult :=
  let f := arithFormat 1
  let inf := infCode f
  let v := decodeFp f x
  let res := transResult k x
  let fl := transFlags k v (decodeFp f res)
  match v with
  | .nan => ⟨f.nan, snanFlag f [x]⟩
  | .inf neg =>
    match k with
    | 0 => ⟨withSign f neg 0, 0⟩
    | 1 => if neg then invalidResult f else ⟨0, 0⟩
    | 2 => ⟨if neg then 0 else inf, 0⟩
    | 3 => if neg then invalidResult f else ⟨inf, 0⟩
    | _ => invalidResult f
  | .fin neg m e =>
    if m = 0 then
      match k with
      | 0 => ⟨withSign f neg inf, 2⟩
      | 1 => ⟨inf, 2⟩
      | 3 => ⟨withSign f true inf, 2⟩
      | _ => ⟨res, fl⟩
    else
      match k with
      | 1 => if neg then invalidResult f else ⟨res, fl⟩
      | 2 => if !neg && !magLt m e 1 7 then ⟨inf, 4 + 16⟩ else ⟨res, fl⟩
      | 3 => if neg then invalidResult f else ⟨res, fl⟩
      | _ => ⟨res, fl⟩

/-- A floating-point operation on elements (R135). -/
def fpLane (op : VecOp) (fmt rm a b c : Nat) : FpResult :=
  let f := arithFormat fmt
  match op with
  | .fadd => fpAdd f rm a b
  | .fsub => fpSub f rm a b
  | .fmul => fpMul f rm a b
  | .ffma => fpFma f rm a b c
  | .fdiv => fpDiv f rm a b
  | .fsqrt => fpSqrt f rm a
  | .fmin => fpMinMax f false a b
  | .fmax => fpMinMax f true a b
  | _ => transcend (transNo op) a

/-- An integer operation on 32-bit lanes (R162); shifts use the low five bits of the amount. -/
def intLane (op : VecOp) (a b : Nat) : Nat :=
  match op with
  | .iadd => (a + b) % 2 ^ 32
  | .isub => (a + 2 ^ 32 - b) % 2 ^ 32
  | .imul => a * b % 2 ^ 32
  | .isll => (a <<< (b % 32)) % 2 ^ 32
  | .isrl => a >>> (b % 32)
  | .isra => twosOf 32 (signedOf 32 a / 2 ^ (b % 32))
  | .iand => a &&& b
  | .ior => a ||| b
  | .ixor => a ^^^ b
  | _ => 0

/-- A relation between 32-bit lanes. -/
def intRel (r : Rel) (a b : Nat) : Bool :=
  match r with
  | .eq => a == b
  | .ne => a != b
  | .lt => decide (signedOf 32 a < signedOf 32 b)
  | .le => decide (signedOf 32 a ≤ signedOf 32 b)
  | .gt => decide (signedOf 32 b < signedOf 32 a)
  | .ge => decide (signedOf 32 b ≤ signedOf 32 a)
  | .ltu => decide (a < b)
  | .geu => decide (b ≤ a)
  | .unordered => false

/-- One round of the tree of R136: lane 2i added to lane 2i + 1. -/
def pairUp (f : Nat → Nat → FpResult) : List Nat → List Nat × Nat
  | a :: b :: t =>
    let r := f a b
    let q := pairUp f t
    (r.bits :: q.1, r.flags ||| q.2)
  | l => (l, 0)

/-- The tree of R136, at most `k` rounds. -/
def treeUp (f : Nat → Nat → FpResult) : Nat → List Nat → Nat × Nat
  | 0, l => (lget l 0 0, 0)
  | k + 1, l =>
    let r := pairUp f l
    let q := treeUp f k r.1
    (q.1, r.2 ||| q.2)

/-- The elements that a conversion handles: 16 with WA96, 32 with FP64, else 64 (R88, R132, R133; log entry 97). -/
def convCount (src dst : Nat) : Nat :=
  if src = 11 || dst = 11 then 16 else if src = 0 || dst = 0 then 32 else 64

/-- A source element of a conversion as an exact value. -/
def convSource (src v i : Nat) : Num :=
  if src = 11 then
    let c := wa96Read (elem 128 v i)
    cellNum c.1 c.2
  else decodeElem src false (elem (formatBits src) v i)

/-- The flag of a signalling NaN source. -/
def convSnan (src v i : Nat) : Nat :=
  match fpFormat src with
  | some f => if isSignalling f (elem (formatBits src) v i) then 1 else 0
  | none => 0

/-- A converted element without MX scaling (R130 to R133); a NaN converted to an integer is invalid, as IEEE 754-2019 has it
(R135). -/
def convLane (src dst rm imm8 seed base v i : Nat) : FpResult :=
  let x := convSource src v i
  if dst = 11 then
    if src = 11 then
      let c := wa96Read (elem 128 v i)
      ⟨wa96Bits (realign c.1 c.2 imm8) imm8, 0⟩
    else ⟨wa96Bits (wa96OfNum x imm8) imm8, convSnan src v i⟩
  else
    let r := convertNum dst rm (bitAt imm8 0) (srHash seed ((base + i) % 2 ^ 64)) x false
    let toInt := if x = .nan && isIntFormat dst then 1 else 0
    ⟨r.bits, r.flags ||| convSnan src v i ||| toInt⟩

/-- The scale code of the 32-element block of element `i` (R119). -/
def convScale (src dst v i : Nat) : Nat := mxScale dst ((List.range 32).map fun j => convSource src v (i / 32 * 32 + j))

/-- A converted element of an MX block (R119). -/
def convMxLane (src dst rm seed base v i : Nat) : FpResult :=
  let r := mxElem dst rm (srHash seed ((base + i) % 2 ^ 64)) (convScale src dst v i) (convSource src v i)
  ⟨r.bits, r.flags ||| convSnan src v i⟩

end Sys2Proof.Machine
end

