-- ==== Sys2Proof/Machine/Vector.lean ====
section
/-! DEFINITION. Vector instructions and the vector engine (R88, R161, R162). -/
namespace Sys2Proof.Machine

/-- The fn range of R162 that an operation belongs to, by the major opcode and fn of its word. -/
def vecGroup (op : VecOp) (w : Nat) : Bool :=
  let fn := iFnV w
  match op with
  | .fadd | .fsub | .fmul | .ffma | .fdiv | .fsqrt | .fmin | .fmax | .fcmp _ _ => iOp w == 0x20 && decide (fn < 0x100)
  | .iadd | .isub | .imul | .isll | .isrl | .isra | .iand | .ior | .ixor | .icmp _ =>
    iOp w == 0x20 && decide (0x100 ≤ fn) && decide (fn < 0x180)
  | .recip | .rsqrt | .exp2 | .log2 | .sin | .cos => iOp w == 0x20 && decide (0x180 ≤ fn) && decide (fn < 0x1C0)
  | .waAdd => iOp w == 0x20 && decide (0x1C0 ≤ fn) && decide (fn < 0x1E0)
  | .conv _ dst _ => iOp w == 0x21 && decide (fn < 0x100) && iFmt w == dst
  | .sum | .rmin | .rmax | .permute | .broadcast | .moveToG => iOp w == 0x22 && decide (fn < 0x100)
  | .vld => iOp w == 0x18
  | .vst => iOp w == 0x19

/-- Whether a word's fn lies in a range of R162 at all; other codes are reserved. -/
def vecFnLegal (w : Nat) : Bool :=
  match iOp w with
  | 0x20 => decide (iFnV w < 0x1E0)
  | _ => decide (iFnV w < 0x100)

/-- Whether an operation names a predicate in vd. -/
def vecPredDest : VecOp → Bool
  | .fcmp _ _ => true
  | .icmp _ => true
  | _ => false

/-- Whether an operation's fmt and rm are in its allowed set (R110, R130, R135, R162; log entry 135). -/
def vecFmtOk (op : VecOp) (w : Nat) : Bool :=
  let fmt := iFmt w
  let rm := iRm w
  match op with
  | .fadd | .fsub | .fmul | .ffma | .fdiv | .fsqrt | .sum => decide (fmt ≤ 1) && decide (rm ≤ 3)
  | .fmin | .fmax | .fcmp _ _ | .rmin | .rmax | .permute | .broadcast | .moveToG => decide (fmt ≤ 1) && decide (rm ≤ 3)
  | .recip | .rsqrt | .exp2 | .log2 | .sin | .cos => fmt == 1 && decide (rm ≤ 3)
  | .waAdd => fmt == 11 && decide (rm ≤ 3)
  | .conv src dst mx =>
    decide (rm ≤ 4) && decide (src ≤ 11) && decide (dst ≤ 11) && (rm != 4 || iGs w != 31)
      && (!mx || (isMxFormat dst && src != 11))
  | .iadd | .isub | .imul | .isll | .isrl | .isra | .iand | .ior | .ixor | .icmp _ => decide (fmt ≤ 11) && decide (rm ≤ 3)
  | .vld | .vst => true

/-- A vector command queued (R81, R161): nothing happens while the queue is full. -/
def State.queueVec (s : State) (t : Nat) (c : VecCmd) : State :=
  if 32 ≤ (s.tile t).vecq.length then s
  else s.retire t fun x =>
    { x with
      vecq := x.vecq ++ [c], cmdNo := x.cmdNo + 1
      watch := if x.vecq.isEmpty then { x.watch with vec := s.now } else x.watch }

/-- The vector command of a word: its scalar operands g(gs) and g(gs + 1) are read at issue. -/
def State.vecCmd (s : State) (t : Nat) (op : VecOp) (w : Nat) : VecCmd :=
  let x := s.tile t
  ⟨op, w, x.gr (iGs w), x.gr (iGs w + 1), x.pc.toNat, s.cmdSlot t, x.sLevel⟩

/-- The scalar registers and predicates of a vector word (R161). -/
def vecUses (op : VecOp) (w : Nat) : Uses :=
  match op with
  | .broadcast => ⟨[iGs w], [iPm w]⟩
  | .moveToG => ⟨[iGs w], [iPm w]⟩
  | .conv _ _ _ => ⟨if iRm w = 4 then [iGs w, iGs w + 1] else [], [iPm w]⟩
  | .fcmp _ _ => ⟨[], [iPm w, iF1 w]⟩
  | .icmp _ => ⟨[], [iPm w, iF1 w]⟩
  | _ => ⟨[], [iPm w]⟩

/-- A vector instruction of format V issued under an operation: its checks of R162, then its place in the queue. -/
def State.issueVec (s : State) (t op : Nat) (vop : VecOp) : State :=
  s.issue t (fun w => iOp w == op && (vecGroup vop w || !vecFnLegal w))
    (fun w => vecFnLegal w && (!vecPredDest vop || predField (iF1 w))) (vecUses vop) fun s w =>
    if !vecFmtOk vop w then s.faultHere t 0x02 0 else s.queueVec t (s.vecCmd t vop w)

/-- VARITH (R162, opcode 0x20). -/
def execVarith (tile : Nat) (op : VecOp) (s : State) : Host.Outcome State Fault Refusal := .next (s.issueVec tile 0x20 op)

/-- VCONV (R162, opcode 0x21). -/
def execVconv (tile : Nat) (op : VecOp) (s : State) : Host.Outcome State Fault Refusal := .next (s.issueVec tile 0x21 op)

/-- VREDUCE (R162, opcode 0x22). -/
def execVreduce (tile : Nat) (op : VecOp) (s : State) : Host.Outcome State Fault Refusal :=
  .next (s.issueVec tile 0x22 op)

/-- The address of element `i` of a strided access (R161). -/
def strideAddr (base stride i : Nat) : Nat := (base + stride * i) % 2 ^ 64

/-- The first fault of a vector access at issue (R153, R161), with its address. -/
def State.vecFault (s : State) (t w base stride : Nat) : Option (Nat × Nat) :=
  if iSz w = 0 then
    match s.target t base 256 64 false with
    | .fault c => some (c, base)
    | _ => none
  else
    (List.range 64).findSome? fun i =>
      match s.target t (strideAddr base stride i) 4 4 false with
      | .fault c => some (c, strideAddr base stride i)
      | _ => none

/-- VLD and VST at issue (R161): the stride is read, the address rules are applied, and the command is queued. -/
def State.issueVecMem (s : State) (t op : Nat) (vop : VecOp) : State :=
  s.issue t (hasOp op) (fun w => decide (iSz w < 2))
    (fun w => ⟨iF2 w :: (if iSz w = 1 then [iSubM w] else []), []⟩) fun s w =>
    let x := s.tile t
    let base := (x.gr (iF2 w) + iDisp w) % 2 ^ 64
    let stride := x.gr (iSubM w)
    match s.vecFault t w base stride with
    | some (c, a) => s.faultHere t c a
    | none => s.queueVec t ⟨vop, w, base, stride, x.pc.toNat, s.cmdSlot t, x.sLevel⟩

/-- VLD (R161). -/
def execVld (tile : Nat) (s : State) : Host.Outcome State Fault Refusal := .next (s.issueVecMem tile 0x18 .vld)

/-- VST (R161). -/
def execVst (tile : Nat) (s : State) : Host.Outcome State Fault Refusal := .next (s.issueVecMem tile 0x19 .vst)

/-! ### The vector engine -/

/-- The target of an own-tile address that passed the checks at issue. -/
def targetOf (a : Nat) : Target := if gaSpace a = 0 then .hbm (gaHbm a) else .spad (gaSpad a)

/-- The elements of a strided load read one by one: the first fault cause, or 0, and the register value. -/
def State.vldStrided (s : State) (t base stride : Nat) : Nat → Nat → Nat → Nat × Nat × State
  | 0, _, v => (0, v, s)
  | k + 1, i, v =>
    let r := s.engineRead t (targetOf (strideAddr base stride i)) 4
    if r.1 != 0 then (r.1, v, r.2.2)
    else State.vldStrided r.2.2 t base stride k (i + 1) (setElem 32 v i (ofBytes r.2.1))

/-- Whether a strided store writes both halves of the 64-bit word that holds an address. -/
def wordCovered (base stride a : Nat) : Bool := (List.range 64).any fun j => strideAddr base stride j == a ^^^ 4

/-- An element of a strided store written: within a scratchpad word that the store covers whole, with fresh check bits
(R93). The fault cause, or 0. -/
def State.vstElem (s : State) (t base stride a e : Nat) : Nat × State :=
  match targetOf a with
  | .spad off => if wordCovered base stride a then (0, s.spadWrite t off (bytesOf 4 e)) else s.engineWrite t (.spad off) (bytesOf 4 e)
  | tg => s.engineWrite t tg (bytesOf 4 e)

/-- The elements of a strided store written one by one: the first fault cause, or 0. An element that is not performed
leaves the others to be (R93). -/
def State.vstStrided (s : State) (t base stride v : Nat) : Nat → Nat → Nat × State
  | 0, _ => (0, s)
  | k + 1, i =>
    let r := s.vstElem t base stride (strideAddr base stride i) (elem 32 v i)
    let q := State.vstStrided r.2 t base stride v k (i + 1)
    (if r.1 != 0 then r.1 else q.1, q.2)

/-- A vector load or store performed: the fault cause it meets, or 0 (R161). -/
def State.vecMem (s : State) (t : Nat) (c : VecCmd) : Nat × State :=
  let vd := iF1 c.word
  if c.op = .vld then
    if iSz c.word = 0 then
      let r := s.engineRead t (targetOf c.x) 256
      if r.1 != 0 then (r.1, r.2.2) else (0, r.2.2.onTile t fun x => x.setV vd (ofBytes r.2.1))
    else
      let r := s.vldStrided t c.x c.y 64 0 ((s.tile t).vr vd)
      if r.1 != 0 then (r.1, r.2.2) else (0, r.2.2.onTile t fun x => x.setV vd r.2.1)
  else if iSz c.word = 0 then s.engineWrite t (targetOf c.x) (bytesOf 256 ((s.tile t).vr vd))
  else s.vstStrided t c.x c.y ((s.tile t).vr vd) 64 0

/-- The effect of an element-wise command on the tile (R88, R135, R162). -/
def Tile.vecLanes (x : Tile) (c : VecCmd) : Tile :=
  let w := c.word
  let fmt := iFmt w
  let mask := x.pr (iPm w)
  let a := x.vr (iF2 w)
  let b := x.vr (iF3 w)
  let d := x.vr (iF1 w)
  let cc := x.vr (iF4 w)
  let addFlags := fun (y : Tile) (fl : Nat) => { y with vxflags := y.vxflags ||| BitVec.ofNat 5 fl }
  match c.op with
  | .fcmp r sg =>
    let lw := laneWidth fmt
    let n := laneCount fmt
    let f := fun i => fpCompare (arithFormat fmt) r sg (elem lw a i) (elem lw b i)
    let old := x.pr (iF1 w) % 2 ^ n
    addFlags (x.setP (iF1 w) (mapLanes 1 n mask old fun i => natOfBool (f i).1)) (laneFlags n mask fun i => (f i).2)
  | .icmp r =>
    x.setP (iF1 w) (mapLanes 1 64 mask (x.pr (iF1 w)) fun i => natOfBool (intRel r (elem 32 a i) (elem 32 b i)))
  | .iadd | .isub | .imul | .isll | .isrl | .isra | .iand | .ior | .ixor =>
    x.setV (iF1 w) (mapLanes 32 64 mask d fun i => intLane c.op (elem 32 a i) (elem 32 b i))
  | .waAdd =>
    x.setV (iF1 w) (mapLanes 128 16 mask d fun i =>
      wa96Bits (wa96Add (wa96Read (elem 128 a i)) (wa96Read (elem 128 b i)) (iImm8 w)) (iImm8 w))
  | .conv src dst mx =>
    let n := convCount src dst
    let f := fun i =>
      if mx then convMxLane src dst (iRm w) c.x c.y a i
      else convLane src dst (iRm w) (iImm8 w) c.x c.y a i
    let y := x.setV (iF1 w) (mapLanes (formatBits dst) n mask d fun i => (f i).bits)
    let y := if mx then
        y.setV (iF4 w) ((List.range (n / 32)).foldl (fun v k => setElem 8 v k (convScale src dst a (32 * k))) (y.vr (iF4 w)))
      else y
    addFlags y (laneFlags n mask fun i => (f i).flags)
  | .sum =>
    let lw := laneWidth fmt
    let ls := (List.range (laneCount fmt)).map fun i => if bitAt mask i then elem lw a i else 0
    let r := treeUp (fpAdd (arithFormat fmt) (iRm w)) 6 ls
    addFlags (x.setV (iF1 w) (setElem lw d 0 r.1)) r.2
  | .rmin | .rmax =>
    let lw := laneWidth fmt
    let ls := ((List.range (laneCount fmt)).filter fun i => bitAt mask i).map fun i => elem lw a i
    match ls with
    | [] => x
    | l :: t =>
      let r := t.foldl (fun q e =>
        let z := fpMinMax (arithFormat fmt) (c.op == .rmax) q.1 e
        (z.bits, q.2 ||| z.flags)) (canonical (arithFormat fmt) l, snanFlag (arithFormat fmt) [l])
      addFlags (x.setV (iF1 w) (setElem lw d 0 r.1)) r.2
  | .permute =>
    let lw := laneWidth fmt
    let n := laneCount fmt
    x.setV (iF1 w) (mapLanes lw n mask d fun i => elem lw a (elem lw b i % n))
  | .broadcast =>
    let lw := laneWidth fmt
    x.setV (iF1 w) (mapLanes lw (laneCount fmt) mask d fun _ => c.x)
  | .moveToG => x.setGAt c.sup (iGs w) (elem (laneWidth fmt) a (iImm8 w))
  | .vld | .vst => x
  | _ =>
    let lw := laneWidth fmt
    let n := laneCount fmt
    let f := fun i => fpLane c.op fmt (iRm w) (elem lw a i) (elem lw b i) (elem lw cc i)
    addFlags (x.setV (iF1 w) (mapLanes lw n mask d fun i => (f i).bits)) (laneFlags n mask fun i => (f i).flags)

/-- The lanes of a command whose value the spec does not state: a permutation index outside the register, the minimum or
maximum of no active lane, a moved element outside the register (log entry 13). Each takes a free value, of which a NaN
is the canonical one (R114). -/
def State.vecOpen (s : State) (t : Nat) (c : VecCmd) (before : Tile) : State :=
  let w := c.word
  let lw := laneWidth (iFmt w)
  let n := laneCount (iFmt w)
  let mask := before.pr (iPm w)
  match c.op with
  | .permute =>
    (List.range n).foldl (fun s i =>
      if bitAt mask i && decide (n ≤ elem lw (before.vr (iF3 w)) i) then
        (s.onTile t fun x => x.setV (iF1 w) (setElem lw (x.vr (iF1 w)) i s.freeVal)).spend
      else s) s
  | .rmin | .rmax =>
    if mask % 2 ^ n = 0 then
      (s.onTile t fun x =>
        x.setV (iF1 w) (setElem lw (x.vr (iF1 w)) 0 (canonical (arithFormat (iFmt w)) (s.freeVal % 2 ^ lw)))).spend
    else s
  | .moveToG =>
    if n ≤ iImm8 w then (s.onTile t fun x => x.setGAt c.sup (iGs w) (s.freeVal % 2 ^ lw)).spend else s
  | _ => s

/-- Whether the elements of a vector load find their read-return buffers where the data cache misses (R219). -/
def State.vecFits (s : State) (t : Nat) (c : VecCmd) : Bool :=
  c.op != .vld || s.openReads.isEmpty || (List.range 64).all fun i =>
    match targetOf (strideAddr c.x (if iSz c.word = 0 then 4 else c.y) i) with
    | .hbm off => s.lineFits t off 4
    | _ => true

/-- VECTOR_CMD_DONE (R81, R88, R161): the oldest vector command completes; a load or store that meets an uncorrectable
error faults the task (R93, R96). -/
def execVectorCmdDone (tile : Nat) (s : State) : Host.Outcome State Fault Refusal :=
  let x := s.tile tile
  match x.vecq with
  | [] => .next s
  | c :: cs =>
    if decide (144 ≤ tile) || s.chipReset || !s.gateOpen tile || x.inReset.contains .vector || !s.vecFits tile c then .next s
    else
      let s := s.setTile tile { x with vecq := cs, watch := { x.watch with vec := s.now } }
      if c.op = .vld || c.op = .vst then
        let r := s.vecMem tile c
        if r.1 != 0 then .next (r.2.impreciseFault tile r.1 unitVector c.pc) else .next (r.2.tally tile 0x012)
      else
        let s' := s.onTile tile fun x => x.vecLanes c
        .next ((s'.vecOpen tile c x).tally tile 0x012)

end Sys2Proof.Machine
end

