-- ==== Sys2Proof/Machine/Sync.lean ====
section
/-! DEFINITION. Synchronisation, tally read, task control, privilege and interrupt entry of the sequencer, and the TL_CMD
operations (R58, R82, R93, R96, R102, R105, R143 to R147, R169 to R177). -/
namespace Sys2Proof.Machine

/-- The sequencer waiting at its PC. -/
def State.waitHere (s : State) (t : Nat) (k : WaitKind) (w : Nat) (puts : List Nat) : State :=
  s.onTile t fun x => { x with wait := some ⟨k, w, puts, false⟩ }

/-- A wait that ends: the result `f` on the tile, the wait cleared, the PC past the instruction. -/
def State.endWait (s : State) (t : Nat) (f : Tile → Tile) : State := s.retire t fun x => { f x with wait := none }

/-- What the sequencer of a tile waits for, where it is not held in reset. -/
def State.waiting (s : State) (t : Nat) : Option SeqWait :=
  if decide (144 ≤ t) || s.tileHeld t || s.parked then none else (s.tile t).wait

/-- The words of one SYNC, TALLY or SYS function. -/
def hasFn (op fn w : Nat) : Bool := iOp w == op && iFnS w == fn

/-! ### FENCE and EWAIT (R169, R170) -/

/-- FENCE (R169). -/
def execFence (tile : Nat) (s : State) : Host.Outcome State Fault Refusal :=
  .next (s.issue tile (hasFn 0x34 0) (fun _ => true) (fun _ => ⟨[], []⟩) fun s w => s.waitHere tile .fence w [])

/-- FENCE_DONE (R169): the store buffer is drained and every earlier access of the sequencer is performed. -/
def execFenceDone (tile : Nat) (s : State) : Host.Outcome State Fault Refusal :=
  match s.waiting tile with
  | some ⟨.fence, _, _, _⟩ => if (s.tile tile).stores.isEmpty then .next (s.endWait tile id) else .next s
  | _ => .next s

/-- Whether a channel has met the condition of EWAIT (R170). -/
def DmaChan.done (c : DmaChan) : Bool :=
  c.queue.isEmpty && c.awaits.all (fun a => a.gone) && c.flags.all fun f => f.gone || !f.waiting

/-- Whether every unit that an EWAIT names has completed its earlier work (R170). -/
def Tile.ewaitDone (x : Tile) (imm : Nat) : Bool :=
  (!bitAt imm 0 || x.vecq.isEmpty)
    && (List.range 4).all (fun c => !bitAt imm (1 + c) || (x.chan c).done)
    && (!bitAt imm 5 || x.tokq.isEmpty)
    && (List.range 4).all (fun k => !bitAt imm (6 + k) || !x.planeBusy k)
    && (!bitAt imm 10 || x.matq.isEmpty)

/-- EWAIT (R170). -/
def execEwait (tile : Nat) (s : State) : Host.Outcome State Fault Refusal :=
  .next (s.issue tile (hasFn 0x34 1) (fun _ => true) (fun _ => ⟨[], []⟩) fun s w => s.waitHere tile .ewait w [])

/-- EWAIT_DONE (R170). -/
def execEwaitDone (tile : Nat) (s : State) : Host.Outcome State Fault Refusal :=
  match s.waiting tile with
  | some ⟨.ewait, w, _, _⟩ => if (s.tile tile).ewaitDone (iImmS w) then .next (s.endWait tile id) else .next s
  | _ => .next s

/-! ### REL and ACQ (R171, R172) -/

/-- Whether a scope code is defined (R185). -/
def scopeOk (c : Nat) : Bool := c % 8 < 5

/-- The outstanding puts that a release of a scope waits for (R171 condition 3): those to the own node, and at fabric
scope all. -/
def Tile.relPuts (x : Tile) (scope : Nat) : List Nat := (x.puts.filter fun p => p.own || scope == 4).map (·.id)

/-- Whether condition 1 of R171 and its condition 3 for the recorded puts hold, and no evicted line waits for its
write-back. -/
def Tile.relReady (x : Tile) (puts : List Nat) : Bool :=
  x.stores.isEmpty && !(x.vecq.any fun c => c.op == .vst) && x.wb.isEmpty
    && !(x.puts.any fun p => puts.contains p.id)

/-- REL (R171): reserved scopes are illegal (R185). -/
def execRel (tile : Nat) (s : State) : Host.Outcome State Fault Refusal :=
  .next (s.issue tile (hasFn 0x34 2) (fun w => scopeOk (iImmS w)) (fun w => ⟨[iF2 w, iF3 w], []⟩) fun s w =>
    s.waitHere tile .rel w ((s.tile tile).relPuts (iImmS w % 8)))

/-- The fault of a write-back that met an uncorrectable error in a range operation, where one did (R96). -/
def State.rangeFault (s : State) (t : Nat) (met : Bool) : State := if met then s.writeBackFault t else s

/-- A range operation that ends: the wait ends too, unless the write-back's fault has ended it. -/
def State.endRange (s : State) (t : Nat) (met : Bool) : State :=
  let s := s.rangeFault t met
  if (s.tile t).wait.isSome then s.endWait t id else s

/-- REL_DONE (R171, R173): the conditions hold; the dirty bytes of the range are written back, lines kept; or the zero
range of an STR's release is complete and its word is stored past the data cache (R173). -/
def execRelDone (tile : Nat) (s : State) : Host.Outcome State Fault Refusal :=
  match s.waiting tile with
  | some ⟨.rel, w, puts, _⟩ =>
    let x := s.tile tile
    if x.relReady puts then
      let r := s.cleanLines tile false (s.relLines tile (x.gr (iF2 w)) (x.gr (iF3 w)))
      .next (r.2.endRange tile r.1)
    else .next s
  | some ⟨.str, w, puts, _⟩ =>
    let x := s.tile tile
    if x.relReady puts then .next (s.strStore tile w) else .next s
  | _ => .next s

/-- ACQ (R172). -/
def execAcq (tile : Nat) (s : State) : Host.Outcome State Fault Refusal :=
  .next (s.issue tile (hasFn 0x34 3) (fun w => scopeOk (iImmS w)) (fun w => ⟨[iF2 w, iF3 w], []⟩) fun s w =>
    s.waitHere tile .acq w [])

/-- ACQ_DONE (R172): the dirty bytes of the range written back, and its lines invalidated. -/
def execAcqDone (tile : Nat) (s : State) : Host.Outcome State Fault Refusal :=
  match s.waiting tile with
  | some ⟨.acq, w, _, _⟩ =>
    let x := s.tile tile
    if x.wb.isEmpty then
      let r := s.cleanLines tile true (s.linesIn tile (x.gr (iF2 w)) (x.gr (iF3 w)))
      .next (r.2.endRange tile r.1)
    else .next s
  | _ => .next s

/-! ### CWAIT (R174) -/

/-- The result of a CWAIT (R174): the count, reached, error, timed out. -/
def State.cwaitValue (s : State) (d e : Nat) (timed : Bool) : Nat :=
  s.fld GI_CD_count d + natOfBool (s.reached d e) <<< 32 + natOfBool (s.flag GI_CD_err d) <<< 33
    + natOfBool timed <<< 34

/-- Whether a CWAIT's condition holds: the domain has reached the value, or has an error. -/
def State.cwaitMet (s : State) (d e : Nat) : Bool := s.reached d e || s.flag GI_CD_err d

/-- CWAIT (R174): a foreign domain faults; a limit of 1 reads without waiting. -/
def execCwait (tile : Nat) (s : State) : Host.Outcome State Fault Refusal :=
  .next (s.issue tile (hasFn 0x34 4) (fun _ => true) (fun w => ⟨[iF1 w, iF2 w, iF3 w, iF4 w], []⟩) fun s w =>
    let x := s.tile tile
    let d := x.gr (iF2 w) % 1024
    let e := x.gr (iF3 w) % 2 ^ 32
    if !s.tileOwns tile d then s.faultHere tile 0x07 0
    else if x.gr (iF4 w) = 1 then
      let v := s.cwaitValue d e (!s.cwaitMet d e)
      s.retire tile fun x => x.setG (iF1 w) v
    else s.waitHere tile .cwait w [])

/-- CWAIT_DONE (R174). -/
def execCwaitDone (tile : Nat) (s : State) : Host.Outcome State Fault Refusal :=
  match s.waiting tile with
  | some ⟨.cwait, w, _, _⟩ =>
    let x := s.tile tile
    let d := x.gr (iF2 w) % 1024
    let e := x.gr (iF3 w) % 2 ^ 32
    if s.cwaitMet d e then
      let v := s.cwaitValue d e false
      .next (s.endWait tile fun x => x.setG (iF1 w) v)
    else .next s
  | _ => .next s

/-- CWAIT_TIMEOUT (R174): a limit of 0 means no time limit. -/
def execCwaitTimeout (tile : Nat) (s : State) : Host.Outcome State Fault Refusal :=
  match s.waiting tile with
  | some ⟨.cwait, w, _, _⟩ =>
    let x := s.tile tile
    let d := x.gr (iF2 w) % 1024
    let e := x.gr (iF3 w) % 2 ^ 32
    if x.gr (iF4 w) != 0 && !s.cwaitMet d e then
      let v := s.cwaitValue d e true
      .next (s.endWait tile fun x => x.setG (iF1 w) v)
    else .next s
  | _ => .next s

/-! ### TRD (R175) -/

/-- The value of a tally read (R175). -/
def State.trdValue (s : State) (t sel : Nat) : Nat :=
  if sel = 8 then s.cycles t % 2 ^ 64
  else s.fld TL_TALLY_CNT_count t sel + s.fld TL_TALLY_CNT_ovf t sel <<< 63

/-- Whether task code may read the tally counters (R144). -/
def State.tallyUser (s : State) (t : Nat) : Bool :=
  match s.padOfTile t with
  | some q => s.flag GI_PAD_CFG_tally_user q
  | none => false

/-- TRD (R144, R175). -/
def execTrd (tile : Nat) (s : State) : Host.Outcome State Fault Refusal :=
  .next (s.issue tile (hasFn 0x38 0) (fun w => decide (iImmS w % 16 < 9)) (fun w => ⟨[iF1 w], []⟩) fun s w =>
    if !(s.tile tile).sLevel && !s.tallyUser tile then s.faultHere tile 0x06 0
    else
      let v := s.trdValue tile (iImmS w % 16)
      s.retire tile fun x => x.setG (iF1 w) v)

/-! ### Task control (R58, R82, R176) -/

/-- TEND or TRET issued: at S level an illegal instruction. -/
def State.taskEnd (s : State) (t fn : Nat) (retire : Bool) : State :=
  s.issue t (hasFn 0x3C fn) (fun _ => true) (fun _ => ⟨[], []⟩) fun s w =>
    if (s.tile t).sLevel then s.faultHere t 0x01 0 else s.waitHere t (.taskEnd retire) w []

/-- TEND (R82, R176). -/
def execTend (tile : Nat) (s : State) : Host.Outcome State Fault Refusal := .next (s.taskEnd tile 0 false)

/-- TRET (R82, R176). -/
def execTret (tile : Nat) (s : State) : Host.Outcome State Fault Refusal := .next (s.taskEnd tile 1 true)

/-- The conditions of R82: every engine queue is empty, where a DMA command leaves its queue as R81 and R170 say. -/
def Tile.taskDone (x : Tile) : Bool :=
  x.matq.isEmpty && x.vecq.isEmpty && x.tokq.isEmpty && x.dma.all fun c => c.done

/-- A channel whose packets on their way no longer belong to a slot, since their task has left it. -/
def DmaChan.release (c : DmaChan) (k : Nat) : DmaChan :=
  { c with
    awaits := c.awaits.map fun a => if a.slot = k then { a with slot := 32 } else a,
    flags := c.flags.map fun f => if f.slot = k then { f with slot := 32 } else f }

/-- The exit token of a retiring task (R53, R58). -/
def State.exitToken (s : State) (t : Nat) (d : List Word64) : Packet :=
  { Packet.blank with
    dst := dExitNode d, vc := 0, type := tTOKEN, sequence := t, partition := s.partitionOfTile t,
    body := [BitVec.ofNat 64 (1 <<< 32),
      BitVec.ofNat 64 (dExitTask d + dExitTile d <<< 32 + dExitInput d <<< 40 + dExitCount d <<< 48)] }

/-- The running slot after its task ended (R58): WAIT with one more iteration; or, RETIRE passing within the step, the exit
token queued, the task ID unbound and the slot FREE (log entry 36); the packets that the task left on their way keep no
slot. -/
def State.finishTask (s : State) (t k : Nat) (retire : Bool) : State :=
  let x := s.tile t
  let sl := x.slot k
  let x := { x with wait := none, watch := { x.watch with task := s.now } }
  if dPersistent sl.desc && !retire then
    (s.setTile t (x.setSlot k { sl with state := .wait, startCount := (sl.startCount + 1) % 2 ^ 24 })).markReady t
  else
    let p := (s.exitToken t sl.desc).sized
    let x := if dExitEn sl.desc then x.queueToken s.now ⟨p, s.producerA t, x.cmdNo⟩ else x
    let x := { x with dma := x.dma.map fun c : DmaChan => c.release k }
    (s.setTile t (x.setSlot k Slot.empty)).markReady t

/-- TASK_END_DONE (R82, R176). -/
def execTaskEndDone (tile : Nat) (s : State) : Host.Outcome State Fault Refusal :=
  match s.waiting tile with
  | some ⟨.taskEnd retire, _, _, _⟩ =>
    let x := s.tile tile
    match x.runSlot with
    | some k => if x.taskDone then .next ((s.tally tile 0x001).finishTask tile k retire) else .next s
    | none => .next s
  | _ => .next s

/-- SLOT_CLEARED (R58): a slot in ABORT is cleared: FREE. A slot in RETIRE, which no step leaves so, would be freed alike. -/
def execSlotCleared (tile slot : Nat) (s : State) : Host.Outcome State Fault Refusal :=
  let st := ((s.tile tile).slot slot).state
  if decide (tile < 144) && decide (slot < 32) && (st == .abort || st == .retire) then
    .next ((s.onTile tile fun x => x.setSlot slot Slot.empty).finishReset levelContext (tile * 32 + slot))
  else .next s

/-- ICINV (R176). -/
def execIcinv (tile : Nat) (s : State) : Host.Outcome State Fault Refusal :=
  .next (s.issue tile (hasFn 0x3C 2) (fun _ => true) (fun _ => ⟨[], []⟩) fun s _ =>
    s.retire tile fun x => { x with icache := [] })

/-! ### Privilege (R144 to R146) -/

/-- SYSCALL (R145): at S level, or with TL_SEQ_EVEC zero, an illegal instruction. -/
def execSyscall (tile : Nat) (s : State) : Host.Outcome State Fault Refusal :=
  .next (s.issue tile (hasFn 0x3C 3) (fun _ => true) (fun _ => ⟨[], []⟩) fun s w =>
    let x := s.tile tile
    if x.sLevel || s.fld TL_SEQ_EVEC_evec tile = 0 then s.faultHere tile 0x01 0
    else (s.enterS tile (iImmS w % 65536) (nextPc x.pc)).tally tile 0x001)

/-- RTI (R145): at T level a privilege fault. With no task in RUN the sequencer becomes idle. -/
def execRti (tile : Nat) (s : State) : Host.Outcome State Fault Refusal :=
  .next (s.issue tile (hasFn 0x3C 4) (fun _ => true) (fun _ => ⟨[], []⟩) fun s _ =>
    if !(s.tile tile).sLevel then s.faultHere tile 0x05 0
    else ((s.onTile tile Tile.returnS).tally tile 0x001).markReady tile)

/-- ESTAT (R146). -/
def Tile.estat (x : Tile) : Nat :=
  natOfBool x.prev + natOfBool x.ie <<< 1 + natOfBool x.runSlot.isNone <<< 2 + x.ecause.toNat <<< 16

/-- NODE (R146): on a paired node it names the rank (R356). -/
def State.csrNode (s : State) (t : Nat) : Nat :=
  s.selfId + t <<< 16 + s.partitionOfTile t <<< 24 + ((s.padOfTile t).getD 0) <<< 36

/-- The value of a control register (R146); `none` for an unlisted number. -/
def State.csrRead (s : State) (t n : Nat) : Option Nat :=
  let x := s.tile t
  match n with
  | 0x000 => some (s.csrNode t)
  | 0x001 => some x.vxflags.toNat
  | 0x002 => some (s.reg .TL_FAULT t)
  | 0x003 => some (s.reg .TL_FAULT_PC t)
  | 0x100 => some (x.epc.toNat / 8 * 8)
  | 0x101 => some x.estat
  | 0x102 => some (s.reg .TL_SEQ_EVEC t)
  | 0x103 => some x.escr0.toNat
  | 0x104 => some x.escr1.toNat
  | _ => none

/-- Whether a control register may be reached at T level (R146). -/
def csrUser (n : Nat) : Bool := n ≤ 1

/-- Whether a control register may be written at S level (R146). -/
def csrWritable (n : Nat) : Bool := n == 1 || n == 0x100 || n == 0x101 || n == 0x103 || n == 0x104

/-- A control register written (R146). -/
def Tile.csrWrite (x : Tile) (n v : Nat) : Tile :=
  match n with
  | 0x001 => { x with vxflags := x.vxflags &&& ~~~(BitVec.ofNat 5 v) }
  | 0x100 => { x with epc := BitVec.ofNat 40 (v / 8 * 8) }
  | 0x101 => { x with ie := bitAt v 1, ecause := BitVec.ofNat 16 (bitsOf v 31 16) }
  | 0x103 => { x with escr0 := BitVec.ofNat 64 v }
  | 0x104 => { x with escr1 := BitVec.ofNat 64 v }
  | _ => x

/-- CSRR (R144, R146, R176). -/
def execCsrr (tile : Nat) (s : State) : Host.Outcome State Fault Refusal :=
  .next (s.issue tile (hasFn 0x3C 6) (fun _ => true) (fun w => ⟨[iF1 w], []⟩) fun s w =>
    let n := iImmS w % 4096
    match s.csrRead tile n with
    | none => s.faultHere tile 0x01 0
    | some v =>
      if !csrUser n && !(s.tile tile).sLevel then s.faultHere tile 0x05 0
      else s.retire tile fun x => x.setG (iF1 w) v)

/-- CSRW (R144, R146, R176). -/
def execCsrw (tile : Nat) (s : State) : Host.Outcome State Fault Refusal :=
  .next (s.issue tile (hasFn 0x3C 7) (fun _ => true) (fun w => ⟨[iF2 w], []⟩) fun s w =>
    let n := iImmS w % 4096
    match s.csrRead tile n with
    | none => s.faultHere tile 0x01 0
    | some _ =>
      if !csrUser n && !(s.tile tile).sLevel then s.faultHere tile 0x05 0
      else if !csrWritable n then s.faultHere tile 0x01 0
      else s.retire tile fun x => x.csrWrite n (x.gr (iF2 w)))

/-! ### ILLEGAL (R143, R147) -/

/-- Whether a word names no instruction: a reserved opcode, function code or condition, or a non-zero field that is
zero or reserved in every use (R147 to R149). Function codes that the spec does not list name no reserved word. -/
def illegalWord (w : Nat) : Bool :=
  match iOp w with
  | 0x01 | 0x04 => bitsOf w 21 0 != 0
  | 0x02 | 0x03 | 0x0A => false
  | 0x08 => decide (8 ≤ iCond w) || (decide (6 ≤ iCond w) && bitsOf (iF1 w) 4 3 != 0)
  | 0x09 => iF2 w != 0 || iCond w != 0
  | 0x10 | 0x11 => decide (4 ≤ iSz w) || bitsOf (iSubM w) 2 1 != 0
  | 0x12 | 0x13 => !(iSz w == 2 || iSz w == 3) || !scopeOk (iSubM w)
  | 0x14 => bitsOf w 21 0 != 0 || iFnR w % 8 == 7 || decide (16 ≤ iFnR w)
  | 0x18 | 0x19 => decide (2 ≤ iSz w)
  | 0x20 => decide (0x1E0 ≤ iFnV w)
  | 0x21 | 0x22 => decide (0x100 ≤ iFnV w)
  | 0x28 => matReserved (iSubE w) w
  | 0x2C => decide (5 ≤ iSubE w) || bitsOf (iCtl w) 30 25 != 0
  | 0x30 => iSubE w != 0 || bitsOf (iCtl w) 30 15 != 0
  | 0x34 => decide (5 ≤ iFnS w) || ((iFnS w == 2 || iFnS w == 3) && !scopeOk (iImmS w))
  | 0x38 => iFnS w != 0 || decide (9 ≤ iImmS w % 16)
  | 0x3C => iFnS w == 5 || decide (8 ≤ iFnS w)
  | _ => true

/-- ILLEGAL (R143, R147): a word that names no instruction raises an illegal-instruction fault whatever its guard. -/
def execIllegal (tile : Nat) (s : State) : Host.Outcome State Fault Refusal :=
  .next (s.issue tile illegalWord (fun _ => false) (fun _ => ⟨[], []⟩) fun s _ => s)

/-! ### Interrupt entry (R145) -/

/-- Whether an interrupt may abandon a wait (R145). -/
def interruptible : Option SeqWait → Bool
  | none => true
  | some w =>
    match w.kind with
    | .cwait | .ewait | .fence | .rel | .acq | .taskEnd _ => true
    | _ => false

/-- INTERRUPT_ENTRY (R145): a presentable source, ESTAT.ie 1, T level or idle, TL_SEQ_EVEC not zero. -/
def execInterruptEntry (tile : Nat) (s : State) : Host.Outcome State Fault Refusal :=
  let x := s.tile tile
  if decide (tile < 144) && !s.tileHeld tile && !s.parked && s.ticAny tile && x.ie && !x.sLevel
      && s.fld TL_SEQ_EVEC_evec tile != 0 && interruptible x.wait then
    .next (s.enterS tile 0xFFFF x.pc)
  else .next s

/-! ### TL_CMD, cache operations, scratchpad rewrites and write-backs -/

/-- Whether a TL_CMD write reaches the tile (R14, R31). -/
def State.cmdReaches (s : State) (t : Nat) : Bool := s.tileUsable t && !s.tileInReset t

/-- TL_CMD_ABORT (R105). -/
def execTlCmdAbort (tile slot : Nat) (s : State) : Host.Outcome State Fault Refusal :=
  if s.cmdReaches tile then .next (s.contextAbort tile (slot % 32)) else .next s

/-- A cache operation started, or discarded while one is in progress (R105). -/
def State.cacheOp (s : State) (t : Nat) (ic dc : Bool) : State :=
  let x := s.tile t
  if x.icOp || x.dcOp then s.event TL_EVT_cmd_busy t else s.setTile t { x with icOp := ic, dcOp := dc }

/-- TL_CMD_ICACHE_INV (R105). -/
def execTlCmdIcacheInv (tile : Nat) (s : State) : Host.Outcome State Fault Refusal :=
  if s.cmdReaches tile then .next (s.cacheOp tile true false) else .next s

/-- TL_CMD_DCACHE_FLUSH (R105). -/
def execTlCmdDcacheFlush (tile : Nat) (s : State) : Host.Outcome State Fault Refusal :=
  if s.cmdReaches tile then .next (s.cacheOp tile false true) else .next s

/-- The data cache written back and invalidated as a whole, with the write-backs that still wait (R96, R105). -/
def State.flushCache (s : State) (t : Nat) : State :=
  let old := (s.tile t).wb
  let w := (s.onTile t fun x => { x with wb := [] }).writeBackAll old
  let r := w.2.cleanLines t true (w.2.tile t).dcache
  r.2.rangeFault t (w.1 || r.1)

/-- CACHE_OP_DONE (R105). -/
def execCacheOpDone (tile : Nat) (s : State) : Host.Outcome State Fault Refusal :=
  let x := s.tile tile
  if decide (tile < 144) && (x.icOp || x.dcOp) then
    let s := if x.icOp then s.onTile tile fun y => { y with icache := [] } else s
    let s := if x.dcOp then s.flushCache tile else s
    .next (s.onTile tile fun y => { y with icOp := false, dcOp := false })
  else .next s

/-- SPAD_CE_REWRITE (R93): a corrected word is rewritten. -/
def execSpadCeRewrite (tile word : Nat) (s : State) : Host.Outcome State Fault Refusal :=
  if decide (tile < 144) && (s.tile tile).spadRewrite.contains word then
    .next (s.onTile tile fun x =>
      { x with spadCe := x.spadCe.filter (· != word), spadRewrite := x.spadRewrite.filter (· != word) })
  else .next s

/-- WRITE_BACK_DONE (R96): the oldest evicted line's write-back is accepted, or refused, which faults the task in RUN. -/
def execWriteBackDone (tile : Nat) (s : State) : Host.Outcome State Fault Refusal :=
  match (s.tile tile).wb with
  | [] => .next s
  | l :: ls =>
    if 144 ≤ tile then .next s
    else
      let r := (s.onTile tile fun x => { x with wb := ls }).writeBack l
      .next (r.2.rangeFault tile r.1)

end Sys2Proof.Machine
end

