-- ==== Sys2Proof/Machine/Clone.lean ====
section
/-! DEFINITION. The end of a clone (R374). -/
namespace Sys2Proof.Machine

/-- The valid paddocks. -/
def State.validPads (s : State) : List Nat := (List.range 8).filter fun p => s.flag GI_PAD_CFG_valid p

/-- Whether an HBM offset lies in a window. -/
def State.inWindow (s : State) (w off : Nat) : Bool :=
  decide (s.fld RTR_WIN_BASE_base w ≤ off) && decide (off < s.fld RTR_WIN_LIM_limit w)

/-- Whether a clone copies the byte at an own-node address: it lies in a window or a scratchpad of a valid paddock. -/
def State.cloned (s : State) (a : Nat) : Bool :=
  s.validPads.any fun p =>
    (gaSpace a == 0 && (s.windowsOf p).any fun w => s.inWindow w (gaHbm a))
      || (gaSpace a == 1 && s.padOfTile (gaTile a) == some p)

/-- The cells of an image stored where a clone copies. -/
def State.cloneCells (s : State) (m : List Host.Cell) : List Host.Cell → List Host.Cell
  | [] => m
  | c :: cs => s.cloneCells (if s.cloned c.1 then memSet m c.1 c.2 else m) cs

/-- Whether a tile's part of an image has the planes, registers and slots of a tile (R58, R142). -/
def CloneTile.fits (c : CloneTile) : Bool :=
  c.planes.length == 4 && c.v.length == 32 && c.p.length == 8 && c.slots.length == 32

/-- A tile's part of an image taken. -/
def State.cloneTile (s : State) (c : CloneTile) : State :=
  if (s.padOfTile c.tile).isSome && decide (c.tile < 144) && c.fits then
    s.onTile c.tile fun x => { x with planes := c.planes, v := c.v, p := c.p, slots := c.slots, etb := c.etb }
  else s

/-- The image of a clone taken by its target (R374), the flag-hold buffer's peak with its entries (R211). -/
def State.takeImage (s : State) (i : CloneImage) : State :=
  let s := { s with mem := s.cloneCells (s.mem.filter fun c => !s.cloned c.1) i.mem, flagHold := i.flagHold }
  let s := if s.fld GI_FH_STAT_peak < s.flagHold.length then s.put GI_FH_STAT_peak s.flagHold.length else s
  let s := i.tiles.foldl (fun s c => s.cloneTile c) s
  let s := i.domains.foldl (fun s d => s.setReg .GI_CD d.1 0 d.2.toNat) s
  let s := i.queues.foldl (fun s q => s.setPad q.1 { s.pad q.1 with queue := q.2 }) s
  i.folds.foldl (fun s f =>
    (s.setFld FLD_COLL_STAT_instance f.1 0 f.2.1).setFld FLD_COLL_TRIG_next_expect f.1 0 f.2.2) s

/-- Whether a tile runs nothing and its engines are idle (R104, R374). -/
def Tile.quiet (x : Tile) : Bool :=
  x.runSlot.isNone && !x.sLevel && x.stores.isEmpty && x.matq.isEmpty && x.vecq.isEmpty && !x.icOp && !x.dcOp
    && x.dma.all fun c => c.queue.isEmpty && !c.active

/-- The tiles of the valid paddocks. -/
def State.pairedTiles (s : State) : List Nat := (List.range 144).filter fun t => (s.padOfTile t).isSome

/-- Quiesced (R374): the running tasks of the source have finished, and its engines are idle. -/
def State.quiesced (s : State) : Bool := s.pairedTiles.all fun t => (s.tile t).quiet

/-- What a clone copies from its source (R374). -/
def State.image (s : State) : CloneImage where
  mem := s.mem.filter fun c => s.cloned c.1
  tiles := s.pairedTiles.map fun t =>
    let x := s.tile t
    ⟨t, x.planes, x.v, x.p, x.slots, x.etb⟩
  domains := ((List.range 1024).filter fun d => (s.ownerOf d).isSome).map fun d => (d, BitVec.ofNat 64 (s.reg .GI_CD d))
  flagHold := s.flagHold
  queues := s.validPads.map fun p => (p, (s.pad p).queue)
  folds := (List.range 512).map fun e => (e, s.fld FLD_COLL_STAT_instance e, s.fld FLD_COLL_TRIG_next_expect e)

/-- The source's part of a clone (R374): the data caches are written back, and then the copy goes to the target's own ID. -/
def State.sendClone (s : State) : State :=
  let s := s.pairedTiles.foldl (fun s t => s.flushCache t) s
  s.emit (.clone (s.fld RTR_PAIR_CTRL_partner) s.image)

/-- CLONE_DONE (R374): the copy ends. The source has written its caches back and sent it, which it does only once it is
quiesced; the target holds the image, and stale clears. -/
def execCloneDone (i : CloneImage) (s : State) : Host.Outcome State Fault Refusal :=
  if !s.flag RTR_PAIR_CLONE_busy || (s.pairRole == 1 && !s.quiesced) then .next s
  else
    let s := if s.pairRole = 1 then s.sendClone else (s.takeImage i).put RTR_PAIR_LEASE_stale 0
    .next ((s.put RTR_PAIR_CLONE_busy 0).event RTR_PAIR_EVT_clone_done)

end Sys2Proof.Machine
end

