-- ==== Sys2Proof/Machine/Power.lean ====
section
/-! DEFINITION. The power and thermal controller (R430 to R452). What the controller measures, and what its loops decide
where the spec leaves the decision open, are operands of the commands. -/
namespace Sys2Proof.Machine

/-! ### Limits (R434, R441, R448) -/

def State.onPower (s : State) (f : Power → Power) : State := { s with power := f s.power }

/-- The cap of R434 in W. -/
def State.capW (s : State) : Nat := 10 * min (s.fld PWR_CAP_cap_host) (s.fld PWR_CAP_cap_tray)

/-- A field that acts as the nearer limit of its range. -/
def clampTo (lo hi v : Nat) : Nat := max lo (min hi v)

/-- The part of the brake level that brake_pct gives, in W (R441). -/
def State.brakePart (s : State) : Nat := clampTo 20 80 (s.fld PWR_FT_CFG_brake_pct) * s.capW / 100

/-- The brake level in W (R441). -/
def State.brakeW (s : State) : Nat := max 600 s.brakePart

/-- The limit in Park in W (R444). -/
def parkW : Nat := 450

/-- The flow derating limit of R448 in W, for a flow in 0.01 L/min and an inlet in 0.1 °C. -/
def flowLimit (sustained flow inlet : Nat) : Nat :=
  let hot := if 450 < inlet then 200 - (inlet - 450) else 200
  max 600 (sustained * min 180 flow * hot / 36000)

/-- The limit of a Sprint burst in W: 1.125 × the cap (R438). -/
def State.burstW (s : State) : Nat := s.capW * 9 / 8

/-- A burst that runs ends, and none starts until the 1 s average allows it (R438). -/
def Power.endBurst (p : Power) : Power := { p with burst := false, mayBurst := p.mayBurst && !p.burst }

/-- Whether a fast throttle holds (R442, R446). -/
def State.braked (s : State) : Bool := s.flag PWR_STAT_ft_n || s.power.brake

/-- Whether the module is throttled or ramps back (R434). -/
def State.throttled (s : State) : Bool := s.braked || s.power.climbing

/-- The fast throttle term of R434 in W: the brake level while the module is throttled or ramps back. -/
def State.throttleW (s : State) : Nat := if s.throttled then s.brakeW else 100000

/-- The power term of R434 in W: the cap, or in a Sprint burst the burst limit that takes its place. -/
def State.powerW (s : State) : Nat := if s.power.burst then s.burstW else s.capW

/-- The effective limit of R434 in W, the lowest of its terms. -/
def State.effW (s : State) : Nat :=
  min (if s.parked then parkW else 100000) (min s.throttleW (min s.powerW (s.fld PWR_COOL_flow_limit_w)))

/-- The limiter bits of R455: the terms that set the effective limit, and the thermal and HBM ones in force. -/
def State.limiterBits (s : State) : Nat :=
  let e := s.effW
  let bit := fun (b : Nat) (c : Bool) => if c then 2 ^ b else 0
  bit 0 (!s.power.burst && e == s.capW) + bit 1 (s.power.burst && e == s.burstW)
    + bit 2 ((List.range 144).any fun t => s.flag PWR_TILE_thr t)
    + bit 3 (s.power.hbmRate.any fun r => decide (r.2 < 16))
    + bit 4 (decide (s.fld PWR_COOL_flow_limit_w < s.fuse.sustainedW) && e == s.fld PWR_COOL_flow_limit_w)
    + bit 5 (s.throttled && e == s.throttleW)
    + bit 6 (s.throttled && e == 600 && decide (s.brakePart < 600))

/-- PWR_CAP.eff_limit and PWR_STAT brought up to date (R434, R442, R455). -/
def State.settlePower (s : State) : State :=
  let s := s.onPower fun p => if p.climbing && !s.braked && !p.parked && decide (min s.capW (s.fld PWR_COOL_flow_limit_w) ≤ p.ramp / 1000)
    then { p with climbing := false } else p
  let s := s.put PWR_CAP_eff_limit (s.effW / 10)
  let bits := s.limiterBits
  let s := s.put PWR_STAT_limiter bits
  let s := s.onPower fun p => { p with limited := p.limited ||| bits }
  s.put PWR_STAT_state
    (if s.parked then 2 else if s.braked then 1 else if s.power.climbing then 3 else 0)

/-! ### Frequencies and gates (R431, R436, R439) -/

/-- Whether a tile domain is clocked: fused on, and neither failed nor soft-disabled (R23). -/
def State.tileClocked (s : State) (t : Nat) : Bool := s.tileUsable t

/-- The usable tiles. -/
def State.usableTiles (s : State) : List Nat := (List.range 144).filter fun t => s.tileUsable t

/-- A tile set to a frequency in 25 MHz units, with the voltage of its table in 6.25 mV units, 96 for 0.600 V (R431). -/
def State.setClock (s : State) (t f : Nat) : State :=
  if s.fld PWR_TILE_f_now t = f then s
  else
    let s := s.rebase t
    let s := s.setFld PWR_TILE_f_now t 0 f
    s.setFld PWR_TILE_v_now t 0 (96 + (Config.voltage (s.fld FUS_FP_TILE_fmax_fused t) f).val)

/-- The lowest and highest frequency of a tile domain: 1.2 and 3.4 GHz (R431). -/
def fLow : Nat := 48
def fHigh : Nat := 136

/-- The thermal ceiling of a tile (R446). -/
def State.thermalCeiling (s : State) (t : Nat) : Nat := agetD s.power.ceilings t fHigh

/-- The ceilings of a tile other than the thermal one (R431). -/
def State.plainCeiling (s : State) (t : Nat) : Nat :=
  min fHigh (min (s.fld PWR_TILE_f_ceiling t) (s.fld FUS_FP_TILE_fmax_now t))

/-- The highest frequency that a tile may run at (R431). -/
def State.ceiling (s : State) (t : Nat) : Nat := min (s.plainCeiling t) (s.thermalCeiling t)

/-- A frequency within the range of the tiles and within the ceilings of the tile, which win over the lower end (R431). -/
def State.inRange (s : State) (t f : Nat) : Nat := min (s.ceiling t) (max fLow f)

/-- The frequency of a waiting tile in Follow (R439, R454). -/
def State.waitClock (s : State) (t : Nat) : Nat := min (s.ceiling t) (clampTo 48 136 (s.fld PWR_FOLLOW_f_wait))

/-- Whether a tile has nothing to run: no task in RUN and no slot READY (R439). -/
def Tile.idleWait (x : Tile) : Bool := x.slots.all fun sl => sl.state != .run && sl.state != .ready

/-- Whether the running task of a tile stands in CWAIT, REL or EWAIT (R439). -/
def Tile.longWait (x : Tile) : Bool :=
  match x.wait with
  | some w => w.kind == .cwait || w.kind == .rel || w.kind == .ewait
  | none => false

/-- Whether it has stood there for longer than dwell_ns (R439). -/
def Tile.dwelt (x : Tile) : Bool := x.longWait && x.wait.any (·.dwelt)

/-- The wait of a tile marked as longer than dwell_ns (R439). -/
def Tile.dwell (x : Tile) : Tile := { x with wait := x.wait.map fun w => { w with dwelt := true } }

/-- A tile lowered to f_wait, with its former frequency kept; one that waits already follows f_wait (R439, R454). -/
def State.lowerTile (s : State) (t : Nat) : State :=
  let f := (aget s.power.former t).getD (s.fld PWR_TILE_f_now t)
  let s := s.onPower fun p => { p with former := aset p.former t f }
  s.setClock t (min f (s.waitClock t))

/-- A tile that waits no longer goes back to its former frequency (R439). -/
def State.raiseTile (s : State) (t : Nat) : State :=
  match aget s.power.former t with
  | none => s
  | some f =>
    let s := s.onPower fun p => { p with former := adel p.former t }
    s.setClock t (min f (s.ceiling t))

/-- The gate of every usable tile (R436): in Park 0, else the value that the operand gives for the tile, at most 64. -/
def State.setGates (s : State) (gates : List Nat) : State :=
  s.usableTiles.foldl (fun s t =>
    s.setFld PWR_TILE_gate t 0 (if s.parked then 0 else min 64 (lget gates t 64))) s

/-- FAST_LOOP_STEP (R434, R436, R438, R439): every 1 µs. The operands give the gate that the loop sets for each tile, and
whether a Sprint burst runs. -/
def execFastLoopStep (gates : List Nat) (burst : Bool) (s : State) : Host.Outcome State Fault Refusal :=
  let burst := decide (s.fld PWR_CTRL_mode = 1) && s.power.mayBurst && burst && !s.parked && !s.braked
  let ended := s.power.burst && !burst
  let s := s.onPower fun p => { p with
    burst := burst,
    mayBurst := !ended && (p.mayBurst || decide (s.fld PWR_TELEM_p_1s_w < s.capW)),
    ramp := if p.climbing && !s.braked && !p.parked then p.ramp + max 1 (s.fld PWR_FT_CFG_ramp_w_per_ms) else p.ramp }
  let s := s.settlePower
  let s := s.setGates gates
  .next (s.usableTiles.foldl (fun s t =>
    let x := s.tile t
    if s.parked then s
    else if s.fld PWR_CTRL_mode = 2 && (x.idleWait || x.dwelt) then s.lowerTile t
    else s.raiseTile t) s)

/-- SLOW_LOOP_STEP (R431, R436): every 100 µs. Every running tile moves by the same number of 25 MHz steps, within its own
ceilings; a tile without a frequency yet starts at the lowest one. -/
def execSlowLoopStep (steps : Int) (s : State) : Host.Outcome State Fault Refusal :=
  let s := s.settlePower
  .next (s.usableTiles.foldl (fun s t =>
    if s.parked then s.setClock t (s.inRange t fLow)
    else if ahas s.power.former t then s.setClock t (min (s.fld PWR_TILE_f_now t) (s.ceiling t))
    else
      let f := ((s.fld PWR_TILE_f_now t : Nat) : Int) + steps
      s.setClock t (s.inRange t f.toNat)) s)

/-- FOLLOW_DWELL_EXPIRY (R439): a task has waited longer than dwell_ns. -/
def execFollowDwellExpiry (tile : Nat) (s : State) : Host.Outcome State Fault Refusal :=
  if s.tileUsable tile && (s.tile tile).longWait then
    let s := s.onTile tile Tile.dwell
    .next (if s.fld PWR_CTRL_mode = 2 && !s.parked then s.lowerTile tile else s)
  else .next s

/-- TELEMETRY_REFRESH (R430, R496): the averages over 1 µs, 100 µs and 1 s in W, and the input voltage in 10 mV. -/
def execTelemetryRefresh (p1us p100us vin p1s : Nat) (s : State) : Host.Outcome State Fault Refusal :=
  if !s.tray.good then .next s
  else
  let s := ((s.put PWR_TELEM_p_1us_w p1us).put PWR_TELEM_p_100us_w p100us).put PWR_TELEM_v_in vin
  .next ((s.put PWR_TELEM_p_1s_w p1s).onPower fun p => { p with refreshes := (p.refreshes + 1) % 65536 })

/-! ### Park (R443, R444) -/

-- The bits of PWR_STAT.park_reasons (R455).
def parkTray : Nat := 0
def parkFt : Nat := 1
def parkThermal : Nat := 2
def parkVolt : Nat := 3
def parkSoft : Nat := 4

/-- A Park reason set; the first one parks the module. -/
def State.parkFor (s : State) (b : Nat) : State :=
  let s := s.eventBit PWR_STAT_park_reasons b
  if s.parked then s.settlePower
  else
    let s := s.onPower fun p => { p.endBurst with parked := true }
    let s := s.event PWR_EVT_park
    let s := s.setGates []
    (s.usableTiles.foldl (fun s t => s.setClock t (s.inRange t fLow)) s).settlePower

/-- A Park reason cleared; the module stays parked until PARK_EXIT. -/
def State.unparkFor (s : State) (b : Nat) : State :=
  s.put PWR_STAT_park_reasons (withBit (s.fld PWR_STAT_park_reasons) b false)

/-- PARK_EXIT (R444): no reason is left, and the module climbs. -/
def execParkExit (s : State) : Host.Outcome State Fault Refusal :=
  if s.parked && s.fld PWR_STAT_park_reasons == 0 && !s.tray.releasing then
    .next ((s.onPower fun p =>
      { p with parked := false, climbing := true, ramp := parkW * 1000, upAt := s.now }).settlePower)
  else .next s

/-- PWR_CTRL_PARK and PWR_CTRL_UNPARK (R444). -/
def execPwrCtrlPark (s : State) : Host.Outcome State Fault Refusal := .next (s.parkFor parkSoft)
def execPwrCtrlUnpark (s : State) : Host.Outcome State Fault Refusal := .next (s.unparkFor parkSoft)

/-! ### Fast throttle (R441 to R443) -/

/-- The level of FT_N at the pin (R442, R540). -/
def State.ftLevel (s : State) (b : Bool) : State := { s with tray := { s.tray with ft := b } }

/-- FT_ASSERT (R442): the operand gives the gates that the fast loop computed for the brake level. Without main power
only the pin's level changes. -/
def execFtAssert (gates : List Nat) (s : State) : Host.Outcome State Fault Refusal :=
  let s := s.ftLevel true
  if !s.tray.good then .next s
  else
  let s := ((s.put PWR_STAT_ft_n 1).put PWR_STAT_ft_ack 1).event PWR_EVT_ft
  let s := s.onPower fun p => { p.endBurst with climbing := false }
  .next (s.settlePower.setGates gates)

/-- FT_DEASSERT (R442, R444): the module climbs from the brake level, and the FT hold reason clears. -/
def execFtDeassert (s : State) : Host.Outcome State Fault Refusal :=
  let s := s.ftLevel false
  if !s.flag PWR_STAT_ft_n then .next s
  else
    let s := (s.put PWR_STAT_ft_n 0).put PWR_STAT_ft_ack 0
    let s := s.onPower fun p => { p with climbing := true, ramp := s.brakeW * 1000 }
    .next (s.unparkFor parkFt).settlePower

/-- FT_HOLD_EXPIRY (R443). -/
def execFtHoldExpiry (s : State) : Host.Outcome State Fault Refusal :=
  if s.flag PWR_STAT_ft_n && s.fld PWR_FT_CFG_hold_park_ms != 0 then .next (s.parkFor parkFt) else .next s

/-! ### Caps and modes (R434, R435, R438) -/

/-- A write of a cap in 10 W units: refused below 600 W, and clamped to sustained_w (R435). -/
def State.writeCap (s : State) (f : Fld) (v : Nat) : State :=
  if v < 60 then s.event PWR_CAP_refused
  else (s.put f (min v (s.fuse.sustainedW / 10))).settlePower

/-- PWR_CAP_WRITE (R435): of cap_host, or of cap_tray. -/
def execPwrCapWrite (tray : Bool) (value : Nat) (s : State) : Host.Outcome State Fault Refusal :=
  .next (s.writeCap (if tray then PWR_CAP_cap_tray else PWR_CAP_cap_host) value)

/-- A write of the mode (R438): a change out of Sprint ends a burst; the tiles follow at the next fast-loop step. -/
def State.writeMode (s : State) (m : Nat) : State :=
  let s := s.put PWR_CTRL_mode m
  if s.fld PWR_CTRL_mode = 1 then s else s.onPower Power.endBurst

/-- POWER_MODE_WRITE (R438). -/
def execPowerModeWrite (mode : Nat) (s : State) : Host.Outcome State Fault Refusal := .next (s.writeMode mode)

/-- BURST_END (R438): a burst has lasted 10 ms; none starts until the 1 s average allows it. -/
def execBurstEnd (s : State) : Host.Outcome State Fault Refusal :=
  if s.power.burst then .next (s.onPower Power.endBurst).settlePower else .next s

/-! ### Sensors and the thermal model (R445 to R447) -/

/-- A spot of the sensors: 0 to 143 tiles, 144 to 155 stacks, 156 to 159 the pairs of the fabric die. -/
def State.spot (s : State) (k : Nat) : Spot := agetD s.power.spots k Spot.reset
def State.setSpot (s : State) (k : Nat) (x : Spot) : State := s.onPower fun p => { p with spots := aset p.spots k x }

/-- Whether a reading is kept (R445). -/
def readingOk (r : Int) : Bool := decide (-20 ≤ r) && decide (r ≤ 150)

/-- The accepted temperature of a spot from its readings (R445). -/
def Spot.accept (x : Spot) (a b : Int) (single : Bool) : Int :=
  if single then (if readingOk a then a else x.estimate)
  else if readingOk a && readingOk b then
    (if x.suspect then max x.estimate (max a b) else max a b)
  else if readingOk a then max a x.estimate
  else if readingOk b then max b x.estimate
  else x.estimate

/-- Ten seconds, and one second, in units of 100 ps. -/
def tenSeconds : Nat := 100000000000
def oneSecond : Nat := 10000000000

/-- One spot's readings taken (R445). -/
def State.sampleSpot (s : State) (r : Nat × Int × Int) : State :=
  let k := r.1
  let a := r.2.1
  let b := r.2.2
  if 160 ≤ k then s
  else
    let single := decide (144 ≤ k) && decide (k < 156)
    let x := s.spot k
    let calm := readingOk a && readingOk b && decide (a - b ≤ 4) && decide (b - a ≤ 4)
    let since := if calm then some (x.calmSince.getD s.now) else none
    let calmEnough := match since with
      | some t => decide (t + tenSeconds ≤ s.now)
      | none => false
    let x := { x with calmSince := since, suspect := x.suspect && !calmEnough }
    let lost := !readingOk a && (single || !readingOk b)
    let x := { x with accepted := x.accept a b single }
    let s := s.setSpot k x
    let s := if lost then s.event PWR_EVT_sensor_lost else s
    if k < 144 then
      (s.setFld PWR_TILE_temp k 0 (twosOf 8 x.accepted)).setFld PWR_TILE_suspect k 0 (natOfBool x.suspect)
    else if k < 156 then s
    else
      let i := 2 * (k - 156)
      s.put PWR_FAB_temps (withBits (withBits (s.fld PWR_FAB_temps) (8 * i + 7) (8 * i) (twosOf 8 a))
        (8 * i + 15) (8 * i + 8) (twosOf 8 b))

/-- The hottest of a list of spots. -/
def hottest : List (Nat × Spot) → Option (Nat × Int)
  | [] => none
  | e :: es =>
    match hottest es with
    | none => some (e.1, e.2.accepted)
    | some m => if m.2 ≤ e.2.accepted then some (e.1, e.2.accepted) else some m

/-- The thermal Park reason (R444): set by a reading of 105 °C or more, and cleared when every reading has been below
target − 10 °C for 1 s. -/
def State.thermalPark (s : State) (hot : Int) : State :=
  if 105 ≤ hot then (s.onPower fun p => { p with coolSince := none }).parkFor parkThermal
  else
    let target := clampTo 75 100 (s.fld PWR_THERM_target)
    let cool := decide (hot < ((target : Nat) : Int) - 10)
    let since := if cool then some (s.power.coolSince.getD s.now) else none
    let s := s.onPower fun p => { p with coolSince := since }
    match since with
    | some t => if t + oneSecond ≤ s.now then s.unparkFor parkThermal else s
    | none => s

/-- SENSOR_SAMPLE (R444, R445): every 25 µs. The operand gives spots with their readings in °C; a stack has one. -/
def execSensorSample (readings : List (Nat × Int × Int)) (s : State) : Host.Outcome State Fault Refusal :=
  let s := readings.foldl (fun s r => s.sampleSpot r) s
  match hottest s.power.spots with
  | none => .next s
  | some h =>
    let s := (s.put PWR_THERM_hot_now (twosOf 8 h.2)).put PWR_THERM_hot_spot h.1
    .next (s.thermalPark h.2)

/-- SENSOR_SUSPECT (R445). -/
def execSensorSuspect (spot : Nat) (s : State) : Host.Outcome State Fault Refusal :=
  if 160 ≤ spot || (144 ≤ spot && spot < 156) then .next s
  else
    let s := (s.setSpot spot { s.spot spot with suspect := true, calmSince := none }).event PWR_EVT_sensor_suspect
    .next (if spot < 144 then s.setFld PWR_TILE_suspect spot 0 1 else s)

/-- One prediction of the thermal model (R446): a tile's thermal ceiling falls from the lowest of its ceilings, and rises
up to the other ones. -/
def State.predict (s : State) (k : Nat) (p : Int) : State :=
  if k < 144 then
    let target := clampTo 75 100 (s.fld PWR_THERM_target)
    let c := s.thermalCeiling k
    let top := s.plainCeiling k
    let s := if ((target : Nat) : Int) < p then
        (s.onPower fun q => { q with ceilings := aset q.ceilings k (max fLow (min c top - 1)) }).event PWR_EVT_thermal_throttle
      else if p ≤ ((target : Nat) : Int) - 2 && decide (c < top) then
        s.onPower fun q => { q with ceilings := aset q.ceilings k (c + 1) }
      else s
    s.setFld PWR_TILE_thr k 0 (natOfBool (decide (s.thermalCeiling k < s.plainCeiling k)))
  else if k < 156 then
    let r := agetD s.power.hbmRate (k - 144) 16
    let r := if 95 < p then r - 1 else if p ≤ 93 then min 16 (r + 1) else r
    s.onPower fun q => { q with hbmRate := aset q.hbmRate (k - 144) r }
  else s

/-- The highest of a list of predictions, or a given one. -/
def highest (m : Int) (l : List (Nat × Int × Int)) : Int := l.foldl (fun m e => max m e.2.1) m

/-- THERMAL_MODEL_RUN (R446): every 250 µs. The operand gives each spot's prediction and present estimate in °C, and the
gates for the brake level. -/
def execThermalModelRun (predictions : List (Nat × Int × Int)) (gates : List Nat) (s : State) :
    Host.Outcome State Fault Refusal :=
  let s := predictions.foldl (fun s e =>
    if e.1 < 160 then (s.setSpot e.1 { s.spot e.1 with estimate := e.2.2 }).predict e.1 e.2.1 else s) s
  match predictions with
  | [] => .next s
  | e :: es =>
    let m := highest e.2.1 es
    let s := s.put PWR_THERM_hot_pred (twosOf 8 m)
    if 105 ≤ m then
      let s := if s.power.brake then s else s.event PWR_EVT_brake_internal
      let s := s.onPower fun p => { p.endBurst with brake := true, climbing := false }
      .next (s.settlePower.setGates gates)
    else if s.power.brake && decide (m < 100) then
      .next ((s.onPower fun p => { p with brake := false, climbing := true, ramp := s.brakeW * 1000 }).settlePower)
    else .next s.settlePower

/-! ### The persistent record (R432, R489) -/

/-- A half of the record. -/
def Flash.half (f : Flash) (k : Nat) : RecordHalf := lget f.record k RecordHalf.erased

/-- The half in force: the good one with the higher sequence number. -/
def Flash.activeHalf (f : Flash) : Option Nat :=
  if (f.half 0).good && (f.half 1).good then some (if (f.half 0).seq < (f.half 1).seq then 1 else 0)
  else if (f.half 0).good then some 0 else if (f.half 1).good then some 1 else none

/-- The record in force; an erased half where neither passes. -/
def Flash.kept (f : Flash) : RecordHalf :=
  match f.activeHalf with
  | some k => f.half k
  | none => RecordHalf.erased

/-- The half that the next record is written into. -/
def Flash.spareHalf (f : Flash) : Nat :=
  match f.activeHalf with
  | some k => 1 - k
  | none => 0

/-- The record written: the other half takes it, with the next sequence number. -/
def Flash.writeRecord (f : Flash) (powered : Nat) (fmax : Assoc Nat) : Flash :=
  { f with
    record := lset f.record f.spareHalf ⟨f.kept.seq + 1, true, powered, fmax⟩
    last := some (.half f.spareHalf) }

/-- The accumulated powered time, in 100 ps. -/
def State.poweredTime (s : State) : Nat := s.mgmt.powered + s.now

/-- fmax_now of every fused-on tile as the record takes it. -/
def State.fmaxNow (s : State) : Assoc Nat :=
  ((List.range 144).filter fun t => s.flag FUS_FP_TILE_fused_on t).foldl
    (fun a t => aset a t (s.fld FUS_FP_TILE_fmax_now t)) s.flash.kept.fmax

/-- The persistent record saved; the boot restores the one before it first. -/
def State.saveRecord (s : State) : State :=
  if s.flag FUS_STAT_fuses_loaded then { s with flash := s.flash.writeRecord s.poweredTime s.fmaxNow } else s

/-! ### Ageing and droop (R432, R433) -/

/-- AGEING_CHECK (R432): the monitor lowers a tile's fmax_now by some 25 MHz steps, and the record is saved. -/
def execAgeingCheck (tile steps : Nat) (s : State) : Host.Outcome State Fault Refusal :=
  if 144 ≤ tile || !s.flag FUS_FP_TILE_fused_on tile then .next s
  else
    let f := s.fld FUS_FP_TILE_fmax_now tile - steps
    let s := if steps = 0 then s else (s.setFld FUS_FP_TILE_fmax_now tile 0 f).event PWR_EVT_fmax_aged
    let s := if steps != 0 && decide (f < 120) then s.event PWR_EVT_fmax_below_nominal else s
    .next s.saveRecord

/-- DROOP_TRIP (R433): the stretch changes no result; the event is counted. -/
def execDroopTrip (tile : Nat) (s : State) : Host.Outcome State Fault Refusal :=
  if tile < 144 then .next (s.satCount PWR_TILE_droops tile) else .next s

/-! ### Coolant and pacing (R440, R448) -/

/-- The flow limit brought up to date; the event whenever it lies below sustained_w (R448). -/
def State.derate (s : State) (flow inlet : Nat) : State :=
  let l := flowLimit s.fuse.sustainedW flow inlet
  let s := s.put PWR_COOL_flow_limit_w l
  let s := if l < s.fuse.sustainedW then s.event PWR_EVT_flow_derate else s
  s.settlePower

/-- A coolant report written to PWR_COOL (R448, R495). -/
def State.writeCoolant (s : State) (flow inlet : Nat) : State :=
  let s := (s.put PWR_COOL_flow flow).put PWR_COOL_inlet inlet
  let s := s.onPower fun p => { p with coolAt := some s.now }
  s.derate (s.fld PWR_COOL_flow) (s.fld PWR_COOL_inlet)

/-- PWR_COOL.age_ms as read: the time since the last report, saturating (R455). -/
def State.coolAge (s : State) : Nat :=
  match s.power.coolAt with
  | some t => min 65535 ((s.now - t) / 10000000)
  | none => 65535

/-- COOLANT_STALE (R448): the report is older than 10 s. -/
def execCoolantStale (s : State) : Host.Outcome State Fault Refusal :=
  .next ((s.event PWR_EVT_cool_stale).derate 180 450)

/-- PACE_WINDOW_END (R440): the operand gives the fraction of tile cycles spent waiting, in 1/1,024. -/
def execPaceWindowEnd (waitFrac : Nat) (s : State) : Host.Outcome State Fault Refusal :=
  let s := (s.put PWR_PACE_wait_frac (min 1023 waitFrac)).put PWR_PACE_limited s.power.limited
  let s := (s.put PWR_PACE_pace_node s.power.pace).put PWR_PACE_self (natOfBool (s.power.pace == s.node))
  let s := s.onPower fun p => { p with limited := s.fld PWR_STAT_limiter }
  .next (s.wrapCount PWR_PACE_windows)

/-- UNDERVOLTAGE_CLEAR (R450, R523): the input has been at or above 40.0 V for 10 ms. -/
def execUndervoltageClear (s : State) : Host.Outcome State Fault Refusal :=
  .next ({ s with tray := { s.tray with vin := true } }.unparkFor parkVolt)

end Sys2Proof.Machine
end

