-- ==== Sys2Proof/Machine/Receive.lean ====
section
/-! DEFINITION. The receiver: data packets, flagged packets, the get responder, completions, and the paddock and domain
registers (R45, R192 to R211, R258 to R261, R276). -/
namespace Sys2Proof.Machine

/-- The bytes of a data packet's payload. -/
def Packet.payloadBytes (p : Packet) : List Byte := bytesOfWords p.payload

/-- The own-node address bits of a data packet (R256). -/
def Packet.ownAddr (p : Packet) : Nat := bitsOf p.addr 47 0

/-- The cause that a data packet sent with status 1 carries (R258). -/
def Packet.sentCause (p : Packet) : Nat := if p.status = 1 then pcCause p.control else 0

/-- The data packet checked and, where every check passes and it carries no error, performed: its cause (R258, R276). -/
def State.arrive (s : State) (p : Packet) (doms : List Nat) : Nat × State :=
  let r := s.checkPacket p p.ownAddr p.payloadBytes.length true doms
  if r.1 != 0 then r
  else if p.status = 1 then (p.sentCause, r.2)
  else r.2.perform p.ownAddr p.payloadBytes

/-- The await of a channel that a packet of a local copy or a GET_DATA belongs to (R164, R261): the first whose range
holds the packet's address. `get` tells a GET_REQ, whose range starts at its return address. -/
def awaitMatches (p : Packet) (get : Bool) (a : DmaAwait) : Bool :=
  (a.packet.type == tGET_REQ) == get
    && (let lo := bitsOf (if get then a.packet.word 3 else a.packet.word 2) 47 0
      let n := if get then bitsOf (a.packet.word 4) 31 0 else 16 * a.packet.length - 32
      decide (lo ≤ p.ownAddr) && decide (p.ownAddr < lo + n)
        && (if get then a.packet.dst == p.src else a.packet.sequence == p.sequence))

/-- Written bytes taken off an await; one with nothing due is done. -/
def DmaChan.settle (c : DmaChan) (i n : Nat) : DmaChan :=
  match c.awaits[i]? with
  | none => c
  | some a =>
    if a.due ≤ n then { c with awaits := ldel c.awaits i } else { c with awaits := lset c.awaits i { a with due := a.due - n } }

/-- A late completion or data packet for an operation no longer held (R388, R391). -/
def State.late (s : State) : State := s.satCount MGT_PEER_STAT_late

/-- WRITE (R192, R198, R260, R276): the packet is performed or refused, counted in its domain, and completed where it
asks for a completion. A packet of a local copy tells its channel (R170). -/
def execWrite (p : Packet) (s : State) : Host.Outcome State Fault Refusal :=
  let s := s.take p
  if s.staleFor p then .next s
  else if p.status = 3 then .next s.dropMalformed
  else
    let r := s.arrive p [p.domain]
    let s := r.2.countPacket p.domain r.1 p.src p.sequence
    let s := s.tallyInbound p.ownAddr p.partition (r.1 == 3 || r.1 == 8 || r.1 == 1 || r.1 == 5)
    if pcNeedCpl p.control then .next (s.respond (addrPort p.addr) p 0 (completionOf p (if r.1 = 0 then 0 else 1) r.1))
    else if s.isOwn p.src then
      let t := pcSrcTile p.control
      let ch := pcChan p.control
      match lfind (awaitMatches p false) ((s.tile t).chan ch).awaits with
      | some i =>
        if 144 ≤ t then .next s
        else .next (s.onTile t fun x => x.setChan ch ((x.chan ch).settle i p.payloadBytes.length))
      | none => .next s
    else .next s

/-- FLAGGED_WRITE (R167, R201, R258, R276): the packet is checked, then discarded, applied, held or refused with retry.
One sent with status 1 is counted in its sig_dom with its cause, and completed with it. -/
def execFlaggedWrite (p : Packet) (s : State) : Host.Outcome State Fault Refusal :=
  let s := s.take p
  if s.staleFor p then .next s
  else if p.status = 3 then .next s.dropMalformed
  else
    let doms := p.domain :: (sigDom p).toList
    let r := s.checkPacket p p.ownAddr p.payloadBytes.length true doms
    let cause := if r.1 != 0 then r.1 else p.sentCause
    if cause != 0 then
      let s := match sigDom p with
        | some d => r.2.countPacket d cause p.src p.sequence
        | none => r.2
      let s := s.tallyInbound p.ownAddr p.partition true
      .next (s.respond (addrPort p.addr) p 0 (completionOf p 1 cause))
    else
      let s := r.2
      match s.padOfPartition p.partition with
      | none => .next s
      | some q =>
        match s.flagAction p q with
        | .discard => .next (s.answerDiscard p 6)
        | .apply => .next (s.applyFlaggedWrite p)
        | .hold => .next (s.holdFlag p q)
        | .retry =>
          let s := (s.eventBit GI_CD_EVT_fh_refused q).satCount GI_FH_STAT_retries
          .next (s.respond portM p 0 (completionOf p 2 0))

/-- Whether a held entry's domain has reached its expected value (R202). -/
def State.eligible (s : State) (h : HeldFlag) : Bool := s.reached h.packet.domain (expectOf h.packet) && !s.staleFor h.packet

/-- A held entry applied (R202). -/
def State.applyHeld (s : State) (p : Packet) : State :=
  if p.type = tFLAGGED_WRITE then s.applyFlaggedWrite p else s.applyTokens p

/-- FLAG_HOLD_APPLY (R202): the `k`-th held entry is applied, where it is eligible and no eligible entry entered before
it. -/
def execFlagHoldApply (k : Nat) (s : State) : Host.Outcome State Fault Refusal :=
  match s.flagHold[k]? with
  | none => .next s
  | some h =>
    if s.eligible h && !(s.flagHold.take k).any s.eligible then
      .next ({ s with flagHold := ldel s.flagHold k }.applyHeld h.packet)
    else .next s

/-- FLAG_HOLD_TIMEOUT (R204): the `k`-th held entry is discarded with cause 6. -/
def execFlagHoldTimeout (k : Nat) (s : State) : Host.Outcome State Fault Refusal :=
  match s.flagHold[k]? with
  | none => .next s
  | some h =>
    if s.fld GI_FH_CTRL_hold_timeout_ms = 0 then .next s
    else
      let s := { s with flagHold := ldel s.flagHold k }
      let s := (s.eventBit GI_CD_EVT_fh_discard h.pad).satCount GI_FH_STAT_timeouts
      .next (s.answerDiscard h.packet 6)

/-- A write of GI_CD.zero (R205, R210). -/
def State.zeroDomain (s : State) (d : Nat) : State :=
  (s.setReg .GI_CD d 0 0).discardHeld (fun h => h.packet.domain == d) 6

/-- GI_CD_ZERO (R205, R210). -/
def execGiCdZero (domain : Nat) (s : State) : Host.Outcome State Fault Refusal :=
  if domain < 1024 then .next (s.zeroDomain domain) else .next s

/-- GI_FH_CLR_PEAK (R211). -/
def execGiFhClrPeak (s : State) : Host.Outcome State Fault Refusal := .next (s.put GI_FH_STAT_peak s.flagHold.length)

/-! ### Paddock configuration (R45, R209) -/

/-- Whether two ranges of domains overlap. -/
def rangesOverlap (b1 n1 b2 n2 : Nat) : Bool := decide (b1 < b2 + n2) && decide (b2 < b1 + n1) && n1 != 0 && n2 != 0

/-- Whether a paddock, as stored, would share a cluster or its partition ID with another valid paddock, or would own a
domain of another (R45, R194). -/
def State.padClash (s : State) (p clusters partition : Nat) : Bool :=
  (List.range 8).any fun q => q != p && s.flag GI_PAD_CFG_valid q
    && (s.fld GI_PAD_CFG_clusters q &&& clusters != 0 || s.fld GI_PAD_CFG_partition q == partition
      || rangesOverlap (s.fld GI_PAD_DOM_base p) (s.fld GI_PAD_DOM_count p) (s.fld GI_PAD_DOM_base q) (s.fld GI_PAD_DOM_count q))

/-- The GI_PAD_CFG register as a write leaves it: RWL fields only while GI_CTRL.lock is 0 (R12, R75). -/
def State.padCfgAfter (s : State) (p data : Nat) : Nat :=
  RegId.GI_PAD_CFG.desc.fields.foldl (fun v r =>
    if r.acc = .rw || (r.acc = .rwl && !s.flag GI_CTRL_lock) then withBits v r.hi r.lo (bitsOf data r.hi r.lo) else v)
    (s.reg .GI_PAD_CFG p)

/-- A write of GI_PAD_CFG (R45, R75). -/
def State.writePadCfg (s : State) (p data : Nat) : State :=
  let v := s.padCfgAfter p data
  let valid := bitsOf v GI_PAD_CFG_valid.hi GI_PAD_CFG_valid.lo
  let clusters := bitsOf v GI_PAD_CFG_clusters.hi GI_PAD_CFG_clusters.lo
  let part := bitsOf v GI_PAD_CFG_partition.hi GI_PAD_CFG_partition.lo
  if valid = 1 && s.padClash p clusters part then s.event GI_EVT_bad_config else s.setReg .GI_PAD_CFG p 0 v

/-- GI_PAD_CFG_WRITE (R45). -/
def execGiPadCfgWrite (pad : Nat) (data : Word64) (s : State) : Host.Outcome State Fault Refusal :=
  if pad < 8 then .next (s.writePadCfg pad data.toNat) else .next s

/-- A write of GI_PAD_DOM (R209). -/
def State.writePadDom (s : State) (p data : Nat) : State :=
  let old := s.reg .GI_PAD_DOM p
  let v := RegId.GI_PAD_DOM.desc.fields.foldl (fun v r =>
    if r.acc = .rw || (r.acc = .rwl && !s.flag GI_CTRL_lock) then withBits v r.hi r.lo (bitsOf data r.hi r.lo) else v) old
  let b := bitsOf v GI_PAD_DOM_base.hi GI_PAD_DOM_base.lo
  let n := bitsOf v GI_PAD_DOM_count.hi GI_PAD_DOM_count.lo
  let clash := (List.range 8).any fun q => q != p && s.flag GI_PAD_CFG_valid q
    && rangesOverlap b n (s.fld GI_PAD_DOM_base q) (s.fld GI_PAD_DOM_count q)
  if !s.flag GI_CTRL_lock && (clash || decide (1024 < b + n)) then s.event GI_CD_EVT_bad_dom else s.setReg .GI_PAD_DOM p 0 v

/-- GI_PAD_DOM_WRITE (R209). -/
def execGiPadDomWrite (pad : Nat) (data : Word64) (s : State) : Host.Outcome State Fault Refusal :=
  if pad < 8 then .next (s.writePadDom pad data.toNat) else .next s

/-! ### Gets (R261) -/

/-- The length that a GET_REQ asks for. -/
def getLength (p : Packet) : Nat := bitsOf (p.word 4) 31 0

/-- The cause with which a GET_REQ is refused: a length outside 16 to 65,536 or not a multiple of 16, or a check of R276
on its source range. Its domain lies on the issuing node and is not checked. -/
def State.getCause (s : State) (p : Packet) : Nat × State :=
  let n := getLength p
  if n < 16 || 65536 < n || n % 16 != 0 then (1, s) else s.checkPacket p (bitsOf (p.word 2) 47 0) n false []

/-- GET_REQ (R261): checked, then placed in one of the 512 entries of the get responder, or answered with status 2. -/
def execGetReq (p : Packet) (s : State) : Host.Outcome State Fault Refusal :=
  let s := s.take p
  if s.staleFor p then .next s
  else if p.status = 3 then .next s.dropMalformed
  else
    let r := s.getCause p
    let s := r.2
    if r.1 != 0 then
      .next ((s.tallyInbound (bitsOf (p.word 2) 47 0) p.partition true).respond portM p 0 (completionOfGet p 1 r.1))
    else if 512 ≤ s.gets.length then .next (s.respond portM p 0 (completionOfGet p 2 0))
    else .next { s with gets := s.gets ++ [⟨p, 0, 0⟩] }

/-- GET_DATA_SEND (R261): the `k`-th entry of the get responder reads its next piece, cut under R98 at the return address,
and sends it, numbered on from the GET_REQ's sequence (R195, log entry 103); an uncorrectable error gives status 1 with
cause 2 and an undefined payload. -/
def execGetDataSend (k : Nat) (s : State) : Host.Outcome State Fault Refusal :=
  match s.gets[k]? with
  | none => .next s
  | some e =>
    let p := e.req
    let w2 := p.word 4
    let src := bitsOf (p.word 2) 47 0
    let ret := (p.word 3 + e.off) % 2 ^ 64
    let n := min (getLength p - e.off) (s.packetBytes - ret % s.packetBytes)
    if !s.readFits (src + e.off) n then .next s
    else
    let r := s.source (src + e.off) n
    let s := r.2.2
    let payload := if r.1 != 0 then freeWords s (n / 8) else wordsOfBytes r.2.1
    let s := if r.1 != 0 then { s with fresh := s.fresh + n / 8 } else s
    let q := { Packet.blank with
      dst := p.src, type := tGET_DATA, status := if r.1 = 0 then 0 else 1, sequence := (p.sequence + e.seq) % 65536,
      partition := p.partition, domain := bitsOf w2 41 32,
      body := BitVec.ofNat 64 ret
        :: payloadControl (bitsOf w2 49 42) (bitsOf w2 51 50) 0 false false r.1 0 :: payload }
    let q := { q with vc := s.dataVc q }
    let s := if getLength p ≤ e.off + n then { s with gets := ldel s.gets k }
      else { s with gets := lset s.gets k { e with off := e.off + n, seq := e.seq + 1 } }
    .next (s.respond portM p e.seq q)

/-- The put whose data an arriving GET_DATA packet brings, by its position in the tile's list (R164, R165). -/
def Tile.fetchedPut (x : Tile) (ch : Nat) (p : Packet) : Option Nat :=
  lfind (fun o : OutPut => o.chan == ch && o.packet.type == tGET_DATA && bitsOf o.packet.addr 47 0 == p.ownAddr
    && o.packet.partition == p.partition) x.puts

/-- A completion counted in a domain of its sender, with every cause recorded (R165, R198). -/
def State.countAck (s : State) (d cause src seq : Nat) : State :=
  if cause = 0 then s.countDomain d else (s.countDomain d).errDomain d cause src seq

/-- Whether the paddock of a partition owns a domain (R194). -/
def State.partitionOwns (s : State) (part d : Nat) : Bool :=
  match s.padOfPartition part with
  | some q => s.padOwns q d
  | none => false

/-- A completion of a put counted in ack_dom, where ack_en is 1 (R165, R192); a domain that the paddock of the header's
partition does not own is touched by nothing (R194). -/
def State.ackPut (s : State) (w part cause src seq : Nat) : State :=
  if pcAckEn w && s.partitionOwns part (pcAckDom w) then s.countAck (pcAckDom w) cause src seq else s

/-- The completion of a put, by its position in the tile's list (R165). -/
def State.putDone (s : State) (t i cause : Nat) (c : Packet) : State :=
  match (s.tile t).puts[i]? with
  | none => s
  | some o =>
    let s := s.onTile t fun x => { x with puts := ldel x.puts i }
    let s := s.ackPut o.packet.control o.packet.partition cause c.src c.sequence
    if cause = 0 then s else s.dmaCause t o.chan 3

/-- GET_DATA (R165, R192, R276): the data is checked, written and counted in dst_dom, and its channel is told; one sent
with status 1 also records cause 2 in TL_DMA_STAT (R93). Where it brings the data of a put, that put is complete
(R164, R165). -/
def execGetData (p : Packet) (s : State) : Host.Outcome State Fault Refusal :=
  let s := s.take p
  if s.staleFor p then .next s
  else if p.status = 3 then .next s.dropMalformed
  else
    let r := s.arrive p [p.domain]
    let t := pcSrcTile p.control
    let ch := pcChan p.control
    let s := r.2.countPacket p.domain r.1 p.src p.sequence
    let s := s.tallyInbound p.ownAddr p.partition (r.1 == 3 || r.1 == 8 || r.1 == 1 || r.1 == 5)
    if 144 ≤ t then .next s.late
    else
      let s := if p.status = 1 then s.dmaCause t ch 2 else s
      match lfind (awaitMatches p true) ((s.tile t).chan ch).awaits with
      | some i =>
        let s := match (s.tile t).fetchedPut ch p with
          | some j => s.putDone t j r.1 p
          | none => s
        .next (s.onTile t fun x => x.setChan ch { (x.chan ch).settle i p.payloadBytes.length with since := s.now })
      | none => .next s.late

/-! ### Completions (R165, R192, R201, R258, R260) -/

/-- The wait of a retry: 1 µs the first time, doubled up to 64 µs. -/
def nextWait (n : Nat) : Nat := if n = 0 then 1 else min 64 (2 * n)

/-- Whether a completion answers a packet sent: the same node and sequence, and for status 2 one that may be refused
with retry. -/
def answers (c q : Packet) : Bool := q.dst == c.src && q.sequence == c.sequence && q.partition == c.partition

/-- The completion of a flagged write, by its position in the channel's list (R201): status 2 makes it wait to be sent
again, unless its command was discarded; an error is recorded in TL_DMA_STAT. -/
def State.flagDone (s : State) (t ch i cause : Nat) (c : Packet) : State :=
  match ((s.tile t).chan ch).flags[i]? with
  | none => s
  | some f =>
    if c.status = 2 && cause != 5 && !f.gone then
      s.onTile t fun x => x.setChan ch { x.chan ch with
        flags := lset (x.chan ch).flags i { f with waiting := true, interval := nextWait f.interval }
        since := if (x.chan ch).active then (x.chan ch).since else s.now }
    else
      let s := s.onTile t fun x => x.setChan ch { x.chan ch with flags := ldel (x.chan ch).flags i }
      if cause = 0 then s else s.dmaCause t ch 3

/-- The refusal of a GET_REQ, by its position in the channel's list (R165, R261): status 2 makes it wait to be sent again;
status 1 ends it: for a get with err in dst_dom without a count, for a put as one completion of it (R164, R165, log entry
104). -/
def State.getRefused (s : State) (t ch i cause : Nat) (c : Packet) : State :=
  match ((s.tile t).chan ch).awaits[i]? with
  | none => s
  | some a =>
    if c.status = 2 && cause != 5 && !a.gone then
      s.onTile t fun x => x.setChan ch { x.chan ch with
        awaits := lset (x.chan ch).awaits i { a with waiting := true, interval := nextWait a.interval } }
    else
      let put := (s.tile t).puts.find? fun o => o.chan == ch && o.packet.type == tGET_DATA
        && decide (a.packet.word 3 ≤ o.packet.addr) && decide (o.packet.addr < a.packet.word 3 + bitsOf (a.packet.word 4) 31 0)
      let s := s.onTile t fun x => (x.setChan ch { x.chan ch with awaits := ldel (x.chan ch).awaits i }).prune
      if c.status = 1 || cause = 5 then
        let s := match put with
          | some o => s.ackPut o.packet.control o.packet.partition cause c.src c.sequence
          | none => s.errDomain (bitsOf (a.packet.word 4) 41 32) cause c.src c.sequence
        s.dmaCause t ch 3
      else s

/-- Whether a completion's word 0 echoes a packet's payload control word (R260): its tile, channel, acknowledgement or signal
domain with the enable, and need_cpl. -/
def echoes (w control : Nat) : Bool := bitsOf w 21 0 == bitsOf control 21 0

/-- COMPLETION (R165, R201, R258, R260, R365): the answer to a put, a flagged write or a GET_REQ of a channel, the
oldest that it can answer by its node, sequence, partition and echoed control word (log entry 35); status 2 for a put is
a protocol error, cause 9. One for no operation that the channel holds is discarded and counted. -/
def execCompletion (p : Packet) (s : State) : Host.Outcome State Fault Refusal :=
  let s := s.take p
  if s.staleFor p then .next s
  else if p.status = 3 then .next s.dropMalformed
  else
    let e := s.epochCheck p
    let s := e.2
    let w := p.word 2
    let t := pcSrcTile w
    let ch := pcChan w
    let cause := if !e.1 then 5 else if p.status = 1 then pcCause w else 0
    if 144 ≤ t then .next s.late
    else if pcNeedCpl w then
      match lfind (fun f : SentFlag => answers p f.packet && echoes w f.packet.control && !f.waiting) ((s.tile t).chan ch).flags,
          lfind (fun o : OutPut => o.chan == ch && o.packet.type == tWRITE && answers p o.packet
            && echoes w o.packet.control) (s.tile t).puts with
      | some i, none => .next (s.flagDone t ch i cause p)
      | some i, some j =>
        .next (if p.status = 2 && cause != 5 then s.flagDone t ch i cause p else s.putDone t j cause p)
      | none, some j => .next (s.putDone t j (if p.status = 2 && cause != 5 then 9 else cause) p)
      | none, none => .next s.late
    else
      match lfind (fun a : DmaAwait => a.packet.type == tGET_REQ && answers p a.packet
          && bitsOf (a.packet.word 4) 41 32 == pcAckDom w && !a.waiting)
          ((s.tile t).chan ch).awaits with
      | some i => .next (s.getRefused t ch i cause p)
      | none => .next s.late

end Sys2Proof.Machine
end

