-- ==== Sys2Proof/Machine/RegRead.lean ====
section
/-! DEFINITION. What a read of a register returns (R9): the stored fields, with the fields that show other state live. -/
namespace Sys2Proof.Machine

/-! ### Tiles (R104, R108, R109) -/

/-- TL_STATUS (R104). -/
def State.tlStatus (s : State) (t : Nat) : Nat :=
  let x := s.tile t
  let busy := fun c => !(x.chan c).queue.isEmpty || (x.chan c).active
  natOfBool x.runSlot.isNone + natOfBool (!x.matq.isEmpty) <<< 1 + natOfBool (!x.vecq.isEmpty) <<< 2
    + (bitsWhere 4 busy) <<< 3 + natOfBool (x.icOp || x.dcOp) <<< 7 + natOfBool (!x.inReset.isEmpty) <<< 8
    + (x.runSlot.getD 0) <<< 9 + x.etb.length <<< 14 + x.tokq.length <<< 23

/-- The slot registers (R108). -/
def State.slotState (s : State) (t k : Nat) : Nat :=
  let sl := (s.tile t).slot k
  let d := sl.desc
  (if sl.state = .free then 0 else dTaskId d) + sl.state.code <<< 32 + (dPrio d) <<< 35 + natOfBool (dPersistent d) <<< 38
    + (dNIn d) <<< 39 + (dNOut d) <<< 43 + natOfBool sl.tokOvf <<< 46
    + natOfBool (match s.padOfTile t with
        | some q => s.flag GI_PAD_CFG_run q
        | none => true) <<< 47

/-- Four 16-bit counts of a list from position `i`, lowest first. -/
def fourCounts (l : List Nat) (i : Nat) : Nat :=
  lget l i 0 + lget l (i + 1) 0 <<< 16 + lget l (i + 2) 0 <<< 32 + lget l (i + 3) 0 <<< 48

/-- TL_DMA_STAT (R109): queued and active are live. -/
def State.dmaStat (s : State) (t c : Nat) : Nat :=
  let ch := (s.tile t).chan c
  withBits (withBits (s.reg .TL_DMA_STAT t c) 4 0 ch.occupied) 5 5 (natOfBool ch.active)

/-! ### The intake (R77) -/

/-- GI_PAD_OCC. -/
def State.padOcc (s : State) (p : Nat) : Nat :=
  (s.pad p).used + (s.padGranted p) <<< 16 + (s.pad p).requests.length <<< 32
    + natOfBool (decide (s.fld GI_PAD_WATER_high_units p ≤ s.occupancy p)) <<< 48

/-- GI_PAD_RATE: the bytes retired in the last 1.024 ms, as MB/s, and the bound. -/
def State.padRate (s : State) (p : Nat) : Nat :=
  let rate := ((recentRetired s.now (s.pad p).retired).map (·.2)).foldl (· + ·) 0 / 1024
  rate % 2 ^ 32 + (if rate = 0 then 0xFFFFFFFF else min 0xFFFFFFFF ((262144000 + rate - 1) / rate)) <<< 32

/-! ### Pairing (R377) and the pins (R519, R540) -/

/-- An age in beats, at most 255. -/
def State.beatsSince (s : State) (at_ : Nat) : Nat := if s.period = 0 then 0 else min 255 ((s.now - at_) / s.period)

/-- RTR_PAIR_STAT: entries used, and the ages of the oldest held packet and the oldest note. -/
def State.pairStat (s : State) : Nat :=
  let held := match s.pair.hold with
    | [] => 0
    | h :: _ => s.beatsSince h.at_
  let note := match s.pair.notes with
    | [] => 0
    | n :: _ => s.beatsSince n.2
  withBits (withBits (withBits (s.reg .RTR_PAIR_STAT 0 0) 16 0 s.pair.used) 39 32 held) 47 40 note

/-- The causes of ALERT_N (R519). -/
def State.alertCause (s : State) : Nat :=
  natOfBool (s.flag MGT_RST_STAT_pc_req)
    + natOfBool (bitAt (s.fld PWR_STAT_park_reasons) parkThermal || bitAt (s.fld PWR_STAT_park_reasons) parkVolt) <<< 1
    + natOfBool (s.flag PWR_EVT_sensor_lost) <<< 2 + natOfBool (s.flag MGT_CAP_ID_below_grade) <<< 3

/-- MGT_PINS. -/
def State.pins (s : State) : Nat :=
  natOfBool s.tray.pwrEn + natOfBool (decide (4 ≤ s.tray.mate)) <<< 1 + natOfBool s.tray.rcvr <<< 2
    + natOfBool s.tray.ft <<< 3 + natOfBool (s.alertCause != 0 && s.tray.good) <<< 4 + s.tray.pos <<< 5
    + s.alertCause <<< 12

/-- The word at the pointer of the dump area, zero beyond the dump (R403). -/
def State.dumpWord (s : State) : Nat := (lget s.recovery.held (s.fld FWU_DUMP_PTR_offset / 8) 0).toNat

/-! ### All registers -/

/-- The fields that read as zero: those of code WO (R9). -/
def maskWo : List FieldRow → Nat → Nat
  | [], v => v
  | r :: rs, v => maskWo rs (if r.acc = .wo then withBits v r.hi r.lo 0 else v)

/-- The value of copy `(i, j)` of a register with the live fields shown. -/
def State.live (s : State) (r : RegId) (i j : Nat) : Nat :=
  match r with
  | .TL_STATUS => s.tlStatus i
  | .TL_SLOT_STATE => s.slotState i j
  | .TL_SLOT_CNT_LO => fourCounts ((s.tile i).slot j).cnt 0
  | .TL_SLOT_CNT_HI => fourCounts ((s.tile i).slot j).cnt 4
  | .TL_SLOT_POOL => fourCounts ((s.tile i).slot j).pool 0
  | .TL_SLOT_STAMP => ((s.tile i).slot j).stamp
  | .TL_SLOT_INFO => ((s.tile i).slot j).startCount + (dEntry ((s.tile i).slot j).desc) <<< 24
  | .TL_DMA_STAT => s.dmaStat i j
  | .TL_TALLY_CYC => s.cycles i
  | .TIC_LEVEL => s.ticLevelWord i
  | .TIC_PEND => s.ticPendWord i
  | .CIC_LEVEL => s.cicLevelWord i
  | .CIC_PEND => s.cicPendWord i
  | .CIC_MSIX_PBA => s.pbaWord
  | .GI_PAD_OCC => s.padOcc i
  | .GI_PAD_RATE => s.padRate i
  | .GI_CD => withBits (s.reg .GI_CD i j) 37 37 (natOfBool (s.flagHold.any fun h => h.packet.domain == i))
  | .GI_FH_STAT => withBits (s.reg .GI_FH_STAT i j) 8 0 s.flagHold.length
  | .HBM_RRB_CTRL => withBits (s.reg .HBM_RRB_CTRL i j) 43 32 (s.freeBuffers i)
  | .RTR_VC_DEPTH => withBits (withBits (s.reg .RTR_VC_DEPTH i j) 17 0 (s.vcOcc i j)) 35 18 (s.occMax i j)
  | .RTR_TBL_DATA => s.tblRead
  | .RTR_PAIR_STAT => s.pairStat
  | .BT_TBL_DATA => s.btRead
  | .BT_TIME => s.beat.t
  | .BT_BEAT => s.beatNo
  | .BT_STAT =>
    let v := withBits (withBits (s.reg .BT_STAT i j) 0 0 (natOfBool s.synced)) 1 1 (natOfBool s.holdover)
    if s.flag BT_CTRL_master then withBits v 10 3 0 else v
  | .FLD_WAIT => natOfBool s.foldWaiting + s.foldRunning <<< 1
  | .PWR_COOL => withBits (s.reg .PWR_COOL i j) 47 32 s.coolAge
  | .MGT_PINS => s.pins
  | .FWU_DUMP_DATA => s.dumpWord
  | .MGT_RST_STAT => withBits (s.reg .MGT_RST_STAT i j) 8 8 (natOfBool (!s.recovery.zero.isEmpty))
  | _ => s.reg r i j

/-- What a read of copy `(i, j)` of a register returns. -/
def State.readReg (s : State) (r : RegId) (i j : Nat) : Nat := maskWo r.desc.fields (s.live r i j) % 2 ^ 64

end Sys2Proof.Machine
end

