-- ==== Sys2Proof/Machine/Recovery.lean ====
section
/-! DEFINITION. The progress watch, the reset levels, the dump engine and the peers' notices (R378 to R403). -/
namespace Sys2Proof.Machine

/-! ### The dump engine (R393 to R397) -/

/-- Every copy of a list of registers with its offset, in ascending order of offset. -/
def regCopies (rs : List RegId) : Assoc (RegId × Nat × Nat) :=
  rs.foldl (fun t r => (List.range r.desc.n1).foldl (fun t i => (List.range r.desc.n2).foldl
    (fun t j => aset t (r.offset i j) (r, i, j)) t) t) []

/-- Whether a register is an event or status register: one with a field that hardware writes (R393). -/
def RegId.isStatus (r : RegId) : Bool := r.desc.fields.any fun f => f.acc == .ro || f.acc == .st

/-- The registers in the scope of a dump (R393): level 3 partition, 4 chip, 5 power cycle, 0 a dump without a reset. -/
def State.dumpScope (s : State) (level : Nat) (pads : List Nat) : List (Nat × RegId × Nat × Nat) :=
  let wide := regsOfTile ++ regsOfHbm ++ (regsOfGi ++ regsOfFld ++ regsOfBt ++ regsOfRtr).filter RegId.isStatus
  if level = 3 then
    (regCopies (regsOfTile ++ regsOfHbm ++ regsOfGi)).filter fun e =>
      let r := e.2.1
      let i := e.2.2.1
      if r.ofTile then pads.any fun p => s.padOfTile i == some p
      else if r.ofHbm then (if r.desc.n1 = 2 then true else s.stackFused i)
      else match r with
        | .GI_CD => pads.any fun p => s.padOwns p i
        | .GI_PAD_CFG | .GI_PAD_WATER | .GI_PAD_OCC | .GI_PAD_RATE | .GI_PAD_COUNT | .GI_PAD_REFUSE | .GI_PAD_DOM
        | .GI_PAD_TAG | .GI_PAD_TAGPTR => pads.contains i
        | _ => false
  else regCopies (if level = 5 then wide ++ regsOfPwr ++ regsOfCic else wide)

/-- The unit of an offset (R394): the tile, the HBM stack, or the block. -/
def unitOf (off : Nat) : Nat :=
  if 0x1000000 ≤ off && off < 0x3400000 then off / 0x40000 * 0x40000
  else if 0x800000 ≤ off && off < 0x1000000 then off / 0x10000 * 0x10000
  else off / 0x100000 * 0x100000

/-- The status of a dump entry (R394, R395): fused, in reset, not reached, skipped or read. -/
def State.dumpStatus (s : State) (missed : List (Nat × Nat)) (off : Nat) (r : RegId) (i : Nat) : Nat :=
  if r.ofTile && !s.flag FUS_FP_TILE_fused_on i then 3
  else if r.ofHbm && decide (r.desc.n1 = 12) && !s.stackFused i then 3
  else if r.ofTile && s.tileInReset i then 4
  else if r.ofHbm && s.chipReset then 4
  else
    match missed.find? fun m => m.1 == unitOf off with
    | some m => if off = m.2 then 1 else if m.2 < off then 2 else 0
    | none => 0

/-- The two words of a dump entry. -/
def State.dumpEntry (s : State) (missed : List (Nat × Nat)) (e : Nat × RegId × Nat × Nat) : List Word64 :=
  let st := s.dumpStatus missed e.1 e.2.1 e.2.2.1
  [BitVec.ofNat 64 (e.1 + st <<< 26),
    if st = 0 then BitVec.ofNat 64 (s.readReg e.2.1 e.2.2.1 e.2.2.2) else 0]

/-- The largest number of entries that the dump area takes (R396, R403). -/
def State.dumpRoom (s : State) : Nat := (clampTo 64 6144 (s.fld FWU_DUMP_CTRL_area_kib) * 1024 - 64) / 16

/-- The dump of the scope as it is read at its end (R395). -/
def State.takeDump (s : State) (d : DumpJob) : State :=
  let scope := s.dumpScope d.level d.pads
  let room := s.dumpRoom
  let cut := scope.take room
  let entries := cut.flatMap fun e => s.dumpEntry d.missed e
  let lost := (cut.filter fun e => s.dumpStatus d.missed e.1 e.2.1 e.2.2.1 == 1).length
  let trunc := decide (room < scope.length)
  let pads := if d.level = 3 then bitsWhere 8 fun p => d.pads.contains p else 255
  let h0 := 1 + (s.recovery.dumpSeq % 65536) <<< 16 + d.level <<< 32 + d.cause <<< 35 + natOfBool trunc <<< 39
    + cut.length <<< 40
  let header : List Word64 :=
    [BitVec.ofNat 64 h0, BitVec.ofNat 64 d.beat, BitVec.ofNat 64 d.t,
      BitVec.ofNat 64 (s.node + pads <<< 16 + lost <<< 32), BitVec.ofNat 64 (crc32c (bytesOfWords entries)), 0, 0, 0]
  let s := s.onRec fun x => { x with dumping := none, held := header ++ entries, dumpSeq := x.dumpSeq + 1 }
  let s := ((s.put FWU_DUMP_STAT_busy 0).put FWU_DUMP_STAT_held 1).put FWU_DUMP_STAT_truncated (natOfBool trunc)
  let s := (s.put FWU_DUMP_STAT_flash_done 0).put FWU_DUMP_STAT_entries cut.length
  let s := (s.put FWU_DUMP_STAT_not_reached (min 65535 lost)).put FWU_DUMP_STAT_seq ((s.recovery.dumpSeq - 1) % 256)
  s.event MGT_RST_EVT_dump_done

/-- The dump area freed. -/
def State.freeDump (s : State) : State := (s.onRec fun x => { x with held := [], mustDrain := false }).put FWU_DUMP_STAT_held 0

/-! ### The progress watch (R378 to R381) -/

/-- The watch level of a unit. -/
def WatchUnit.level : WatchUnit → Nat
  | .slot _ _ => 1 | .engine _ _ => 2 | .paddock _ => 3 | .heartbeat _ => 4

/-- The reset unit that contains a watched unit (R381): the token queue belongs to the sequencer. -/
def WatchUnit.unit : WatchUnit → Nat
  | .slot t k => t * 32 + k % 32
  | .engine t u => t * 8 + (if u = 7 then 0 else u)
  | .paddock p => p
  | .heartbeat _ => 0

/-- Whether a cluster hub is enabled: some tile of its cluster is fused on and not soft-disabled (R378, R379). -/
def State.hubEnabled (s : State) (n : Nat) : Bool :=
  (List.range 8).any fun i => s.flag FUS_FP_TILE_fused_on (8 * n + i) && !s.flag FUS_FP_TILE_rt_off (8 * n + i)

/-- Whether a unit expects progress (R378). -/
def State.expects (s : State) (w : WatchUnit) : Bool :=
  match w with
  | .slot t k => let st := ((s.tile t).slot k).state
    decide (t < 144) && decide (k < 32) && !s.tileHeld t && (st == .run || st == .ready)
  | .engine t u => let x := s.tile t
    decide (t < 144) && !s.chipReset && (match u with
      | 0 => x.sLevel && !x.inReset.contains .sequencer
      | 1 => !x.matq.isEmpty && !x.inReset.contains .matrix
      | 2 => !x.vecq.isEmpty && !x.inReset.contains .vector
      | 7 => !x.tokq.isEmpty && !x.inReset.contains .sequencer
      | _ => decide (u < 7) && (x.chan (u - 3)).active && !x.inReset.contains .dma)
  | .paddock p => decide (p < 8) && s.flag GI_PAD_CFG_valid p && !s.padReset.contains p && !s.chipReset
    && (!(s.pad p).queue.isEmpty || (s.tilesOf p).any fun t =>
      (s.tile t).slots.any fun sl => sl.state == .ready || sl.state == .run)
  | .heartbeat n => decide (n < 35) && !s.chipReset
    && (if n < 18 then s.hubEnabled n else decide (30 ≤ n) || s.stackFused (n - 18))

/-- The window of a level in units of 100 ps; values outside 10 µs to 10 s act as the nearer limit (R400). -/
def State.watchWindow (s : State) (level : Nat) : Nat :=
  10000 * clampTo 10 10000000 (match level with
    | 1 => s.fld MGT_WATCH_WIN0_ctx_us
    | 2 => s.fld MGT_WATCH_WIN0_eng_us
    | 3 => s.fld MGT_WATCH_WIN1_part_us
    | _ => s.fld MGT_WATCH_WIN1_chip_us)

/-- When a paddock began to expect progress: since when the oldest of its queue and its READY and RUN slots has been there. A
source that was there when the paddock began to expect progress leaves only by progress. -/
def State.padExpects (s : State) (p : Nat) : Nat :=
  let busy := fun sl : Slot => sl.state == .ready || sl.state == .run
  let l := (if (s.pad p).queue.isEmpty then [] else [(s.pad p).queueAt])
    ++ (s.tilesOf p).flatMap fun t => ((s.tile t).slots.filter busy).map (·.since)
  match l with
  | [] => 0
  | a :: l => l.foldl min a

/-- When a paddock last made progress: a descriptor was placed, a task started, or a task left RUN (R378). -/
def State.padProgress (s : State) (p : Nat) : Nat :=
  ((s.tilesOf p).map fun t => (s.tile t).watch.task).foldl max (s.pad p).placeAt

/-- When a unit last began to expect progress or made it (R378). -/
def State.watchUnit (s : State) (w : WatchUnit) : Nat :=
  match w with
  | .slot t k => ((s.tile t).slot k).since
  | .engine t u =>
    match u with
    | 0 => (s.tile t).watch.sup
    | 1 => (s.tile t).watch.mat
    | 2 => (s.tile t).watch.vec
    | 7 => (s.tile t).watch.tok
    | _ => ((s.tile t).chan (u - 3)).since
  | .paddock p => max (s.padProgress p) (s.padExpects p)
  | .heartbeat n => agetD s.recovery.heart n 0

/-- The time at which a unit's timer last started: with the unit (R378), at a write of the level's window, or when the module
left Park or a chip reset (R379). -/
def State.watchStart (s : State) (w : WatchUnit) : Nat :=
  max (max (lget s.recovery.winAt (w.level - 1) 0) s.power.upAt) (s.watchUnit w)

/-- The event bit of a level (R381). -/
def watchEvent (level : Nat) : Fld :=
  match level with
  | 1 => MGT_RST_EVT_watch_ctx
  | 2 => MGT_RST_EVT_watch_eng
  | 3 => MGT_RST_EVT_watch_part
  | _ => MGT_RST_EVT_watch_chip

/-- What a firing with an action does (R381, R382): with action 1 it is recorded; with action 3 it escalates where it
recurs; else the reset is asked for, which records it or is absorbed. -/
def State.fire (s : State) (act level unit : Nat) : State :=
  if act = 1 then s.logUnit level unit 1
  else if act = 3 && s.recurs level unit then s.escalate level unit 2
  else s.requestReset level unit 1 false

/-- WATCH_EXPIRY (R378 to R382): the watch of a unit fires; a starved slot's timer starts again. -/
def execWatchExpiry (w : WatchUnit) (s : State) : Host.Outcome State Fault Refusal :=
  let level := w.level
  let act := s.watchAct level
  if s.parked || act = 0 || !s.expects w || decide (s.now < s.watchStart w + s.watchWindow level) then .next s
  else
    match w with
    | .slot t k =>
      if ((s.tile t).slot k).state = .ready then
        let s := s.onTile t fun x => x.setSlot k { x.slot k with since := s.now }
        .next ((s.event MGT_RST_EVT_starved).logReset 1 6 t k ((s.padOfTile t).getD 0) 0)
      else
        .next ((s.event MGT_RST_EVT_watch_ctx).fire act 1 w.unit)
    | _ => .next ((s.event (watchEvent level)).fire act level w.unit)

/-- HEARTBEAT (R378). -/
def execHeartbeat (n : Nat) (s : State) : Host.Outcome State Fault Refusal :=
  if n < 35 then .next (s.onRec fun x => { x with heart := aset x.heart n s.now }) else .next s

/-- A write of a window (R379): every timer of the level starts anew. Levels 1 to 4. -/
def State.writeWindow (s : State) (level us : Nat) : State :=
  let f := match level with
    | 1 => MGT_WATCH_WIN0_ctx_us
    | 2 => MGT_WATCH_WIN0_eng_us
    | 3 => MGT_WATCH_WIN1_part_us
    | _ => MGT_WATCH_WIN1_chip_us
  (s.put f us).onRec fun x => { x with winAt := lset x.winAt (level - 1) s.now }

/-- WATCH_WINDOW_WRITE (R379). -/
def execWatchWindowWrite (level us : Nat) (s : State) : Host.Outcome State Fault Refusal :=
  if 1 ≤ level && level ≤ 4 then .next (s.writeWindow level us) else .next s

/-- RESET_OVERRUN (R382): a running reset exceeds its bound. -/
def execResetOverrun (level unit : Nat) (s : State) : Host.Outcome State Fault Refusal :=
  if (s.runningReset level unit).isNone || decide (4 < level) || s.watchAct level != 3 then .next s
  else if level = 4 then .next (s.escalate level unit 3)
  else
    let s := s.onRec fun x => { x with running := x.running.filter fun j => !(j.level == level && j.unit == unit) }
    .next (s.escalate level unit 3)

/-- A write of MGT_RST_REQ with go (R384, R400): levels other than 1 to 5 are ignored, and so is a unit that does not
exist. -/
def State.writeResetReq (s : State) (level tile slot unit pad : Nat) (noDump : Bool) : State :=
  match level with
  | 1 => if s.tileUsable tile && decide (slot < 32) then s.requestReset 1 (tile * 32 + slot) 4 noDump else s
  | 2 => if s.tileUsable tile && decide (unit < 8) then s.requestReset 2 (tile * 8 + unit) 4 noDump else s
  | 3 => if decide (pad < 8) && s.flag GI_PAD_CFG_valid pad then s.requestReset 3 pad 4 noDump else s
  | 4 => s.requestReset 4 0 4 noDump
  | 5 => s.requestReset 5 0 4 noDump
  | _ => s

/-- RESET_REQUEST (R384). -/
def execResetRequest (level tile slot unit pad : Nat) (noDump : Bool) (s : State) : Host.Outcome State Fault Refusal :=
  .next (s.writeResetReq level tile slot unit pad noDump)

/-! ### Completion (R15, R386, R389) -/

/-- Whether a tile stays held when a reset ends: the floor plan does not show it as usable (R31, R405, R415). -/
def State.staysHeld (s : State) (t : Nat) : Bool := !s.tileUsable t

/-- A tile leaves reset. -/
def State.freeTile (s : State) (t : Nat) : State :=
  if s.staysHeld t then s else (s.rebase t).onTile t fun x => { x with inReset := [] }

/-- ENGINE_RESET_DONE (R15): an engine leaves reset, unless a deeper reset or a soft-disable holds its tile; the ready
logic of an idle sequencer runs again (R58, R67). -/
def execEngineResetDone (tile : Nat) (e : Engine) (s : State) : Host.Outcome State Fault Refusal :=
  let pad := match s.padOfTile tile with
    | some p => s.padReset.contains p
    | none => false
  if decide (144 ≤ tile) || !(s.tile tile).inReset.contains e || s.chipReset || pad || s.staysHeld tile then .next s
  else
    let s := s.rebase tile
    let s := (s.onTile tile fun x => { x with inReset := x.inReset.erase e }).markReady tile
    let s := match e with
      | .sequencer => s.finishReset 2 (tile * 8)
      | .matrix => s.finishReset 2 (tile * 8 + 1)
      | .vector => s.finishReset 2 (tile * 8 + 2)
      | .dma => [3, 4, 5, 6].foldl (fun s u => s.finishReset 2 (tile * 8 + u)) s
    .next (if (s.tile tile).inReset.isEmpty then s.finishReset 2 (tile * 8 + 7) else s)

/-- PARTITION_RESET_DONE (R386, R389). -/
def execPartitionResetDone (pad : Nat) (s : State) : Host.Outcome State Fault Refusal :=
  match s.runningReset 3 pad with
  | none => .next s
  | some j =>
    let s := { s with padReset := s.padReset.filter (· != pad) }
    let s := if s.chipReset then s else (s.tilesOf pad).foldl (fun s t => s.freeTile t) s
    let s := s.sendPeerState 2 3 (s.fld GI_PAD_CFG_partition pad) j.beat j.t
    .next (s.finishReset 3 pad)

/-- The ranges of pending regions without one region. -/
def dropRegion (n : Nat) (rs : List (Nat × Nat)) : List (Nat × Nat) := rangesMinus rs [(n, n + 1)]

/-- HBM_REGION_ZEROED (R387). -/
def execHbmRegionZeroed (region : Nat) (s : State) : Host.Outcome State Fault Refusal :=
  .next (s.onRec fun x => { x with zero := dropRegion region x.zero })

/-! ### Power-cycle requests (R383, R495) -/

/-- The POWER_CYCLE message to the tray controller (R383, R494): level, rseq and beat. While new management firmware has yet
to confirm, the message waits (R512). -/
def State.sendPowerCycle (s : State) : State :=
  if s.mgmt.update.proving.isSome then s.onRec fun x => { x with pcHeld := true } else
  let s := s.onRec fun x => { x with pcHeld := false }
  let head : List Byte := [0x7E] ++ bytesOf 2 Config.vendorId.toNat ++ [0x05, 0, 0]
  s.emit (.mctp 1 (head ++ bytesOf 1 5 ++ bytesOf 2 (s.fld MGT_RST_STAT_resets) ++ bytesOf 8 s.beatNo))

/-- POWER_CYCLE_REQUEST (R16, R383, R397, R519): the dump is drained or 5 s have passed; ALERT_N follows pc_req. -/
def execPowerCycleRequest (s : State) : Host.Outcome State Fault Refusal :=
  if !s.recovery.pcWaits then .next s
  else
    let s := s.onRec fun x => { x with pcWaits := false, pcSent := true }
    let s := (s.put MGT_RST_STAT_pc_req 1).event MGT_RST_EVT_pc_request
    let s := if s.chipReset then s else s.startChip
    .next s.sendPowerCycle

/-- POWER_CYCLE_REPEAT (R383, R495). -/
def execPowerCycleRepeat (s : State) : Host.Outcome State Fault Refusal :=
  if s.recovery.pcSent then .next s.sendPowerCycle else .next s

/-- POWER_CYCLE_ANSWER (R495): cc 0 accepts the request, and the compute dies stay in reset until power is removed. -/
def execPowerCycleAnswer (cc : Nat) (s : State) : Host.Outcome State Fault Refusal :=
  if s.recovery.pcSent && cc = 0 then .next (s.onRec fun x => { x with pcTaken := true }) else .next s

/-! ### Dump commands (R393 to R397, R403) -/

/-- DUMP_ACCESS_TIMEOUT (R394): the access at an offset timed out; the unit's later registers are skipped. -/
def execDumpAccessTimeout (offset : Nat) (s : State) : Host.Outcome State Fault Refusal :=
  match s.recovery.dumping with
  | none => .next s
  | some d =>
    if d.missed.any fun m => m.1 == unitOf offset then .next s
    else .next (s.onRec fun x => { x with dumping := some { d with missed := d.missed ++ [(unitOf offset, offset)] } })

/-- A reset that waited for its dump starts: the beat and T of its notices are those of its beginning (R389, R390). -/
def State.startWaited (s : State) (j : ResetJob) : State :=
  (s.startReset j.level j.unit).onRec fun x => { x with
    running := x.running.map fun k => if k.level = j.level && k.unit = j.unit then j else k }

/-- The resets that waited for a dump start, in their order. -/
def State.startWaiting (s : State) : List ResetJob → State
  | [] => s
  | j :: js => (s.startWaited j).startWaiting js

/-- DUMP_DONE (R393, R396): the dump ends, and the resets that waited for it start. -/
def execDumpDone (s : State) : Host.Outcome State Fault Refusal :=
  match s.recovery.dumping with
  | none => .next s
  | some d =>
    let s := s.takeDump d
    let js := s.recovery.waiting
    let s := s.onRec fun x => { x with waiting := [] }
    .next (s.startWaiting js).settleActive

/-- DUMP_NOW (R393): a dump of chip scope without a reset. -/
def execDumpNow (s : State) : Host.Outcome State Fault Refusal := .next (s.askDump 0 0 []).2

/-- DUMP_RELEASE (R397). -/
def execDumpRelease (s : State) : Host.Outcome State Fault Refusal := .next s.freeDump

/-- The dump slot with a dump in it (R489). -/
def dumpSlot (seq : Nat) (d : List Word64) : DumpSlot := ⟨0x44554D50, 8 * d.length, seq, crc32c (bytesOfWords d), d⟩

/-- DUMP_DRAIN_DONE (R397, R489): the held dump is in the dump slot of the flash, and the area is free. -/
def execDumpDrainDone (s : State) : Host.Outcome State Fault Refusal :=
  if s.dumpHeld && (s.flag FWU_DUMP_CTRL_to_flash || s.recovery.mustDrain) then
    let s := { s with flash := { s.flash with dump := some (dumpSlot (s.fld FWU_DUMP_STAT_seq) s.recovery.held) } }
    .next ((s.put FWU_DUMP_STAT_flash_done 1).freeDump)
  else .next s

/-- A read of FWU_DUMP_DATA advances the pointer (R403). -/
def State.dumpNext (s : State) : State :=
  s.put FWU_DUMP_PTR_offset (s.fld FWU_DUMP_PTR_offset / 8 * 8 + 8)

/-- DUMP_DATA_READ (R403): over PCI Express; in D3hot it is an Unsupported Request (R485), and without main power nothing
answers. -/
def execDumpDataRead (s : State) : Host.Outcome State Fault Refusal :=
  if !s.tray.good then .next s
  else if s.pcie.d3hot then .next (s.emit (.unsupported (RegId.offset .FWU_DUMP_DATA 0 0)))
  else .next ((s.emit (.regRead (RegId.offset .FWU_DUMP_DATA 0 0) (BitVec.ofNat 64 s.dumpWord))).dumpNext)

/-! ### Peers' notices (R390, R391) -/

-- The fields of a PEER_STATE packet.
def psKind (p : Packet) : Nat := bitsOf (p.word 2) 2 0
def psLevel (p : Packet) : Nat := bitsOf (p.word 2) 5 3
def psPart (p : Packet) : Nat := bitsOf (p.word 2) 17 6
def psNode (p : Packet) : Nat := bitsOf (p.word 2) 33 18
def psSeq (p : Packet) : Nat := bitsOf (p.word 2) 49 34

/-- Whether an outstanding packet is one that a kind-3 notice ends. -/
def endsBy (p q : Packet) : Bool := q.dst == psNode p && (psLevel p != 3 || q.partition == psPart p)

/-- An operation ended under R391, counted. -/
def State.countEnded (s : State) : State := s.satCount MGT_PEER_STAT_completed

/-- The puts, flagged writes, GET_REQs and graph-sends of one channel that a notice ends; the first argument bounds them. -/
def State.endPuts : Nat → State → Nat → Packet → State
  | 0, s, _, _ => s
  | n + 1, s, t, p =>
    match lfind (fun o : OutPut => endsBy p o.packet) (s.tile t).puts with
    | some i =>
      State.endPuts n ((s.putDone t i 4 { Packet.blank with src := psNode p }).countEnded) t p
    | none => s

def State.endFlags : Nat → State → Nat → Nat → Packet → State
  | 0, s, _, _, _ => s
  | n + 1, s, t, ch, p =>
    match lfind (fun f : SentFlag => !f.waiting && endsBy p f.packet) ((s.tile t).chan ch).flags with
    | some i =>
      State.endFlags n ((s.flagDone t ch i 4 { Packet.blank with src := psNode p, status := 1 }).countEnded) t ch p
    | none => s

/-- The command of a GET_REQ leaves its channel's queue. -/
def Tile.endGet (x : Tile) (ch : Nat) (a : DmaAwait) : Tile :=
  x.setChan ch { x.chan ch with queue := (x.chan ch).queue.filter fun c =>
    !(c.slot == a.slot && c.key == a.key && c.number == a.number) }

def State.endGets : Nat → State → Nat → Nat → Packet → State
  | 0, s, _, _, _ => s
  | n + 1, s, t, ch, p =>
    match lfind (fun a : DmaAwait => a.packet.type == tGET_REQ && endsBy p a.packet) ((s.tile t).chan ch).awaits with
    | some i =>
      let ended := ((s.tile t).chan ch).awaits[i]?
      let s := (s.getRefused t ch i 4 { Packet.blank with src := psNode p, status := 1 }).countEnded
      State.endGets n (match ended with
        | some a => s.onTile t fun x => x.endGet ch a
        | none => s) t ch p
    | none => s

/-- A graph-send of a channel that awaits a grant of the peer ends unsent. -/
def State.endSend (s : State) (t ch : Nat) (p : Packet) : State :=
  match ((s.tile t).chan ch).queue with
  | [] => s
  | c :: _ =>
    if c.kind = .graphSend && c.started && (c.phase = .requested || c.phase = .retryWait)
        && bitsOf c.r2 15 0 = psNode p && (psLevel p != 3 || s.partitionOfTile t = psPart p) then
      (s.endGraph t ch 4 (psNode p) c).countEnded
    else s

/-- The operations of a tile that a notice ends. -/
def State.endTile (s : State) (t : Nat) (p : Packet) : State :=
  let s := State.endPuts (s.tile t).puts.length s t p
  (List.range 4).foldl (fun s ch =>
    let s := State.endFlags ((s.tile t).chan ch).flags.length s t ch p
    let s := State.endGets ((s.tile t).chan ch).awaits.length s t ch p
    s.endSend t ch p) s

/-- A notice recorded and counted (R390, R391, R402). -/
def State.logPeer (s : State) (p : Packet) : State :=
  let v := psKind p + (psLevel p) <<< 3 + (psPart p) <<< 6 + (psNode p) <<< 18 + (psSeq p) <<< 34 + 1 <<< 63
  (s.setReg .MGT_PEER_LOG 0 0 v).satCount MGT_PEER_STAT_notices

/-- PEER_STATE (R390, R391): kind 3 ends the operations addressed to the peer and sets its event; the other kinds are only
recorded. -/
def execPeerState (p : Packet) (s : State) : Host.Outcome State Fault Refusal :=
  let s := s.take p
  if p.status = 3 then .next s.dropMalformed
  else
  let k := psKind p
  if k = 1 || k = 2 then .next (s.logPeer p)
  else if (k != 3 && k != 4) || p.src != s.fld RTR_HEFT_CTRL_fm_node || psNode p == s.node then
    .next (s.satCount MGT_PEER_STAT_refused)
  else if k = 4 then .next (s.logPeer p)
  else
    let s := (s.tiles.map (·.1)).foldl (fun s t => s.endTile t p) s
    let es := s.peerEntries (psNode p) (if psLevel p = 3 then some (psPart p) else none)
    let s := es.foldl (fun s _ => s.countEnded) (s.foldPeer es)
    .next ((s.logPeer p).event MGT_RST_EVT_peer_state)

end Sys2Proof.Machine
end

