-- ==== Sys2Proof/Machine/Image.lean ====
section
/-! DEFINITION. The structure image and the firmware container, their checks, and the choice of a copy from flash (R407 to
R413, R497 to R502, R509). -/
namespace Sys2Proof.Machine

/-- The 64-bit word `i` of a list of bytes. -/
def wordAt (b : List Byte) (i : Nat) : Nat := ofBytes ((b.drop (8 * i)).take 8)

/-- The bytes of a 512-bit digest. -/
def digestBytes (d : BitVec 512) : List Byte := bytesOf 64 d.toNat

/-- A part of a list of bytes. -/
def slice (b : List Byte) (at_ n : Nat) : List Byte := (b.drop at_).take n

/-- The bit of a variants field that stands for the fused variant (R407). -/
def FuseRecord.variantBit (f : FuseRecord) : Nat := if f.variant = 0x0C then 0 else if f.variant = 0x0A then 1 else 2

/-- Whether a key slot holds a key that is not revoked (R487). -/
def FuseRecord.keyGood (f : FuseRecord) (k : Nat) : Bool := decide (k < f.keys.length) && !bitAt f.revoked k

/-! ### Firmware containers (R497) -/

def fwMagic (b : List Byte) : Nat := bitsOf (wordAt b 0) 31 0
def fwFormat (b : List Byte) : Nat := bitsOf (wordAt b 0) 47 32
def fwComponent (b : List Byte) : Nat := bitsOf (wordAt b 0) 63 48
def fwPayload (b : List Byte) : Nat := bitsOf (wordAt b 1) 31 0
def fwBlocks (b : List Byte) : Nat := bitsOf (wordAt b 1) 47 32
def fwSvn (b : List Byte) : Nat := bitsOf (wordAt b 1) 55 48
def fwKey (b : List Byte) : Nat := bitsOf (wordAt b 1) 57 56
def fwVariants (b : List Byte) : Nat := bitsOf (wordAt b 1) 60 58
def fwVersion (b : List Byte) : Nat := bitsOf (wordAt b 2) 31 0
def fwSettingsFormat (b : List Byte) : Nat := bitsOf (wordAt b 2) 47 32
def fwHcrc (b : List Byte) : Nat := bitsOf (wordAt b 3) 31 0

/-- The bytes of the header and the blocks with their trailers. -/
def fwBody (b : List Byte) : Nat := 128 + fwPayload b + 16 * fwBlocks b

/-- The length of a container. -/
def fwLength (b : List Byte) : Nat := fwBody b + 64 + 4640 + 2592

/-- The length of piece `k` of a payload. -/
def fwPiece (b : List Byte) (k : Nat) : Nat := min 65536 (fwPayload b - 65536 * k)

/-- The container offset of piece `k`. -/
def fwPieceAt (k : Nat) : Nat := 128 + 65552 * k

/-- The payload without the trailers. -/
def fwPayloadBytes (b : List Byte) : List Byte :=
  (List.range (fwBlocks b)).flatMap fun k => slice b (fwPieceAt k) (fwPiece b k)

/-! ### Structure images (R407 to R409) -/

def siMagic (b : List Byte) : Nat := bitsOf (wordAt b 0) 31 0
def siVersion (b : List Byte) : Nat := bitsOf (wordAt b 0) 47 32
def siCount (b : List Byte) : Nat := bitsOf (wordAt b 0) 63 48
def siSeq (b : List Byte) : Nat := bitsOf (wordAt b 1) 31 0
def siLength (b : List Byte) : Nat := bitsOf (wordAt b 1) 63 32
def siVariants (b : List Byte) : Nat := bitsOf (wordAt b 2) 2 0
def siSvn (b : List Byte) : Nat := bitsOf (wordAt b 2) 15 8
def siKey (b : List Byte) : Nat := bitsOf (wordAt b 2) 23 16
def siHcrc (b : List Byte) : Nat := bitsOf (wordAt b 3) 31 0

/-- The size of the digest and the padded signature at the end of an image. -/
def siTail : Nat := 64 + 4640

/-- The blocks of an image as type and body, and their total size: none where a block is cut short, has a body that R408
does not allow, or fails its CRC. -/
def siBlocks : Nat → List Byte → Option (List (Nat × List Byte) × Nat)
  | 0, _ => some ([], 0)
  | n + 1, b =>
    let len := bitsOf (wordAt b 0) 63 32
    let body := slice b 16 len
    if b.length < 16 + len || len % 8 != 0 || 65536 < len || crc32c body != bitsOf (wordAt b 1) 31 0 then none
    else
      match siBlocks n (b.drop (16 + len)) with
      | some (l, m) => some ((bitsOf (wordAt b 0) 15 0, body) :: l, m + 16 + len)
      | none => none

/-- The blocks of an image. -/
def siRead (b : List Byte) : Option (List (Nat × List Byte) × Nat) :=
  siBlocks (siCount b) ((b.take (siLength b - siTail)).drop 64)

/-- Whether a list of block types is one that R408 allows: no unknown mandatory type, none twice, none missing. -/
def siTypesOk (ts : List Nat) : Bool :=
  let known := ts.filter fun t => decide (1 ≤ t) && decide (t ≤ 8)
  ts.all (fun t => decide (32768 ≤ t) || (decide (1 ≤ t) && decide (t ≤ 8)))
    && (List.range 9).all (fun t => decide ((known.filter (· == t)).length ≤ 1))
    && known.contains 2 && known.contains 6 && known.contains 7

/-- The digest that an image states. -/
def siDigest (b : List Byte) : List Byte :=
  match siRead b with
  | some (_, n) => slice b (64 + n) 64
  | none => []

/-- The first cause of R409 that applies to a copy, 0 where it is valid. -/
def FuseRecord.siCause (f : FuseRecord) (b : List Byte) : Nat :=
  if siMagic b != 0x53494D47 || siVersion b != 1 then 1
  else if siHcrc b != crc32c (slice b 0 24 ++ slice b 32 32) || decide (1048576 < siLength b) then 2
  else
    match siRead b with
    | none => 3
    | some (l, n) =>
      if !siTypesOk (l.map (·.1)) then 4
      else if siDigest b != digestBytes (Config.sha3 (b.take (64 + n)))
          || !Config.signatureValid (siKey b) (siDigest b) (slice b (128 + n) 4627) || !f.keyGood (siKey b) then 5
      else if !bitAt (siVariants b) f.variantBit then 6
      else if siSvn b < f.svn then 7
      else 0

/-- The container in a structure image slot of the flash, and the copy of the image that it carries (R497). -/
def State.siContainer (s : State) (k : Nat) : List Byte := lget s.flash.si k []
def State.siCopy (s : State) (k : Nat) : List Byte := fwPayloadBytes (s.siContainer k)

/-- The causes of the two copies, and the source that R409 selects: 1 for A, 2 for B, 0 for none. -/
def State.siSelect (s : State) : Nat × Nat × Nat :=
  let a := s.fuse.siCause (s.siCopy 0)
  let b := s.fuse.siCause (s.siCopy 1)
  let newer := decide (siSeq (s.siCopy 0) < siSeq (s.siCopy 1))
  (a, b, if a = 0 && b = 0 then (if newer then 2 else 1) else if a = 0 then 1 else if b = 0 then 2 else 0)

/-- What the check of the two copies found (R409). -/
def State.noteCopies (s : State) (r : Nat × Nat × Nat) : State :=
  let s := (s.put FUS_SI_STAT_a_valid (natOfBool (r.1 == 0))).put FUS_SI_STAT_b_valid (natOfBool (r.2.1 == 0))
  (s.put FUS_SI_STAT_a_cause r.1).put FUS_SI_STAT_b_cause r.2.1

/-- FUS_SI_STAT after the copies were checked and one was selected; source 3 is the ROM structure. -/
def State.noteSelect (s : State) (r : Nat × Nat × Nat) (source : Nat) : State :=
  let s := (s.noteCopies r).put FUS_SI_STAT_source source
  s.put FUS_SI_STAT_seq (if source = 1 || source = 2 then siSeq (s.siCopy (source - 1)) else 0)

/-- The blocks of the copy that FUS_SI_STAT.source names. -/
def State.siInUse (s : State) : List (Nat × List Byte) :=
  match s.fld FUS_SI_STAT_source with
  | 1 => ((siRead (s.siCopy 0)).map (·.1)).getD []
  | 2 => ((siRead (s.siCopy 1)).map (·.1)).getD []
  | _ => []

/-- The register writes of an element of a list of blocks (log entry 14). -/
def elementOf (l : List (Nat × List Byte)) (type : Nat) : List (Nat × Word64) :=
  (l.filter fun e => e.1 == type).flatMap fun e => Config.elementWrites e.1 e.2

/-! ### The checks of a container (R498, R499) -/

/-- Whether the trailer of piece `k` holds its index, length and CRC, and zeros (R498). -/
def fwPieceOk (b : List Byte) (k : Nat) : Bool :=
  let n := fwPiece b k
  let t := slice b (fwPieceAt k + n) 16
  let d := slice b (fwPieceAt k) n
  t.length == 16 && ofBytes t == k % 2 ^ 32 + n <<< 32 + (crc32c d) <<< 64

/-- The digest that a container states. -/
def fwDigest (b : List Byte) : List Byte := slice b (fwBody b) 64

/-- The VerifyResult of R499 for a container of a component, with the bound of R497 on a microcode payload, 0 where
every check passes; `seq` is the seq of the structure image in use where component 4 is checked before it is written
(R412). -/
def FuseRecord.fwCause (f : FuseRecord) (component : Nat) (seq : Option Nat) (b : List Byte) : Nat :=
  let key := slice b (fwBody b + 4704) 2592
  if fwMagic b != 0x4657434E || fwFormat b != 1 || fwHcrc b != crc32c (slice b 0 24 ++ slice b 32 96)
      || fwComponent b != component || fwBlocks b != (fwPayload b + 65535) / 65536
      || (component == 2 && decide (1048576 < fwPayload b)) then 0x94
  else if !f.keyGood (fwKey b) || lget f.keys (fwKey b) 0 != Config.sha3 key then 0x91
  else if fwDigest b != digestBytes (Config.sha3 (b.take (fwBody b)))
      || !Config.signatureValid (fwKey b) (fwDigest b) (slice b (fwBody b + 64) 4627) then 0x92
  else if !bitAt (fwVariants b) f.variantBit then 0x93
  else if fwSvn b < f.svn || 64 < fwSvn b then 0x90
  else if component = 4 && (f.siCause (fwPayloadBytes b) != 0 || (match seq with
      | some q => decide (siSeq (fwPayloadBytes b) ≤ q)
      | none => false)) then 0x95
  else 0

/-! ### Slots (R501) -/

/-- The slot of component `c` (1 to 3), 0 for A and 1 for B, and its activation number. -/
def State.fwSlot (s : State) (c k : Nat) : List Byte := lget s.flash.fw (2 * (c - 1) + k) []
def State.fwActNo (s : State) (c k : Nat) : Nat := lget s.flash.actNo (2 * (c - 1) + k) 0

/-- Whether a slot passes R499 as component `c`. -/
def State.slotGood (s : State) (c k : Nat) : Bool := s.fuse.fwCause c none (s.fwSlot c k) == 0

/-- Whether a boot may take a component from a slot: it passes R499, and it has been activated (R512). -/
def State.bootable (s : State) (c k : Nat) : Bool := s.fwActNo c k != 0 && s.slotGood c k

/-- The slot that a boot takes a component from. -/
def State.bootSlot (s : State) (c : Nat) : Option Nat :=
  let first := if s.fwActNo c 0 < s.fwActNo c 1 then 1 else 0
  if s.bootable c first then some first else if s.bootable c (1 - first) then some (1 - first) else none

/-- FWU_SLOT of a component's slot brought up to date (R515). -/
def State.noteSlot (s : State) (c k : Nat) (use : Option Nat) : State :=
  let b := s.fwSlot c k
  let v := natOfBool (s.slotGood c k) + natOfBool (use == some k) <<< 1 + (fwSvn b % 128) <<< 2
    + (s.fwActNo c k % 2 ^ 23) <<< 9 + (fwVersion b) <<< 32
  s.setReg .FWU_SLOT (c - 1) k v

/-- Both slots of a component noted, with the one in use. -/
def State.noteSlots (s : State) (c : Nat) (use : Option Nat) : State := (s.noteSlot c 0 use).noteSlot c 1 use

/-- The slot of a component that is in use. -/
def State.slotInUse (s : State) (c : Nat) : Option Nat :=
  if s.flag FWU_SLOT_in_use (c - 1) 0 then some 0 else if s.flag FWU_SLOT_in_use (c - 1) 1 then some 1 else none

/-- The slot that the running image of a component came from; none for the ROM structure. -/
def State.runningSlot (s : State) (c : Nat) : Option Nat :=
  if c = 4 then
    let k := s.fld FUS_SI_STAT_source
    if k = 1 || k = 2 then some (k - 1) else none
  else s.slotInUse c

/-- The container in a slot of a component. -/
def State.container (s : State) (c k : Nat) : List Byte := if c = 4 then s.siContainer k else s.fwSlot c k

/-- The version of the running image of a component, as GET_IDENTITY reports it (R494, R497), zero where none runs. -/
def State.runningVersion (s : State) (c : Nat) : Nat :=
  match s.runningSlot c with
  | some k => fwVersion (s.container c k)
  | none => 0

/-! ### Measurements (R509) and the anti-rollback counter (R502) -/

def State.onMgmt (s : State) (f : Mgmt → Mgmt) : State := { s with mgmt := f s.mgmt }

/-- A measurement set. -/
def State.measure (s : State) (k : Nat) (d : BitVec 512) : State := s.onMgmt fun m => { m with meas := lset m.meas k d }

/-- The digest of a container or image as a measurement. -/
def measOf (d : List Byte) : BitVec 512 := BitVec.ofNat 512 (ofBytes d)

/-- The bits of a list of units that are not fused off. -/
def enables (n : Nat) (off : List Nat) : Nat := bitsWhere n fun k => !off.contains k

/-- Measurement 5: the fuse record in the order of R509 (log entry 18). -/
def FuseRecord.measure (f : FuseRecord) : BitVec 512 :=
  Config.sha3 (bytesOf 1 f.variant ++ bytesOf 1 f.stepping ++ bytesOf 1 f.svn ++ bytesOf 1 f.revoked
    ++ bytesOf 18 (enables 144 f.tilesOff) ++ bytesOf 2 (enables 12 f.stacksOff) ++ bytesOf 1 (enables 8 f.portsOff)
    ++ bytesOf 1 (enables 4 f.foldsOff))

/-- SVN_ADVANCE_DONE (R502): the counter equals the svn; images below it fail R499 from then on. -/
def execSvnAdvanceDone (s : State) : Host.Outcome State Fault Refusal :=
  match s.mgmt.update.advance with
  | none => .next s
  | some v =>
    let s := s.onMgmt fun m => { m with update := { m.update with advance := none } }
    let s := { s with fuse := { s.fuse with svn := v } }
    .next ((s.put MGT_ROT_STAT_svn_count v).event FWU_EVT_svn_advanced)

/-- A write of FWU_MEAS_EXT (R509). -/
def State.extendMeas (s : State) (v : Nat) : State :=
  s.measure 7 (Config.sha3 (digestBytes (lget s.mgmt.meas 7 0) ++ bytesOf 8 v))

/-- MEAS_EXTEND (R509). -/
def execMeasExtend (data : Word64) (s : State) : Host.Outcome State Fault Refusal := .next (s.extendMeas data.toNat)

/-! ### Stored settings (R507) -/

/-- The active settings slot: the good one with the higher sequence number. -/
def State.settingsSlot (s : State) : Option Nat :=
  let a := lget s.flash.settings 0 ⟨0, 0, false, []⟩
  let b := lget s.flash.settings 1 ⟨0, 0, false, []⟩
  if a.good && b.good then (if a.seq < b.seq then some 1 else some 0)
  else if a.good then some 0 else if b.good then some 1 else none

/-- The stored settings, none where no slot is good. -/
def State.stored (s : State) : SettingsSlot :=
  match s.settingsSlot with
  | some k => lget s.flash.settings k ⟨0, 0, false, []⟩
  | none => ⟨0, 0, false, []⟩

/-- The settings written to the slot not in use, with the next sequence number. -/
def State.storeSettings (s : State) (format : Nat) (values : List (Nat × Word64)) : State :=
  let k := match s.settingsSlot with
    | some k => 1 - k
    | none => 0
  let x : SettingsSlot := ⟨s.stored.seq + 1, format, true, values⟩
  { s with flash := { s.flash with settings := lset s.flash.settings k x, last := some (.settings k) } }

/-- The settings_format of the management firmware in use. -/
def State.runningFormat (s : State) : Nat :=
  match s.slotInUse 1 with
  | some k => fwSettingsFormat (s.fwSlot 1 k)
  | none => 0

/-- Measurement 6: the active settings (R509). -/
def SettingsSlot.measure (x : SettingsSlot) : BitVec 512 :=
  Config.sha3 (bytesOf 4 x.seq ++ bytesOf 2 x.format ++ x.values.flatMap fun e => bytesOf 2 e.1 ++ bytesOf 8 e.2.toNat)

/-- Stored settings of another format than the running management firmware's return to their defaults, and both
slots are rewritten in the new format (R507). -/
def State.checkSettings (s : State) : State :=
  match s.settingsSlot with
  | none => s
  | some _ =>
    let s := if s.stored.format = s.runningFormat then s
      else ((s.storeSettings s.runningFormat []).storeSettings s.runningFormat []).event FWU_EVT_settings_reset
    s.measure 6 s.stored.measure

/-! ### The confirmation of management firmware (R506) -/

def State.onUpdate (s : State) (f : Update → Update) : State := s.onMgmt fun m => { m with update := f m.update }

/-- The activation or the update ends: state idle, and no agent holds update mode. -/
def State.endUpdate (s : State) : State :=
  ((s.put FWU_STAT_state 0).put FWU_STAT_component 0).onUpdate fun u => { u with agent := none, queue := [] }

/-- A core that starts anew: what is in service on it is the interrupt controller's, and stays (R465, R503). -/
def MgtCore.restart (m : MgtCore) : MgtCore := { MgtCore.reset with insvc := m.insvc }

/-- The MCTP target requests its address from the bus owner with a Hot-Join where it has none (R524). -/
def State.hotJoin (s : State) : State := if s.mgmt.i3c.1 = 0 then s.emit .hotJoin else s

/-- The management cores start in a slot of component 1: what runs, and its measurement. An attestation in progress ends
without a response, as one that arrives in the pause (R512). -/
def State.startCores (s : State) (k : Nat) : State :=
  let s := { s with cores := s.cores.map MgtCore.restart }
  let s := (s.noteSlots 1 (some k)).measure 1 (measOf (fwDigest (s.fwSlot 1 k)))
  (s.onMgmt fun m => { m with signing := [] }).hotJoin

/-- A power-cycle message that waited for the firmware goes out (R512). -/
def State.sendHeldCycle (s : State) : State := if s.recovery.pcHeld then s.sendPowerCycle else s

/-- A write of FWU_STAT.confirm (R506, R515): the bit is set, and where activated firmware has yet to confirm, it has
started and the activation ends. -/
def State.confirmFw (s : State) : State :=
  let s := s.put FWU_STAT_confirm 1
  match s.mgmt.update.proving with
  | none => s
  | some k =>
    let s := s.onUpdate fun u => { u with proving := none }
    let s := (s.advanceSvn (fwSvn (s.fwSlot 1 k))).checkSettings
    s.sendHeldCycle.endUpdate

/-- FW_CONFIRM (R506). -/
def execFwConfirm (s : State) : Host.Outcome State Fault Refusal := .next s.confirmFw

end Sys2Proof.Machine
end

