-- ==== Sys2Proof/Machine/Yield.lean ====
section
/-! DEFINITION. The floor plan, soft-disabling and the structure reload (R413 to R417). -/
namespace Sys2Proof.Machine

/-- The usable bit of a tile's floor-plan entry brought up to date (R428). -/
def State.settleTile (s : State) (t : Nat) : State :=
  let ok := s.flag FUS_FP_TILE_fused_on t && !s.flag FUS_FP_TILE_kat_fail t && !s.flag FUS_FP_TILE_si_off t
    && !s.flag FUS_FP_TILE_rt_off t && !s.flag FUS_FP_TILE_muster_fail t
  s.setFld FUS_FP_TILE_usable t 0 (natOfBool ok)

/-- The usable bit of a unit's entry brought up to date (R428). -/
def State.settleUnit (s : State) (u : Nat) : State :=
  let ok := s.flag FUS_FP_UNIT_fused_on u && !s.flag FUS_FP_UNIT_test_fail u && !s.flag FUS_FP_UNIT_si_off u
    && !s.flag FUS_FP_UNIT_rt_off u
  s.setFld FUS_FP_UNIT_usable u 0 (natOfBool ok)

/-- Every engine of a tile held in reset. -/
def State.holdTile (s : State) (t : Nat) : State :=
  [Engine.sequencer, .matrix, .vector, .dma].foldl (fun s e => s.engineHold t e) s

/-- A tile that did not load its microcode: held in engine reset, with muster_fail set (R405, R424, R501, R505). -/
def State.musterFail (s : State) (t : Nat) : State :=
  ((s.holdTile t).setFld FUS_FP_TILE_muster_fail t 0 1).settleTile t

/-- A tile soft-disabled at run time (R417): its running task is aborted, its slots and early-token entries are freed, and
it is held in engine reset. -/
def State.tileOff (s : State) (t : Nat) : State :=
  let s := match (s.tile t).runSlot with
    | some k => s.contextAbort t k
    | none => s
  let s := [Engine.sequencer, .matrix, .vector, .dma].foldl (fun s e => s.engineReset t e) s
  let s := s.onTile t fun x => { x with slots := Tile.reset.slots, etb := [] }
  (s.setFld FUS_FP_TILE_rt_off t 0 1).settleTile t

/-- An external port goes to Off (R246, R274, R417). -/
def State.portOff (s : State) (k : Nat) : State :=
  let s := s.dropLink k
  let s := (s.setFld RTR_LINK_STAT_tstate k 0 tsOff).setFld RTR_LINK_STAT_pstate k 0 3
  ((s.setLanes k LN_STAT_state tsOff).setLanes k LN_STAT_in_use 0).setLanes k LN_STAT_lock 0

/-- A write of FUS_SOFT_CTRL with go (R417, R427): kind 0 tile, 1 port, 2 fold unit; a unit that does not exist is
ignored. Enabling again waits for the next chip reset. -/
def State.softDisable (s : State) (kind index : Nat) (off : Bool) : State :=
  let there := match kind with
    | 0 => decide (index < 144) && s.flag FUS_FP_TILE_fused_on index
    | 1 => decide (index < 8) && s.flag FUS_FP_UNIT_fused_on (portUnit index)
    | 2 => decide (index < 4) && s.flag FUS_FP_UNIT_fused_on (foldUnit index)
    | _ => false
  if !there then s
  else if !off then
    { s with boot := { s.boot with enable := s.boot.enable.filter (· != (kind, index)) ++ [(kind, index)] } }
  else
    let s := { s with boot := { s.boot with enable := s.boot.enable.filter (· != (kind, index)) } }
    let s := match kind with
      | 0 => s.tileOff index
      | 1 => ((s.portOff index).setFld FUS_FP_UNIT_rt_off (portUnit index) 0 1).settleUnit (portUnit index)
      | _ => (s.setFld FUS_FP_UNIT_rt_off (foldUnit index) 0 1).settleUnit (foldUnit index)
    s.event FUS_EVT_soft_off

/-- SOFT_DISABLE (R417). -/
def execSoftDisable (kind index : Nat) (off : Bool) (s : State) : Host.Outcome State Fault Refusal :=
  .next (s.softDisable kind index off)

/-- A write of FUS_SI_CTRL.reload (R413): a copy is selected and its interleave element kept, and a chip reset is requested;
without a valid copy the running structure stays. A reload during a chip reset is absorbed. -/
def State.reloadStructure (s : State) : State :=
  if s.covers levelChip 0 then s.absorb levelChip
  else
    let r := s.siSelect
    let s := if r.2.2 = 0 then (s.noteCopies r).event FUS_EVT_si_element
      else
        let old := s.fld FUS_SI_STAT_seq
        let s := s.noteSelect r r.2.2
        let s := if s.fld FUS_SI_STAT_seq = old then s else s.put FUS_SI_STAT_pending 1
        let b := s.siCopy (r.2.2 - 1)
        let s := { s with boot := { s.boot with ilv := elementOf s.siInUse 3 } }
        let s := (s.measure 4 (measOf (siDigest b))).advanceSvn (siSvn b)
        s.onRec fun x => { x with reload := some r.2.2 }
    s.requestReset levelChip 0 4 false

/-- STRUCTURE_RELOAD (R413). -/
def execStructureReload (s : State) : Host.Outcome State Fault Refusal := .next s.reloadStructure

end Sys2Proof.Machine
end

