-- ==== Sys2Proof/Machine/Muster.lean ====
section
/-! DEFINITION. Muster (R421 to R425, R429). -/
namespace Sys2Proof.Machine

-- The fields of a MUSTER packet (R421).
def muSession (p : Packet) : Nat := bitsOf (p.word 2) 15 0
def muKind (p : Packet) : Nat := bitsOf (p.word 2) 18 16
def muIndex (p : Packet) : Nat := bitsOf (p.word 2) 35 20
def muRound (p : Packet) : Nat := bitsOf (p.word 2) 53 52
def muCrc (p : Packet) : Nat := bitsOf (p.word 3) 31 0
def muPayload (p : Packet) : List Byte := bytesOfWords (p.body.drop 2)

/-- A MUSTER packet. -/
def musterPacket (dst partition session kind index total round : Nat) (mcast : Bool) (payload : List Byte) : Packet :=
  { Packet.blank with
    dst := dst, vc := 6, type := tMUSTER, mcast := mcast, partition := partition,
    body := [BitVec.ofNat 64 (session % 65536 + kind <<< 16 + (index % 65536) <<< 20 + (total % 65536) <<< 36 + round <<< 52),
      BitVec.ofNat 64 (if payload.isEmpty then 0 else crc32c payload)] ++ wordsOfBytes payload }

def State.onMuster (s : State) (f : Muster → Muster) : State := { s with muster := f s.muster }

/-! ### The receiver (R422, R424) -/

/-- The blocks received by an entry. -/
def State.gotBlocks (s : State) (e : Nat) : List Nat := agetD s.muster.got e []

/-- A write of FUS_MUSTER_RX_CFG (R429): a write of valid clears the bitmap. -/
def State.armRx (s : State) (e v : Nat) : State :=
  let s := s.setReg .FUS_MUSTER_RX_CFG e 0 (v % 2 ^ 50)
  if s.flag FUS_MUSTER_RX_CFG_valid e then
    let s := s.onMuster fun m => { m with got := aset m.got e [] }
    let s := (s.setFld FUS_MUSTER_RX_STAT_received e 0 0).setFld FUS_MUSTER_RX_STAT_complete e 0 0
    (s.setFld FUS_MUSTER_RX_STAT_incomplete e 0 0).setFld FUS_MUSTER_RX_STAT_closed e 0 0
  else s

/-- MUSTER_RX_ARM (R429): the value written to an entry's configuration register. -/
def execMusterRxArm (entry : Nat) (cfg : Word64) (s : State) : Host.Outcome State Fault Refusal :=
  if entry < 8 then .next (s.armRx entry cfg.toNat) else .next s

/-- The valid entry of a packet's session and originator; a node with the structure from ROM takes part in no muster
(R410). -/
def State.rxEntry (s : State) (p : Packet) : Option Nat :=
  if s.fld FUS_SI_STAT_source = 3 then none
  else (List.range 8).find? fun e => s.flag FUS_MUSTER_RX_CFG_valid e
    && s.fld FUS_MUSTER_RX_CFG_session e == muSession p && s.fld FUS_MUSTER_RX_CFG_originator e == p.src

/-- A discarded DATA packet counted in the entry that it names, or else in the lowest entry of its session (R422; log
entry 70). -/
def State.rxDiscard (s : State) (p : Packet) : State :=
  match (s.rxEntry p).or ((List.range 8).find? fun e => s.fld FUS_MUSTER_RX_CFG_session e == muSession p) with
  | some e => s.satCount FUS_MUSTER_RX_STAT_discards e
  | none => s

/-- Whether the window checks of R276 let the originator's partition write a block. -/
def State.rxWindow (s : State) (p : Packet) (off n : Nat) : Bool :=
  match s.padOfPartition p.partition with
  | some q => !s.padResetting q && decide (off + n ≤ s.hbmCap) && s.windowOk q off n true
  | none => false

/-- The bytes of a receive entry's whole set. -/
def State.rxSet (s : State) (e : Nat) : List Byte :=
  s.bytes (hbmKey (s.fld FUS_MUSTER_RX_BASE_base e)) ((s.fld FUS_MUSTER_RX_CFG_total_m1 e + 1) * 4096)

/-- The tiles whose microcode load failed its CRC three times are held (R405). -/
def State.loadMicrocode (s : State) (failed : List Nat) : State :=
  (s.usableTiles.filter fun t => failed.contains t).foldl (fun s t => s.musterFail t) s

/-- MUSTER_DATA (R422, R425): a block is stored and its bit set, or discarded; a repeat is ignored. A complete set of tile
microcode is loaded and measured (R509), and `failed` names the tiles that fail their load (log entry 70). -/
def execMusterData (p : Packet) (failed : List Nat) (s : State) : Host.Outcome State Fault Refusal :=
  let s := s.take p
  if p.status = 3 then .next s.dropMalformed
  else
  let d := muPayload p
  match s.rxEntry p with
  | none => .next (s.rxDiscard p)
  | some e =>
    let i := muIndex p
    let total := s.fld FUS_MUSTER_RX_CFG_total_m1 e + 1
    let off := s.fld FUS_MUSTER_RX_BASE_base e + i * 4096
    if muCrc p != crc32c d || decide (4096 < d.length) || decide (total ≤ i) || s.flag FUS_MUSTER_RX_STAT_closed e
        || !s.hbmOn || s.chipReset || !s.rxWindow p off d.length then .next (s.rxDiscard p)
    else if (s.gotBlocks e).contains i then .next s
    else
      let s := (s.hbmWrite off d).2
      let got := i :: s.gotBlocks e
      let s := s.onMuster fun m => { m with got := aset m.got e got }
      let s := s.setFld FUS_MUSTER_RX_STAT_received e 0 got.length
      if got.length = total then
        let s := s.setFld FUS_MUSTER_RX_STAT_complete e 0 1
        .next (if s.flag FUS_MUSTER_RX_CFG_kind e then
            (s.measure 2 (measOf (fwDigest (s.rxSet e)))).loadMicrocode failed else s)
      else .next s

/-- The bytes of a bitmap of `n` blocks from block `i` on, filled to whole packet units. -/
def bitmapBytes (got : List Nat) (i n : Nat) : List Byte :=
  (List.range (roundUp 16 ((n + 7) / 8))).map fun k =>
    BitVec.ofNat 8 (bitsWhere 8 fun b => decide (8 * k + b < n) && got.contains (i + 8 * k + b))

/-- MUSTER_POLL (R423): the receiver reports its whole bitmap, at most 4 KiB of it a packet. -/
def execMusterPoll (p : Packet) (s : State) : Host.Outcome State Fault Refusal :=
  let s := s.take p
  if p.status = 3 then .next s.dropMalformed
  else
  match s.rxEntry p with
  | none => .next s
  | some e =>
    let total := s.fld FUS_MUSTER_RX_CFG_total_m1 e + 1
    .next ((List.range ((total + 32767) / 32768)).foldl (fun s k =>
      let n := min 32768 (total - 32768 * k)
      s.sendNode (musterPacket p.src p.partition (muSession p) 1 (32768 * k) (total - 1) (muRound p) false
        (bitmapBytes (s.gotBlocks e) (32768 * k) n))) s)

/-- MUSTER_CLOSE (R424): an entry is judged; a set of tile microcode that is incomplete leaves every usable tile held. -/
def execMusterClose (p : Packet) (s : State) : Host.Outcome State Fault Refusal :=
  let s := s.take p
  if p.status = 3 then .next s.dropMalformed
  else
  match s.rxEntry p with
  | none => .next s
  | some e =>
    let s := s.setFld FUS_MUSTER_RX_STAT_closed e 0 1
    if s.flag FUS_MUSTER_RX_STAT_complete e then .next s
    else
      let s := (s.setFld FUS_MUSTER_RX_STAT_incomplete e 0 1).event FUS_EVT_muster_incomplete
      .next (if s.flag FUS_MUSTER_RX_CFG_kind e then s.usableTiles.foldl (fun s t => s.musterFail t) s else s)

/-! ### The originator (R423) -/

/-- The partition of the originator's packets: that of its lowest valid paddock (log entry 19). -/
def State.musterPart (s : State) : Nat :=
  match firstPad fun p => s.flag GI_PAD_CFG_valid p with
  | some p => s.fld GI_PAD_CFG_partition p
  | none => 0

/-- A block of the set sent to a node or group. A block whose address fails the checks of R25 and R26, or names another
node or registers, is not read, and one that meets an uncorrectable error or an HBM out of service is not sent (log
entry 70). -/
def State.sendBlock (s : State) (dst round i : Nat) (mcast : Bool) : State :=
  let a := s.fld FUS_MUSTER_TX_SRC_src + 4096 * i
  if malformed a || gaSpace a == 2 || !s.isOwn (gaNode a) || !s.rangeOk a 4096 then s
  else
  let r := s.source a 4096
  if r.1 != 0 then r.2.2
  else
    let s := r.2.2
    s.sendNode (musterPacket dst s.musterPart (s.fld FUS_MUSTER_TX_CFG_session) 0 i (s.fld FUS_MUSTER_TX_CFG_total_m1)
      round mcast r.2.1)

/-- The number of blocks in the set. -/
def State.txTotal (s : State) : Nat := s.fld FUS_MUSTER_TX_CFG_total_m1 + 1

/-- The receivers of the list; a list that cannot be read (R26, R216, R221) names none (log entry 70). -/
def State.receivers (s : State) : List Nat × State :=
  let n := s.fld FUS_MUSTER_TX_LIST_count
  let a := s.fld FUS_MUSTER_TX_LIST_list
  if s.hbmCap < a + 2 * n then ([], s)
  else
    let r := s.source a (2 * n)
    if r.1 != 0 then ([], r.2.2) else ((List.range n).map fun i => ofBytes (slice r.2.1 (2 * i) 2), r.2.2)

/-- POLL sent to every receiver; each counts as missing every block until it reports. -/
def State.pollAll (s : State) (nodes never : List Nat) : State :=
  let tx : MusterTx := ⟨nodes.map fun n => (n, List.range s.txTotal), nodes, never⟩
  let s := s.onMuster fun m => { m with tx := some tx }
  nodes.foldl (fun s n => s.sendNode (musterPacket n s.musterPart (s.fld FUS_MUSTER_TX_CFG_session) 2 0
    (s.fld FUS_MUSTER_TX_CFG_total_m1) (s.fld FUS_MUSTER_TX_STAT_round) false [])) s

/-- The session ends with CLOSE to the group. -/
def State.closeMuster (s : State) (tx : MusterTx) : State :=
  let s := s.sendNode (musterPacket (s.fld FUS_MUSTER_TX_CFG_group) s.musterPart (s.fld FUS_MUSTER_TX_CFG_session) 3 0
    (s.fld FUS_MUSTER_TX_CFG_total_m1) 0 true [])
  let s := (s.put FUS_MUSTER_TX_STAT_round 4).put FUS_MUSTER_TX_STAT_busy 0
  let s := s.put FUS_MUSTER_TX_STAT_incomplete ((tx.missing.filter fun e => !e.2.isEmpty).length)
  (s.put FUS_MUSTER_TX_STAT_silent tx.never.length).onMuster fun m => { m with tx := none }

/-- The session goes on once no receiver is awaited: it closes where nothing is missing or three repair rounds have run,
else the missing blocks are sent again and the receivers polled. -/
def State.musterNext (s : State) (tx : MusterTx) : State :=
  let s := s.onMuster fun m => { m with tx := some tx }
  if !tx.unanswered.isEmpty then s
  else if tx.missing.all (fun e => e.2.isEmpty) || decide (3 ≤ s.fld FUS_MUSTER_TX_STAT_round) then s.closeMuster tx
  else
    let r := s.fld FUS_MUSTER_TX_STAT_round + 1
    let s := s.put FUS_MUSTER_TX_STAT_round r
    let s := tx.missing.foldl (fun s e => e.2.foldl (fun s i => s.sendBlock e.1 r i false) s) s
    s.pollAll (tx.missing.map (·.1)) tx.never

/-- A write of FUS_MUSTER_TX_CFG.go: the session starts with round 0, and the receivers are polled.
A node with the structure from ROM starts none (R410). -/
def State.startMuster (s : State) : State :=
  if s.flag FUS_MUSTER_TX_STAT_busy || s.fld FUS_SI_STAT_source == 3 then s
  else
    let s := ((s.put FUS_MUSTER_TX_STAT_round 0).put FUS_MUSTER_TX_STAT_busy 1)
    let s := (s.put FUS_MUSTER_TX_STAT_incomplete 0).put FUS_MUSTER_TX_STAT_silent 0
    let s := (List.range s.txTotal).foldl (fun s i => s.sendBlock (s.fld FUS_MUSTER_TX_CFG_group) 0 i true) s
    let l := s.receivers
    let s := l.2.pollAll l.1 l.1
    match s.muster.tx with
    | some tx => s.musterNext tx
    | none => s

/-- MUSTER_TX_GO (R423, R429): the value written to FUS_MUSTER_TX_CFG, with go. -/
def execMusterTxGo (cfg : Word64) (s : State) : Host.Outcome State Fault Refusal :=
  .next ((s.setReg .FUS_MUSTER_TX_CFG 0 0 (cfg.toNat % 2 ^ 60)).startMuster)

/-- The blocks of a report's bitmap. -/
def reported (p : Packet) : List Nat :=
  let b := muPayload p
  let i := muIndex p
  (List.range (8 * b.length)).filterMap fun k => if bitAt (lget b (k / 8) 0).toNat (k % 8) then some (i + k) else none

/-- MUSTER_REPORT (R423): a receiver's missing blocks are known; its last report ends the wait for it. -/
def execMusterReport (p : Packet) (s : State) : Host.Outcome State Fault Refusal :=
  let s := s.take p
  if p.status = 3 then .next s.dropMalformed
  else
  match s.muster.tx with
  | none => .next s
  | some tx =>
    if muSession p != s.fld FUS_MUSTER_TX_CFG_session || !tx.unanswered.contains p.src
        || muCrc p != crc32c (muPayload p) then .next s
    else
      let got := reported p
      let last := decide (s.txTotal ≤ muIndex p + 8 * (muPayload p).length)
      let miss := tx.missing.map fun e => if e.1 = p.src then (e.1, e.2.filter fun i => !got.contains i) else e
      .next (s.musterNext { missing := miss, never := tx.never.filter (· != p.src),
                            unanswered := if last then tx.unanswered.filter (· != p.src) else tx.unanswered })

/-- MUSTER_POLL_TIMEOUT (R423): a receiver silent past poll_us counts as missing every block. -/
def execMusterPollTimeout (node : Nat) (s : State) : Host.Outcome State Fault Refusal :=
  match s.muster.tx with
  | none => .next s
  | some tx =>
    if !tx.unanswered.contains node then .next s
    else .next (s.musterNext { tx with unanswered := tx.unanswered.filter (· != node) })

end Sys2Proof.Machine
end

