-- ==== Sys2Proof/Machine/Topology.lean ====
section
/-! DEFINITION. Node IDs, port roles, heft discovery and self-heft (R335 to R343, R347, R351). -/
namespace Sys2Proof.Machine

/-! ### Node IDs (R335, R337, R353) -/

/-- A write of RTR_NODE_ID.id. -/
def State.writeNodeId (s : State) (id : Nat) : State :=
  ((s.put RTR_NODE_ID_id id).put RTR_NODE_ID_valid 1).put RTR_NODE_ID_source 3

/-- A write of RTR_NODE_ID.clear. -/
def State.clearNodeId (s : State) : State := (s.put RTR_NODE_ID_valid 0).put RTR_NODE_ID_source 0

/-- NODE_ID_WRITE (R335, R337). -/
def execNodeIdWrite (id : Nat) (s : State) : Host.Outcome State Fault Refusal := .next (s.writeNodeId id)

/-- NODE_ID_CLEAR (R353). -/
def execNodeIdClear (s : State) : Host.Outcome State Fault Refusal := .next s.clearNodeId

/-! ### Hellos (R340 to R342) -/

/-- HELLO_REPEAT (R340): a port repeats its hello, until it sends one more after a hello with heard = 1 came. -/
def execHelloRepeat (port : Nat) (s : State) : Host.Outcome State Fault Refusal :=
  if s.sendsHello port && !(s.link port).helloDone then
    let s := s.sendHello port
    .next (s.onLink port fun x => { x with helloDone := x.farHeard })
  else .next s

/-- The state of a heft entry evaluated from its stored far fields (R342); `skip` leaves the comparison with the accepted
far end out. -/
def State.evalHeft (s : State) (k : Nat) (skip : Bool) : State :=
  let serial := s.fld RTR_HEFT_FAR0_serial k
  let far := s.fld RTR_HEFT_FAR1_far_port k
  let role := s.fld RTR_PORT_ROLE_role k
  let changed := match aget s.accepted k with
    | some a => a != (serial, far)
    | none => false
  if role = 0 then (s.setFld RTR_HEFT_FAR1_state k 0 5).recallPort k
  else if changed && !skip && !s.flag RTR_HEFT_CTRL_auto_accept then
    let s := if s.fld RTR_HEFT_FAR1_state k = 4 then s else s.eventBit RTR_HEFT_EVT_changed k
    (s.setFld RTR_HEFT_FAR1_state k 0 4).recallPort k
  else if s.fld RTR_HEFT_FAR1_far_role k = farRole role then
    { (s.setFld RTR_HEFT_FAR1_state k 0 2) with accepted := aset s.accepted k (serial, far) }
  else
    let s := if s.fld RTR_HEFT_FAR1_state k = 3 then s else s.eventBit RTR_HEFT_EVT_mismatch k
    (s.setFld RTR_HEFT_FAR1_state k 0 3).recallPort k

/-- The far fields of the latest hello (R341, R342). -/
def State.storeHello (s : State) (k w serial : Nat) : State :=
  let s := s.setFld RTR_HEFT_FAR0_serial k 0 serial
  let s := s.setFld RTR_HEFT_FAR1_far_port k 0 (bitsOf w 5 3)
  let s := s.setFld RTR_HEFT_FAR1_far_role k 0 (bitsOf w 9 6)
  let s := s.setFld RTR_HEFT_FAR1_far_pos k 0 (bitsOf w 15 10)
  let s := s.setFld RTR_HEFT_FAR1_far_id_valid k 0 (bitsOf w 16 16)
  let s := s.setFld RTR_HEFT_FAR1_far_id k 0 (bitsOf w 33 18)
  s.satCount RTR_HEFT_FAR1_hellos k

/-- HELLO (R340 to R342): a hello, kind 0, arrives on an external port. A packet of a reserved kind is discarded and
counted; one of another kind is no hello. -/
def execHello (port : Nat) (p : Packet) (s : State) : Host.Outcome State Fault Refusal :=
  if 8 ≤ port then .next s
  else if p.status = 3 then .next ((s.take p).countMalformed port)
  else
    let kind := bitsOf (p.word 2) 2 0
    if kind = 0 then
      let s := s.take p
      let s := s.onLink port fun x => { x with heard := true, farHeard := x.farHeard || bitAt (p.word 2) 17 }
      .next ((s.storeHello port (p.word 2) (p.word 3)).evalHeft port false)
    else if kind ≤ 2 then .next s
    else .next ((s.take p).countMalformed port)

/-- A write of RTR_HEFT_FAR1.accept (R342). -/
def State.acceptHeft (s : State) (k : Nat) : State :=
  if s.fld RTR_HEFT_FAR1_state k = 4 then s.evalHeft k true else s

/-- HEFT_ACCEPT (R342). -/
def execHeftAccept (port : Nat) (s : State) : Host.Outcome State Fault Refusal :=
  if port < 8 then .next (s.acceptHeft port) else .next s

/-! ### Port roles (R338, R339, R351) -/

/-- A write of RTR_PORT_ROLE.apply: the role becomes next unless that code is reserved; service follows the role, the
entry waits for a hello, and an ACTIVE port sends one. -/
def State.applyRole (s : State) (k : Nat) : State :=
  let r := s.fld RTR_PORT_ROLE_next k
  if 9 ≤ r then s
  else
    let s := s.setFld RTR_PORT_ROLE_role k 0 r
    let s := s.setFld RTR_PORT_CFG_service k 0 (natOfBool (r == 7))
    let s := s.heftWait k
    let s := s.onLink k fun x => { x with farHeard := false, helloDone := false }
    s.sendHello k

/-- PORT_ROLE_APPLY (R351): next is written together with apply. -/
def execPortRoleApply (port next : Nat) (s : State) : Host.Outcome State Fault Refusal :=
  if port < 8 then .next ((s.setFld RTR_PORT_ROLE_next port 0 next).applyRole port) else .next s

/-! ### Self-heft (R347) -/

/-- The POS code that self-heft expects at the far end of a torus port. -/
def expectedPos (role pos : Nat) : Nat :=
  let x := pos / 16
  let y := pos / 4 % 4
  let z := pos % 4
  match role with
  | 1 => (x + 1) % 4 * 16 + y * 4 + z
  | 2 => (x + 3) % 4 * 16 + y * 4 + z
  | 3 => x * 16 + (y + 1) % 4 * 4 + z
  | 4 => x * 16 + (y + 3) % 4 * 4 + z
  | 5 => x * 16 + y * 4 + (z + 1) % 4
  | _ => x * 16 + y * 4 + (z + 3) % 4

/-- Whether a port has the role of a torus direction. -/
def State.torusPort (s : State) (k : Nat) : Bool :=
  let r := s.fld RTR_PORT_ROLE_role k
  decide (1 ≤ r) && decide (r ≤ 6)

/-- Whether a port is one that self-heft checks: a torus port whose entry is AGREED. -/
def State.checksPos (s : State) (k : Nat) : Bool := s.torusPort k && s.fld RTR_HEFT_FAR1_state k == 2

/-- Whether the wait of self-heft can be over: every enabled torus port is AGREED, or one of them has entered ACTIVE, so that
self_wait_ms can have passed since. -/
def State.selfWaitOver (s : State) : Bool :=
  let ports := (List.range 8).filter fun k => s.torusPort k && s.flag RTR_LINK_CTRL_enable k
  ports.all (fun k => s.checksPos k) || ports.any fun k => (s.link k).wasActive

/-- The node ID of a POS code in the block that RTR_HEFT_CTRL names. -/
def State.selfHeftId (s : State) : Nat :=
  let pos := s.fld RTR_NODE_ID_pos
  (4 * s.fld RTR_HEFT_CTRL_bx + pos / 16) <<< 10 + (4 * s.fld RTR_HEFT_CTRL_by + pos / 4 % 4) <<< 5
    + (4 * s.fld RTR_HEFT_CTRL_bz + pos % 4)

/-- SELF_HEFT (R335, R347): the wait of self-heft ends and the ports are checked; an ID that was written stands. -/
def execSelfHeft (s : State) : Host.Outcome State Fault Refusal :=
  if !s.flag RTR_HEFT_CTRL_self || !s.selfWaitOver then .next s
  else
    let good := ((List.range 8).filter fun k => s.checksPos k).all fun k =>
      s.fld RTR_HEFT_FAR1_far_pos k == expectedPos (s.fld RTR_PORT_ROLE_role k) (s.fld RTR_NODE_ID_pos)
    if !good then .next (s.event RTR_HEFT_EVT_self_fail)
    else if s.fld RTR_NODE_ID_source = 3 then .next (s.event RTR_HEFT_EVT_self_done)
    else
      let s := (s.put RTR_NODE_ID_id s.selfHeftId).put RTR_NODE_ID_valid 1
      .next ((s.put RTR_NODE_ID_source 2).event RTR_HEFT_EVT_self_done)

end Sys2Proof.Machine
end

