-- ==== Sys2Proof/Machine/RegAccess.lean ====
section
/-! DEFINITION. Register accesses: decoding an offset, the access codes of R9, and what a write or a read of a register
does beside its fields (R8 to R14, R29 to R33, R262). -/
namespace Sys2Proof.Machine

/-! ### Decoding an offset (R29 to R31) -/

/-- An offset in the HBM block as the one where the register tables place the register: the die-wide registers of a die are
reached through the block of each of its enabled stacks (R31, R226). -/
def hbmPlace (off : Nat) : Nat :=
  let o := off % 0x10000
  let k := (off - 0x800000) / 0x10000
  if o = 0x100 || o = 0x108 || 0x8000 ≤ o then 0x800000 + k / 6 * 0x60000 + o else off

/-- The register at an aligned offset: none where no block decodes it, or where the tile, stack or lane is fused off. -/
def State.decodeReg (s : State) (off : Nat) : Option (RegId × Nat × Nat) :=
  if 0x1000000 ≤ off && off < 0x3400000 then
    if s.fuse.tilesOff.contains ((off - 0x1000000) / 0x40000) then none else locateIn off regsOfTile
  else if 0x800000 ≤ off && off < 0x1000000 then
    let k := (off - 0x800000) / 0x10000
    if decide (12 ≤ k) || s.fuse.stacksOff.contains k then none else locateIn (hbmPlace off) regsOfHbm
  else if 0x400000 ≤ off && off < 0x500000 then
    if s.fuse.portsOff.contains ((off - 0x400000) / 0x8000) then none else locateIn off regsOfLn
  else locateIn off (regsOfOffset off)

/-- Whether the block of a register is held in reset (R14). -/
def State.blockHeld (s : State) (r : RegId) (i : Nat) : Bool :=
  (r.ofTile && s.tileInReset i) || (r.ofHbm && s.chipReset)

/-! ### The access codes (R9, R12) -/

/-- Whether the RWL fields of copy `i` of a register are locked. -/
def State.locked (s : State) (r : RegId) (i : Nat) : Bool :=
  match r with
  | .GI_CTRL | .GI_PAD_CFG | .GI_PAD_DOM => s.flag GI_CTRL_lock
  | .HBM_ILV_CTRL | .HBM_ILV_ENT => s.flag HBM_ILV_CTRL_lock i
  | .RTR_LINK_CTRL | .RTR_LINK_MAP => s.flag RTR_LINK_CTRL_lock i
  | .RTR_CTRL | .RTR_WIN_BASE | .RTR_WIN_LIM | .RTR_HEFT_CTRL => s.flag RTR_CTRL_lock
  | .FLD_CTRL => s.flag FLD_CTRL_lock
  | .PWR_TILE => s.flag PWR_CTRL_lock
  | _ => false

/-- The written bits of a value over an old one. -/
def merge (old v m : Nat) : Nat := (old &&& notBits 64 m) ||| (v &&& m)

/-- A register value after a write of the bits of `m` reached one field. -/
def FieldRow.write (f : FieldRow) (locked : Bool) (v m old : Nat) : Nat :=
  let o := bitsOf old f.hi f.lo
  let d := bitsOf (v &&& m) f.hi f.lo
  match f.acc with
  | .rw => withBits old f.hi f.lo (bitsOf (merge old v m) f.hi f.lo)
  | .rwl => if locked then old else withBits old f.hi f.lo (bitsOf (merge old v m) f.hi f.lo)
  | .w1c | .st => withBits old f.hi f.lo (o &&& notBits (f.hi + 1 - f.lo) d)
  | .w1s => withBits old f.hi f.lo (o ||| d)
  | .ro | .wo => old

/-- The bits of a register that read as zero though a field covers them: the low 12 bits of the HBM offsets (R281, R376,
R429). -/
def zeroLow : RegId → Bool
  | .RTR_WIN_BASE | .RTR_WIN_LIM | .RTR_PAIR_HOLD | .FUS_MUSTER_RX_BASE => true
  | _ => false

/-- A write of the bits of `m` under the access codes. -/
def State.plainWrite (s : State) (r : RegId) (i j v m : Nat) : State :=
  let new := r.desc.fields.foldl (fun old f => f.write (s.locked r i) v m old) (s.reg r i j)
  s.setReg r i j (if zeroLow r then new / 4096 * 4096 else new)

/-! ### What a write does beside its fields -/

/-- Whether a write of the bits of `m` reaches a field. -/
def Fld.hit (f : Fld) (m : Nat) : Bool := bitsOf m f.hi f.lo != 0

/-- The value that a write leaves in an RW field. -/
def State.after (s : State) (f : Fld) (i j v m : Nat) : Nat := bitsOf (merge (s.reg f.reg i j) v m) f.hi f.lo

/-- A write that starts an action of a tile's, lane's or link's block; `d` is the written value. -/
def State.writeUnit (s : State) (r : RegId) (i j v m : Nat) : State :=
  let d := v &&& m
  let p := s.plainWrite r i j v m
  match r with
  | .TL_CMD =>
    let s := if bitAt d 5 then s.contextAbort i (d % 32) else s
    if bitAt d 6 || bitAt d 7 then s.cacheOp i (bitAt d 6) (bitAt d 7) else s
  | .TL_SLOT_STATE =>
    if bitAt d 46 then s.onTile i fun x => x.setSlot j { x.slot j with tokOvf := false } else s
  | .TL_TAG_CTRL =>
    let p := if TL_TAG_CTRL_seed.hit m then
        let sd := p.fld TL_TAG_CTRL_seed i
        p.onTile i fun x => { x with tagLfsr := BitVec.ofNat 32 (if sd = 0 then 1 else sd) }
      else p
    if p.flag TL_TAG_CTRL_enable i && !s.flag TL_TAG_CTRL_enable i then p.drawTag i 0 else p
  | .TIC_ACK => if m % 64 = 0 then s else s.ticAck i (d % 64)
  | .TIC_EOI => if m % 64 = 0 then s else s.ticEoi i (d % 64)
  | .TIC_HOLD => if m % 65536 = 0 then s else s.writeHold (.tile i j) (d % 65536)
  | .TL_LMON_CFG => if bitAt d 27 then p.monClear (.tile i) else p
  | .HBM_LMON_CFG => if bitAt d 27 then p.monClear (.hbm i) else p
  | .MGT_LMON_CFG => if bitAt d 27 then p.monClear (.fabric i) else p
  | .HBM_ILV_CTRL =>
    let s := if !s.locked r i && m % 2 ^ 14 != 0 then p.setFld HBM_ILV_CTRL_state i 0 0 else p
    if bitAt d 14 then s.ilvCommit i else s
  | .HBM_ILV_ENT =>
    if !s.locked r i && (r.desc.fields.any fun f => bitsOf m f.hi f.lo != 0) then p.setFld HBM_ILV_CTRL_state i 0 0 else p
  | .LN_CTRL => if bitAt d 0 && !s.flag LN_CTRL_force_fail i then p.forceFail i else p
  | .LN_FOM => if bitAt d 16 then p.lnClrMin i else p
  | .RTR_LINK_CTRL =>
    let s := if bitAt m 0 then (p.tryDetect i (p.freeVal % 16)).spend else p
    if bitAt d 1 then s.retrainCmd i else s
  | .RTR_LINK_PWR => if m % 4 = 0 then p else (p.writeTarget i (d % 4) (p.freeVal % 16)).spend
  | .RTR_VC_DEPTH => if bitAt d 36 then s.vcClrMax i j else s
  | .RTR_PORT_ROLE => if bitAt d 8 then p.applyRole i else p
  | .RTR_HEFT_FAR1 => if bitAt d 33 then s.acceptHeft i else s
  | .CIC_HOLD => if m % 65536 = 0 then s else s.writeHold (.chip i) (d % 65536)
  | .CIC_EOI => if m % 1024 = 0 then s else s.cicEoi i (d % 1024)
  | .CIC_HOST_EOI => if m % 1024 = 0 then s else s.hostEoi (d % 1024)
  | _ => p

/-- Whether a register is a configuration register of a collective entry (R307, R333). -/
def isFoldCfg : RegId → Bool
  | .FLD_COLL_CFG | .FLD_COLL_TREE | .FLD_COLL_KIDS0 | .FLD_COLL_KIDS1 | .FLD_COLL_SRC | .FLD_COLL_DST | .FLD_COLL_AUX
  | .FLD_COLL_SEED | .FLD_COLL_LEN | .FLD_COLL_TRIG => true
  | _ => false

/-- A write to the fold engine (R307, R308, R328). -/
def State.writeFold (s : State) (r : RegId) (i j v m : Nat) : State :=
  let d := v &&& m
  if isFoldCfg r then
    if s.fCommitted i then s.event FLD_EVT_busy_write else s.plainWrite r i j v m
  else
    match r with
    | .FLD_COLL_CMD =>
      let s := if bitAt d 2 then s.foldAbort i else s
      let s := if bitAt d 1 then s.foldRelease i else s
      if bitAt d 0 then s.foldCommit i else s
    | _ => s.plainWrite r i j v m

/-- A write to a block that serves the whole node. -/
def State.writeNode (s : State) (r : RegId) (i j v m : Nat) : State :=
  let d := v &&& m
  let p := s.plainWrite r i j v m
  match r with
  | .GI_PAD_CFG => s.writePadCfg i (merge (s.reg r i j) v m)
  | .GI_PAD_DOM => s.writePadDom i (merge (s.reg r i j) v m)
  | .GI_CD =>
    if bitAt d 63 then s.zeroDomain i
    else if bitAt d 32 then p.setFld GI_CD_cause i 0 0 else p
  | .GI_FH_CTRL => if bitAt d 14 then p.put GI_FH_STAT_peak p.flagHold.length else p
  | .RTR_TBL_CTRL =>
    let s := if bitAt d 2 then p.armTables else p
    if bitAt d 3 then s.disarmTables else s
  | .RTR_TBL_DATA => (if m % 2 ^ 32 = 0 then s else s.tblWrite (d % 2 ^ 32)).tblNext
  | .RTR_NODE_ID =>
    let s := if m % 65536 = 0 then s else s.writeNodeId (d % 65536)
    if bitAt d 25 then s.clearNodeId else s
  | .RTR_PAIR_CLONE => if bitAt d 32 then p.armClone else p
  | .BT_FLIP =>
    let s := if bitAt d 4 then p.copySlots else p
    let s := if bitAt d 2 then s.armSlots else s
    if bitAt d 3 then s.disarmSlots else s
  | .BT_CTRL => p.holdMaster
  | .BT_PERIOD => s.writePeriod (s.after BT_PERIOD_next_ns i j v m) (s.after BT_PERIOD_change_beat i j v m)
  | .BT_TBL_DATA => (s.btWrite (merge s.btRead v m)).btNext
  | .MGT_WATCH_WIN0 =>
    let s' := if MGT_WATCH_WIN0_ctx_us.hit m then s.writeWindow 1 (s.after MGT_WATCH_WIN0_ctx_us i j v m) else s
    if MGT_WATCH_WIN0_eng_us.hit m then s'.writeWindow 2 (s.after MGT_WATCH_WIN0_eng_us i j v m) else s'
  | .MGT_WATCH_WIN1 =>
    let s' := if MGT_WATCH_WIN1_part_us.hit m then s.writeWindow 3 (s.after MGT_WATCH_WIN1_part_us i j v m) else s
    if MGT_WATCH_WIN1_chip_us.hit m then s'.writeWindow 4 (s.after MGT_WATCH_WIN1_chip_us i j v m) else s'
  | .MGT_RST_REQ =>
    if bitAt d 23 then
      s.writeResetReq (d % 8) (bitsOf d 10 3) (bitsOf d 15 11) (bitsOf d 18 16) (bitsOf d 21 19) (bitAt d 22)
    else s
  | .FWU_DUMP_CTRL =>
    let s := if bitAt d 15 then p.freeDump else p
    if bitAt d 16 then (s.askDump 0 0 []).2 else s
  | .FWU_STAT => if bitAt d 7 then s.confirmFw else s
  | .FWU_MEAS_EXT => s.extendMeas d
  | .FUS_SI_CTRL => if bitAt d 0 then s.reloadStructure else s
  | .FUS_SOFT_CTRL => if bitAt d 11 then s.softDisable (d % 4) (bitsOf d 9 2) (bitAt d 10) else s
  | .FUS_MUSTER_RX_CFG => if bitAt d 49 then s.armRx i (merge (s.reg r i j) v m) else p
  | .FUS_MUSTER_TX_CFG => if bitAt d 60 then p.startMuster else p
  | .PWR_CTRL =>
    let s := if m % 4 = 0 then p else p.writeMode (d % 4)
    let s := if bitAt d 2 then s.parkFor parkSoft else s
    if bitAt d 3 then s.unparkFor parkSoft else s
  | .PWR_CAP =>
    let s' := if bitAt d 24 then s.put PWR_CAP_refused 0 else s
    let s' := if PWR_CAP_cap_host.hit m then s'.writeCap PWR_CAP_cap_host (s.after PWR_CAP_cap_host i j v m) else s'
    if PWR_CAP_cap_tray.hit m then s'.writeCap PWR_CAP_cap_tray (s.after PWR_CAP_cap_tray i j v m) else s'
  | .PWR_FT_CFG => p.settlePower
  | .PWR_COOL =>
    if PWR_COOL_flow.hit m || PWR_COOL_inlet.hit m then
      s.writeCoolant (s.after PWR_COOL_flow i j v m) (s.after PWR_COOL_inlet i j v m)
    else s
  | _ => p

/-- Whether a register is one that State.writeUnit writes. -/
def isUnitReg : RegId → Bool
  | .TL_CMD | .TL_SLOT_STATE | .TL_TAG_CTRL | .TIC_ACK | .TIC_EOI | .TIC_HOLD | .TL_LMON_CFG | .HBM_LMON_CFG
  | .MGT_LMON_CFG | .HBM_ILV_CTRL | .HBM_ILV_ENT | .LN_CTRL | .LN_FOM | .RTR_LINK_CTRL | .RTR_LINK_PWR | .RTR_VC_DEPTH
  | .RTR_PORT_ROLE | .RTR_HEFT_FAR1 | .CIC_HOLD | .CIC_EOI | .CIC_HOST_EOI => true
  | _ => false

/-- A write of the bits of `m` of copy `(i, j)` of a register, with all it does. -/
def State.writeReg (s : State) (r : RegId) (i j v m : Nat) : State :=
  if isUnitReg r then s.writeUnit r i j v m
  else if regsOfFld.contains r then s.writeFold r i j v m
  else s.writeNode r i j v m

/-- What a read does beside answering: the data windows of the tables and of the dump advance (R281, R304, R403). -/
def State.readEffect (s : State) (r : RegId) : State :=
  match r with
  | .RTR_TBL_DATA => s.tblNext
  | .BT_TBL_DATA => s.btNext
  | .FWU_DUMP_DATA => s.dumpNext
  | _ => s

/-! ### Accesses (R8, R14, R30 to R33) -/

/-- The outcome of an access: done with a value, refused under R8 or R30, or a target held in reset. -/
inductive RegAns where
  | done (v : Nat)
  | refused
  | resetting
  deriving DecidableEq, Repr

/-- The value mask of a 32-bit or 64-bit access at an offset. -/
def accessMask (off size : Nat) : Nat := if size = 8 then 2 ^ 64 - 1 else if off % 8 = 4 then (2 ^ 32 - 1) <<< 32 else 2 ^ 32 - 1

/-- Whether R8 allows an access. -/
def accessFits (off size : Nat) : Bool := (size == 4 || size == 8) && off % size == 0

/-- A write of a register. -/
def State.writeAccess (s : State) (off size data : Nat) : RegAns × State :=
  if !accessFits off size then (.refused, s)
  else
    match s.decodeReg (off / 8 * 8) with
    | none => (.refused, s)
    | some (r, i, j) =>
      if s.blockHeld r i then (.resetting, s)
      else (.done 0, s.writeReg r i j (if off % 8 = 4 then (data % 2 ^ 32) <<< 32 else data % 2 ^ 64) (accessMask off size))

/-- A read of a register. -/
def State.readAccess (s : State) (off size : Nat) : RegAns × State :=
  if !accessFits off size then (.refused, s)
  else
    match s.decodeReg (off / 8 * 8) with
    | none => (.refused, s)
    | some (r, i, j) =>
      if s.blockHeld r i then (.resetting, s)
      else
        let v := s.readReg r i j
        (.done (if size = 8 then v else if off % 8 = 4 then v >>> 32 else v % 2 ^ 32), s.readEffect r)

/-- The record of a refused access (R8, R30, R514). -/
def State.badAccess (s : State) (off size : Nat) (packet write : Bool) : State :=
  let v := off % 2 ^ 26 + natOfBool packet <<< 26 + natOfBool write <<< 27 + (if size < 16 then size else 0) <<< 28 + 1 <<< 63
  s.setReg .MGT_EVT_BADACC 0 0 v

/-- A register access of PCI Express: a write, or a read where there is no data (R8, R14, R30, R32). A read of a block
that is held in reset completes with all bits set to one. -/
def State.hostAccess (s : State) (off size : Nat) (data : Option Word64) : State :=
  let r := match data with
    | some d => s.writeAccess off size d.toNat
    | none => s.readAccess off size
  match r.1 with
  | .refused => (r.2.badAccess off size false data.isSome).emit (.unsupported off)
  | .resetting =>
    if data.isSome then r.2 else r.2.emit (.regRead off (BitVec.ofNat 64 (2 ^ (8 * size) - 1)))
  | .done v => if data.isSome then r.2 else r.2.emit (.regRead off (BitVec.ofNat 64 v))

/-- REGISTER_WRITE (R8, R9, R14, R30): a register access of PCI Express, which carries data where it writes. The table has no
row for a plain read, and this command carries it (log entry 100). In D3hot it is an Unsupported Request (R485), and without
main power nothing answers. -/
def execRegisterWrite (offset size : Nat) (data : Option Word64) (s : State) : Host.Outcome State Fault Refusal :=
  let off := offset % 2 ^ 26
  if !s.tray.good then .next s
  else if s.pcie.d3hot then .next (s.emit (.unsupported off)) else .next (s.hostAccess off size data)

/-- The answer to a management request for a register-space offset: the response and the state (R262). -/
def State.mgmtAccess (s : State) (off size : Nat) (write : Bool) (data : Nat) : RegAns × State :=
  let r := if write then s.writeAccess off size data else s.readAccess off size
  match r.1 with
  | .refused => (.refused, r.2.badAccess off size true write)
  | a => (a, r.2)

/-- MGMT_REQ (R262): a register access by management packet, answered by MGMT_RESP; an address outside register space, or an
operation other than read and write, is refused with cause 1. -/
def execMgmtReq (p : Packet) (s : State) : Host.Outcome State Fault Refusal :=
  let s := s.take p
  if p.status = 3 then .next s.dropMalformed
  else
  let a := p.word 2
  let size := p.word 4 % 16
  if s.refused28 0 p && !s.isOwn p.src then .next (s.sendNode (mgmtResp p 1 1 0))
  else if malformed a || gaSpace a != 2 || decide (1 < p.operation) then .next (s.sendNode (mgmtResp p 1 1 0))
  else
    let r := s.mgmtAccess (gaReg a) size (p.operation == 1) (p.word 3)
    match r.1 with
    | .done v => .next (r.2.sendNode (mgmtResp p 0 0 v))
    | .refused => .next (r.2.sendNode (mgmtResp p 1 1 0))
    | .resetting => .next (r.2.sendNode (mgmtResp p 1 3 0))

end Sys2Proof.Machine
end

