-- ==== Sys2Proof/Machine/Boot.lean ====
section
/-! DEFINITION. Bring-up: the steps of a cold boot, the structure image's elements, the settings, the known-answer tests, and
the end of a chip reset (R36, R404 to R419, R501, R507 to R509). -/
namespace Sys2Proof.Machine

def State.onBoot (s : State) (f : Boot → Boot) : State := { s with boot := f s.boot }

/-! ### Elements (R408, R411) -/

/-- The registers that an element is written to (R408). -/
def elementRegs (type : Nat) : List RegId :=
  match type with
  | 1 => [.RTR_NODE_ID, .RTR_HEFT_CTRL]
  | 2 => [.GI_CTRL, .GI_PAD_CFG, .GI_PAD_DOM, .RTR_WIN_BASE, .RTR_WIN_LIM]
  | 4 => [.PWR_TILE]
  | 5 => [.FUS_FP_TILE, .FUS_FP_UNIT]
  | 6 => [.RTR_PORT_ROLE, .RTR_LINK_MAP, .RTR_LINK_CTRL]
  | 7 => [.RTR_CTRL, .BT_PERIOD]
  | 8 => [.PWR_CAP, .PWR_CTRL, .PWR_FT_CFG, .PWR_THERM]
  | _ => []

/-- The event bit by which a register tells that its rule refused a write (R45, R209, R435). -/
def refusalBit : RegId → Option Fld
  | .GI_PAD_CFG => some GI_EVT_bad_config
  | .GI_PAD_DOM => some GI_CD_EVT_bad_dom
  | .PWR_CAP => some PWR_CAP_refused
  | _ => none

/-- A register write of an element; a refusal by the register's own rule sets si_element. -/
def State.guardedWrite (s : State) (r : RegId) (i j v m : Nat) : State :=
  match refusalBit r with
  | none => s.writeReg r i j v m
  | some f =>
    let q := (s.put f 0).writeReg r i j v m
    if q.fld f != 0 then (q.put f (q.fld f ||| s.fld f)).event FUS_EVT_si_element else q.put f (s.fld f)

/-- One register write of an element: of the fields that R408 and R453 name. The enable of a port waits for link
training; a lane map that is no permutation and a stack bit of the soft-disable map are refusals (R237, R411). The
partition map is written to the GI_ block, whose enable bit no other rule names a writer of (log entry 102). -/
def State.applyWrite (s : State) (type : Nat) (e : Nat × Word64) : State :=
  match s.decodeReg e.1 with
  | none => s
  | some (r, i, j) =>
    let v := e.2.toNat
    if !(elementRegs type).contains r then s
    else
      match r with
      | .RTR_NODE_ID => if bitAt v 16 then (s.writeNodeId (v % 65536)).put RTR_NODE_ID_source 1 else s
      | .FUS_FP_TILE => (s.setFld FUS_FP_TILE_si_off i 0 (natOfBool (bitAt v 7))).settleTile i
      | .FUS_FP_UNIT =>
        if i < 12 then (if bitAt v 2 then s.event FUS_EVT_si_element else s)
        else (s.setFld FUS_FP_UNIT_si_off i 0 (natOfBool (bitAt v 2))).settleUnit i
      | .RTR_LINK_CTRL =>
        let s := s.plainWrite r i j v (2 ^ 2 + 2 ^ 3)
        if bitAt v 0 then s.onBoot fun b => { b with ports := b.ports ++ [i] } else s
      | .RTR_LINK_MAP =>
        let s := s.writeReg r i j v (2 ^ 64 - 1)
        if s.mapIsPermutation i then s else s.event FUS_EVT_si_element
      | .RTR_HEFT_CTRL => s.writeReg r i j v (2 ^ 56 - 1 - 2 ^ 0 - 255 * 2 ^ 8)
      | .RTR_CTRL => s.writeReg r i j v 1
      | .GI_CTRL => s.plainWrite r i j v (2 ^ 64 - 1 - 2)
      | .BT_PERIOD => s.put BT_PERIOD_period_ns (v % 65536)
      | .PWR_CAP => s.guardedWrite r i j v (2 ^ 12 - 1)
      | .PWR_CTRL => s.writeReg r i j v 3
      | .PWR_FT_CFG => s.writeReg r i j v (2 ^ 7 - 1)
      | _ => s.guardedWrite r i j v (2 ^ 64 - 1)

/-- An element of the image in use applied. -/
def State.applyElement (s : State) (type : Nat) : State :=
  (elementOf s.siInUse type).foldl (fun s e => s.applyWrite type e) s

/-- The lock bits of the blocks that the image was written to (R411). -/
def State.lockBlocks (s : State) : State := ((s.put GI_CTRL_lock 1).put RTR_CTRL_lock 1).put PWR_CTRL_lock 1

/-- The lock bits of the ports, set once their enable bits are written (R249). -/
def State.lockPorts (s : State) : State := (List.range 8).foldl (fun s k => s.setFld RTR_LINK_CTRL_lock k 0 1) s

/-- The recovery-only structure of R410, beyond the reset values it shares. -/
def State.applyRom (s : State) : State :=
  let s := s.onBoot fun b => { b with ports := List.range 8, ilv := [] }
  (s.put BT_PERIOD_period_ns 8000).writeCap PWR_CAP_cap_host 60

/-- The power limits' module defaults (R408, R454). -/
def State.defaultLimits (s : State) : State :=
  (((s.writeMode 0).put PWR_FT_CFG_brake_pct 50).put PWR_THERM_target 95).writeCap PWR_CAP_cap_host (s.fuse.sustainedW / 10)

/-- The partition map, the soft-disable bits, the windows and the power limits as after reset, before an image's own are
written. -/
def State.clearStructure (s : State) : State :=
  let s := s.defaultLimits
  let s := (List.range 8).foldl (fun s p =>
    (s.setReg .GI_PAD_CFG p 0 (regReset s.fuse .GI_PAD_CFG p 0)).setReg .GI_PAD_DOM p 0 (regReset s.fuse .GI_PAD_DOM p 0)) s
  let s := (List.range 64).foldl (fun s w => (s.setReg .RTR_WIN_BASE w 0 0).setReg .RTR_WIN_LIM w 0 0) s
  let s := (List.range 144).foldl (fun s t => (s.setFld FUS_FP_TILE_si_off t 0 0).settleTile t) s
  (List.range' 12 12).foldl (fun s u => (s.setFld FUS_FP_UNIT_si_off u 0 0).settleUnit u) s

/-- The elements that a structure reload rewrites (R413). -/
def State.reapply (s : State) : State :=
  let s := s.clearStructure
  ([5, 2, 4, 8].foldl (fun s t => s.applyElement t) s).lockBlocks

/-! ### Settings (R507) -/

/-- The registers that setting 0x0006 names. -/
def State.writeSource (s : State) (e : Nat × Word64) : State :=
  match locateIn e.1 regsOfCic with
  | some (.CIC_CTRL, i, j) => s.writeReg .CIC_CTRL i j e.2.toNat (2 ^ 64 - 1)
  | some (.CIC_SRC, i, j) => s.writeReg .CIC_SRC i j e.2.toNat (2 ^ 64 - 1)
  | _ => s

/-- A setting applied. -/
def State.applySetting (s : State) (id : Nat) (v : Word64) : State :=
  match id with
  | 1 => s.writeReg .FWU_DUMP_CTRL 0 0 v.toNat (2 ^ 15 - 1)
  | 2 => s.writeReg .MGT_WATCH_WIN0 0 0 v.toNat (2 ^ 64 - 1)
  | 3 => s.writeReg .MGT_WATCH_WIN1 0 0 v.toNat (2 ^ 64 - 1)
  | 4 => s.writeReg .MGT_WATCH_ACT 0 0 v.toNat (2 ^ 64 - 1)
  | 5 => s.writeReg .PWR_CTRL 0 0 v.toNat 3
  | 6 => (Config.sourceSetting v).foldl (fun s e => s.writeSource e) s
  | _ => s

/-- The settings applied after the structure image. -/
def State.applySettings (s : State) : State :=
  match s.settingsSlot with
  | none => s
  | some _ =>
    let s := s.checkSettings
    s.stored.values.foldl (fun s e => s.applySetting e.1 e.2) s

/-! ### Steps 1 to 3 of R404 -/

/-- ROM recovery mode (R508): the boot ROM serves both bindings, and the MCTP target requests its address. -/
def State.enterRecovery (s : State) : State :=
  ((s.onBoot fun b => { b with recovery := true }).put MGT_ROT_STAT_recovery 1).hotJoin

/-- The boot ROM: fuses are sensed, and the RCVR strap decides. -/
def State.bootRom (s : State) : State :=
  let f := s.fuse
  let s := ((s.put MGT_SERIAL_serial f.serial.toNat).put MGT_ROT_STAT_svn_count f.svn).put MGT_ROT_STAT_revoked f.revoked
  let s := (s.measure 0 Config.romDigest).measure 5 f.measure
  let s := s.put MGT_ROT_STAT_rcvr_strap (natOfBool s.tray.rcvr)
  let s := s.onBoot fun b => { b with step := 2 }
  if s.tray.rcvr then s.enterRecovery else s

/-- Management firmware is chosen, verified and started, or recovery mode entered (R501). -/
def State.bootFirmware (s : State) : State :=
  match s.bootSlot 1 with
  | none => (s.noteSlots 1 none).enterRecovery
  | some k =>
    let s := (s.noteSlots 1 (some k)).measure 1 (measOf (fwDigest (s.fwSlot 1 k)))
    (s.onBoot fun b => { b with step := 3 }).hotJoin

/-- Both structure images are checked and one is selected (R409, R410). -/
def State.bootImage (s : State) : State :=
  let r := s.siSelect
  let s := s.noteSelect r (if r.2.2 = 0 then 3 else r.2.2)
  let s := if r.2.2 = 0 then (s.event FUS_EVT_si_rom).measure 4 0
    else
      let b := s.siCopy (r.2.2 - 1)
      (s.measure 4 (measOf (siDigest b))).advanceSvn (siSvn b)
  s.onBoot fun b => { b with step := 4 }

/-! ### Step 4: the fuse map and the floor plan (R34 to R42, R414) -/

/-- The capability table's fields that come from fuses, and its fixed ones. -/
def State.loadCaps (s : State) : State :=
  let f := s.fuse
  let id := 1 + f.variant <<< 16 + f.stepping <<< 24
  let compute := 144 + f.tilesGrade <<< 8 + 18 <<< 24 + 8 <<< 32 + 32 <<< 40 + (f.tilesGrade * 32) <<< 48
  let memory := 12 + f.stacks <<< 8 + (48 * f.stacks) <<< 16 + 6 <<< 32 + 256 <<< 40 + 64 <<< 56
  let fabric := 8 + 8 <<< 4 + 1024 <<< 8 + 8 <<< 24 + 4096 <<< 32 + 65535 <<< 48
  let power := f.sustainedW + f.burstW <<< 16 + 120 <<< 32 + 48 <<< 40 + 136 <<< 48
  let s := ((s.setReg .MGT_CAP_ID 0 0 id).setReg .MGT_CAP_COMPUTE 0 0 compute).setReg .MGT_CAP_MEMORY 0 0 memory
  let s := ((s.setReg .MGT_CAP_FABRIC 0 0 fabric).setReg .MGT_CAP_FORMATS 0 0 0x7FFF).setReg .MGT_CAP_POWER 0 0 power
  s.setReg .MGT_CAP_FOLD 0 0 (4 + 16384 <<< 8 + 512 <<< 24)

/-- The floor-plan entry of a tile from its fuses; fmax_now is restored from the persistent record (R432). -/
def State.loadTile (s : State) (t : Nat) : State :=
  let on := !s.fuse.tilesOff.contains t
  let fused := if on then agetD s.fuse.fmax t 136 else 0
  let v := natOfBool on + natOfBool on <<< 10 + fused <<< 11 + (min fused (agetD s.flash.kept.fmax t fused)) <<< 19
  (s.setReg .FUS_FP_TILE t 0 v).onTile t fun x => { x with inReset := [.sequencer, .matrix, .vector, .dma] }

/-- Whether a floor-plan unit's fuse is on. -/
def FuseRecord.unitOn (f : FuseRecord) (u : Nat) : Bool :=
  if u < 12 then !f.stacksOff.contains u else if u < 20 then !f.portsOff.contains (u - 12) else !f.foldsOff.contains (u - 20)

/-- The fuse map is loaded, the floor plan written, and the fabric-die elements of the image applied; the settings follow
(R404, R411, R507). Tiles stay held in reset until their microcode is loaded. -/
def State.bootFuses (s : State) : State :=
  let s := s.loadCaps.onMgmt fun m => { m with powered := s.flash.kept.powered }
  let s := (List.range 144).foldl (fun s t => s.loadTile t) s
  let s := (List.range 24).foldl (fun s u =>
    (s.setFld FUS_FP_UNIT_fused_on u 0 (natOfBool (s.fuse.unitOn u))).settleUnit u) s
  let s := s.put FUS_STAT_fuses_loaded 1
  let s := if s.fld FUS_SI_STAT_source = 3 then s.applyRom
    else
      let s := s.onBoot fun b => { b with ilv := elementOf s.siInUse 3 }
      [5, 1, 2, 4, 6, 7, 8].foldl (fun s t => s.applyElement t) s
  s.lockBlocks.applySettings.onBoot fun b => { b with step := 5 }

/-! ### Known-answer tests (R415 to R419) -/

/-- A unit that is enabled again (R417): its tests decide. -/
def State.reEnable (s : State) (e : Nat × Nat) : State :=
  match e.1 with
  | 0 => s.setFld FUS_FP_TILE_rt_off e.2 0 0
  | 1 => (s.setFld FUS_FP_UNIT_rt_off (portUnit e.2) 0 0).setFld RTR_LINK_STAT_pstate e.2 0 0
  | _ => s.setFld FUS_FP_UNIT_rt_off (foldUnit e.2) 0 0

/-- The result of a tile's tests, with the mask of the parts that failed. -/
def State.testTile (s : State) (fails : List (Nat × Nat)) (t : Nat) : State :=
  let m := match fails.find? fun e => e.1 == t with
    | some e => e.2 % 32
    | none => 0
  let s := (s.setFld FUS_FP_TILE_kat_fail t 0 (natOfBool (m != 0))).setFld FUS_FP_TILE_kat_mask t 0 m
  s.settleTile t

/-- The result of the test of a port or fold unit; in a chip reset the ports that are not in OFF keep their links and their
result (R413). -/
def State.testUnit (s : State) (fails : List Nat) (u : Nat) : State :=
  if s.chipReset && decide (u < 20) && s.tstate (u - 12) != tsOff then s
  else (s.setFld FUS_FP_UNIT_test_fail u 0 (natOfBool (fails.contains u))).settleUnit u

/-- The tiles that count as usable in the capability table (R36, R415). -/
def State.countUsable (s : State) : Nat :=
  ((List.range 144).filter fun t => s.flag FUS_FP_TILE_fused_on t && !s.flag FUS_FP_TILE_kat_fail t
    && !s.flag FUS_FP_TILE_si_off t && !s.flag FUS_FP_TILE_rt_off t).length

/-- The results of the tests in the floor plan and the capability table, which becomes valid where its other fields are
loaded (R36). -/
def State.recordTests (s : State) (tiles : List (Nat × Nat)) (units : List Nat) (loaded : Bool) : State :=
  let s := s.boot.enable.foldl (fun s e => s.reEnable e) s
  let s := s.onBoot fun b => { b with enable := [] }
  let s := (List.range 144).foldl (fun s t => s.testTile tiles t) s
  let s := (List.range' 12 12).foldl (fun s u => s.testUnit units u) s
  let bad := ((List.range 144).filter fun t => s.flag FUS_FP_TILE_fused_on t && s.flag FUS_FP_TILE_kat_fail t).length
  let s := s.put FUS_STAT_kat_fail_tiles bad
  let badUnit := (List.range' 12 12).any fun u => s.flag FUS_FP_UNIT_fused_on u && s.flag FUS_FP_UNIT_test_fail u
  let s := if bad = 0 && !badUnit then s else s.event FUS_EVT_kat_disagree
  let n := s.countUsable
  let low := decide (n < s.fld MGT_CAP_COMPUTE_tiles_grade)
  let s := (s.put MGT_CAP_COMPUTE_tiles_usable n).put MGT_CAP_ID_below_grade (natOfBool low)
  let s := if low then s.event FUS_EVT_below_grade else s
  (s.put FUS_STAT_kat_done 1).put MGT_CAP_ID_valid (natOfBool loaded)

/-- The known-answer tests of the boot end: the fold engine is enabled where a unit is usable (R419), and microcode is
next. -/
def State.endBootTests (s : State) : State :=
  let folds := (List.range 4).any fun k => s.flag FUS_FP_UNIT_usable (foldUnit k)
  let s := if folds && s.fld FUS_SI_STAT_source != 3 && !s.flag FLD_CTRL_lock then s.put FLD_CTRL_enable 1 else s
  s.onBoot fun b => { b with step := 7 }

/-- KAT_DONE (R36, R404, R406, R415, R418, R419): the tests of a boot or chip reset end. `tiles` holds each failing tile
with its kat_mask, and `units` the floor-plan units of the failing ports and fold units. The tests of a chip reset
during the training or the tests of a boot are the boot's own, and those of one before the fuse map is loaded leave the
table not valid. -/
def execKatDone (tiles : List (Nat × Nat)) (units : List Nat) (s : State) : Host.Outcome State Fault Refusal :=
  if s.chipReset then
    if !s.trainingEnded || s.flag FUS_STAT_kat_done then .next s
    else
      let s := if s.recovery.reload.isSome then s.reapply else s
      let s := s.recordTests tiles units (decide (5 ≤ s.boot.step) && !s.boot.recovery)
      .next (if !s.boot.recovery && (s.boot.step = 5 || s.boot.step = 6) then s.endBootTests else s)
  else if s.boot.step = 6 && !s.boot.recovery then .next (s.recordTests tiles units true).endBootTests
  else .next s

/-! ### Microcode, links and the end of the boot -/

/-- Microcode is loaded from flash into every usable tile (R404, R405, R501, R502), and the tiles leave reset. -/
def State.bootMicrocode (s : State) (failed : List Nat) : State :=
  match s.bootSlot 2 with
  | none => (((s.noteSlots 2 none).usableTiles.foldl (fun s t => s.musterFail t) (s.noteSlots 2 none)).event
      FUS_EVT_below_grade).put MGT_CAP_ID_below_grade 1
  | some k =>
    let b := s.fwSlot 2 k
    let all := !(s.usableTiles.any fun t => failed.contains t)
    let s := (s.noteSlots 2 (some k)).measure 2 (measOf (fwDigest b))
    let s := s.loadMicrocode failed
    let s := if all then s.advanceSvn (fwSvn b) else s
    s.usableTiles.foldl (fun s t => s.freeTile t) s

/-- The ports of the image are enabled and start to train (R404, R419, R501). -/
def State.bootLinks (s : State) : State :=
  match s.bootSlot 3 with
  | none => s.noteSlots 3 none
  | some k =>
    let s := (s.noteSlots 3 (some k)).measure 3 (measOf (fwDigest (s.fwSlot 3 k)))
    (s.boot.ports.filter fun p => s.portFree p && !s.flag RTR_LINK_CTRL_lock p).foldl (fun s p =>
      ((s.setFld RTR_LINK_CTRL_enable p 0 1).tryDetect p (s.freeVal % 16)).spend) s

/-- BOOT_STEP_DONE (R404, R405): the boot step in progress ends and the next one starts; `failed` names the tiles whose
microcode load failed its CRC three times. The known-answer tests end with KAT_DONE, and HBM training with its last
stack. -/
def execBootStepDone (failed : List Nat) (s : State) : Host.Outcome State Fault Refusal :=
  if s.boot.recovery || !s.tray.good then .next s
  else
    match s.boot.step with
    | 1 => .next s.bootRom
    | 2 => .next s.bootFirmware
    | 3 => .next s.bootImage
    | 4 => .next s.bootFuses
    | 5 => .next (if s.trainingEnded then s.onBoot fun b => { b with step := 6 } else s)
    | 7 => .next ((s.bootMicrocode failed).bootLinks.lockPorts.onBoot fun b => { b with step := 8 })
    | 8 => .next (s.onBoot fun b => { b with step := 9 })
    | 9 => .next (s.onBoot fun b => { b with step := 10 })
    | 10 => .next (s.onBoot fun b => { b with step := 11 })
    | _ => .next s

/-! ### The end of a chip reset (R386, R389, R406, R413) -/

/-- CHIP_RESET_DONE (R36, R386, R387, R389, R406): training, tests and microcode load have ended, and the compute dies leave
reset; every HBM region waits to be zeroed. After an accepted power-cycle request they stay in reset (R495). -/
def execChipResetDone (failed : List Nat) (s : State) : Host.Outcome State Fault Refusal :=
  if !s.chipReset || !s.flag FUS_STAT_kat_done || s.recovery.pcSent || s.recovery.pcWaits || s.flag MGT_RST_STAT_stuck then
    .next s
  else
    let s := s.bootMicrocode failed
    let s := { s with chipReset := false }
    let s := s.usableTiles.foldl (fun s t => s.freeTile t) s
    let s := s.onRec fun r => { r with zero := [(0, s.hbmCap / 2 ^ 20)], reload := none }
    let s := match s.runningReset levelChip 0 with
      | some j => s.sendPeerState 2 levelChip 0 j.beat j.t
      | none => s
    .next ((s.finishReset levelChip 0).onPower fun p => { p with upAt := s.now })

end Sys2Proof.Machine
end

