-- ==== Sys2Proof/Machine/Directed.lean ====
section
/-! DEFINITION. Directed requests and responses (R344 to R346). -/
namespace Sys2Proof.Machine

-- The fields of a directed packet (R344), whose word 0 is word 2 of the packet.
def dqHops (p : Packet) : Nat := bitsOf (p.word 2) 7 3
def dqIdx (p : Packet) : Nat := bitsOf (p.word 2) 12 8
def dqOrigin (p : Packet) : Nat := bitsOf (p.word 2) 28 13
def dqWrite (p : Packet) : Bool := bitAt (p.word 2) 29
/-- The output port taken at hop `i`. -/
def dqPath (p : Packet) (i : Nat) : Nat := bitsOf (p.word 3 + (bitsOf (p.word 4) 28 0) <<< 64) (3 * i + 2) (3 * i)
/-- The 96-bit field of arrival ports. -/
def dqRet (p : Packet) : Nat := bitsOf (p.word 4) 63 32 + (p.word 5) <<< 32
/-- The arrival port at node `i`. -/
def dqBack (p : Packet) (i : Nat) : Nat := bitsOf (dqRet p) (3 * i + 2) (3 * i)

/-- A directed packet with other words 0, arrival ports and data, as this node sends it: dst and the reserved bits are zero
(R341, R344). -/
def dqWith (p : Packet) (w0 ret data : Nat) : Packet :=
  { Packet.blank with
    vc := 6, type := tHEFT, partition := p.partition, sequence := p.sequence,
    body := [BitVec.ofNat 64 (w0 % 2 ^ 50), BitVec.ofNat 64 (p.word 3),
      BitVec.ofNat 64 (bitsOf (p.word 4) 28 0 + (ret % 2 ^ 32) <<< 32), BitVec.ofNat 64 (ret >>> 32),
      BitVec.ofNat 64 (p.word 6), BitVec.ofNat 64 data] }

/-- Whether a port is AGREED (R342). -/
def State.agreed (s : State) (k : Nat) : Bool := decide (k < 8) && s.fld RTR_HEFT_FAR1_state k == 2

/-- Whether a port may enter directed requests (R345). -/
def State.fmPort (s : State) (k : Nat) : Bool := bitAt (s.fld RTR_HEFT_CTRL_fm_ports) k

/-- A response at node `i`, sent by the port the request arrived on; one that finds its port not AGREED is discarded, at
node 0 too (R346). -/
def State.sendBack (s : State) (p : Packet) : State :=
  let i := dqIdx p
  let k := dqBack p i
  if s.agreed k then s.sendOnPort k (dqWith p (withBits (p.word 2) 12 8 (i - 1)) (dqRet p) (p.word 7))
  else s

/-- The response to a request, with its result and data. -/
def dqResponse (p : Packet) (result data : Nat) : Packet :=
  dqWith p (withBits (withBits (p.word 2) 2 0 2) 33 30 result) (dqRet p) data

/-- The request as it stands after the entry node stamped it (R345). -/
def State.dqStamp (s : State) (p : Packet) : Packet :=
  dqWith p (withBits (withBits (p.word 2) 28 13 s.node) 12 8 0) (dqRet p) (p.word 7)

/-- A request at a node (R346): its arrival port is recorded, and it goes on, is performed, or is answered. -/
def State.dqAdvance (s : State) (port : Nat) (p : Packet) : State :=
  let i := dqIdx p
  let p := dqWith p (p.word 2) (withBits (dqRet p) (3 * i + 2) (3 * i) port) (p.word 7)
  if i < dqHops p then
    let k := dqPath p i
    if k = port || !s.agreed k then (s.event RTR_HEFT_EVT_directed_undeliverable).sendBack (dqResponse p 3 0)
    else s.sendOnPort k (dqWith p (withBits (p.word 2) 12 8 (i + 1)) (dqRet p) (p.word 7))
  else if i = dqHops p && dqOrigin p = s.fld RTR_HEFT_CTRL_fm_node then
    let r := s.mgmtAccess (gaReg (p.word 6)) 8 (dqWrite p) (p.word 7)
    match r.1 with
    | .done v => r.2.sendBack (dqResponse p 0 v)
    | .refused => r.2.sendBack (dqResponse p 1 0)
    | .resetting => r.2.sendBack (dqResponse p 2 0)
  else s.event RTR_HEFT_EVT_directed_refused

/-- DIRECTED_REQUEST (R345, R346): a request arrives on an external port. -/
def execDirectedRequest (port : Nat) (p : Packet) (s : State) : Host.Outcome State Fault Refusal :=
  let s := s.take p
  if p.status = 3 then .next (s.countMalformed port)
  else
  if 8 ≤ port then .next s
  else if s.fld RTR_PORT_ROLE_role port = 7 then
    if s.fmPort port && s.flag RTR_NODE_ID_valid && s.node == s.fld RTR_HEFT_CTRL_fm_node then
      .next (s.dqAdvance port (s.dqStamp p))
    else
      let s := if s.agreed port || s.fmPort port then s else s.satCount RTR_HEFT_FAR1_blocked port
      .next (s.event RTR_HEFT_EVT_directed_refused)
  else if !s.agreed port then .next (s.satCount RTR_HEFT_FAR1_blocked port)
  else .next (s.dqAdvance port p)

/-- DIRECTED_RESPONSE (R343, R346): a response on its way back, whatever the state of the port it came on. -/
def execDirectedResponse (port : Nat) (p : Packet) (s : State) : Host.Outcome State Fault Refusal :=
  let s := s.take p
  if p.status = 3 then .next (s.countMalformed port)
  else
  if port < 8 then .next (s.sendBack p) else .next s

end Sys2Proof.Machine
end

