-- ==== Sys2Proof/Machine/Mem.lean ====
section
/-! DEFINITION. Scalar loads and stores, the store buffer, the store-release, and cache misses (R94, R97, R153, R154,
R173, R177). -/
namespace Sys2Proof.Machine

/-- Whether decoding takes an LD or ST word (R153). -/
def memLegal (w : Nat) : Bool := decide (iSz w < 4) && bitsOf (iSubM w) 2 1 == 0

/-- An S-level load of a register of the own tile's block (R153); one held in reset answers all ones (R14). -/
def State.loadReg (s : State) (t w off : Nat) : State :=
  let r := s.readAccess off 8
  let v := match r.1 with
    | .done v => v
    | _ => 2 ^ 64 - 1
  r.2.retire t fun x => x.setG (iF1 w) v

/-- A load that has its bytes: the buffered stores over them (R154). -/
def State.endLoad (s : State) (t w key : Nat) (bs : List Byte) : State :=
  s.retire t fun x =>
    { (x.setG (iF1 w) (loadValue (memSize w) (bitAt (iSubM w) 0) (overlayAll key bs x.stores))) with wait := none }

/-- A load at a target that passed its checks: the store buffer, the scratchpad or the data cache; a miss waits for its
line. -/
def State.load (s : State) (t w : Nat) (tg : Target) : State :=
  let x := s.tile t
  let n := memSize w
  let key := tg.key t
  match tg with
  | .fault c => s.faultHere t c (memAddr x w)
  | .reg off => s.loadReg t w off
  | .spad off =>
    if allBuffered key n x.stores then s.endLoad t w key (List.replicate n 0)
    else
      let r := s.spadRead t off n
      if r.1 then r.2.ownFault t 0x09 x.pc.toNat else r.2.endLoad t w key (r.2.bytes key n)
  | .hbm off =>
    if allBuffered key n x.stores then s.endLoad t w key (List.replicate n 0)
    else
      let r := s.dRead t (off / 64) (rangeMask (off % 64) n)
      match r.1 with
      | .hit _ => r.2.endLoad t w key ((r.2.tile t).cachedBytes off n)
      | .error => r.2.ownFault t 0x09 x.pc.toNat
      | .miss => ((r.2.tally t 0x005).waitHere t .load w []).requestRead t (off / 64)

/-- LD (R153). -/
def execLd (tile : Nat) (s : State) : Host.Outcome State Fault Refusal :=
  .next (s.issue tile (hasOp 0x10) memLegal (fun w => ⟨[iF1 w, iF2 w], []⟩) fun s w =>
    s.load tile w (s.target tile (memAddr (s.tile tile) w) (memSize w) (memSize w) true))

/-- The room of the store buffer (R154). -/
def storeRoom : Nat := 8

/-- A store at a target that passed its checks: it enters the store buffer, or writes the register. -/
def State.storeAt (s : State) (t w : Nat) (tg : Target) : State :=
  let x := s.tile t
  let v := x.gr (iF1 w)
  match tg with
  | .fault c => s.faultHere t c (memAddr x w)
  | .reg off => ((s.writeAccess off 8 v).2).retire t id
  | _ =>
    if storeRoom ≤ x.stores.length then s
    else s.retire t fun x => { x with stores := x.stores ++ [⟨tg.key t, memSize w, v, x.pc.toNat⟩] }

/-- ST (R153, R154): with the store buffer full it waits. -/
def execSt (tile : Nat) (s : State) : Host.Outcome State Fault Refusal :=
  .next (s.issue tile (hasOp 0x11) memLegal (fun w => ⟨[iF1 w, iF2 w], []⟩) fun s w =>
    s.storeAt tile w (s.target tile (memAddr (s.tile tile) w) (memSize w) (memSize w) true))

/-- Where a buffered store goes. -/
def BufStore.target (b : BufStore) : Target := if b.addr < 2 ^ 46 then .hbm b.addr else .spad (b.addr % 2 ^ 23)

/-- STORE_PERFORMED (R93, R154): the oldest buffered store is performed; a part of a word with a double-bit error is not
written, and faults the task. -/
def execStorePerformed (tile : Nat) (s : State) : Host.Outcome State Fault Refusal :=
  let x := s.tile tile
  match x.stores with
  | [] => .next s
  | b :: bs =>
    if decide (144 ≤ tile) || s.tileHeld tile || s.parked then .next s
    else
      let s := s.setTile tile { x with stores := bs }
      let r := s.engineWrite tile b.target (bytesOf b.size b.data)
      .next (if r.1 != 0 then r.2.ownFault tile r.1 b.pc else r.2)

/-- STR (R173): checked at issue; it completes once its release does. -/
def execStr (tile : Nat) (s : State) : Host.Outcome State Fault Refusal :=
  .next (s.issue tile (hasOp 0x13) ldaLegal (fun w => ⟨[iF1 w, iF2 w], []⟩) fun s w =>
    let x := s.tile tile
    let a := memAddr x w
    match s.target tile a (memSize w) (memSize w) false with
    | .fault c => s.faultHere tile c a
    | _ =>
      let puts := x.relPuts (iSubM w)
      let s := s.waitHere tile .str w puts
      if x.relReady puts then s.strStore tile w else s)

/-- The line of a load miss fetched and the load completed (R94, R197); its read-return buffer is free again (R219). A
write-back of the same line that HBM refused faults the task in RUN (R96). -/
def State.fillLoad (s : State) (t w off : Nat) : State :=
  let x := s.tile t
  let f := (s.answerRead t).dFill t (off / 64)
  let s := if f.2.1 then f.2.2.writeBackFault t else f.2.2
  if (s.tile t).wait.isNone then s
  else if f.1 then (s.onTile t fun x => { x with wait := none }).ownFault t 0x09 x.pc.toNat
  else
    let s := s.useLine t (off / 64)
    s.endLoad t w (hbmKey off) ((s.tile t).cachedBytes off (memSize w))

/-- Whether a tile has an instruction stream whose PC misses the instruction cache. -/
def State.fetchMisses (s : State) (t : Nat) : Bool :=
  let x := s.tile t
  s.seqActive t && decide (x.pc.toNat < s.hbmCap) && (x.fetch x.pc.toNat).isNone

/-- The line at the PC fetched into the instruction cache (R97); HBM that is not in service or holds an uncorrectable error
there faults the fetch (R177, R216). -/
def State.fillFetch (s : State) (t : Nat) : State :=
  let pc := (s.tile t).pc.toNat
  let s := s.tally t 0x004
  if !s.hbmOn then s.preciseFault t 0x03 pc (hbmAddr s.selfId pc) unitFetch
  else
    let r := s.iFill t (pc / 64)
    if r.1 then r.2.preciseFault t 0x0B pc 0 unitFetch else r.2

/-- LOAD_MISS_FILL (R94, R97): the data-cache miss that the sequencer waits for is filled and the load completes; with none,
the instruction-cache miss at the PC is filled. A miss that has no read-return buffer waits on (R219). -/
def execLoadMissFill (tile : Nat) (s : State) : Host.Outcome State Fault Refusal :=
  match s.waiting tile with
  | some ⟨.load, w, _, _⟩ =>
    if s.readWaits tile then .next s
    else
    match s.target tile (memAddr (s.tile tile) w) (memSize w) (memSize w) true with
    | .hbm off => .next (s.fillLoad tile w off)
    | tg => .next (s.load tile w tg)
  | _ =>
    if s.fetchMisses tile && s.bufferFits ((s.tile tile).pc.toNat / 64 * 64) 64 then .next (s.fillFetch tile) else .next s

end Sys2Proof.Machine
end

