-- ==== Sys2Proof/Machine/Update.lean ====
section
/-! DEFINITION. The PLDM firmware update, and the activation of components (R497 to R508, R512). -/
namespace Sys2Proof.Machine

/-! ### The agent and its replies (R500) -/

/-- Whether management firmware, or the boot ROM in recovery mode, serves MCTP (R503, R508, R512). -/
def State.mgmtUp (s : State) : Bool :=
  s.tray.good && s.mgmt.update.proving.isNone && (decide (3 ≤ s.boot.step) || s.boot.recovery)

/-- A PLDM message sent on a binding. -/
def State.pldm (s : State) (b : Nat) (m : PldmMsg) : State := s.emit (.pldm b m)

/-- The answer to a PLDM request. -/
def State.answer (s : State) (b : Nat) (op : PldmOp) (c : PldmCode) : State := s.pldm b (.answer op c)

/-- The oldest assembled message of a binding taken: a command that an MCTP message carries is that message. -/
def takeFirst (b : Nat) : List (Nat × Nat × Nat × List Byte) → List (Nat × Nat × Nat × List Byte)
  | [] => []
  | m :: ms => if m.1 = b then ms else m :: takeFirst b ms

def State.takeMsg (s : State) (b : Nat) : State := s.onMgmt fun m => { m with inbox := takeFirst b m.inbox }

/-- The agent that sends the command in progress: the binding, and the requester of its oldest message. -/
def State.asker (s : State) (b : Nat) : Nat × Nat :=
  match s.mgmt.inbox.find? fun e => e.1 == b with
  | some e => (b, e.2.1)
  | none => (b, 0)

/-- Whether an agent holds update mode. -/
def State.holds (s : State) (a : Nat × Nat) : Bool := s.mgmt.update.agent == some a

/-- A message sent to the agent that holds update mode. -/
def State.toAgent (s : State) (m : PldmMsg) : State :=
  match s.mgmt.update.agent with
  | some a => s.pldm a.1 m
  | none => s

/-- FWU_STAT.state. -/
def State.updState (s : State) : Nat := s.fld FWU_STAT_state

/-- Whether the module serves a binding: PCI Express, or I3C once its MCTP target has a dynamic address (R524). -/
def State.serves (s : State) (b : Nat) : Bool := s.mgmtUp && (b == 0 || (b == 1 && s.mgmt.i3c.1 != 0))

/-- A served request on one of the two bindings: the message is taken, and the request acts. -/
def State.served (s : State) (b : Nat) (f : State → State) : State := if s.serves b then f (s.takeMsg b) else s

/-- The identity of the PCI Express function (R484). -/
def State.pcieIdentity (s : State) : PcieIdentity where
  vendor := Config.vendorId.toNat
  device := if s.fuse.variant = 0x0C then 0x4812 else if s.fuse.variant = 0x0A then 0x4810 else 0x4808
  class_ := 0x120000
  revision := s.fuse.stepping

/-- QUERY_DEVICE_IDENTIFIERS (R484, R500). -/
def execQueryDeviceIdentifiers (binding : Nat) (s : State) : Host.Outcome State Fault Refusal :=
  .next (s.served binding fun s => s.pldm binding (.identifiers s.pcieIdentity))

/-- The classification and identifier of a component (R500): firmware, and configuration software for component 4. -/
def compRef (c : Nat) : Nat × Nat := (if c = 4 then 0x0003 else 0x000A, c)

/-- The version of a component that was applied and waits for activation. -/
def State.appliedVersion (s : State) (c : Nat) : Nat :=
  match s.mgmt.update.applied.find? fun e => e.1 == c with
  | some e => fwVersion (s.container c e.2)
  | none => 0

/-- GET_FIRMWARE_PARAMETERS (R500). -/
def execGetFirmwareParameters (binding : Nat) (s : State) : Host.Outcome State Fault Refusal :=
  .next (s.served binding fun s =>
    s.pldm binding (.parameters ([1, 2, 3, 4].map fun c => (compRef c, s.runningVersion c, s.appliedVersion c))))

/-- REQUEST_UPDATE (R500): one agent holds update mode at a time. -/
def execRequestUpdate (binding mts : Nat) (s : State) : Host.Outcome State Fault Refusal :=
  let a := s.asker binding
  .next (s.served binding fun s =>
    if s.mgmt.update.agent.isSome || s.updState != 0 then s.answer binding .requestUpdate .alreadyInUpdateMode
    else
      let s := (s.put FWU_STAT_state 1).put FWU_STAT_agent binding
      let s := s.onUpdate fun u => { u with agent := some a, mts := mts }
      s.answer binding .requestUpdate .success)

/-- Whether a component, as classification and identifier, may be updated: 1 to 4, and only 1 and 4 in recovery mode (R500,
R508). -/
def State.mayUpdate (s : State) (c : Nat × Nat) : Bool :=
  c == compRef c.2 && (if s.boot.recovery then c.2 == 1 || c.2 == 4 else decide (1 ≤ c.2) && decide (c.2 ≤ 4))

/-- PASS_COMPONENT_TABLE (R500): one row of the table. -/
def execPassComponentTable (binding : Nat) (component : Nat × Nat) (s : State) : Host.Outcome State Fault Refusal :=
  let a := s.asker binding
  .next (s.served binding fun s =>
    s.answer binding .passComponentTable
      (if s.holds a && s.updState == 1 && s.mayUpdate component then .success else .refused))

/-! ### Transfer (R497, R498) -/

/-- The size of a component's flash slot (R489). -/
def slotBytes (c : Nat) : Nat := if c = 1 then 33554432 else if c = 4 then 1048576 else 4194304

/-- A slot that fails its checks, A where both or none does; and the one that recovery mode writes (R508). -/
def State.failingSlot (s : State) (c : Nat) : Nat :=
  let good := fun k => if c = 4 then s.fuse.siCause (s.siCopy k) == 0 else s.slotGood c k
  if good 0 && !good 1 then 1 else 0

/-- The slot that an update writes: the one not in use (R500), and in recovery mode slot A, or the one that fails where the
strap forced recovery (R508). -/
def State.targetSlot (s : State) (c : Nat) : Nat :=
  if s.boot.recovery then (if s.flag MGT_ROT_STAT_rcvr_strap then s.failingSlot c else 0)
  else if c = 4 then (if s.fld FUS_SI_STAT_source = 1 then 1 else 0)
  else
    match s.slotInUse c with
    | some k => 1 - k
    | none => 0

/-- A slot's content and activation number in the flash. -/
def Flash.setSlot (f : Flash) (c k : Nat) (b : List Byte) (no : Nat) : Flash :=
  if c = 4 then { f with si := lset f.si k b }
  else
    let i := 2 * (c - 1) + k
    { f with fw := lset f.fw i b, actNo := lset f.actNo i no }

/-- A slot written, and noted in FWU_SLOT. -/
def State.writeSlot (s : State) (c k : Nat) (b : List Byte) (no : Nat) : State :=
  let s := { s with flash := s.flash.setSlot c k b no }
  if c = 4 then s else s.noteSlot c k (s.slotInUse c)

/-- Whether a component is being transferred, verified or applied (R500). -/
def State.transferring (s : State) : Bool := decide (2 ≤ s.updState) && decide (s.updState ≤ 4)

/-- The size of a piece that the module requests (R500). -/
def Update.unit (u : Update) : Nat := min u.mts 4096

/-- The size of a block with its trailer. -/
def blockSize (b : List Byte) (k : Nat) : Nat := fwPiece b k + 16

/-- The offset and length of the next piece that the module requests, zero where none is wanted. -/
def Update.want (u : Update) : Nat × Nat :=
  match u.redo with
  | some r => (fwPieceAt r.1 + r.2.length, min u.unit (blockSize u.bytes r.1 - r.2.length))
  | .none => (u.bytes.length, min u.unit (u.size - u.bytes.length))

/-- The next piece requested. -/
def State.requestNext (s : State) : State :=
  let w := s.mgmt.update.want
  s.toAgent (.requestData w.1 w.2)

/-- UPDATE_COMPONENT (R500): the transfer of one component starts, and its slot is erased. -/
def execUpdateComponent (binding : Nat) (component : Nat × Nat) (size : Nat) (s : State) :
    Host.Outcome State Fault Refusal :=
  let a := s.asker binding
  let c := component.2
  .next (s.served binding fun s =>
    if !s.holds a || (s.updState != 1 && s.updState != 5) || !s.mayUpdate component
        || decide (slotBytes c < size) then s.answer binding .updateComponent .refused
    else
      let k := s.targetSlot c
      let s := s.writeSlot c k [] 0
      let s := (s.put FWU_STAT_state 2).put FWU_STAT_component c
      let s := (s.put FWU_STAT_blocks_done 0).put FWU_STAT_retries 0
      let s := s.onUpdate fun u => { u with
        component := c, slot := k, size := size, bytes := [], redo := none, tries := 0,
        applied := u.applied.filter fun e => e.1 != c }
      (s.answer binding .updateComponent .success).requestNext)

/-- The transfer of a component ends without success, or its check fails: the slot is left invalid (R498 to R500). -/
def State.dropTransfer (s : State) : State :=
  let u := s.mgmt.update
  let s := if s.transferring then s.writeSlot u.component u.slot [] 0 else s
  (s.put FWU_STAT_state 1).onUpdate fun u => { u with bytes := [], redo := none, tries := 0 }

/-- The blocks whose last byte has arrived are checked (R498); the first argument bounds them. A block that fails is
requested again, and one that fails three times ends the transfer. -/
def State.checkBlocks : Nat → State → State
  | 0, s => s
  | n + 1, s =>
    let u := s.mgmt.update
    let k := s.fld FWU_STAT_blocks_done
    if u.redo.isSome || fwBlocks u.bytes ≤ k || u.bytes.length < fwPieceAt k + blockSize u.bytes k then s
    else if fwPieceOk u.bytes k then
      State.checkBlocks n ((s.satCount FWU_STAT_blocks_done).onUpdate fun u => { u with tries := 0 })
    else if u.tries = 2 then (s.toAgent (.transferComplete 0x70)).dropTransfer
    else (s.satCount FWU_STAT_retries).onUpdate fun u => { u with redo := some (k, []), tries := u.tries + 1 }

/-- The received bytes with block `k` replaced. -/
def replaceBlock (b : List Byte) (k : Nat) (x : List Byte) : List Byte :=
  b.take (fwPieceAt k) ++ x ++ b.drop (fwPieceAt k + x.length)

/-- Requested bytes that have arrived. -/
def State.acceptData (s : State) (bytes : List Byte) : State :=
  let u := s.mgmt.update
  let d := bytes.take u.want.2
  match u.redo with
  | none => s.onUpdate fun u => { u with bytes := u.bytes ++ d }
  | some r =>
    let x := r.2 ++ d
    if x.length < blockSize u.bytes r.1 then s.onUpdate fun u => { u with redo := some (r.1, x) }
    else s.onUpdate fun u => { u with bytes := replaceBlock u.bytes r.1 x, redo := none }

/-- What has arrived is in the slot (R500). -/
def State.fillSlot (s : State) : State :=
  let u := s.mgmt.update
  { s with flash := s.flash.setSlot u.component u.slot u.bytes 0 }

/-- FIRMWARE_DATA (R498, R500): requested data arrives and is written to the slot. -/
def execFirmwareData (bytes : List Byte) (s : State) : Host.Outcome State Fault Refusal :=
  if s.updState != 2 || !s.mgmtUp then .next s
  else
    let s := State.checkBlocks 2 (s.acceptData bytes).fillSlot
    let u := s.mgmt.update
    if s.updState != 2 then .next s
    else if u.redo.isNone && decide (u.size ≤ u.bytes.length) then
      .next ((s.toAgent (.transferComplete 0)).put FWU_STAT_state 3)
    else .next s.requestNext

/-! ### Verify and apply (R412, R499, R500) -/

/-- The seq of the structure image in use; none with the ROM structure. -/
def State.seqInUse (s : State) : Option Nat :=
  if s.fld FUS_SI_STAT_source = 1 || s.fld FUS_SI_STAT_source = 2 then some (s.fld FUS_SI_STAT_seq) else none

/-- VERIFY_DONE (R499): the first check that fails is reported. -/
def execVerifyDone (s : State) : Host.Outcome State Fault Refusal :=
  if s.updState != 3 || !s.mgmtUp then .next s
  else
    let u := s.mgmt.update
    let r := s.fuse.fwCause u.component s.seqInUse u.bytes
    let s := s.toAgent (.verifyComplete r)
    if r = 0 then .next (s.put FWU_STAT_state 4) else .next ((s.event FWU_EVT_verify_fail).dropTransfer)

/-- APPLY_DONE (R500, R508): the slot holds the container as it is read back, with activation number 0; in recovery mode the
number lies above the other slot's. -/
def execApplyDone (s : State) : Host.Outcome State Fault Refusal :=
  if s.updState != 4 || !s.mgmtUp then .next s
  else
    let u := s.mgmt.update
    let s := s.writeSlot u.component u.slot u.bytes
      (if s.boot.recovery then s.fwActNo u.component (1 - u.slot) + 1 else 0)
    let s := s.onUpdate fun u => { u with bytes := [], applied := u.applied ++ [(u.component, u.slot)] }
    .next ((s.put FWU_STAT_state 5).toAgent .applyComplete)

/-! ### Activation (R503 to R506) -/

/-- The activation number written to a slot: one above the other slot's (R501). A loss of power may cut this write (R527). -/
def State.activateSlot (s : State) (c k : Nat) : State :=
  let s := s.writeSlot c k (s.fwSlot c k) (s.fwActNo c (1 - k) + 1)
  { s with flash := { s.flash with last := some (.slot c k) } }

/-- Whether a lane-firmware activation retrains a port: it is not FAILED, OFF or without a far end (R504). -/
def State.takesLane (s : State) (p : Nat) : Bool :=
  s.tstate p != tsFailed && s.tstate p != tsOff && s.tstate p != tsDetect

/-- A port takes the lane firmware in use at its next training (R504). -/
def State.dueLane (s : State) (p : Nat) : State :=
  s.onMgmt fun m => { m with laneDue := m.laneDue.filter (fun k => k != p) ++ [p] }

/-- The port that a lane-firmware activation takes next is retrained under R244; none is left where the list is empty. A port
that is FAILED or OFF by its turn takes the new firmware at its next training. -/
def State.nextLane (s : State) : List Nat → State
  | [] => s.onUpdate fun u => { u with ports := [], training := none }
  | p :: ps =>
    let s := s.dueLane p
    if s.takesLane p then
      let s := s.onUpdate fun u => { u with ports := ps, training := some p }
      if s.tstate p = tsActive then s.retrainOwn p else s.enterLock p false true
    else s.nextLane ps

/-- Lane firmware in a slot is activated: the ports of FWU_ACT.port_mask take it in ascending order, and every port that is
FAILED or OFF takes it at its next training. -/
def State.startLanes (s : State) (k : Nat) : State :=
  let s := (s.activateSlot 3 k).noteSlots 3 (some k)
  let s := s.measure 3 (measOf (fwDigest (s.fwSlot 3 k)))
  let s := ((List.range 8).filter fun p => s.tstate p == tsFailed || s.tstate p == tsOff).foldl (fun s p => s.dueLane p) s
  s.nextLane ((List.range 8).filter fun p => bitAt (s.fld FWU_ACT_port_mask) p)

/-- run is cleared for every valid paddock (R505). -/
def State.quiesce (s : State) : State :=
  let ps := (List.range 8).filter fun p => s.flag GI_PAD_CFG_valid p && s.flag GI_PAD_CFG_run p
  let s := ps.foldl (fun s p => s.setFld GI_PAD_CFG_run p 0 0) s
  s.onUpdate fun u => { u with runs := ps, loading := false }

/-- run is restored. -/
def State.restoreRuns (s : State) : State :=
  let s := s.mgmt.update.runs.foldl (fun s p => s.setFld GI_PAD_CFG_run p 0 1) s
  s.onUpdate fun u => { u with runs := [], loading := false }

/-- Management firmware in a slot is activated (R506): the cores start in it, and it has yet to confirm. -/
def State.startFirmware (s : State) (k : Nat) : State :=
  let s := s.activateSlot 1 k
  ((s.startCores k).put FWU_STAT_confirm 0).onUpdate fun u => { u with proving := some k }

/-- The components of a running activation in turn; the activation ends after the last one. Lane firmware, microcode and
management firmware each hold the next component up until they are done. Each of them is checked again as it is taken from
flash, and one that fails is not activated (R499). -/
def State.activateQueue (s : State) : List (Nat × Nat) → State
  | [] => s.endUpdate
  | e :: q =>
    let s := (s.put FWU_STAT_component e.1).onUpdate fun u => { u with queue := q }
    if decide (e.1 ≤ 3) && !s.slotGood e.1 e.2 then (s.event FWU_EVT_verify_fail).activateQueue q
    else
      match e.1 with
      | 3 =>
        let s := s.startLanes e.2
        if s.mgmt.update.training.isSome then s.onUpdate fun u => { u with queue := e :: q } else s.activateQueue q
      | 2 => s.quiesce.onUpdate fun u => { u with queue := e :: q }
      | 1 => s.startFirmware e.2
      | _ => s.activateQueue q

/-- The component in front of the activation is done. -/
def State.activated (s : State) : State := s.activateQueue s.mgmt.update.queue.tail

/-- The slot of the component in front of the activation, where it is component `c`. -/
def State.activating (s : State) (c : Nat) : Option Nat :=
  match s.mgmt.update.queue with
  | e :: _ => if e.1 = c then some e.2 else none
  | [] => none

/-- The sum of the pauses that apply to an activation, in ms (R503). -/
def State.pauses (s : State) (l : List (Nat × Nat)) : Nat :=
  let n := ((List.range 8).filter fun p => bitAt (s.fld FWU_ACT_port_mask) p && s.takesLane p).length
  (l.map fun e => match e.1 with
    | 3 => 250 * n
    | 2 => 30
    | 1 => 400
    | _ => 0).foldl (· + ·) 0

/-- The applied components in the order of R503. -/
def activationOrder (l : List (Nat × Nat)) : List (Nat × Nat) :=
  [3, 2, 4, 1].flatMap fun c => l.filter fun e => e.1 == c

/-- An activation in recovery mode (R508): the complex restarts normally. -/
def State.leaveRecovery (s : State) : State :=
  let s := (s.put MGT_ROT_STAT_recovery 0).endUpdate
  s.onBoot fun b => { b with recovery := false, step := 2 }

/-- ACTIVATE_FIRMWARE (R503, R508). -/
def execActivateFirmware (binding : Nat) (s : State) : Host.Outcome State Fault Refusal :=
  let a := s.asker binding
  .next (s.served binding fun s =>
    if !s.holds a || s.updState != 5 then s.answer binding .activateFirmware .refused
    else
      let l := activationOrder s.mgmt.update.applied
      let s := s.pldm binding (.activating (s.pauses l))
      let s := (s.onUpdate fun u => { u with applied := [] }).put FWU_STAT_state 6
      if s.boot.recovery then s.leaveRecovery else s.activateQueue l)

/-- A lane-firmware activation goes on once its port has trained and reached ACTIVE or FAILED, or has gone Off (R504). -/
def State.laneTurn (s : State) : State :=
  match s.mgmt.update.training with
  | none => s
  | some p =>
    if (s.tstate p = tsActive && !(s.link p).retrainAsked) || !s.takesLane p then
      let s := s.nextLane s.mgmt.update.ports
      if s.mgmt.update.training.isNone then s.activated else s
    else s

/-! ### The end of a training (R236, R504) -/

/-- A port that reached ACTIVE: the counter advances to the svn of the lane firmware that it trained under (R502). -/
def State.laneRuns (s : State) (port : Nat) : State :=
  if s.tstate port != tsActive then s
  else
    match aget s.mgmt.laneFw port with
    | some v => s.advanceSvn v
    | none => s

/-- The end of CONFIRM (R236, R243, R246, R502). A Dormant exit that finds a lane below 96 goes on as a full training;
a port with no usable width fails with cause 5. -/
def State.endConfirm (s : State) (port : Nat) : State :=
  let s := s.setFld RTR_LINK_STAT_lanes_ready port 0
    ((List.range 8).foldl (fun v l => if s.laneReady port l then v + 2 ^ l else v) 0)
  if (s.link port).dormantExit
      && (portLanes port).any (fun n => s.laneGood n && decide (s.fld LN_FOM_fom n < 96)) then
    let s := s.onLink port fun x => { x with dormantExit := false }
    (s.setFld RTR_LINK_STAT_tstate port 0 tsEq).setLanes port LN_STAT_state tsEq
  else if s.halfReady port 0 && s.halfReady port 1 then (s.enterActive port false 0).laneRuns port
  else if s.flag RTR_LINK_CTRL_allow_x4 port && s.halfReady port 0 then (s.enterActive port true 0).laneRuns port
  else if s.flag RTR_LINK_CTRL_allow_x4 port && s.halfReady port 1 then (s.enterActive port true 1).laneRuns port
  else s.failPort port 5

/-- LINK_ACTIVE (R236, R243, R246, R502, R504): CONFIRM ends, and a lane-firmware activation that waited for the port
goes on. -/
def execLinkActive (port : Nat) (s : State) : Host.Outcome State Fault Refusal :=
  if decide (8 ≤ port) || s.tstate port != tsConfirm then .next s else .next (s.endConfirm port).laneTurn

/-- TRAINING_TIMEOUT (R236, R504): the time limit of LOCK, ALIGN or CONFIRM passes, and a lane-firmware activation that
waited for the port goes on. -/
def execTrainingTimeout (port : Nat) (s : State) : Host.Outcome State Fault Refusal :=
  if 8 ≤ port then .next s
  else if s.tstate port = tsLock then .next (s.failPort port 2).laneTurn
  else if s.tstate port = tsAlign then .next (s.failPort port 3).laneTurn
  else if s.tstate port = tsConfirm then .next (s.failPort port 4).laneTurn
  else .next s

/-- Whether every usable tile is idle, with no busy engine (R505). -/
def State.tilesQuiet (s : State) : Bool := s.usableTiles.all fun t =>
  let v := s.tlStatus t
  bitAt v 0 && bitsOf v 6 1 == 0

/-- MICROCODE_QUIESCED (R499, R505, R512): the broadcast starts with the image as it is taken from flash; a chip reset
holds it up. -/
def execMicrocodeQuiesced (s : State) : Host.Outcome State Fault Refusal :=
  match s.activating 2 with
  | none => .next s
  | some k =>
    if s.mgmt.update.loading || s.chipReset || !s.tilesQuiet then .next s
    else if s.slotGood 2 k then .next (s.onUpdate fun u => { u with loading := true })
    else .next ((s.event FWU_EVT_verify_fail).restoreRuns.activated)

/-- QUIESCE_TIMEOUT (R505): the activation of the microcode is refused, and run is restored. -/
def execQuiesceTimeout (s : State) : Host.Outcome State Fault Refusal :=
  if (s.activating 2).isSome && !s.mgmt.update.loading && !s.chipReset then
    .next ((s.event FWU_EVT_quiesce_timeout).restoreRuns.activated)
  else .next s

/-- MICROCODE_BROADCAST_DONE (R502, R505, R512): `failed` names the tiles whose CRC check failed three times. -/
def execMicrocodeBroadcastDone (failed : List Nat) (s : State) : Host.Outcome State Fault Refusal :=
  match s.activating 2 with
  | none => .next s
  | some k =>
    if !s.mgmt.update.loading || s.chipReset then .next s
    else
      let all := !(s.usableTiles.any fun t => failed.contains t)
      let s := (s.activateSlot 2 k).noteSlots 2 (some k)
      let s := s.measure 2 (measOf (fwDigest (s.fwSlot 2 k)))
      let s := s.loadMicrocode failed
      let s := if all then s.advanceSvn (fwSvn (s.fwSlot 2 k)) else s
      .next s.restoreRuns.activated

/-- CONFIRM_TIMEOUT (R499, R506, R508): the cores restart in the old slot, and the new slot's activation number is
cleared. Where the old slot fails its check too, the boot ROM enters recovery mode. -/
def execConfirmTimeout (s : State) : Host.Outcome State Fault Refusal :=
  match s.mgmt.update.proving with
  | none => .next s
  | some k =>
    let s := (s.writeSlot 1 k (s.fwSlot 1 k) 0).onUpdate fun u => { u with proving := none }
    let s := if s.slotGood 1 (1 - k) then (s.startCores (1 - k)).sendHeldCycle else (s.noteSlots 1 none).enterRecovery
    .next (s.event FWU_EVT_act_fallback).endUpdate

/-! ### Status and the end of update mode (R500, R512) -/

/-- GET_STATUS (R500). -/
def execGetStatus (binding : Nat) (s : State) : Host.Outcome State Fault Refusal :=
  .next (s.served binding fun s => s.pldm binding (.status s.updState (s.fld FWU_STAT_component)))

/-- CANCEL_UPDATE_COMPONENT (R500): the transfer, verify or apply in progress ends, and its slot is left invalid. -/
def execCancelUpdateComponent (binding : Nat) (s : State) : Host.Outcome State Fault Refusal :=
  let a := s.asker binding
  .next (s.served binding fun s =>
    if s.holds a && s.transferring then
      s.dropTransfer.answer binding .cancelUpdateComponent .success
    else s.answer binding .cancelUpdateComponent .refused)

/-- CANCEL_UPDATE (R512): update mode ends; applied slots keep activation number 0. -/
def execCancelUpdate (binding : Nat) (s : State) : Host.Outcome State Fault Refusal :=
  let a := s.asker binding
  .next (s.served binding fun s =>
    if s.holds a && s.updState != 6 then
      (s.dropTransfer.onUpdate fun u => { u with applied := [] }).endUpdate.answer binding .cancelUpdate .success
    else s.answer binding .cancelUpdate .refused)

/-- UPDATE_AGENT_TIMEOUT (R500): a silent agent loses update mode, and the partly written slot is left invalid. -/
def execUpdateAgentTimeout (s : State) : Host.Outcome State Fault Refusal :=
  if s.mgmt.update.agent.isSome && s.updState != 6 then .next s.dropTransfer.endUpdate else .next s

end Sys2Proof.Machine
end

