-- ==== Sys2Proof/Machine/Mgmt.lean ====
section
/-! DEFINITION. MCTP, the Halduc messages, attestation, the I3C targets and the PCI Express function (R484, R485, R491 to
R496, R507, R510, R511). -/
namespace Sys2Proof.Machine

/-! ### MCTP packets (R491 to R493) -/

/-- The bindings. -/
def bindPcie : Nat := 0
def bindI3c : Nat := 1

/-- The largest packet payload of a binding (R491). -/
def mctpLimit (b : Nat) : Nat := if b = bindPcie then 512 else 64

/-- The start of a Halduc message: type, vendor, command, resp with the instance, and cc (R493). -/
def halducHead (command : Nat) (resp : Bool) (inst cc : Nat) : List Byte :=
  bytesOf 1 0x7E ++ bytesOf 2 Config.vendorId.toNat ++ bytesOf 1 command ++ bytesOf 1 (natOfBool resp + (inst % 128) <<< 1)
    ++ bytesOf 1 cc

/-- A Halduc response (R493). -/
def State.reply (s : State) (b command inst cc : Nat) (body : List Byte) : State :=
  s.emit (.mctp b (halducHead command true inst cc ++ body))

/-- The body length of a request of R494, none where the command is unknown. The body of SET_CAP is 2 bytes, and so on. -/
def bodyLength (command : Nat) : Option Nat :=
  match command with
  | 0x01 => some 0 | 0x02 => some 2 | 0x03 => some 1 | 0x04 => some 4 | 0x06 => some 2 | 0x07 => some 11
  | 0x10 => some 6 | 0x11 => some 33 | _ => none

/-- A message as it is assembled: binding, requester and tag. -/
structure MsgFrom where
  binding : Nat
  requester : Nat
  tag : Nat
  deriving DecidableEq, Repr

/-- A request kept for the command that it carries. -/
def State.keepMsg (s : State) (f : MsgFrom) (m : List Byte) : State :=
  s.onMgmt fun x => { x with inbox := x.inbox ++ [(f.binding, f.requester, f.tag, m)] }

/-- A message of a type that the module does not serve (R492). -/
def State.countUnsupported (s : State) : State := s.satCount MGT_MCTP_STAT_unsupported

/-- An assembled Halduc message (R493, R494): of another vendor it is not served; an unknown command and a wrong body length
are answered at once, and the known requests are kept. What a response does is the command that it is named by, and it is not
kept (log entry 143). -/
def State.halducMessage (s : State) (f : MsgFrom) (m : List Byte) : State :=
  let command := (lget m 3 0).toNat
  let inst := bitsOf (lget m 4 0).toNat 7 1
  if m.length < 6 then s.reply f.binding command inst 3 []
  else if ofBytes (slice m 1 2) != Config.vendorId.toNat then s.countUnsupported
  else if bitAt (lget m 4 0).toNat 0 then s
  else
    match bodyLength command with
    | none => s.reply f.binding command inst 2 []
    | some n => if m.length = 6 + n then s.keepMsg f m else s.reply f.binding command inst 3 []

/-- Whether a control or PLDM message is a request (log entry 143). -/
def isRequest (m : List Byte) : Bool := bitAt (lget m 1 0).toNat 7

/-- The codes of the MCTP control commands of R492, and of the PLDM firmware-update requests of R500 (log entry 143). -/
def controlCodes : List Nat := [0x01, 0x02, 0x04, 0x05, 0x06]
def updateCodes : List Nat := [0x01, 0x02, 0x10, 0x13, 0x14, 0x1A, 0x1B, 0x1C, 0x1D]

/-- An assembled MCTP control message (R492). -/
def State.controlMessage (s : State) (f : MsgFrom) (m : List Byte) : State :=
  let command := (lget m 2 0).toNat
  if !isRequest m then s
  else if controlCodes.contains command then s.keepMsg f m
  else s.emit (.control f.binding (.unknown command))

/-- An assembled PLDM message (R492, R500): types 0 and 5 are served. A base command is answered at once: with the PLDM
types, or with a free value where the spec gives the answer no content. -/
def State.pldmMessage (s : State) (f : MsgFrom) (m : List Byte) : State :=
  let type := (lget m 2 0).toNat % 64
  let command := (lget m 3 0).toNat
  if !isRequest m then s
  else if type = 0 then
    if command = 0x04 then s.pldm f.binding (.types [0, 5])
    else (s.pldm f.binding (.base command (BitVec.ofNat 64 s.freeVal))).spend
  else if type = 5 then
    if updateCodes.contains command then s.keepMsg f m else s.pldm f.binding (.unsupported command)
  else s.countUnsupported

/-- A message is assembled (R491 to R493, R508): Halduc messages are not served in recovery mode, and a message with the
integrity-check bit set is discarded. -/
def State.message (s : State) (f : MsgFrom) (m : List Byte) : State :=
  let t := (lget m 0 0).toNat
  if m.isEmpty then s
  else if t = 0x7E && !s.boot.recovery then s.halducMessage f m
  else if t = 0xFE || t = 0x80 || t = 0x81 then s
  else if t = 0 then s.controlMessage f m
  else if t = 1 then s.pldmMessage f m
  else s.countUnsupported

/-- Whether a partly assembled message is that of a binding, requester and tag. -/
def partIs (b r t : Nat) (e : Nat × Nat × Nat × List Byte) : Bool := e.1 == b && e.2.1 == r && e.2.2.1 == t

/-- The tags that a requester has outstanding (R491): the messages in assembly of a list, and those that wait for their
command. -/
def State.tagsOut (s : State) (b r : Nat) (part : List (Nat × Nat × Nat × List Byte)) : Nat :=
  ((part ++ s.mgmt.inbox).filter fun e => e.1 == b && e.2.1 == r).length

/-- MCTP_PACKET (R491, R492): a packet with its start-of-message and end-of-message flags. A requester has up to 8 tags
outstanding, and a message beyond them is discarded; one that would exceed 8,192 bytes is discarded and counted. -/
def execMctpPacket (binding requester tag : Nat) (som eom : Bool) (bytes : List Byte) (s : State) :
    Host.Outcome State Fault Refusal :=
  if !s.serves binding || decide (mctpLimit binding < bytes.length) then .next s
  else
    let old := s.mgmt.part.find? (partIs binding requester tag)
    let rest := s.mgmt.part.filter fun e => !partIs binding requester tag e
    let base := if som then some [] else old.map (·.2.2.2)
    match base with
    | none => .next s
    | some b =>
      let m := b ++ bytes
      let s' := s.onMgmt fun x => { x with part := rest }
      if som && old.isNone && decide (8 ≤ s.tagsOut binding requester rest) then .next s
      else if 8192 < m.length then .next (s'.satCount MGT_MCTP_STAT_oversize)
      else if eom then .next (s'.message ⟨binding, requester, tag⟩ m)
      else .next (s'.onMgmt fun x => { x with part := rest ++ [(binding, requester, tag, m)] })

/-! ### MCTP control (R491, R492) -/

/-- An MCTP control reply. -/
def State.control (s : State) (b : Nat) (r : CtrlReply) : State := s.emit (.control b r)

/-- SET_ENDPOINT_ID (R491). -/
def execSetEndpointId (binding eid : Nat) (s : State) : Host.Outcome State Fault Refusal :=
  .next (s.served binding fun s =>
    (s.onMgmt fun m => { m with eid := lset m.eid binding (eid % 256) }).control binding (.endpointId (eid % 256)))

/-- GET_ENDPOINT_ID (R492). -/
def execGetEndpointId (binding : Nat) (s : State) : Host.Outcome State Fault Refusal :=
  .next (s.served binding fun s => s.control binding (.endpointId (lget s.mgmt.eid binding 0)))

/-- GET_MCTP_VERSION_SUPPORT (R492): the spec names no versions, and what is returned is the next free value. -/
def execGetMctpVersionSupport (binding : Nat) (s : State) : Host.Outcome State Fault Refusal :=
  .next (s.served binding fun s => (s.control binding (.versions (s.freeVal % 2 ^ 32))).spend)

/-- GET_MESSAGE_TYPE_SUPPORT (R492). -/
def execGetMessageTypeSupport (binding : Nat) (s : State) : Host.Outcome State Fault Refusal :=
  .next (s.served binding fun s => s.control binding (.types [0x00, 0x01, 0x7E]))

/-- GET_VENDOR_DEFINED_MESSAGE_SUPPORT (R492). -/
def execGetVendorDefinedMessageSupport (binding : Nat) (s : State) : Host.Outcome State Fault Refusal :=
  .next (s.served binding fun s => s.control binding (.vendor Config.vendorId.toNat))

/-! ### Halduc commands (R494, R495) -/

/-- A Halduc request on a binding: served by management firmware, not by the boot ROM in recovery mode; on a binding that
the command is not allowed on it is answered with cc 4. -/
def State.halduc (s : State) (b command inst : Nat) (allowed : Bool) (f : State → State) : State :=
  if s.boot.recovery then s
  else s.served b fun s => if allowed then f s else s.reply b command inst 4 []

/-- GET_IDENTITY (R494). -/
def execGetIdentity (binding inst : Nat) (s : State) : Host.Outcome State Fault Refusal :=
  .next (s.halduc binding 0x01 inst true fun s =>
    let f := s.fuse
    let body := bytesOf 8 f.serial.toNat ++ bytesOf 1 f.variant ++ bytesOf 1 f.stepping ++ bytesOf 1 f.svn ++ bytesOf 1 0
      ++ [1, 2, 3, 4].flatMap fun c => bytesOf 4 (s.runningVersion c)
    s.reply binding 0x01 inst 0 body)

/-- SET_CAP (R435, R494, R495): cap_host over PCI Express, cap_tray over I3C, in 10 W units. -/
def execSetCap (binding inst cap : Nat) (s : State) : Host.Outcome State Fault Refusal :=
  .next (s.halduc binding 0x02 inst true fun s =>
    let s := s.writeCap (if binding = bindPcie then PWR_CAP_cap_host else PWR_CAP_cap_tray) cap
    if cap < 60 then s.reply binding 0x02 inst 6 []
    else s.reply binding 0x02 inst 0 (bytesOf 2 (s.fld PWR_CAP_eff_limit)))

/-- PARK (R444, R494, R495): the tray reason set by 1 and cleared by 0; another value is refused. -/
def execPark (binding inst request : Nat) (s : State) : Host.Outcome State Fault Refusal :=
  .next (s.halduc binding 0x03 inst (binding == bindI3c) fun s =>
    match request with
    | 0 => (s.unparkFor parkTray).reply binding 0x03 inst 0 []
    | 1 => (s.parkFor parkTray).reply binding 0x03 inst 0 []
    | _ => s.reply binding 0x03 inst 6 [])

/-- COOLANT (R448, R494, R495). -/
def execCoolant (binding inst flow inlet : Nat) (s : State) : Host.Outcome State Fault Refusal :=
  .next (s.halduc binding 0x04 inst (binding == bindI3c) fun s =>
    (s.writeCoolant (flow % 65536) (inlet % 65536)).reply binding 0x04 inst 0 [])

/-! ### Settings (R507) -/

/-- Whether an id names a setting. -/
def isSetting (id : Nat) : Bool := decide (1 ≤ id) && decide (id ≤ 6)

/-- The default of a setting: register reset values, and the structure image's mode. The reset value of setting 0x0006 is in
a layout that the spec does not give, and is a free value. -/
def State.settingDefault (s : State) (id : Nat) : Nat :=
  match id with
  | 1 => regReset s.fuse .FWU_DUMP_CTRL 0 0 % 2 ^ 15
  | 2 => regReset s.fuse .MGT_WATCH_WIN0 0 0
  | 3 => regReset s.fuse .MGT_WATCH_WIN1 0 0
  | 4 => regReset s.fuse .MGT_WATCH_ACT 0 0
  | 5 =>
    match (elementOf s.siInUse 8).find? fun e => e.1 == RegId.offset .PWR_CTRL 0 0 with
    | some e => e.2.toNat % 4
    | none => regReset s.fuse .PWR_CTRL 0 0 % 4
  | _ => s.freeVal

/-- A stored setting, or its default. -/
def State.settingValue (s : State) (id : Nat) : Nat :=
  match s.stored.values.find? fun e => e.1 == id with
  | some e => e.2.toNat
  | none => s.settingDefault id

/-- GET_SETTING (R494, R507). -/
def execGetSetting (binding inst id : Nat) (s : State) : Host.Outcome State Fault Refusal :=
  .next (s.halduc binding 0x06 inst (binding == bindPcie) fun s =>
    if isSetting id then (s.reply binding 0x06 inst 0 (bytesOf 8 (s.settingValue id))).spend
    else s.reply binding 0x06 inst 6 [])

/-- SET_SETTING (R494, R507): the setting is stored, or its default restored. -/
def execSetSetting (binding inst id : Nat) (value : Word64) (restore : Bool) (s : State) : Host.Outcome State Fault Refusal :=
  .next (s.halduc binding 0x07 inst (binding == bindPcie) fun s =>
    if isSetting id then
      let rest := s.stored.values.filter fun e => e.1 != id
      let s := s.storeSettings s.runningFormat (if restore then rest else rest ++ [(id, value)])
      (s.measure 6 s.stored.measure).reply binding 0x07 inst 0 []
    else s.reply binding 0x07 inst 6 [])

/-! ### The certificate and attestation (R510, R511) -/

/-- The seed ξ of the device identity key (R510): the first 32 bytes of the hash of "TRELHILD-DIK" and the identity seed. -/
def FuseRecord.keySeed (f : FuseRecord) : List Byte :=
  (digestBytes (Config.sha3 ([0x54, 0x52, 0x45, 0x4C, 0x48, 0x49, 0x4C, 0x44, 0x2D, 0x44, 0x49, 0x4B]
    ++ bytesOf 32 f.seed.toNat))).take 32

/-- The signature that the root of trust makes over a message with the identity key (R510, R511). -/
def FuseRecord.sign (f : FuseRecord) (m : List Byte) : List Byte :=
  (List.range 4627).map fun i => Config.signatureByte f.keySeed (digestBytes (Config.sha3 m)) i

/-- The constant bytes of the certificate from place `i` on. -/
def certBytes (i n : Nat) : List Byte := (List.range n).map fun k => Config.certByte (i + k)

/-- The identity certificate (R510): public key, serial, issue time, issuing key slot, zeros, and the padded signature. -/
def FuseRecord.certificate (f : FuseRecord) : List Byte :=
  ((List.range 2592).map fun i => Config.publicKeyByte f.keySeed i) ++ bytesOf 8 f.serial.toNat ++ certBytes 2600 8
    ++ bytesOf 1 ((Config.certByte 2608).toNat % 4) ++ List.replicate 7 0 ++ certBytes 2616 4627 ++ List.replicate 13 0

/-- GET_CERT (R494, R510). -/
def execGetCert (binding inst offset length : Nat) (s : State) : Host.Outcome State Fault Refusal :=
  .next (s.halduc binding 0x10 inst true fun s =>
    if 4096 < length then s.reply binding 0x10 inst 6 []
    else s.reply binding 0x10 inst 0 (bytesOf 4 offset ++ bytesOf 4 7256 ++ slice s.fuse.certificate offset length))

/-- The version of a measured image, zero where there is none (R509, R511). -/
def State.measuredVersion (s : State) (k : Nat) : Nat := if 1 ≤ k && k ≤ 4 then s.runningVersion k else 0

/-- The part of an ATTEST response that is signed (R511). -/
def State.attestBody (s : State) (nonce : List Byte) (mask : Nat) : List Byte :=
  let f := s.fuse
  nonce ++ bytesOf 8 f.serial.toNat ++ bytesOf 1 f.variant ++ bytesOf 1 f.stepping ++ bytesOf 1 f.svn ++ bytesOf 1 mask
    ++ bytesOf 4 0 ++ bytesOf 8 s.beatNo
    ++ ((List.range 8).filter fun k => bitAt mask k).flatMap fun k =>
      bytesOf 4 k ++ bytesOf 4 (s.measuredVersion k) ++ digestBytes (lget s.mgmt.meas k 0)

/-- ATTEST (R511): a nonce of 32 bytes, and the mask of indices. The root of trust starts to sign; a second ATTEST on
the binding meanwhile is answered with cc 5. -/
def execAttest (binding inst : Nat) (nonce : List Byte) (mask : Nat) (s : State) : Host.Outcome State Fault Refusal :=
  .next (s.halduc binding 0x11 inst true fun s =>
    if nonce.length != 32 then s.reply binding 0x11 inst 3 []
    else if s.mgmt.signing.any fun j => j.binding == binding then s.reply binding 0x11 inst 5 []
    else s.onMgmt fun m => { m with signing := m.signing ++ [⟨binding, inst, mask % 256, nonce⟩] })

/-- An attestation is signed, and its response goes out. -/
def State.signed (s : State) (j : AttestJob) : State :=
  let b := s.attestBody j.nonce j.mask
  s.reply j.binding 0x11 j.inst 0 (b ++ s.fuse.sign b)

/-- The root of trust ends the attestations in progress (R511). -/
def State.signTurn (s : State) : State :=
  s.mgmt.signing.foldl (fun s j => s.signed j) (s.onMgmt fun m => { m with signing := [] })

/-! ### The I3C targets (R496, R524) -/

/-- Whether the auxiliary circuits run: the level that carries P3V3_AUX has mated, and the supply is present (R518, R524,
R529). -/
def State.auxOn (s : State) : Bool := decide (2 ≤ s.tray.mate) && s.tray.aux

/-- The 48-bit provisioned ID of an I3C target: 0 the MCTP target, 1 the telemetry target (R496). -/
def State.provisionedId (s : State) (target : Nat) : Nat :=
  target + (s.fuse.serial.toNat % 2 ^ 31) <<< 1 + 1 <<< 32 + Config.mipiId.toNat <<< 33

/-- I3C_ENTDAA (R496, R524): the targets that take part send their provisioned IDs, and take the addresses that the bus owner
gives them. In standby the MCTP target takes no part. -/
def execI3cEntdaa (mctp telem : Nat) (s : State) : Host.Outcome State Fault Refusal :=
  if !s.auxOn then .next s
  else
    let s' := s.emit (.entdaa (if s.mgmtUp then [s.provisionedId 0, s.provisionedId 1] else [s.provisionedId 1]))
    .next (s'.onMgmt fun m => { m with i3c := (if s.mgmtUp then mctp else m.i3c.1, telem) })

/-- The telemetry record (R496); in standby bytes 0 to 11 are zero, and the refresh count stands still (R524). -/
def State.telemetryRecord (s : State) : List Byte :=
  let live := bytesOf 8 (s.reg .PWR_TELEM) ++ bytesOf 2 (s.fld PWR_CAP_eff_limit)
    ++ bytesOf 1 (s.fld PWR_STAT_state + s.fld PWR_STAT_park_reasons <<< 3) ++ bytesOf 1 (s.fld PWR_THERM_hot_now)
  (if s.tray.good then live else List.replicate 12 0) ++ bytesOf 2 s.power.refreshes ++ bytesOf 2 0

/-- I3C_TELEMETRY_READ (R496): a private read of 1 to 16 bytes. -/
def execI3cTelemetryRead (len : Nat) (s : State) : Host.Outcome State Fault Refusal :=
  if !s.auxOn || len = 0 then .next s else .next (s.emit (.i3c (s.telemetryRecord.take len)))

/-- I3C_TELEMETRY_WRITE (R496). -/
def execI3cTelemetryWrite (s : State) : Host.Outcome State Fault Refusal :=
  if s.auxOn then .next (s.emit .i3cNack) else .next s

/-! ### The PCI Express function (R466, R485) -/

/-- PCIE_RESET (R485): only the endpoint's configuration, MSI-X Enable, Function Mask and vector masks are reset; a vector is
masked after a reset. -/
def execPcieReset (s : State) : Host.Outcome State Fault Refusal :=
  let s := { s with pcie := ⟨false, false, false⟩ }
  .next ((List.range 32).foldl (fun s v => s.setFld CIC_MSIX_DATA_mask v 0 1) s)

/-- PCIE_CONFIG_WRITE (R485): the power state, MSI-X Enable and Function Mask as the write leaves them. -/
def execPcieConfigWrite (d3hot msixEnable functionMask : Bool) (s : State) : Host.Outcome State Fault Refusal :=
  .next { s with pcie := ⟨d3hot, msixEnable, functionMask⟩ }

end Sys2Proof.Machine
end

