-- ==== Sys2Proof/Machine/Module.lean ====
section
/-! DEFINITION. The connectors, main power, and removal (R447, R450, R517 to R529, R537). -/
namespace Sys2Proof.Machine

def State.onTray (s : State) (f : Tray → Tray) : State := { s with tray := f s.tray }

/-! ### Main power -/

/-- The fuse record after power is lost: during an advance the counter is left between the old and the new value, at a free
value (R502). -/
def State.fuseOff (s : State) : FuseRecord :=
  match s.mgmt.update.advance with
  | some v => { s.fuse with svn := s.fuse.svn + s.freeVal % (v - s.fuse.svn + 1) }
  | none => s.fuse

/-- A part of the flash whose write was cut: a half and a settings slot fail their CRC, and a component's slot fails R499
(R489, R512, R527). -/
def Flash.cut (f : Flash) : FlashPart → Flash
  | .slot c k => f.setSlot c k [] 0
  | .settings k =>
    { f with settings := lset f.settings k { (lget f.settings k ⟨0, 0, false, []⟩) with good := false } }
  | .half k => { f with record := lset f.record k { f.half k with good := false } }

/-- The flash after power is lost: a drain in progress leaves a dump slot that fails (R489), a transfer, verify or apply in
progress a component's slot that fails (R512), and the write that was the latest may have been cut, which a free value
decides (R527). -/
def State.flashOff (s : State) : Flash :=
  let f := s.flash
  let f := if s.dumpHeld && (s.flag FWU_DUMP_CTRL_to_flash || s.recovery.pcWaits) then { f with dump := none } else f
  let f := if s.transferring then f.cut (.slot s.mgmt.update.component s.mgmt.update.slot) else f
  let f := match f.last with
    | some p => if s.spend.freeVal % 2 = 1 then f.cut p else f
    | none => f
  { f with last := none }

/-- Everything that main power holds as after reset; fuses, flash, the I3C telemetry target, the pins and the waiting
commands stay (R13, R15, R524). -/
def State.blank (s : State) (fuse : FuseRecord) (flash : Flash) : State :=
  { State.reset with
    pending := s.pending, out := s.out, fuse := fuse, flash := flash, fresh := s.fresh,
    mgmt := { Mgmt.reset with i3c := (0, s.mgmt.i3c.2) },
    power := { Power.reset with refreshes := s.power.refreshes },
    tray := { s.tray with good := false, ramping := false, releasing := false } }

/-- 100 ms in units of 100 ps. -/
def offTime : Nat := 1000000000

/-- Main power is off. The time starts anew, and with it the 100 ms for which PWR_GOOD has to be deasserted (R523). -/
def State.powerOff (s : State) : State :=
  let r := if s.tray.good then offTime else s.tray.ready - s.now
  (s.blank s.fuseOff s.flashOff).spend.spend.onTray fun t => { t with ready := r }

/-- Whether main power is on or its stage ramps. -/
def Tray.live (t : Tray) : Bool := t.good || t.ramping

/-- A stage-off after which a PWR_EN that is asserted must be deasserted and asserted again (R447, R450, R523, R537). -/
def State.stageOff (s : State) : State :=
  if s.tray.live then s.powerOff.onTray fun t => { t with mustCycle := t.mustCycle || t.pwrEn } else s

/-- Whether the conditions of R523 hold at a time, with the input switch closed and the stage off. -/
def Tray.mayStart (t : Tray) (now : Nat) : Bool :=
  t.pwrEn && decide (4 ≤ t.mate) && t.aux && t.vin && decide (t.ready ≤ now) && t.switch && !t.live && !t.mustCycle

/-- The soft start begins once the conditions of R523 hold. -/
def State.tryStart (s : State) : State :=
  if s.tray.mayStart s.now then s.onTray fun t => { t with ramping := true } else s

/-- THERMAL_TRIP (R447): THERMTRIP_N asserts and the stage turns off. -/
def execThermalTrip (s : State) : Host.Outcome State Fault Refusal :=
  if s.tray.live then .next (s.stageOff.onTray fun t => { t with trip := true }) else .next s

/-- INPUT_UNDERVOLTAGE (R450): the input stays below 39.0 V for 5 µs, or, where `deep`, below 36.0 V for 5 µs or below 39.0 V
for 20 ms. -/
def execInputUndervoltage (deep : Bool) (s : State) : Host.Outcome State Fault Refusal :=
  let s := s.onTray fun t => { t with vin := false }
  if deep then .next s.stageOff
  else if s.tray.good then .next ((s.event PWR_EVT_undervoltage).parkFor parkVolt)
  else .next s

/-- INPUT_OVERVOLTAGE (R450, R529). -/
def execInputOvervoltage (s : State) : Host.Outcome State Fault Refusal := .next s.stageOff

/-- OVERCURRENT (R537). -/
def execOvercurrent (s : State) : Host.Outcome State Fault Refusal := .next s.stageOff

/-! ### Mating (R518, R520, R521) -/

/-- The levels from `level` up broke before `level` mates again: PWR_EN was open, which reads deasserted; the input
capacitance has left the bus; and the auxiliary circuits lost their supply where level 2 broke, so that the I3C targets
lost their addresses (R518, R520, R521). -/
def State.unmated (s : State) (level : Nat) : State :=
  let s := s.onTray fun t => { t with
    switch := false, pwrEn := false, mustCycle := false, trip := false, vin := false, aux := t.aux && decide (2 < level) }
  if level ≤ 2 then s.onMgmt fun m => { m with i3c := (0, 0) } else s

/-- CONNECTOR_MATE (R520, R521): levels engage in their order. A level at or below the one that holds mates again after a
removal has broken it. `pos` and `rcvr` are the levels of the pins, which mate at level 3. -/
def execConnectorMate (level pos : Nat) (rcvr : Bool) (s : State) : Host.Outcome State Fault Refusal :=
  if level = 0 || decide (4 < level) || decide (s.tray.mate + 1 < level) || decide (4 ≤ s.tray.mate) then .next s
  else
    let s := if level ≤ s.tray.mate then s.unmated level else s
    let s := s.onTray fun t => { t with
      mate := level, aux := t.aux || level == 2, vin := t.vin || level == 3,
      pos := if 3 ≤ level then pos % 64 else t.pos, rcvr := if 3 ≤ level then rcvr else t.rcvr }
    .next (if level = 4 then s.tryStart else s)

/-- PRECHARGE_DONE (R521): the main switch closes where the +50V blades have mated. The precharge limiter is an auxiliary
circuit, so that P3V3_AUX is present. -/
def execPrechargeDone (s : State) : Host.Outcome State Fault Refusal :=
  if 3 ≤ s.tray.mate then .next (s.onTray fun t => { t with switch := true, aux := true }).tryStart else .next s

/-- PWR_EN_ASSERT (R523, R529): an open pin reads deasserted. -/
def execPwrEnAssert (s : State) : Host.Outcome State Fault Refusal :=
  if 3 ≤ s.tray.mate then .next (s.onTray fun t => { t with pwrEn := true }).tryStart else .next s

/-- The registers that follow pins take the pins' levels: the POS sample, FT_N with its acknowledgement, and the ports'
cables (R347, R529, R541). -/
def State.samplePins (s : State) : State :=
  let s := s.put RTR_NODE_ID_pos s.tray.pos
  let s := if s.tray.ft then (s.put PWR_STAT_ft_n 1).put PWR_STAT_ft_ack 1 else s
  ((List.range 8).filter fun k => s.tray.cables.contains k).foldl (fun s k => s.setFld RTR_PORT_CABLE_present k 0 1) s

/-- SOFT_START_COMPLETE (R347, R521, R522): PWR_GOOD is released, the pins are sampled and the boot starts. -/
def execSoftStartComplete (s : State) : Host.Outcome State Fault Refusal :=
  if !s.tray.ramping then .next s
  else .next ((s.blank s.fuse s.flash).onTray fun t => { t with good := true }).samplePins

/-! ### Removal (R525 to R527, R529) -/

/-- Compute stops as in Park (R526). -/
def State.stopCompute (s : State) : State :=
  ((s.onPower fun p => { p.endBurst with parked := true }).setGates []).settlePower

/-- Main power is off with the input switch open (R525, R527). -/
def State.cutPower (s : State) : State := s.powerOff.onTray fun t => { t with switch := false }

/-- RELEASE (R525, R526): PWR_EN deasserts. The ports go Off with the stage, so that PEER_STATE can leave. -/
def execRelease (s : State) : Host.Outcome State Fault Refusal :=
  let was := s.tray
  let s := s.onTray fun t => { t with pwrEn := false, mustCycle := false, trip := false }
  if was.good then
    if was.releasing then .next s
    else
      let s := (s.onTray fun t => { t with releasing := true }).stopCompute
      let s := if s.flag RTR_NODE_ID_valid then s.sendPeerState 1 5 0 s.beatNo s.beat.t else s
      .next s.saveRecord
  else if was.ramping then .next s.cutPower
  else .next s

/-- RELEASE_DONE (R525, R529): every port is Off, the record is written, the stage is off and the switch open, and PWR_GOOD
deasserts. A PWR_EN that was asserted again acts once the switch has closed. -/
def execReleaseDone (s : State) : Host.Outcome State Fault Refusal :=
  if s.tray.releasing then .next ({ s with flash := { s.flash with last := none } }).cutPower else .next s

/-- MATE_BREAK (R527, R529): level 4 breaks. -/
def execMateBreak (s : State) : Host.Outcome State Fault Refusal :=
  let s := if s.tray.live then s.cutPower else s
  .next (s.onTray fun t => { t with mate := min t.mate 3 })

/-- AUX_UNDERVOLTAGE (R523, R529): P3V3_AUX stays below 2.9 V for 10 µs. The module stops where main power runs, the
auxiliary circuits stop with their supply, and the I3C targets lose their addresses. -/
def execAuxUndervoltage (s : State) : Host.Outcome State Fault Refusal :=
  let s := if s.tray.live then s.cutPower else s
  .next ((s.onTray fun t => { t with aux := false, switch := false }).onMgmt fun m => { m with i3c := (0, 0) })

/-- What the block does when no command waits: 100 ps pass, in which tile cycles end and ports send what they send without
a command, a lane-firmware activation and an attestation go on, and a soft start whose conditions now hold begins. -/
def State.idle (s : State) : State :=
  let s := s.signTurn
  (s.tallyTurn s.tick).frameTurn.laneTurn.tryStart

end Sys2Proof.Machine
end

