-- ==== Sys2Proof/Machine/Dispatch.lean ====
section
/-! DEFINITION. One arm for each command: its meaning, or its rejection by name. -/
namespace Sys2Proof.Machine

/-- The effect of a command on everything but the queue. -/
def exec (i : Instr) (s : State) : Host.Outcome State Fault Refusal :=
  match i with
  | .registerWrite offset size data => Sys2Proof.Machine.execRegisterWrite offset size data s
  | .mgmtReq p => Sys2Proof.Machine.execMgmtReq p s
  | .intakeReq p => Sys2Proof.Machine.execIntakeReq p s
  | .intakeGrant pad => Sys2Proof.Machine.execIntakeGrant pad s
  | .grantExpired ticket => Sys2Proof.Machine.execGrantExpired ticket s
  | .graph p => Sys2Proof.Machine.execGraph p s
  | .descriptorPlace => Sys2Proof.Machine.execDescriptorPlace s
  | .taskSelect tile => Sys2Proof.Machine.execTaskSelect tile s
  | .token p => Sys2Proof.Machine.execToken p s
  | .credit p => Sys2Proof.Machine.execCredit p s
  | .tokenNak p => Sys2Proof.Machine.execTokenNak p s
  | .tokenResend tile k => Sys2Proof.Machine.execTokenResend tile k s
  | .earlyTokenExpiry tile k => Sys2Proof.Machine.execEarlyTokenExpiry tile k s
  | .intakeSaturated pad => Sys2Proof.Machine.execIntakeSaturated pad s
  | .giPadCfgWrite pad data => Sys2Proof.Machine.execGiPadCfgWrite pad data s
  | .giPadDomWrite pad data => Sys2Proof.Machine.execGiPadDomWrite pad data s
  | .tlCmdAbort tile slot => Sys2Proof.Machine.execTlCmdAbort tile slot s
  | .slotCleared tile slot => Sys2Proof.Machine.execSlotCleared tile slot s
  | .tlCmdIcacheInv tile => Sys2Proof.Machine.execTlCmdIcacheInv tile s
  | .tlCmdDcacheFlush tile => Sys2Proof.Machine.execTlCmdDcacheFlush tile s
  | .cacheOpDone tile => Sys2Proof.Machine.execCacheOpDone tile s
  | .spadCeRewrite tile word => Sys2Proof.Machine.execSpadCeRewrite tile word s
  | .alu tile op => Sys2Proof.Machine.execAlu tile op s
  | .li tile => Sys2Proof.Machine.execLi tile s
  | .predicate tile op => Sys2Proof.Machine.execPredicate tile op s
  | .br tile => Sys2Proof.Machine.execBr tile s
  | .j tile => Sys2Proof.Machine.execJ tile s
  | .jr tile => Sys2Proof.Machine.execJr tile s
  | .ld tile => Sys2Proof.Machine.execLd tile s
  | .st tile => Sys2Proof.Machine.execSt tile s
  | .storePerformed tile => Sys2Proof.Machine.execStorePerformed tile s
  | .loadMissFill tile => Sys2Proof.Machine.execLoadMissFill tile s
  | .lda tile => Sys2Proof.Machine.execLda tile s
  | .ldaDone tile => Sys2Proof.Machine.execLdaDone tile s
  | .str tile => Sys2Proof.Machine.execStr tile s
  | .amo tile => Sys2Proof.Machine.execAmo tile s
  | .amoDone tile => Sys2Proof.Machine.execAmoDone tile s
  | .vld tile => Sys2Proof.Machine.execVld tile s
  | .vst tile => Sys2Proof.Machine.execVst tile s
  | .varith tile op => Sys2Proof.Machine.execVarith tile op s
  | .vconv tile op => Sys2Proof.Machine.execVconv tile op s
  | .vreduce tile op => Sys2Proof.Machine.execVreduce tile op s
  | .vectorCmdDone tile => Sys2Proof.Machine.execVectorCmdDone tile s
  | .mclr tile => Sys2Proof.Machine.execMclr tile s
  | .macc tile => Sys2Proof.Machine.execMacc tile s
  | .mdrn tile => Sys2Proof.Machine.execMdrn tile s
  | .mldp tile => Sys2Proof.Machine.execMldp tile s
  | .matrixCmdDone tile k => Sys2Proof.Machine.execMatrixCmdDone tile k s
  | .mstat tile => Sys2Proof.Machine.execMstat tile s
  | .dmaCopy tile => Sys2Proof.Machine.execDmaCopy tile s
  | .dmaCopy2d tile => Sys2Proof.Machine.execDmaCopy2d tile s
  | .dmaFill tile => Sys2Proof.Machine.execDmaFill tile s
  | .graphSend tile => Sys2Proof.Machine.execGraphSend tile s
  | .flaggedWriteCmd tile => Sys2Proof.Machine.execFlaggedWriteCmd tile s
  | .dmaCmdStart tile chan => Sys2Proof.Machine.execDmaCmdStart tile chan s
  | .dmaPacketSend tile chan => Sys2Proof.Machine.execDmaPacketSend tile chan s
  | .intakeGrantReceive p => Sys2Proof.Machine.execIntakeGrantReceive p s
  | .graphSendRetry tile chan => Sys2Proof.Machine.execGraphSendRetry tile chan s
  | .dmaRetry tile chan => Sys2Proof.Machine.execDmaRetry tile chan s
  | .tok tile => Sys2Proof.Machine.execTok tile s
  | .tokenQueueSend tile => Sys2Proof.Machine.execTokenQueueSend tile s
  | .fence tile => Sys2Proof.Machine.execFence tile s
  | .fenceDone tile => Sys2Proof.Machine.execFenceDone tile s
  | .ewait tile => Sys2Proof.Machine.execEwait tile s
  | .ewaitDone tile => Sys2Proof.Machine.execEwaitDone tile s
  | .rel tile => Sys2Proof.Machine.execRel tile s
  | .relDone tile => Sys2Proof.Machine.execRelDone tile s
  | .acq tile => Sys2Proof.Machine.execAcq tile s
  | .acqDone tile => Sys2Proof.Machine.execAcqDone tile s
  | .cwait tile => Sys2Proof.Machine.execCwait tile s
  | .cwaitDone tile => Sys2Proof.Machine.execCwaitDone tile s
  | .cwaitTimeout tile => Sys2Proof.Machine.execCwaitTimeout tile s
  | .trd tile => Sys2Proof.Machine.execTrd tile s
  | .tend tile => Sys2Proof.Machine.execTend tile s
  | .tret tile => Sys2Proof.Machine.execTret tile s
  | .taskEndDone tile => Sys2Proof.Machine.execTaskEndDone tile s
  | .icinv tile => Sys2Proof.Machine.execIcinv tile s
  | .syscall tile => Sys2Proof.Machine.execSyscall tile s
  | .rti tile => Sys2Proof.Machine.execRti tile s
  | .csrr tile => Sys2Proof.Machine.execCsrr tile s
  | .csrw tile => Sys2Proof.Machine.execCsrw tile s
  | .illegal tile => Sys2Proof.Machine.execIllegal tile s
  | .interruptEntry tile => Sys2Proof.Machine.execInterruptEntry tile s
  | .write p => Sys2Proof.Machine.execWrite p s
  | .flaggedWrite p => Sys2Proof.Machine.execFlaggedWrite p s
  | .flagHoldApply k => Sys2Proof.Machine.execFlagHoldApply k s
  | .flagHoldTimeout k => Sys2Proof.Machine.execFlagHoldTimeout k s
  | .giCdZero domain => Sys2Proof.Machine.execGiCdZero domain s
  | .giFhClrPeak => Sys2Proof.Machine.execGiFhClrPeak s
  | .getReq p => Sys2Proof.Machine.execGetReq p s
  | .getDataSend k => Sys2Proof.Machine.execGetDataSend k s
  | .getData p => Sys2Proof.Machine.execGetData p s
  | .completion p => Sys2Proof.Machine.execCompletion p s
  | .ilvCommit die => Sys2Proof.Machine.execIlvCommit die s
  | .ilvCheckDone die => Sys2Proof.Machine.execIlvCheckDone die s
  | .patrolScrub stack pc => Sys2Proof.Machine.execPatrolScrub stack pc s
  | .hbmTempRead stack temp => Sys2Proof.Machine.execHbmTempRead stack temp s
  | .rfmIssue stack bank => Sys2Proof.Machine.execRfmIssue stack bank s
  | .hbmTrainingDone stack attempts ok => Sys2Proof.Machine.execHbmTrainingDone stack attempts ok s
  | .linkEnable port cls => Sys2Proof.Machine.execLinkEnable port cls s
  | .linkLock port signal => Sys2Proof.Machine.execLinkLock port signal s
  | .linkAlign port locked inverted => Sys2Proof.Machine.execLinkAlign port locked inverted s
  | .linkEq port skewed => Sys2Proof.Machine.execLinkEq port skewed s
  | .linkConfirm port skewed => Sys2Proof.Machine.execLinkConfirm port skewed s
  | .linkActive port => Sys2Proof.Machine.execLinkActive port s
  | .trainingTimeout port => Sys2Proof.Machine.execTrainingTimeout port s
  | .trainingFrame lane blocks request => Sys2Proof.Machine.execTrainingFrame lane blocks request s
  | .fomMeasure lane fom => Sys2Proof.Machine.execFomMeasure lane fom s
  | .fillerGroup port adjust => Sys2Proof.Machine.execFillerGroup port adjust s
  | .linkBlockReceive port lanes fec => Sys2Proof.Machine.execLinkBlockReceive port lanes fec s
  | .resend port seq => Sys2Proof.Machine.execResend port seq s
  | .resendRepeat port => Sys2Proof.Machine.execResendRepeat port s
  | .ackTimeout port => Sys2Proof.Machine.execAckTimeout port s
  | .pwrReq port target => Sys2Proof.Machine.execPwrReq port target s
  | .pwrAck port state => Sys2Proof.Machine.execPwrAck port state s
  | .pwrNak port state => Sys2Proof.Machine.execPwrNak port state s
  | .degrade port half => Sys2Proof.Machine.execDegrade port half s
  | .degradeAck port half => Sys2Proof.Machine.execDegradeAck port half s
  | .retrain port => Sys2Proof.Machine.execRetrain port s
  | .linkControlRepeat port => Sys2Proof.Machine.execLinkControlRepeat port s
  | .degradeTimeout port => Sys2Proof.Machine.execDegradeTimeout port s
  | .blockLockLoss lane => Sys2Proof.Machine.execBlockLockLoss lane s
  | .fomHoldExpiry lane => Sys2Proof.Machine.execFomHoldExpiry lane s
  | .laneForceFail lane => Sys2Proof.Machine.execLaneForceFail lane s
  | .linkRetrainCmd port => Sys2Proof.Machine.execLinkRetrainCmd port s
  | .quietIdle port => Sys2Proof.Machine.execQuietIdle port s
  | .wakePattern port => Sys2Proof.Machine.execWakePattern port s
  | .lnClrMin lane => Sys2Proof.Machine.execLnClrMin lane s
  | .portPresentChange port present => Sys2Proof.Machine.execPortPresentChange port present s
  | .packetRoute port vc => Sys2Proof.Machine.execPacketRoute port vc s
  | .linkBlockSend port => Sys2Proof.Machine.execLinkBlockSend port s
  | .unroutableTimeout port vc => Sys2Proof.Machine.execUnroutableTimeout port vc s
  | .rtrTblArm flipBeat => Sys2Proof.Machine.execRtrTblArm flipBeat s
  | .rtrTblDisarm => Sys2Proof.Machine.execRtrTblDisarm s
  | .rtrTblDataAccess write data => Sys2Proof.Machine.execRtrTblDataAccess write data s
  | .raddleWindow entry => Sys2Proof.Machine.execRaddleWindow entry s
  | .limiterRelease dst => Sys2Proof.Machine.execLimiterRelease dst s
  | .vcClrMax port vc => Sys2Proof.Machine.execVcClrMax port vc s
  | .nodeIdWrite id => Sys2Proof.Machine.execNodeIdWrite id s
  | .nodeIdClear => Sys2Proof.Machine.execNodeIdClear s
  | .beatStart => Sys2Proof.Machine.execBeatStart s
  | .bellSend => Sys2Proof.Machine.execBellSend s
  | .bell port p => Sys2Proof.Machine.execBell port p s
  | .syncTimeout => Sys2Proof.Machine.execSyncTimeout s
  | .btPeriodWrite next change => Sys2Proof.Machine.execBtPeriodWrite next change s
  | .btFlipArm flipBeat => Sys2Proof.Machine.execBtFlipArm flipBeat s
  | .btFlipDisarm => Sys2Proof.Machine.execBtFlipDisarm s
  | .btFlipCopy => Sys2Proof.Machine.execBtFlipCopy s
  | .copyDone => Sys2Proof.Machine.execCopyDone s
  | .btTblDataAccess write data => Sys2Proof.Machine.execBtTblDataAccess write data s
  | .foldCommit entry => Sys2Proof.Machine.execFoldCommit entry s
  | .foldCommitChecked entry => Sys2Proof.Machine.execFoldCommitChecked entry s
  | .foldRelease entry => Sys2Proof.Machine.execFoldRelease entry s
  | .foldAbort entry => Sys2Proof.Machine.execFoldAbort entry s
  | .foldInstanceStart entry => Sys2Proof.Machine.execFoldInstanceStart entry s
  | .foldChunkSend entry dest => Sys2Proof.Machine.execFoldChunkSend entry dest s
  | .foldData p => Sys2Proof.Machine.execFoldData p s
  | .foldCredit p => Sys2Proof.Machine.execFoldCredit p s
  | .foldResend p => Sys2Proof.Machine.execFoldResend p s
  | .foldConfirm p => Sys2Proof.Machine.execFoldConfirm p s
  | .foldReleaseMsg p => Sys2Proof.Machine.execFoldReleaseMsg p s
  | .foldFault p => Sys2Proof.Machine.execFoldFault p s
  | .foldAbortMsg p => Sys2Proof.Machine.execFoldAbortMsg p s
  | .foldChunkTimeout entry dest => Sys2Proof.Machine.execFoldChunkTimeout entry dest s
  | .foldInstanceDone entry => Sys2Proof.Machine.execFoldInstanceDone entry s
  | .helloRepeat port => Sys2Proof.Machine.execHelloRepeat port s
  | .hello port p => Sys2Proof.Machine.execHello port p s
  | .heftAccept port => Sys2Proof.Machine.execHeftAccept port s
  | .portRoleApply port next => Sys2Proof.Machine.execPortRoleApply port next s
  | .directedRequest port p => Sys2Proof.Machine.execDirectedRequest port p s
  | .directedResponse port p => Sys2Proof.Machine.execDirectedResponse port p s
  | .selfHeft => Sys2Proof.Machine.execSelfHeft s
  | .grant p => Sys2Proof.Machine.execGrant p s
  | .bump p => Sys2Proof.Machine.execBump p s
  | .note p => Sys2Proof.Machine.execNote p s
  | .join p => Sys2Proof.Machine.execJoin p s
  | .ack p => Sys2Proof.Machine.execAck p s
  | .lost p => Sys2Proof.Machine.execLost p s
  | .noteResend seq => Sys2Proof.Machine.execNoteResend seq s
  | .renewSend => Sys2Proof.Machine.execRenewSend s
  | .leaseFence => Sys2Proof.Machine.execLeaseFence s
  | .pairWatchExpiry => Sys2Proof.Machine.execPairWatchExpiry s
  | .pairBehind => Sys2Proof.Machine.execPairBehind s
  | .pairCloneArm startBeat => Sys2Proof.Machine.execPairCloneArm startBeat s
  | .cloneDone img => Sys2Proof.Machine.execCloneDone img s
  | .watchExpiry w => Sys2Proof.Machine.execWatchExpiry w s
  | .resetOverrun level unit => Sys2Proof.Machine.execResetOverrun level unit s
  | .resetRequest level tile slot unit pad noDump => Sys2Proof.Machine.execResetRequest level tile slot unit pad noDump s
  | .partitionResetDone pad => Sys2Proof.Machine.execPartitionResetDone pad s
  | .chipResetDone failed => Sys2Proof.Machine.execChipResetDone failed s
  | .hbmRegionZeroed region => Sys2Proof.Machine.execHbmRegionZeroed region s
  | .powerCycleRequest => Sys2Proof.Machine.execPowerCycleRequest s
  | .powerCycleRepeat => Sys2Proof.Machine.execPowerCycleRepeat s
  | .powerCycleAnswer cc => Sys2Proof.Machine.execPowerCycleAnswer cc s
  | .peerState p => Sys2Proof.Machine.execPeerState p s
  | .dumpAccessTimeout offset => Sys2Proof.Machine.execDumpAccessTimeout offset s
  | .dumpDone => Sys2Proof.Machine.execDumpDone s
  | .dumpNow => Sys2Proof.Machine.execDumpNow s
  | .dumpRelease => Sys2Proof.Machine.execDumpRelease s
  | .dumpDrainDone => Sys2Proof.Machine.execDumpDrainDone s
  | .dumpDataRead => Sys2Proof.Machine.execDumpDataRead s
  | .bootStepDone failed => Sys2Proof.Machine.execBootStepDone failed s
  | .katDone tiles units => Sys2Proof.Machine.execKatDone tiles units s
  | .structureReload => Sys2Proof.Machine.execStructureReload s
  | .softDisable kind index off => Sys2Proof.Machine.execSoftDisable kind index off s
  | .musterRxArm entry cfg => Sys2Proof.Machine.execMusterRxArm entry cfg s
  | .musterTxGo cfg => Sys2Proof.Machine.execMusterTxGo cfg s
  | .musterData p failed => Sys2Proof.Machine.execMusterData p failed s
  | .musterPoll p => Sys2Proof.Machine.execMusterPoll p s
  | .musterReport p => Sys2Proof.Machine.execMusterReport p s
  | .musterPollTimeout node => Sys2Proof.Machine.execMusterPollTimeout node s
  | .musterClose p => Sys2Proof.Machine.execMusterClose p s
  | .fastLoopStep gates burst => Sys2Proof.Machine.execFastLoopStep gates burst s
  | .slowLoopStep steps => Sys2Proof.Machine.execSlowLoopStep steps s
  | .telemetryRefresh p1us p100us vin p1s => Sys2Proof.Machine.execTelemetryRefresh p1us p100us vin p1s s
  | .ftAssert gates => Sys2Proof.Machine.execFtAssert gates s
  | .ftDeassert => Sys2Proof.Machine.execFtDeassert s
  | .ftHoldExpiry => Sys2Proof.Machine.execFtHoldExpiry s
  | .pwrCtrlPark => Sys2Proof.Machine.execPwrCtrlPark s
  | .pwrCtrlUnpark => Sys2Proof.Machine.execPwrCtrlUnpark s
  | .parkExit => Sys2Proof.Machine.execParkExit s
  | .pwrCapWrite tray value => Sys2Proof.Machine.execPwrCapWrite tray value s
  | .sensorSample readings => Sys2Proof.Machine.execSensorSample readings s
  | .sensorSuspect spot => Sys2Proof.Machine.execSensorSuspect spot s
  | .thermalModelRun predictions gates => Sys2Proof.Machine.execThermalModelRun predictions gates s
  | .thermalTrip => Sys2Proof.Machine.execThermalTrip s
  | .ageingCheck tile steps => Sys2Proof.Machine.execAgeingCheck tile steps s
  | .droopTrip tile => Sys2Proof.Machine.execDroopTrip tile s
  | .coolantStale => Sys2Proof.Machine.execCoolantStale s
  | .inputUndervoltage deep => Sys2Proof.Machine.execInputUndervoltage deep s
  | .undervoltageClear => Sys2Proof.Machine.execUndervoltageClear s
  | .inputOvervoltage => Sys2Proof.Machine.execInputOvervoltage s
  | .followDwellExpiry tile => Sys2Proof.Machine.execFollowDwellExpiry tile s
  | .paceWindowEnd waitFrac => Sys2Proof.Machine.execPaceWindowEnd waitFrac s
  | .burstEnd => Sys2Proof.Machine.execBurstEnd s
  | .ticAck tile source => Sys2Proof.Machine.execTicAck tile source s
  | .ticEoi tile source => Sys2Proof.Machine.execTicEoi tile source s
  | .cicDeliver core pc enabled => Sys2Proof.Machine.execCicDeliver core pc enabled s
  | .cicEoi core source => Sys2Proof.Machine.execCicEoi core source s
  | .cicHostEoi source => Sys2Proof.Machine.execCicHostEoi source s
  | .msixSend source => Sys2Proof.Machine.execMsixSend source s
  | .holdoffExpiry g => Sys2Proof.Machine.execHoldoffExpiry g s
  | .tallyOverflow tile k v => Sys2Proof.Machine.execTallyOverflow tile k v s
  | .tagSample tile retired times stall lat => Sys2Proof.Machine.execTagSample tile retired times stall lat s
  | .tagRecordWrite => Sys2Proof.Machine.execTagRecordWrite s
  | .lmonSample m measured => Sys2Proof.Machine.execLmonSample m measured s
  | .lmonClear m => Sys2Proof.Machine.execLmonClear m s
  | .mctpPacket binding requester tag som eom bytes => Sys2Proof.Machine.execMctpPacket binding requester tag som eom bytes s
  | .setEndpointId binding eid => Sys2Proof.Machine.execSetEndpointId binding eid s
  | .getEndpointId binding => Sys2Proof.Machine.execGetEndpointId binding s
  | .getMctpVersionSupport binding => Sys2Proof.Machine.execGetMctpVersionSupport binding s
  | .getMessageTypeSupport binding => Sys2Proof.Machine.execGetMessageTypeSupport binding s
  | .getVendorDefinedMessageSupport binding => Sys2Proof.Machine.execGetVendorDefinedMessageSupport binding s
  | .getIdentity binding inst => Sys2Proof.Machine.execGetIdentity binding inst s
  | .setCap binding inst cap => Sys2Proof.Machine.execSetCap binding inst cap s
  | .park binding inst request => Sys2Proof.Machine.execPark binding inst request s
  | .coolant binding inst flow inlet => Sys2Proof.Machine.execCoolant binding inst flow inlet s
  | .getSetting binding inst id => Sys2Proof.Machine.execGetSetting binding inst id s
  | .setSetting binding inst id value restore => Sys2Proof.Machine.execSetSetting binding inst id value restore s
  | .getCert binding inst offset length => Sys2Proof.Machine.execGetCert binding inst offset length s
  | .attest binding inst nonce mask => Sys2Proof.Machine.execAttest binding inst nonce mask s
  | .queryDeviceIdentifiers binding => Sys2Proof.Machine.execQueryDeviceIdentifiers binding s
  | .getFirmwareParameters binding => Sys2Proof.Machine.execGetFirmwareParameters binding s
  | .requestUpdate binding mts => Sys2Proof.Machine.execRequestUpdate binding mts s
  | .passComponentTable binding component => Sys2Proof.Machine.execPassComponentTable binding component s
  | .updateComponent binding component size => Sys2Proof.Machine.execUpdateComponent binding component size s
  | .firmwareData bytes => Sys2Proof.Machine.execFirmwareData bytes s
  | .verifyDone => Sys2Proof.Machine.execVerifyDone s
  | .applyDone => Sys2Proof.Machine.execApplyDone s
  | .activateFirmware binding => Sys2Proof.Machine.execActivateFirmware binding s
  | .getStatus binding => Sys2Proof.Machine.execGetStatus binding s
  | .cancelUpdateComponent binding => Sys2Proof.Machine.execCancelUpdateComponent binding s
  | .cancelUpdate binding => Sys2Proof.Machine.execCancelUpdate binding s
  | .updateAgentTimeout => Sys2Proof.Machine.execUpdateAgentTimeout s
  | .microcodeQuiesced => Sys2Proof.Machine.execMicrocodeQuiesced s
  | .quiesceTimeout => Sys2Proof.Machine.execQuiesceTimeout s
  | .microcodeBroadcastDone failed => Sys2Proof.Machine.execMicrocodeBroadcastDone failed s
  | .fwConfirm => Sys2Proof.Machine.execFwConfirm s
  | .confirmTimeout => Sys2Proof.Machine.execConfirmTimeout s
  | .svnAdvanceDone => Sys2Proof.Machine.execSvnAdvanceDone s
  | .measExtend data => Sys2Proof.Machine.execMeasExtend data s
  | .i3cEntdaa mctp telem => Sys2Proof.Machine.execI3cEntdaa mctp telem s
  | .i3cTelemetryRead len => Sys2Proof.Machine.execI3cTelemetryRead len s
  | .i3cTelemetryWrite => Sys2Proof.Machine.execI3cTelemetryWrite s
  | .pcieReset => Sys2Proof.Machine.execPcieReset s
  | .connectorMate level pos rcvr => Sys2Proof.Machine.execConnectorMate level pos rcvr s
  | .prechargeDone => Sys2Proof.Machine.execPrechargeDone s
  | .pwrEnAssert => Sys2Proof.Machine.execPwrEnAssert s
  | .softStartComplete => Sys2Proof.Machine.execSoftStartComplete s
  | .release => Sys2Proof.Machine.execRelease s
  | .releaseDone => Sys2Proof.Machine.execReleaseDone s
  | .mateBreak => Sys2Proof.Machine.execMateBreak s
  | .auxUndervoltage => Sys2Proof.Machine.execAuxUndervoltage s
  | .overcurrent => Sys2Proof.Machine.execOvercurrent s
  | .engineResetDone tile e => Sys2Proof.Machine.execEngineResetDone tile e s
  | .heartbeat n => Sys2Proof.Machine.execHeartbeat n s
  | .watchWindowWrite level us => Sys2Proof.Machine.execWatchWindowWrite level us s
  | .holdoffUsWrite g value => Sys2Proof.Machine.execHoldoffUsWrite g value s
  | .linkPwrTargetWrite port target cls => Sys2Proof.Machine.execLinkPwrTargetWrite port target cls s
  | .powerModeWrite mode => Sys2Proof.Machine.execPowerModeWrite mode s
  | .pcieConfigWrite d3hot msixEnable functionMask => Sys2Proof.Machine.execPcieConfigWrite d3hot msixEnable functionMask s
  | .writeBackDone tile => Sys2Proof.Machine.execWriteBackDone tile s

end Sys2Proof.Machine
end

