-- ==== Sys2Proof/Safety.lean ====
section
/-! DEFINITION. What counts as a safe run, and the terms in which the statements say what a command does: that it
completes, and what it leaves unchanged. -/
namespace Sys2Proof.Safety
open Sys2Proof.Machine

/-- A step that neither faults nor is refused. -/
def StepsOn (s : State) : Prop := ∃ t, step s = .next t

/-- The memory of a state is in canonical form. -/
def MemoryOk (s : State) : Prop := memWf s.mem = true

/-- Every state of a run of `k` steps goes on, and keeps the form of its memory. -/
def SafeFor : Nat → State → Prop
  | 0, s => MemoryOk s
  | k + 1, s => MemoryOk s ∧ ∃ t, step s = .next t ∧ SafeFor k t

/-- The lists of a tile have the lengths that R58 and R142 give its slots, registers, planes and channels. -/
def TileOk (x : Tile) : Prop :=
  x.slots.length = 32 ∧ x.g.length = 32 ∧ x.gS.length = 8 ∧ x.p.length = 8 ∧ x.v.length = 32 ∧ x.planes.length = 4
    ∧ x.dma.length = 4

/-- What every step keeps: memory in canonical form, and every tile with its slots, registers, planes and channels. -/
def Inv (s : State) : Prop := MemoryOk s ∧ ∀ e ∈ s.tiles, TileOk e.2

/-- The command answers a next state, and `P` holds of it. -/
def Completes (c : Instr) (s : State) (P : State → Prop) : Prop := ∃ t, exec c s = .next t ∧ P t

/-- The registers at all offsets but the listed ones keep what they hold, and so do the measures behind the tally counters
of every tile none of whose counters is listed. -/
def RegsKept (offs : List Nat) (s t : State) : Prop :=
  (∀ o, o ∉ offs → aget t.regs o = aget s.regs o)
    ∧ ∀ m, (∀ i, i < 8 → RegId.TL_TALLY_CNT.offset m i ∉ offs) → t.meter m = s.meter m

/-- Nothing changes but registers at the listed offsets. -/
def OnlyRegs (offs : List Nat) (s t : State) : Prop := t = { s with regs := t.regs } ∧ RegsKept offs s t

/-- The tiles other than `n` keep what they hold. -/
def TilesKept (n : Nat) (s t : State) : Prop := ∀ m, m ≠ n → t.tile m = s.tile m

/-- Nothing changes but tile `n` and registers at the listed offsets. -/
def OnlyTile (n : Nat) (offs : List Nat) (s t : State) : Prop :=
  t = { s with regs := t.regs, tiles := t.tiles, meters := t.meters } ∧ RegsKept offs s t ∧ TilesKept n s t

/-- The paddocks other than `q` keep what they hold. -/
def PadsKept (q : Nat) (s t : State) : Prop := ∀ r, r ≠ q → t.pad r = s.pad r

/-- Every byte outside the `n` bytes from address `a` upwards keeps its value. -/
def BytesKept (a n : Nat) (s t : State) : Prop := ∀ b, b < a ∨ a + n ≤ b → memByte t.mem b = memByte s.mem b

/-- The offsets of a tile's eight tally counters (R468). -/
def tallyOffs (n : Nat) : List Nat := (List.range 8).map fun i => RegId.TL_TALLY_CNT.offset n i

/-- The instruction word `w` stands at the PC of tile `n`, the sequencer may issue it, no pending vector result is one of
its registers `u`, and its guard is true (R143, R161). -/
def Issues (n w : Nat) (u : Uses) (s : State) : Prop :=
  s.seqActive n = true ∧ (s.tile n).pc.toNat < s.hbmCap ∧ (s.tile n).fetch (s.tile n).pc.toNat = some w
    ∧ (s.tile n).pendingUse u.gs (iPr w :: u.ps) = false ∧ (s.tile n).guard w = true

/-- An instruction of tile `n` retired: the tile is `x` with the PC 8 further, and nothing else changed but the tile's
tally counters. -/
def Retired (n : Nat) (x : Tile) (s t : State) : Prop :=
  OnlyTile n (tallyOffs n) s t ∧ t.tile n = { x with pc := x.pc + 8 }

/-- The sequencer of tile `n` waits at its PC with an instruction of kind `k`, and nothing else changed. -/
def Waits (n : Nat) (k : WaitKind) (w : Nat) (puts : List Nat) (s t : State) : Prop :=
  OnlyTile n [] s t ∧ t.tile n = { s.tile n with wait := some ⟨k, w, puts, false⟩ }

/-- A precise fault of task code (R177, R179, R180): the running task's slot goes to ABORT, no register of the task and
no byte of memory changes, and the fault is recorded with its cause and PC where no earlier record stands. -/
def TaskFaults (n cause : Nat) (s t : State) : Prop :=
  t = { s with regs := t.regs, tiles := t.tiles } ∧ TilesKept n s t
    ∧ RegsKept [RegId.TL_FAULT.offset n 0, RegId.TL_FAULT_PC.offset n 0, RegId.TL_FAULT_ADDR.offset n 0] s t
    ∧ (t.tile n).g = (s.tile n).g ∧ (t.tile n).pc = (s.tile n).pc ∧ (t.tile n).v = (s.tile n).v
    ∧ (∀ k, (s.tile n).runSlot = some k → ((t.tile n).slot k).state = .abort)
    ∧ (s.flag TL_FAULT_valid n = false →
        t.fld TL_FAULT_cause n = cause ∧ t.flag TL_FAULT_precise n = true ∧ t.flag TL_FAULT_level n = false
          ∧ t.fld TL_FAULT_PC_pc n = (s.tile n).pc.toNat)

/-- Link blocks left by port `k`, after which `out` is what has been sent on the module's buses, and the port's link layer is
`x` but for the loans that go with blocks (R266). -/
def LinkSent (k : Nat) (out : List Output) (x : LinkPort) (s t : State) : Prop :=
  t = { s with regs := t.regs, links := t.links, out := out }
    ∧ RegsKept ((List.range 8).map fun v => RegId.RTR_VC_CREDIT.offset k v) s t
    ∧ (∀ m, m ≠ k → t.link m = s.link m)
    ∧ t.link k = { x with owed := (t.link k).owed, lendLast := (t.link k).lendLast }

/-- The router's input buffers hold the packets of `l`. Of packets that wait behind an internal port further units may have
come (R265). -/
def InputsAre (l : List InPacket) (t : State) : Prop :=
  t.input.length = l.length ∧ ∀ (i : Nat) (e : InPacket), l[i]? = some e → ∃ n, e.came ≤ n ∧ (e.port < 8 → n = e.came)
    ∧ t.input[i]? = some { e with came := n }

/-- The packets of `l` are leaving, and no others. Of packets that wait behind an internal port further units may have come
(R265). -/
def OutputsAre (l : List OutPacket) (t : State) : Prop :=
  t.output.length = l.length ∧ ∀ (i : Nat) (o : OutPacket), l[i]? = some o → ∃ n, o.came ≤ n ∧ t.output[i]? = some { o with came := n }

/-- The packet `e` at position `i` of the input buffers is gone from them. Where an external port has received only a part of
it, the rest goes to `sink`: port 8 delivers it and port 9 discards it, as its units come (R267). -/
def LeftInput (s : State) (i : Nat) (e : InPacket) (sink : Nat) (t : State) : Prop :=
  t.mem = s.mem ∧ t.tiles = s.tiles ∧ InputsAre (ldel s.input i) t
    ∧ (8 ≤ e.port ∨ e.packet.length ≤ e.came → OutputsAre s.output t)
    ∧ (e.port < 8 → e.came < e.packet.length → t.output
        = s.output ++ [⟨sink, e.packet, e.came, e.port, e.packet.vc, e.wire, e.came, s.routed, false⟩])

/-- One packet came into the router's buffers at an internal port, behind those before it, and `P` holds of it as it was
sent (R252, R265). -/
def Offered (s t : State) (port : Nat) (P : Packet → Prop) : Prop := ∃ q : Packet, t.input = s.input ++ [s.entry port q] ∧ P q

/-- A command that sends packets and stores nothing keeps every byte of memory; a standby stores the rank packets that it
keeps back in its hold's region, and nothing elsewhere (R361). -/
def MemSent (s t : State) : Prop :=
  (s.standby = false → t.mem = s.mem)
    ∧ BytesKept (hbmKey (s.fld RTR_PAIR_HOLD_base)) (s.fld RTR_PAIR_HOLD_size_mib * 2 ^ 20) s t

/-- A command that sends packets and stores nothing: memory as `MemSent` says, and on a node that is no standby no register
changes but RTR_PAIR_EVT and the listed ones. -/
def SendKept (offs : List Nat) (s t : State) : Prop :=
  MemSent s t ∧ (s.standby = false → RegsKept (RegId.RTR_PAIR_EVT.offset 0 0 :: offs) s t)

/-- A packet that its receiver takes up as it stands: it is not malformed (R258), a stale node does not leave it alone
(R373), and its epoch is the one that its source's entry in the rank table holds, where it has one (R365). -/
def TakenUp (p : Packet) (s : State) : Prop := p.status ≠ 3 ∧ s.staleFor p = false ∧ s.epochCheck p = (true, s)

/-- Where the bytes of an own-node address lie in memory (R24). -/
def byteKey (a : Nat) : Nat := if gaSpace a = 0 then hbmKey (gaHbm a) else spadKey (gaTile a) (gaSpad a)

/-- The bytes of a range are stored and no others, whatever packets the command sends. On a standby the hold's region may
take the packets that it keeps back (R361). -/
def Stored (a : Nat) (bs : List Byte) (s t : State) : Prop :=
  (s.standby = false → memLoad t.mem a bs.length = bs ∧ BytesKept a bs.length s t)
    ∧ ∀ b, (b < a ∨ a + bs.length ≤ b) → (b < hbmKey (s.fld RTR_PAIR_HOLD_base)
        ∨ hbmKey (s.fld RTR_PAIR_HOLD_base) + s.fld RTR_PAIR_HOLD_size_mib * 2 ^ 20 ≤ b) → memByte t.mem b = memByte s.mem b

/-- A range of HBM in service that ends within its 40-bit offsets and holds no uncorrectable error. -/
def HbmGood (a n : Nat) (s : State) : Prop :=
  gaSpace a = 0 → s.hbmOn = true ∧ gaHbm a + n ≤ 2 ^ 40 ∧ ∀ g ∈ granules (gaHbm a) n, g ∉ s.hbmUe

end Sys2Proof.Safety
end

