-- ==== Sys2Proof/Certificates/Slice0/Obligations.lean ====
section
/-! DEFINITION. The statements for the provers: what each family of commands does, what it leaves unchanged, and what every
step keeps. -/
open Sys2Proof Sys2Proof.Machine Sys2Proof.Safety
set_option maxRecDepth 4000

/-- A step takes the command at the front of the queue and runs it with the rest of the queue; on an empty queue it lets
the block's own clock advance (log entry 1: the model's choice). -/
def Obligations.StepRunsFrontCommand : Prop :=
  (∀ (c : Instr) (q : List Instr) (s : State), step { s with pending := c :: q } = exec c { s with pending := q })
    ∧ ∀ s : State, s.pending = [] → step s = .next s.idle

/-- Intake requests (R48, R49): a request within the limits joins its paddock's FIFO behind the requests before it; one
with units outside the limits is answered at once with result 4 and sets GI_EVT.refused, one that finds the FIFO full
with result 1 (log entry 22 names the unit count of such answers), one for a disabled intake or an unknown partition
with result 2, one for a resetting target with result 3.
Grants (R48, R50): the oldest request of a paddock, and no later one, is granted once its units are free; its units
count as occupied from then on, under a ticket that no other grant has. An expired grant's units are free again.
The paddock and domain registers (R45, R75, R194, R205, R209 to R211): a paddock configuration that would share a cluster,
a partition ID or a domain is ignored and sets bad_config, another one is applied; a domain range that would overlap another's or
pass the 1,024 domains is ignored and sets bad_dom; zeroing a domain clears its count and error; the peak of the
flag-hold buffer is set to its present use. -/
def Obligations.IntakeAndPaddocks : Prop :=
  (∀ (p : Packet) (s : State), TakenUp p s →
      let units := bitsOf (p.word 2) 12 0
      let tag := bitsOf (p.word 2) 31 16
      (s.padOfPartition p.partition = none → exec (.intakeReq p) s = .next ((s.take p).answerRequest p tag 2))
      ∧ ∀ q, s.padOfPartition p.partition = some q →
        (s.padResetting q = true → exec (.intakeReq p) s = .next ((s.take p).answerRequest p tag 3))
        ∧ (s.padResetting q = false → s.flag GI_CTRL_enable = false →
            exec (.intakeReq p) s = .next ((s.take p).answerRequest p tag 2))
        ∧ (s.padResetting q = false → s.flag GI_CTRL_enable = true → units < 3 ∨ s.maxUnits < units →
            exec (.intakeReq p) s = .next (((s.take p).eventBit GI_EVT_refused q).answerRequest p tag 4))
        ∧ (s.padResetting q = false → s.flag GI_CTRL_enable = true → 3 ≤ units → units ≤ s.maxUnits →
            1024 ≤ (s.pad q).requests.length →
            exec (.intakeReq p) s = .next (((s.take p).eventBit GI_EVT_request_retry q).answerRequest p tag 1))
        ∧ (s.padResetting q = false → s.flag GI_CTRL_enable = true → 3 ≤ units → units ≤ s.maxUnits →
            (s.pad q).requests.length < 1024 →
            Completes (.intakeReq p) s fun t =>
              t = { s with delivered := t.delivered, pads := t.pads }
                ∧ (t.pad q).requests = (s.pad q).requests ++ [⟨{ p with body := [] }, units, tag⟩]
                ∧ (t.pad q).queue = (s.pad q).queue ∧ PadsKept q s t))
  ∧ ((∀ (q : Nat) (s : State) (r : IntakeRequest) (rs : List IntakeRequest), q < 8 → (s.pad q).requests = r :: rs →
        s.padResetting q = false → s.occupancy q + r.units ≤ 4096 →
        Completes (.intakeGrant q) s fun t =>
          (t.pad q).requests = rs ∧ (t.pad q).queue = (s.pad q).queue ∧ PadsKept q s t
            ∧ t.occupancy q = s.occupancy q + r.units ∧ t.tiles = s.tiles ∧ SendKept [] s t
            ∧ ∃ k, (s.grants.length < 65536 → k ∉ s.grants.map (·.ticket))
                ∧ t.grants = s.grants ++ [⟨k, r.header.src, r.header.partition, q, r.units⟩])
      ∧ (∀ (q : Nat) (s : State) (r : IntakeRequest) (rs : List IntakeRequest), (s.pad q).requests = r :: rs →
        4096 < s.occupancy q + r.units → exec (.intakeGrant q) s = .next s)
      ∧ (∀ (k : Nat) (s : State) (g : Grant), s.grants.find? (fun g => g.ticket == k) = some g → g.pad < 8 →
        Completes (.grantExpired k) s fun t =>
          t = { s with regs := t.regs, grants := t.grants, pads := t.pads }
            ∧ t.grants = s.grants.filter (fun h => h.ticket != k)
            ∧ t.fld GI_EVT_grant_expired = withBit (s.fld GI_EVT_grant_expired) g.pad true
            ∧ RegsKept [RegId.GI_EVT.offset 0 0] s t)
      ∧ ∀ (q : Nat) (s : State), q < 8 → s.fld GI_PAD_WATER_high_units q ≤ s.occupancy q → (s.pad q).satArmed = true →
        Completes (.intakeSaturated q) s fun t =>
          t = { s with regs := t.regs, pads := t.pads } ∧ (t.pad q).satArmed = false ∧ PadsKept q s t
            ∧ t.fld GI_EVT_saturated = withBit (s.fld GI_EVT_saturated) q true
            ∧ RegsKept [RegId.GI_EVT.offset 0 0] s t)
  ∧ (∀ (q : Nat) (d : Word64) (s : State),
      (q < 8 →
        let v := s.padCfgAfter q d.toNat
        let clash := s.padClash q (bitsOf v 29 12) (bitsOf v 11 0)
        (clash = true ↔ ∃ r, r < 8 ∧ r ≠ q ∧ s.flag GI_PAD_CFG_valid r = true
            ∧ (s.fld GI_PAD_CFG_clusters r &&& bitsOf v 29 12 ≠ 0 ∨ s.fld GI_PAD_CFG_partition r = bitsOf v 11 0
              ∨ ∃ d, s.padOwns q d = true ∧ s.padOwns r d = true))
        ∧ (bitsOf v 30 30 = 1 → clash = true →
          Completes (.giPadCfgWrite q d) s fun t =>
            OnlyRegs [RegId.GI_EVT.offset 0 0] s t ∧ t.flag GI_EVT_bad_config = true)
        ∧ ((bitsOf v 30 30 = 0 ∨ clash = false) →
          Completes (.giPadCfgWrite q d) s fun t =>
            OnlyRegs [RegId.GI_PAD_CFG.offset q 0] s t ∧ t.reg .GI_PAD_CFG q = v)
        ∧ (s.flag GI_CTRL_lock = false → v = withBits (withBits (withBits (withBits (withBits (s.reg .GI_PAD_CFG q)
            11 0 (bitsOf d.toNat 11 0)) 29 12 (bitsOf d.toNat 29 12)) 30 30 (bitsOf d.toNat 30 30))
            31 31 (bitsOf d.toNat 31 31)) 32 32 (bitsOf d.toNat 32 32))
        ∧ (s.flag GI_CTRL_lock = false →
          let b := bitsOf d.toNat 9 0
          let n := bitsOf d.toNat 20 10
          let clash := ∃ r, r < 8 ∧ r ≠ q ∧ s.flag GI_PAD_CFG_valid r = true ∧ n ≠ 0 ∧ s.fld GI_PAD_DOM_count r ≠ 0
            ∧ b < s.fld GI_PAD_DOM_base r + s.fld GI_PAD_DOM_count r ∧ s.fld GI_PAD_DOM_base r < b + n
          (clash ∨ 1024 < b + n →
            Completes (.giPadDomWrite q d) s fun t =>
              OnlyRegs [RegId.GI_CD_EVT.offset 0 0] s t ∧ t.flag GI_CD_EVT_bad_dom = true)
          ∧ (¬ clash → b + n ≤ 1024 →
            Completes (.giPadDomWrite q d) s fun t =>
              OnlyRegs [RegId.GI_PAD_DOM.offset q 0] s t ∧ t.fld GI_PAD_DOM_base q = b ∧ t.fld GI_PAD_DOM_count q = n)))
      ∧ (∀ e, e < 1024 →
        Completes (.giCdZero e) s fun t =>
          t.reg .GI_CD e = 0 ∧ t.flagHold = s.flagHold.filter (fun h => h.packet.domain != e) ∧ MemSent s t
            ∧ t.tiles = s.tiles ∧ ∀ c, c < 1024 → c ≠ e → t.reg .GI_CD c = s.reg .GI_CD c)
      ∧ (s.flagHold.length ≤ 256 → Completes .giFhClrPeak s fun t =>
          OnlyRegs [RegId.GI_FH_STAT.offset 0 0] s t ∧ t.fld GI_FH_STAT_peak = s.flagHold.length))

/-- A graph packet with a valid ticket (R50, R51): the ticket is used up, and the packet enters its paddock's queue with
1 + 2n units and all its descriptors; a packet refused whole uses its ticket up too, leaves the queues alone and is
reported in GI_PAD_REFUSE (R54); one on a virtual channel that carries no graph packets is discarded and counted (R47).
Placement (R54, R55, R57): a descriptor that passes the checks goes into the lowest FREE slot of its tile, with its
counters at zero and its pools at their initial values before the early tokens of its task are merged; one that fails a
check is placed nowhere and reported.
Task selection (R59, R60, R67): the selected slot enters RUN, each used threshold and need is subtracted, and the
task starts at its entry with its arguments in g1 to g4 and its task ID, slot number and start count in g5.
The ready logic's choice (R67): the selected slot is READY, and no READY slot has a higher priority, or the same
priority and a smaller stamp, or both the same and a lower number. -/
def Obligations.GraphsPlaceTasks : Prop :=
  (∀ (p : Packet) (s : State) (q : Nat) (g : Grant), TakenUp p s → s.padOfPartition p.partition = some q →
      s.grantFor p = some g →
      let n := preCount p
      (vcAllowed tGRAPH p.vc = false → Completes (.graph p) s fun t =>
        t = { s with delivered := t.delivered, regs := t.regs } ∧ RegsKept [RegId.RTR_PORT_STAT.offset portM 0] s t
          ∧ t.fld RTR_PORT_STAT_malformed portM = min 15 (s.fld RTR_PORT_STAT_malformed portM + 1))
      ∧ (vcAllowed tGRAPH p.vc = true → s.padResetting q = false → s.graphMalformed p = false → 1 + 2 * n ≤ g.units →
        Completes (.graph p) s fun t =>
          t = { s with delivered := t.delivered, grants := t.grants, pads := t.pads }
            ∧ t.grants = s.grants.filter (fun h => h.ticket != g.ticket) ∧ PadsKept q s t
            ∧ ∃ e : QueuedGraph, (t.pad q).queue = (s.pad q).queue ++ [e] ∧ e.header = { p with body := [] }
                ∧ e.count = n ∧ e.units = 1 + 2 * n ∧ e.rest = descriptorsOf n (p.body.drop 8) ∧ e.next = 0
                ∧ e.placed = 0 ∧ e.refusedMap = 0 ∧ e.reply = preReply p ∧ e.graphId = preGraphId p)
      ∧ (vcAllowed tGRAPH p.vc = true → s.graphCause p ≠ 0 →
        Completes (.graph p) s fun t =>
          t.grants = s.grants.filter (fun h => h.ticket != g.ticket) ∧ (∀ r, (t.pad r).queue = (s.pad r).queue)
            ∧ t.tiles = s.tiles ∧ MemSent s t ∧ t.fld GI_PAD_REFUSE_last_cause q = s.graphCause p))
  ∧ (∀ (s : State) (q : Nat) (e : QueuedGraph) (es : List QueuedGraph) (d : List Word64) (ds : List (List Word64)),
      q < 8 → s.nextPad = some q → (s.pad q).queue = e :: es → e.rest = d :: ds →
      (∀ k, s.descriptorCause q d = 0 → (s.tile (dTile d)).freeSlot = some k →
        Completes .descriptorPlace s fun t =>
          TilesKept (dTile d) s t ∧ MemSent s t ∧ t.grants = s.grants ∧ t.lastPad = q
            ∧ ((t.tile (dTile d)).slot k).desc = d
            ∧ (((t.tile (dTile d)).slot k).state = .wait ∨ ((t.tile (dTile d)).slot k).state = .ready)
            ∧ ((∀ x ∈ (s.tile (dTile d)).etb, x.task ≠ dTaskId d) →
                ((t.tile (dTile d)).slot k).cnt = [0, 0, 0, 0, 0, 0, 0, 0]
                  ∧ ((t.tile (dTile d)).slot k).pool = [dInit d 0, dInit d 1, dInit d 2, dInit d 3])
            ∧ (∀ x ∈ (t.tile (dTile d)).etb, x.task ≠ dTaskId d)
            ∧ ∀ j, j ≠ k → ((t.tile (dTile d)).slot j).desc = ((s.tile (dTile d)).slot j).desc)
      ∧ (s.descriptorCause q d ≠ 0 →
        Completes .descriptorPlace s fun t =>
          t.tiles = s.tiles ∧ MemSent s t ∧ t.grants = s.grants ∧ t.lastPad = q
            ∧ t.fld GI_PAD_REFUSE_last_cause q = s.descriptorCause q d
            ∧ t.fld GI_PAD_REFUSE_last_tile q = dTile d))
  ∧ (∀ (n : Nat) (s : State) (k : Nat) (sl : Slot), n < 144 → s.parked = false → s.seqIdle n = true →
      s.padRun n = true → bestSlot ((s.markReady n).tile n).slots = some (k, sl) →
      Completes (.taskSelect n) s fun t =>
        OnlyTile n (tallyOffs n) s t
          ∧ ((t.tile n).slot k).state = .run ∧ ((t.tile n).slot k).desc = sl.desc
          ∧ (∀ i, i < 8 → lget ((t.tile n).slot k).cnt i 0
              = if i < dNIn sl.desc then lget sl.cnt i 0 - dThr sl.desc i else lget sl.cnt i 0)
          ∧ (∀ j, j < 4 → lget ((t.tile n).slot k).pool j 0
              = if j < dNOut sl.desc then lget sl.pool j 0 - dNeed sl.desc j else lget sl.pool j 0)
          ∧ (t.tile n).g = [0, dArg sl.desc 0, dArg sl.desc 1, dArg sl.desc 2, dArg sl.desc 3,
              BitVec.ofNat 64 (dTaskId sl.desc + k * 2 ^ 32 + sl.startCount % 2 ^ 24 * 2 ^ 40)] ++ List.replicate 26 0
          ∧ (t.tile n).pc.toNat = dEntry sl.desc ∧ (t.tile n).v = (s.tile n).v ∧ (t.tile n).p = (s.tile n).p
          ∧ ∀ j, j ≠ k → ((t.tile n).slot j).desc = ((s.tile n).slot j).desc)
  ∧ (∀ (l : List Slot) (k : Nat) (sl : Slot), bestSlot l = some (k, sl) →
      l[k]? = some sl ∧ sl.state = .ready
        ∧ ∀ (j : Nat) (x : Slot), l[j]? = some x → x.state = .ready →
            dPrio x.desc ≤ dPrio sl.desc
              ∧ (dPrio x.desc = dPrio sl.desc → sl.stamp ≤ x.stamp)
              ∧ (dPrio x.desc = dPrio sl.desc → sl.stamp = x.stamp → k ≤ j))

/-- Tokens and credits (R62, R63, R201): an entry that arrives unflagged for a live task is added to its counter or pool,
saturating at 65,535; a flagged packet whose domain has not reached its value waits in the flag-hold buffer and changes
no tile.
Refused tokens (R64, R66): an entry refused with result 1 waits at its tile to be sent again, first after 1 µs, and with
each further refusal after twice as long, up to 64 µs; one refused with results 2 to 5 is recorded in TL_NAK_LAST; a
re-sent entry travels alone; an early-token entry that expires is discarded and sets TL_EVT.stale_token. That a
TOKEN_NAK's command names the refusals that it repeats is the model's choice (log entry 101). -/
def Obligations.TokensReachTasks : Prop :=
  (∀ (p : Packet) (s : State) (credit : Bool) (c : Instr), TakenUp p s →
      (credit = false ∧ p.type = tTOKEN ∧ c = .token p ∨ credit = true ∧ p.type = tCREDIT ∧ c = .credit p) →
      (∀ (w : Word64) (k : Nat), p.flagged = false → tokenEntries p = [w] → s.entryResult p credit w = 0 →
        (s.tile (teTile w)).liveSlot (teTask w) = some k →
        let n := teTile w
        let i := teIndex w
        Completes c s fun t =>
          TilesKept n s t ∧ t.mem = s.mem ∧ RegsKept (RegId.TL_EVT.offset n 0 :: tallyOffs n) s t
            ∧ (credit = false →
                ((t.tile n).slot k).cnt = lset ((s.tile n).slot k).cnt i (min 65535 (lget ((s.tile n).slot k).cnt i 0 + teCount w))
                  ∧ ((t.tile n).slot k).pool = ((s.tile n).slot k).pool)
            ∧ (credit = true →
                ((t.tile n).slot k).pool = lset ((s.tile n).slot k).pool i (min 65535 (lget ((s.tile n).slot k).pool i 0 + teCount w))
                  ∧ ((t.tile n).slot k).cnt = ((s.tile n).slot k).cnt)
            ∧ ∀ j, j ≠ k → (t.tile n).slot j = (s.tile n).slot j)
      ∧ (∀ q, p.flagged = true → s.padOfPartition p.partition = some q → s.padResetting q = false →
        s.padOwns q p.domain = true → s.flag GI_CD_err p.domain = false → s.reached p.domain (expectOf p) = false →
        s.flagHold.length < 256 → (s.flagHold.filter fun h => h.pad == q).length < s.fhQuota q →
        Completes c s fun t =>
          t.flagHold = s.flagHold ++ [⟨p, q⟩] ∧ t.tiles = s.tiles ∧ t.mem = s.mem
            ∧ RegsKept [RegId.GI_FH_STAT.offset 0 0] s t))
  ∧ ((∀ (p : Packet) (which : List Nat) (s : State) (w : Word64), bitAt p.sequence 15 = false →
        bitsOf p.sequence 7 0 < 144 → TakenUp p s → tokenEntries p = [w] →
        let n := bitsOf p.sequence 7 0
        let x := s.tile n
        let e := tokenEntry p.src p (bitAt p.operation 0) w
        let refusals := fun (x' : Tile) => Completes (.tokenNak ⟨p, which⟩) s fun t =>
          t = { s with delivered := t.delivered, tiles := t.tiles } ∧ TilesKept n s t ∧ t.tile n = x'
        (bitsOf (p.word 2) 39 36 = 1 →
          (which = [] → (∀ r ∈ x.tokSent, r.token ≠ e) →
            refusals { x with refused := x.refused ++ [⟨e, 1, true, 0, 0, 1⟩] })
          ∧ (∀ i r, which = [] → x.tokSent[i]? = some r → r.token = e → (∀ r' ∈ x.tokSent.take i, r'.token ≠ e) →
            refusals { x with
              tokSent := ldel x.tokSent i,
              refused := x.refused ++ [⟨e, 1, true, r.producer, r.number, r.place + 1⟩] })
          ∧ ∀ k r, which = [k + 1] → x.refused[k]? = some r → r.waiting = false → r.token = e →
            refusals { x with refused := lset x.refused k { r with waiting := true, interval := min 64 (2 * r.interval) } })
        ∧ (2 ≤ bitsOf (p.word 2) 39 36 → bitsOf (p.word 2) 39 36 ≤ 5 →
          Completes (.tokenNak ⟨p, which⟩) s fun t =>
            t = { s with delivered := t.delivered, regs := t.regs }
              ∧ RegsKept [RegId.TL_NAK_LAST.offset n 0, RegId.TL_EVT.offset n 0] s t
              ∧ t.flag TL_EVT_nak_refused n = true ∧ t.fld TL_NAK_LAST_task_id n = teTask w
              ∧ t.fld TL_NAK_LAST_result n = bitsOf (p.word 2) 39 36))
      ∧ (∀ (n k : Nat) (s : State) (r : RefusedToken), n < 144 → (s.tile n).refused[k]? = some r → r.waiting = true →
        r.token.expect < 2 ^ 32 → s.pairStalls = false →
        Completes (.tokenResend n k) s fun t =>
          SendKept (tallyOffs n) s t ∧ TilesKept n s t
            ∧ t.tile n = { s.tile n with refused := lset (s.tile n).refused k { r with waiting := false, seq := r.seq + 5 } }
            ∧ (s.paired = false → Offered s t (tilePort n) fun q => q.dst = r.token.node
                ∧ q.type = (if r.token.credit then tCREDIT else tTOKEN) ∧ tokenEntries q = [r.token.entry]
                ∧ q.flagged = r.token.flagged ∧ q.domain = r.token.domain ∧ expectOf q = r.token.expect
                ∧ q.partition = r.token.partition))
      ∧ ∀ (n k : Nat) (s : State), n < 144 → k < (s.tile n).etb.length →
        Completes (.earlyTokenExpiry n k) s fun t =>
          OnlyTile n [RegId.TL_EVT.offset n 0] s t ∧ t.tile n = { s.tile n with etb := ldel (s.tile n).etb k }
            ∧ t.flag TL_EVT_stale_token n = true)

/-- The TL_CMD operations and what ends them (R58, R93, R97, R102, R105): an abort takes a live slot to ABORT and records
cause 0x10, and the engines' queues lose its commands; a cleared slot is FREE, a cache operation starts unless one is in progress and leaves its cache empty, a
corrected scratchpad word is rewritten, an engine comes out of reset. -/
def Obligations.TileCommandsTakeEffect : Prop :=
  ∀ (n : Nat) (s : State),
    (∀ k, s.cmdReaches n = true → k < 32 →
      (((s.tile n).slot k).state = .wait ∨ ((s.tile n).slot k).state = .ready ∨ ((s.tile n).slot k).state = .run) →
      Completes (.tlCmdAbort n k) s fun t =>
        OnlyTile n [RegId.TL_FAULT.offset n 0, RegId.TL_FAULT_PC.offset n 0, RegId.TL_FAULT_ADDR.offset n 0] s t
          ∧ (t.tile n).slot k = { (s.tile n).slot k with state := .abort }
          ∧ (∀ j, j ≠ k → (t.tile n).slot j = (s.tile n).slot j
              ∨ ((s.tile n).slot k).state = .run ∧ ((s.tile n).slot j).state = .wait ∧ ((s.tile n).slot j).meets = true
                ∧ (t.tile n).slot j = { (s.tile n).slot j with state := .ready, stamp := s.cycles n })
          ∧ (t.tile n).matq = (s.tile n).matq.filter (fun c => c.slot != k)
          ∧ (t.tile n).vecq = (s.tile n).vecq.filter (fun c => c.slot != k)
          ∧ (t.tile n).g = (s.tile n).g ∧ (t.tile n).p = (s.tile n).p ∧ (t.tile n).v = (s.tile n).v
          ∧ (t.tile n).pc = (s.tile n).pc
          ∧ (s.flag TL_FAULT_valid n = false →
              t.fld TL_FAULT_cause n = 0x10 ∧ t.fld TL_FAULT_slot n = k ∧ t.flag TL_FAULT_valid n = true)
          ∧ (s.flag TL_FAULT_valid n = true → t.flag TL_FAULT_more n = true))
    ∧ (∀ k, n < 144 → k < 32 → (((s.tile n).slot k).state = .abort ∨ ((s.tile n).slot k).state = .retire) →
      Completes (.slotCleared n k) s fun t =>
        (t.tile n).slot k = Slot.empty ∧ (∀ j, j ≠ k → (t.tile n).slot j = (s.tile n).slot j) ∧ TilesKept n s t
          ∧ t.mem = s.mem ∧ RegsKept [RegId.MGT_RST_STAT.offset 0 0] s t)
    ∧ (s.cmdReaches n = true → (s.tile n).icOp = false → (s.tile n).dcOp = false →
      (Completes (.tlCmdIcacheInv n) s fun t => OnlyTile n [] s t ∧ t.tile n = { s.tile n with icOp := true })
      ∧ Completes (.tlCmdDcacheFlush n) s fun t => OnlyTile n [] s t ∧ t.tile n = { s.tile n with dcOp := true })
    ∧ (s.cmdReaches n = true → (s.tile n).icOp = true ∨ (s.tile n).dcOp = true →
      (Completes (.tlCmdIcacheInv n) s fun t => OnlyRegs [RegId.TL_EVT.offset n 0] s t ∧ t.flag TL_EVT_cmd_busy n = true)
      ∧ Completes (.tlCmdDcacheFlush n) s fun t =>
          OnlyRegs [RegId.TL_EVT.offset n 0] s t ∧ t.flag TL_EVT_cmd_busy n = true)
    ∧ (n < 144 → (s.tile n).icOp = true ∨ (s.tile n).dcOp = true →
      Completes (.cacheOpDone n) s fun t =>
        (t.tile n).icOp = false ∧ (t.tile n).dcOp = false ∧ TilesKept n s t
          ∧ (t.tile n).icache = (if (s.tile n).icOp then [] else (s.tile n).icache)
          ∧ ((s.tile n).dcOp = true → (t.tile n).dcache = [] ∧ (t.tile n).wb = [])
          ∧ ((s.tile n).dcOp = false → t.mem = s.mem ∧ (t.tile n).dcache = (s.tile n).dcache))
    ∧ (∀ w, n < 144 → w ∈ (s.tile n).spadRewrite →
      Completes (.spadCeRewrite n w) s fun t =>
        OnlyTile n [] s t ∧ w ∉ (t.tile n).spadCe ∧ w ∉ (t.tile n).spadRewrite
          ∧ t.tile n = { s.tile n with spadCe := (t.tile n).spadCe, spadRewrite := (t.tile n).spadRewrite })
    ∧ ∀ e, n < 144 → e ∈ (s.tile n).inReset → s.chipReset = false → (∀ q, s.padOfTile n = some q → q ∉ s.padReset) → s.staysHeld n = false →
      Completes (.engineResetDone n e) s fun t =>
        (t.tile n).inReset = (s.tile n).inReset.erase e ∧ TilesKept n s t
          ∧ (∀ j, (t.tile n).slot j = (s.tile n).slot j
              ∨ ((s.tile n).slot j).state = .wait ∧ ((s.tile n).slot j).meets = true
                ∧ ∃ c, (t.tile n).slot j = { (s.tile n).slot j with state := .ready, stamp := c })
          ∧ t.mem = s.mem ∧ RegsKept [RegId.MGT_RST_STAT.offset 0 0] s t

/-- Scalar and predicate instructions (R143, R148, R151): the result goes to the destination register, and the instruction
retires.
Branches and jumps (R152): a taken branch goes to PC + 8 times its offset, an untaken one to the next instruction, a
jump writes the link PC + 8; a JR to a target that is not a multiple of 8 raises an alignment fault and does not jump.
The tile's integer operations (R151) are those of 64-bit words: addition, subtraction and multiplication wrap, shift
counts are taken modulo 64, and a division by zero gives all ones and the dividend as remainder.
The register files (R142, R144): g0 reads as zero and p0 as all ones and a write to either is discarded, a write of
another register is read back, and g24 to g31 at S level are a bank of their own. -/
def Obligations.ScalarInstructions : Prop :=
  (∀ (n w : Nat) (s : State),
      (∀ op, iOp w = 0x01 ∨ iOp w = 0x02 → aluLegal op w = true → Issues n w (aluUses op w) s →
        Completes (.alu n op) s fun t =>
          let v := aluValue op ((s.tile n).gr (iF2 w)) (aluB (s.tile n) w)
            (match op with
              | .sel k => bitAt ((s.tile n).pr (k % 8)) 0
              | _ => false)
          Retired n (match op with
            | .cmpP _ => (s.tile n).setP (iF1 w) (if v = 1 then 2 ^ 64 - 1 else 0)
            | _ => (s.tile n).setG (iF1 w) v) s t)
      ∧ (iOp w = 0x03 → Issues n w ⟨[iF1 w], []⟩ s →
        Completes (.li n) s fun t => Retired n ((s.tile n).setG (iF1 w)
          (if bitAt w 48 then withBits ((s.tile n).gr (iF1 w)) 63 48 (bitsOf w 15 0) else sext64 48 (bitsOf w 47 0))) s t)
      ∧ ∀ op, iOp w = 0x04 → predLegal op w = true → Issues n w (predUses op w) s →
        Completes (.predicate n op) s fun t => Retired n (predWrite op w (s.tile n)) s t)
  ∧ (∀ (n w : Nat) (s : State) (target : BitVec 40), target.toNat < s.hbmCap →
      (iOp w = 0x08 → (iCond w < 6 ∨ iCond w < 8 ∧ iF1 w < 8) →
        Issues n w (if iCond w < 6 then ⟨[iF1 w, iF2 w], []⟩ else ⟨[], [iF1 w]⟩) s →
        ((s.tile n).pc.toNat : Int) + iOff40 w * 8 = target.toNat →
        Completes (.br n) s fun t =>
          OnlyTile n (tallyOffs n) s t
            ∧ t.tile n = { s.tile n with pc := if brTaken (s.tile n) w then target else (s.tile n).pc + 8 })
      ∧ (iOp w = 0x09 → iF2 w = 0 → iCond w = 0 → Issues n w ⟨[iF1 w], []⟩ s →
        ((s.tile n).pc.toNat : Int) + iOff40 w * 8 = target.toNat →
        Completes (.j n) s fun t =>
          OnlyTile n (tallyOffs n) s t
            ∧ t.tile n = { (s.tile n).setG (iF1 w) ((s.tile n).pc + 8).toNat with pc := target })
      ∧ (iOp w = 0x0A → Issues n w ⟨[iF1 w, iF2 w], []⟩ s →
        signedOf 64 ((s.tile n).gr (iF2 w)) + signedOf 64 (iImm36 w) = target.toNat → target.toNat % 8 = 0 →
        Completes (.jr n) s fun t =>
          OnlyTile n (tallyOffs n) s t
            ∧ t.tile n = { (s.tile n).setG (iF1 w) ((s.tile n).pc + 8).toNat with pc := target })
      ∧ (iOp w = 0x0A → Issues n w ⟨[iF1 w, iF2 w], []⟩ s → jrTarget (s.tile n) w % 8 ≠ 0 → (s.tile n).sLevel = false →
        Completes (.jr n) s (TaskFaults n 0x04 s)))
  ∧ (∀ (a b : Word64) (p : Bool),
      aluValue .add a.toNat b.toNat p = (a + b).toNat ∧ aluValue .sub a.toNat b.toNat p = (a - b).toNat
        ∧ aluValue .and a.toNat b.toNat p = (a &&& b).toNat ∧ aluValue .or a.toNat b.toNat p = (a ||| b).toNat
        ∧ aluValue .xor a.toNat b.toNat p = (a ^^^ b).toNat ∧ aluValue .andn a.toNat b.toNat p = (a &&& ~~~b).toNat
        ∧ aluValue .sll a.toNat b.toNat p = (a <<< (b.toNat % 64)).toNat
        ∧ aluValue .srl a.toNat b.toNat p = (a >>> (b.toNat % 64)).toNat
        ∧ aluValue .sra a.toNat b.toNat p = (a.sshiftRight (b.toNat % 64)).toNat
        ∧ aluValue .mul a.toNat b.toNat p = (a * b).toNat
        ∧ aluValue .divU a.toNat b.toNat p = (if b = 0 then BitVec.allOnes 64 else a / b).toNat
        ∧ aluValue .remU a.toNat b.toNat p = (if b = 0 then a else a % b).toNat
        ∧ aluValue .divS a.toNat b.toNat p = (if b = 0 then BitVec.allOnes 64 else a.sdiv b).toNat
        ∧ aluValue .remS a.toNat b.toNat p = (if b = 0 then a else a.srem b).toNat
        ∧ aluValue (.cmp .lt) a.toNat b.toNat p = (if a.slt b then 1 else 0)
        ∧ aluValue (.cmp .ltu) a.toNat b.toNat p = (if a.ult b then 1 else 0)
        ∧ aluValue .minS a.toNat b.toNat p = (if a.sle b then a else b).toNat
        ∧ aluValue (.sel 1) a.toNat b.toNat p = (if p then a else b).toNat)
  ∧ (∀ (x : Tile) (r q v : Nat), TileOk x → r < 32 → q < 32 →
      x.gr 0 = 0 ∧ x.pr 0 = 2 ^ 64 - 1 ∧ x.setG 0 v = x ∧ x.setP 0 v = x
        ∧ (r ≠ 0 → (x.setG r v).gr r = v % 2 ^ 64) ∧ (q ≠ r → (x.setG r v).gr q = x.gr q)
        ∧ (r ≠ 0 → r < 8 → (x.setP r v).pr r = v % 2 ^ 64) ∧ (q ≠ r → (x.setP r v).pr q = x.pr q)
        ∧ (24 ≤ r → x.sLevel = true → (x.setG r v).g = x.g ∧ { x.setG r v with sLevel := false }.gr r = { x with sLevel := false }.gr r)
        ∧ (x.setV r v).vr r = v % 2 ^ 2048 ∧ (q ≠ r → (x.setV r v).vr q = x.vr q))

/-- Scalar stores (R153, R154): a store that passed its address checks enters the store buffer behind the earlier ones and
changes no byte yet; with eight buffered stores it waits; an address fault or alignment fault aborts the task.
A buffered store performed (R93, R154): the oldest one leaves the buffer; to the scratchpad it stores its bytes and no
others, and to HBM it goes into the data cache, whose bytes then read as stored, and memory keeps every byte. -/
def Obligations.StoresReachMemory : Prop :=
  (∀ (n w : Nat) (s : State), iOp w = 0x11 → memLegal w = true → Issues n w ⟨[iF1 w, iF2 w], []⟩ s →
      let x := s.tile n
      let tg := s.target n (memAddr x w) (memSize w) (memSize w) true
      (∀ off, tg = .hbm off ∨ tg = .spad off →
        (x.stores.length < 8 →
          Completes (.st n) s (Retired n { x with
            stores := x.stores ++ [⟨tg.key n, memSize w, x.gr (iF1 w), x.pc.toNat⟩] } s))
        ∧ (8 ≤ x.stores.length → exec (.st n) s = .next s))
      ∧ (∀ off, tg = .reg off → exec (.st n) s = .next ((s.writeAccess off 8 (x.gr (iF1 w))).2.retire n id))
      ∧ ∀ c, tg = .fault c → x.sLevel = false → Completes (.st n) s (TaskFaults n c s))
  ∧ (∀ (n : Nat) (s : State) (b : BufStore) (bs : List BufStore), Inv s → n < 144 → s.tileHeld n = false → s.parked = false →
      (s.tile n).stores = b :: bs → b.size = 1 ∨ b.size = 2 ∨ b.size = 4 ∨ b.size = 8 → b.addr % b.size = 0 →
      (∀ off, b.target = .spad off → (∀ k ∈ spadWords off b.size, k ∉ (s.tile n).spadUe) →
        Completes (.storePerformed n) s fun t =>
          (t.tile n).stores = bs ∧ TilesKept n s t ∧ memLoad t.mem (spadKey n off) b.size = bytesOf b.size b.data
            ∧ BytesKept (spadKey n off) b.size s t ∧ (t.tile n).g = (s.tile n).g)
      ∧ ∀ off, b.target = .hbm off →
        Completes (.storePerformed n) s fun t =>
          (t.tile n).stores = bs ∧ TilesKept n s t ∧ t.mem = s.mem
            ∧ (t.tile n).cachedBytes off b.size = bytesOf b.size b.data ∧ (t.tile n).g = (s.tile n).g)

/-- Scalar loads (R93, R94, R153, R154): the value is made of the bytes of memory with the buffered stores over them; an HBM
load that misses the data cache waits for its line, and returns the bytes of memory once the line is filled, which it is not
while the read has no read-return buffer (R219).
An instruction fetch that misses (R97): the line at the PC enters the instruction cache, where the fetch finds the eight
bytes of memory at the PC; it too waits for a read-return buffer.
A write-back (R95, R96): exactly the dirty bytes of the evicted line are stored, where neither HBM nor the line holds an
uncorrectable error. -/
def Obligations.LoadsAndCaches : Prop :=
  (∀ (n w off : Nat) (s : State), iOp w = 0x10 → memLegal w = true →
      let x := s.tile n
      let tg := s.target n (memAddr x w) (memSize w) (memSize w) true
      let value := fun bs => loadValue (memSize w) (bitAt (iSubM w) 0) (overlayAll (tg.key n) bs x.stores)
      (tg = .spad off → Issues n w ⟨[iF1 w, iF2 w], []⟩ s → (∀ k ∈ spadWords off (memSize w), k ∉ x.spadUe) →
        Completes (.ld n) s fun t =>
          (t.tile n).g = (x.setG (iF1 w) (value (memLoad s.mem (tg.key n) (memSize w)))).g
            ∧ (t.tile n).gS = (x.setG (iF1 w) (value (memLoad s.mem (tg.key n) (memSize w)))).gS
            ∧ (t.tile n).pc = x.pc + 8 ∧ t.mem = s.mem ∧ TilesKept n s t)
      ∧ (tg = .hbm off → Issues n w ⟨[iF1 w, iF2 w], []⟩ s → allBuffered (tg.key n) (memSize w) x.stores = false →
        x.dFind (off / 64) = none →
        Completes (.ld n) s fun t =>
          t = { s with regs := t.regs, tiles := t.tiles, meters := t.meters, reads := t.reads } ∧ RegsKept (tallyOffs n) s t
            ∧ TilesKept n s t ∧ t.tile n = { x with wait := some ⟨.load, w, [], false⟩ }
            ∧ t.reads = s.reads.filter (fun r => r.tile != n)
                ++ [⟨n, s.stackOf (off / 64 * 64) * 32 + bitsOf (s.stackLocal (off / 64 * 64)) 11 7⟩])
      ∧ (∀ ps dw, s.waiting n = some ⟨.load, w, ps, dw⟩ → s.readWaits n = true → exec (.loadMissFill n) s = .next s)
      ∧ (∀ ps dw, tg = .hbm off → s.waiting n = some ⟨.load, w, ps, dw⟩ → s.readWaits n = false → x.dFind (off / 64) = none →
        (∀ l ∈ x.wb, l.line ≠ off / 64) → off / 64 ∉ s.hbmUe →
        Completes (.loadMissFill n) s fun t =>
          (t.tile n).g = (x.setG (iF1 w) (value (memLoad s.mem (tg.key n) (memSize w)))).g
            ∧ (t.tile n).gS = (x.setG (iF1 w) (value (memLoad s.mem (tg.key n) (memSize w)))).gS
            ∧ (t.tile n).pc = x.pc + 8 ∧ (t.tile n).wait = none ∧ t.mem = s.mem ∧ TilesKept n s t
            ∧ t.reads = s.reads.filter (fun r => r.tile != n)))
  ∧ (∀ (n : Nat) (s : State), s.fetchMisses n = true → s.hbmOn = true →
      (s.tile n).pc.toNat % 8 = 0 → (s.tile n).pc.toNat / 64 ∉ s.hbmUe →
      ((s.tile n).icache.filter fun l => l.line % 256 == (s.tile n).pc.toNat / 64 % 256).length < 4 →
      (s.bufferFits ((s.tile n).pc.toNat / 64 * 64) 64 = true → Completes (.loadMissFill n) s fun t =>
        (t.tile n).fetch (s.tile n).pc.toNat = some (ofBytes (memLoad s.mem (hbmKey (s.tile n).pc.toNat) 8))
          ∧ (t.tile n).pc = (s.tile n).pc ∧ (t.tile n).g = (s.tile n).g ∧ t.mem = s.mem ∧ TilesKept n s t)
      ∧ (s.bufferFits ((s.tile n).pc.toNat / 64 * 64) 64 = false → exec (.loadMissFill n) s = .next s))
  ∧ (∀ (n : Nat) (s : State) (l : DLine) (ls : List DLine), n < 144 → memWf s.mem = true → (s.tile n).wb = l :: ls →
      l.line ∉ s.hbmUe → l.ue = false →
      Completes (.writeBackDone n) s fun t =>
        (t.tile n).wb = ls ∧ TilesKept n s t ∧ BytesKept (hbmKey (l.line * 64)) 64 s t
          ∧ ∀ i, i < 64 → memByte t.mem (hbmKey (l.line * 64) + i)
              = if l.dirty.getLsbD i then byteAt l.data.toNat i else memByte s.mem (hbmKey (l.line * 64) + i))

/-- Accesses past the data cache (R155, R173): LDA, STR and AMO wait at issue; an AMO then writes the combined word and
returns the old one, an LDA reads the word, and a store-release writes its word once its release is complete. A word of
HBM is one whose line the data cache does not hold.
What an AMO stores (R155): the sum, the operand, the operand only where the old word equals the compare value, the
signed maximum or minimum, the union or the intersection of the two words. -/
def Obligations.AtomicAccesses : Prop :=
  (∀ (n w : Nat) (s : State),
      let x := s.tile n
      let plain := fun (tg : Target) (sz : Nat) =>
        (∃ off, tg = .spad off ∧ ∀ k ∈ spadWords off sz, k ∉ x.spadUe)
          ∨ ∃ off, tg = .hbm off ∧ x.dLine (off / 64) = [] ∧ (∀ l ∈ x.wb, l.line ≠ off / 64) ∧ off / 64 ∉ s.hbmUe
      (iOp w = 0x12 → ldaLegal w = true → Issues n w ⟨[iF1 w, iF2 w], []⟩ s →
        (∀ c, s.target n (memAddr x w) (memSize w) (memSize w) false ≠ .fault c) →
        Completes (.lda n) s (Waits n .lda w [] s))
      ∧ (iOp w = 0x14 → bitsOf w 21 0 = 0 → iFnR w % 8 ≠ 7 → iFnR w < 16 →
        Issues n w ⟨[iF1 w, iF2 w, iF3 w, iF4 w], []⟩ s →
        (∀ c, s.target n (x.gr (iF2 w)) (amoSize w) (amoSize w) false ≠ .fault c) →
        Completes (.amo n) s (Waits n .amo w [] s))
      ∧ (iOp w = 0x13 → ldaLegal w = true → Issues n w ⟨[iF1 w, iF2 w], []⟩ s →
        (∀ c, s.target n (memAddr x w) (memSize w) (memSize w) false ≠ .fault c) →
        x.relReady (x.relPuts (iSubM w)) = false →
        Completes (.str n) s (Waits n .str w (x.relPuts (iSubM w)) s))
      ∧ (memWf s.mem = true → n < 144 → s.tileHeld n = false → s.parked = false → x.stores = [] →
        (∀ ps dw, x.wait = some ⟨.amo, w, ps, dw⟩ →
          let tg := s.target n (x.gr (iF2 w)) (amoSize w) (amoSize w) false
          let old := ofBytes (memLoad s.mem (tg.key n) (amoSize w))
          plain tg (amoSize w) → s.targetFits tg (amoSize w) = true →
          Completes (.amoDone n) s fun t =>
            memLoad t.mem (tg.key n) (amoSize w) = bytesOf (amoSize w)
                (amoResult (iFnR w % 8) (8 * amoSize w) old (x.gr (iF3 w)) (x.gr (iF4 w)))
              ∧ BytesKept (tg.key n) (amoSize w) s t ∧ TilesKept n s t ∧ (t.tile n).wait = none
              ∧ (t.tile n).g = (x.setG (iF1 w) (sext64 (8 * amoSize w) old)).g ∧ (t.tile n).pc = x.pc + 8)
        ∧ (∀ ps dw, x.wait = some ⟨.lda, w, ps, dw⟩ →
          let tg := s.target n (memAddr x w) (memSize w) (memSize w) false
          plain tg (memSize w) → s.targetFits tg (memSize w) = true →
          Completes (.ldaDone n) s fun t =>
            (t.tile n).g = (x.setG (iF1 w) (ofBytes (memLoad s.mem (tg.key n) (memSize w)))).g
              ∧ (t.tile n).pc = x.pc + 8 ∧ (t.tile n).wait = none ∧ t.mem = s.mem ∧ TilesKept n s t)
        ∧ ∀ ps dw, s.waiting n = some ⟨.str, w, ps, dw⟩ → x.relReady ps = true → ldaLegal w = true →
          let tg := s.target n (memAddr x w) (memSize w) (memSize w) false
          plain tg (memSize w) →
          Completes (.relDone n) s fun t =>
            memLoad t.mem (tg.key n) (memSize w) = bytesOf (memSize w) (x.gr (iF1 w))
              ∧ BytesKept (tg.key n) (memSize w) s t ∧ TilesKept n s t ∧ (t.tile n).g = x.g
              ∧ (t.tile n).pc = x.pc + 8 ∧ (t.tile n).wait = none))
  ∧ (∀ (k : Nat), k = 32 ∨ k = 64 → ∀ (old b c : BitVec k),
      amoResult 0 k old.toNat b.toNat c.toNat = (old + b).toNat
        ∧ amoResult 1 k old.toNat b.toNat c.toNat = b.toNat
        ∧ amoResult 2 k old.toNat b.toNat c.toNat = (if old = c then b else old).toNat
        ∧ amoResult 3 k old.toNat b.toNat c.toNat = (if old.slt b then b else old).toNat
        ∧ amoResult 4 k old.toNat b.toNat c.toNat = (if b.slt old then b else old).toNat
        ∧ amoResult 5 k old.toNat b.toNat c.toNat = (old ||| b).toNat
        ∧ amoResult 6 k old.toNat b.toNat c.toNat = (old &&& b).toNat)

/-- Waits that end (R169, R170, R174): FENCE once the store buffer is empty, EWAIT once the named units are done, CWAIT once
its domain has reached its value or has an error, or its limit passes, with the count, the two conditions and the
time-out in rd. A CWAIT on a domain that the task does not own faults with cause 7, and one with limit 1 never waits.
What an EWAIT waits for (R170): each of its bits names one unit, and the wait is over when every named unit has
completed its earlier work. -/
def Obligations.WaitsBeginAndEnd : Prop :=
  (∀ (n w : Nat) (s : State),
      let x := s.tile n
      let d := x.gr (iF2 w) % 1024
      let e := x.gr (iF3 w) % 2 ^ 32
      let met := s.reached d e || s.flag GI_CD_err d
      let result := fun timed : Bool => s.fld GI_CD_count d + (if s.reached d e then 2 ^ 32 else 0)
        + (if s.flag GI_CD_err d then 2 ^ 33 else 0) + (if timed then 2 ^ 34 else 0)
      (iOp w = 0x34 → iFnS w = 0 → Issues n w ⟨[], []⟩ s → Completes (.fence n) s (Waits n .fence w [] s))
      ∧ (iOp w = 0x34 → iFnS w = 1 → Issues n w ⟨[], []⟩ s → Completes (.ewait n) s (Waits n .ewait w [] s))
      ∧ (∀ ps dw, s.waiting n = some ⟨.fence, w, ps, dw⟩ →
        (x.stores = [] → Completes (.fenceDone n) s (Retired n { x with wait := none } s))
        ∧ (x.stores ≠ [] → exec (.fenceDone n) s = .next s))
      ∧ (∀ ps dw, s.waiting n = some ⟨.ewait, w, ps, dw⟩ →
        (x.ewaitDone (iImmS w) = true → Completes (.ewaitDone n) s (Retired n { x with wait := none } s))
        ∧ (x.ewaitDone (iImmS w) = false → exec (.ewaitDone n) s = .next s))
      ∧ (iOp w = 0x34 → iFnS w = 4 → Issues n w ⟨[iF1 w, iF2 w, iF3 w, iF4 w], []⟩ s →
        (s.tileOwns n d = true → x.gr (iF4 w) ≠ 1 → Completes (.cwait n) s (Waits n .cwait w [] s))
        ∧ (s.tileOwns n d = true → x.gr (iF4 w) = 1 →
            Completes (.cwait n) s (Retired n (x.setG (iF1 w) (result (!met))) s))
        ∧ (s.tileOwns n d = false → x.sLevel = false → Completes (.cwait n) s (TaskFaults n 0x07 s)))
      ∧ ∀ ps dw, s.waiting n = some ⟨.cwait, w, ps, dw⟩ →
        (met = true → Completes (.cwaitDone n) s (Retired n { x.setG (iF1 w) (result false) with wait := none } s))
        ∧ (met = false → exec (.cwaitDone n) s = .next s)
        ∧ (met = false → x.gr (iF4 w) ≠ 0 →
            Completes (.cwaitTimeout n) s (Retired n { x.setG (iF1 w) (result true) with wait := none } s)))
  ∧ (∀ (x : Tile) (imm : Nat),
      x.ewaitDone imm = true ↔
        (bitAt imm 0 = true → x.vecq = []) ∧ (∀ c, c < 4 → bitAt imm (1 + c) = true → (x.chan c).done = true)
          ∧ (bitAt imm 5 = true → x.tokq = [])
          ∧ (∀ k, k < 4 → bitAt imm (6 + k) = true → ∀ c ∈ x.matq, mcPlane c.ctl ≠ k)
          ∧ (bitAt imm 10 = true → x.matq = []))

/-- Release and acquire (R171, R172): a REL waits for the puts recorded at its issue and completes with every dirty byte of
its range written back (no uncorrectable error met); an ACQ completes with no line of its range in the data cache. The range
takes in every line with a byte in it; a REL whose range runs past the end of the address space writes nothing back.
Neither changes a register.
Task ends (R53, R58, R82, R176): TEND and TRET wait at task level; once the task's commands are complete a persistent
task that ended goes back to WAIT with one more iteration counted, and a task that retires queues its exit token where it
has one and leaves its slot FREE with nothing bound. -/
def Obligations.ReleasesAndTaskEnds : Prop :=
  (∀ (n w : Nat) (s : State),
      let x := s.tile n
      let range := s.linesIn n (x.gr (iF2 w)) (x.gr (iF3 w))
      let rel := s.relLines n (x.gr (iF2 w)) (x.gr (iF3 w))
      (∀ l, l ∈ rel ↔ l ∈ range ∧ x.gr (iF2 w) + x.gr (iF3 w) ≤ 2 ^ 64)
      ∧ (∀ l, l ∈ range ↔ l ∈ x.dcache ∧ malformed (x.gr (iF2 w)) = false
        ∧ ∃ b, x.gr (iF2 w) ≤ b ∧ b < x.gr (iF2 w) + x.gr (iF3 w) ∧ ∃ id, (id = s.node ∨ id = s.selfId)
          ∧ hbmAddr id (l.line * 64) ≤ b ∧ b < hbmAddr id (l.line * 64) + 64)
      ∧ (iOp w = 0x34 → iFnS w = 2 → iImmS w % 8 < 5 → Issues n w ⟨[iF2 w, iF3 w], []⟩ s →
        Completes (.rel n) s (Waits n .rel w (x.relPuts (iImmS w % 8)) s))
      ∧ (iOp w = 0x34 → iFnS w = 3 → iImmS w % 8 < 5 → Issues n w ⟨[iF2 w, iF3 w], []⟩ s →
        Completes (.acq n) s (Waits n .acq w [] s))
      ∧ ((∀ l ∈ range, l.line ∉ s.hbmUe ∧ l.ue = false) →
        (∀ ps dw, s.waiting n = some ⟨.rel, w, ps, dw⟩ → x.stores = [] → (∀ c ∈ x.vecq, c.op ≠ .vst) → x.wb = [] →
          (∀ p ∈ x.puts, p.id ∉ ps) →
          Completes (.relDone n) s fun t =>
            (∀ l ∈ t.relLines n (x.gr (iF2 w)) (x.gr (iF3 w)), l.dirty = 0) ∧ (t.tile n).wait = none
              ∧ (t.tile n).pc = x.pc + 8 ∧ (t.tile n).g = x.g ∧ TilesKept n s t
              ∧ (rel = [] → t.mem = s.mem ∧ (t.tile n).dcache = x.dcache))
        ∧ ∀ ps dw, s.waiting n = some ⟨.acq, w, ps, dw⟩ → x.wb = [] →
          Completes (.acqDone n) s fun t =>
            t.linesIn n (x.gr (iF2 w)) (x.gr (iF3 w)) = [] ∧ (t.tile n).wait = none ∧ (t.tile n).pc = x.pc + 8
              ∧ (t.tile n).g = x.g ∧ TilesKept n s t ∧ (range = [] → t.mem = s.mem ∧ (t.tile n).dcache = x.dcache)))
  ∧ (∀ (n w : Nat) (s : State),
      let x := s.tile n
      (iOp w = 0x3C → iFnS w = 0 → Issues n w ⟨[], []⟩ s →
        (x.sLevel = false → Completes (.tend n) s (Waits n (.taskEnd false) w [] s)))
      ∧ (iOp w = 0x3C → iFnS w = 1 → Issues n w ⟨[], []⟩ s →
        (x.sLevel = false → Completes (.tret n) s (Waits n (.taskEnd true) w [] s)))
      ∧ ∀ ps dw retire k, s.waiting n = some ⟨.taskEnd retire, w, ps, dw⟩ → x.runSlot = some k → x.taskDone = true →
        (dPersistent (x.slot k).desc = true → retire = false →
          Completes (.taskEndDone n) s fun t =>
            OnlyTile n (tallyOffs n) s t ∧ (t.tile n).wait = none
              ∧ (((t.tile n).slot k).state = .wait ∨ ((t.tile n).slot k).state = .ready)
              ∧ ((t.tile n).slot k).startCount = ((x.slot k).startCount + 1) % 2 ^ 24
              ∧ ((t.tile n).slot k).cnt = (x.slot k).cnt ∧ (t.tile n).tokq = x.tokq)
        ∧ ((dPersistent (x.slot k).desc = false ∨ retire = true) →
          Completes (.taskEndDone n) s fun t =>
            OnlyTile n (tallyOffs n) s t ∧ (t.tile n).wait = none ∧ (t.tile n).slot k = Slot.empty
              ∧ (dExitEn (x.slot k).desc = false → (t.tile n).tokq = x.tokq)
              ∧ (dExitEn (x.slot k).desc = true → ∃ p key number, (t.tile n).tokq = x.tokq ++ [⟨p, key, number⟩]
                  ∧ p.dst = dExitNode (x.slot k).desc ∧ p.type = tTOKEN
                  ∧ (tokenEntries p).map teTask = [dExitTask (x.slot k).desc]
                  ∧ (tokenEntries p).map teTile = [dExitTile (x.slot k).desc]
                  ∧ (tokenEntries p).map teIndex = [dExitInput (x.slot k).desc]
                  ∧ (tokenEntries p).map teCount = [dExitCount (x.slot k).desc])))

/-- Privilege (R144 to R147, R175 to R177): SYSCALL and an interrupt enter the handler at S level with the return address in
EPC and the old level in prev, RTI returns; the control registers, the tally counters and the instruction cache are
reached as their rules allow; a privileged access by a task and an illegal word abort the task. -/
def Obligations.PrivilegeAndControlRegisters : Prop :=
  ∀ (n w : Nat) (s : State),
    let x := s.tile n
    let entered := fun (cause : Nat) (epc : BitVec 40) => { x with
      prev := x.sLevel, ecause := BitVec.ofNat 16 cause, ie := false, sLevel := true, epc := epc, wait := none,
      pc := BitVec.ofNat 40 (s.fld TL_SEQ_EVEC_evec n * 8)
      watch := if x.sLevel then x.watch else { x.watch with sup := s.now } }
    (iOp w = 0x3C → iFnS w = 3 → Issues n w ⟨[], []⟩ s → x.sLevel = false → s.fld TL_SEQ_EVEC_evec n ≠ 0 →
      Completes (.syscall n) s fun t =>
        OnlyTile n (tallyOffs n) s t ∧ t.tile n = entered (iImmS w % 65536) (x.pc + 8))
    ∧ (iOp w = 0x3C → iFnS w = 4 → Issues n w ⟨[], []⟩ s →
      (x.sLevel = true →
        Completes (.rti n) s fun t =>
          OnlyTile n (tallyOffs n) s t
            ∧ t.tile n = { x with sLevel := x.prev, ie := true, pc := x.epc, slots := (t.tile n).slots })
      ∧ (x.sLevel = false → Completes (.rti n) s (TaskFaults n 0x05 s)))
    ∧ (n < 144 → s.tileHeld n = false → s.parked = false → s.ticAny n = true → x.ie = true → x.sLevel = false →
      s.fld TL_SEQ_EVEC_evec n ≠ 0 → interruptible x.wait = true →
      Completes (.interruptEntry n) s fun t => OnlyTile n [] s t ∧ t.tile n = entered 0xFFFF x.pc)
    ∧ (∀ v, iOp w = 0x3C → iFnS w = 6 → Issues n w ⟨[iF1 w], []⟩ s → s.csrRead n (iImmS w % 4096) = some v →
      (csrUser (iImmS w % 4096) = true ∨ x.sLevel = true → Completes (.csrr n) s (Retired n (x.setG (iF1 w) v) s))
      ∧ (csrUser (iImmS w % 4096) = false → x.sLevel = false → Completes (.csrr n) s (TaskFaults n 0x05 s)))
    ∧ (iOp w = 0x3C → iFnS w = 7 → Issues n w ⟨[iF2 w], []⟩ s → x.sLevel = true →
      (iImmS w % 4096 = 0x100 → Completes (.csrw n) s
        (Retired n { x with epc := BitVec.ofNat 40 (x.gr (iF2 w) / 8 * 8) } s))
      ∧ (iImmS w % 4096 = 0x103 → Completes (.csrw n) s
        (Retired n { x with escr0 := BitVec.ofNat 64 (x.gr (iF2 w)) } s))
      ∧ (iImmS w % 4096 = 0x001 → Completes (.csrw n) s
        (Retired n { x with vxflags := x.vxflags &&& ~~~(BitVec.ofNat 5 (x.gr (iF2 w))) } s)))
    ∧ (iOp w = 0x38 → iFnS w = 0 → iImmS w % 16 < 9 → Issues n w ⟨[iF1 w], []⟩ s →
      (x.sLevel = true ∨ s.tallyUser n = true →
        Completes (.trd n) s (Retired n (x.setG (iF1 w) (if iImmS w % 16 = 8 then s.cycles n % 2 ^ 64
          else s.fld TL_TALLY_CNT_count n (iImmS w % 16) + s.fld TL_TALLY_CNT_ovf n (iImmS w % 16) * 2 ^ 63)) s))
      ∧ (x.sLevel = false → s.tallyUser n = false → Completes (.trd n) s (TaskFaults n 0x06 s)))
    ∧ (iOp w = 0x3C → iFnS w = 2 → Issues n w ⟨[], []⟩ s →
      Completes (.icinv n) s (Retired n { x with icache := [] } s))
    ∧ (illegalWord w = true → s.seqActive n = true → x.pc.toNat < s.hbmCap → x.fetch x.pc.toNat = some w →
      x.sLevel = false → Completes (.illegal n) s (TaskFaults n 0x01 s))

/-- Matrix instructions (R81, R156, R158, R160): a command that passes its checks joins the matrix queue with the operand
values read at issue, one that finds 16 queued commands waits, one that fails a check aborts the task with the cause of
the first failing check, and MSTAT reads a plane's flags, anchor and busy bit.
A matrix command completes (R85, R86, R134, R157, R159): MCLR clears its plane and sets its anchor, MACC replaces the plane
by the accumulation of the panels read from the scratchpad, MLDP by the loaded values, MDRN stores the drained elements
in the scratchpad and no other byte; the command leaves the queue, and the other planes stay. -/
def Obligations.MatrixEngine : Prop :=
  (∀ (n w : Nat) (s : State),
      let x := s.tile n
      (∀ (kind : MatKind) (sub : Nat) (c : Instr),
        (kind = .mclr ∧ sub = 0 ∧ c = .mclr n ∨ kind = .macc ∧ sub = 1 ∧ c = .macc n
          ∨ kind = .mdrn ∧ sub = 2 ∧ c = .mdrn n ∨ kind = .mldp ∧ sub = 3 ∧ c = .mldp n) →
        iOp w = 0x28 → iSubE w = sub → matReserved sub w = false → Issues n w ⟨[iF1 w, iF2 w, iF3 w, iF4 w], []⟩ s →
        let m : MatCmd := ⟨kind, iCtl w, x.gr (iF1 w), x.gr (iF2 w), x.gr (iF3 w), x.gr (iF4 w), x.pc.toNat, s.cmdSlot n⟩
        (matFault w m = none → x.matq.length < 16 →
          Completes c s (Retired n { x with
            matq := x.matq ++ [m], cmdNo := x.cmdNo + 1
            watch := if x.matq.isEmpty then { x.watch with mat := s.now } else x.watch } s))
        ∧ (matFault w m = none → 16 ≤ x.matq.length → exec c s = .next s)
        ∧ ∀ cause a, matFault w m = some (cause, a) → x.sLevel = false → Completes c s (TaskFaults n cause s))
      ∧ (iOp w = 0x28 → iSubE w = 4 → matReserved 4 w = false → Issues n w ⟨[iF1 w], []⟩ s →
        iF2 w = 0 → iF3 w = 0 → iF4 w = 0 →
        let k := mcPlane (iCtl w)
        Completes (.mstat n) s (Retired n (x.setG (iF1 w)
          ((x.plane k).summary % 32 + (x.plane k).anchor % 256 * 2 ^ 8 + (if x.planeBusy k then 2 ^ 16 else 0))) s)))
  ∧ (∀ (n k : Nat) (s : State) (c : MatCmd), n < 144 → s.chipReset = false → s.gateOpen n = true →
      Engine.matrix ∉ (s.tile n).inReset → memWf s.mem = true → TileOk (s.tile n) → (s.tile n).matq[k]? = some c →
      (∀ d ∈ (s.tile n).matq.take k, mcPlane d.ctl ≠ mcPlane c.ctl) →
      (∀ o ∈ matOperands c, ∀ wd ∈ spadWords o.off o.size, wd ∉ (s.tile n).spadUe) →
      let x := s.tile n
      let p := mcPlane c.ctl
      let v := (matOperands c).map fun o => ofBytes (memLoad s.mem (spadKey n o.off) o.size)
      Completes (.matrixCmdDone n k) s fun t =>
        (t.tile n).matq = ldel x.matq k ∧ TilesKept n s t ∧ (t.tile n).g = x.g ∧ (t.tile n).v = x.v
          ∧ (∀ q, q ≠ p → (t.tile n).plane q = x.plane q)
          ∧ (c.kind = .mclr → t.mem = s.mem ∧ (t.tile n).plane p = ⟨[], mcAnchor c.ctl, 0⟩)
          ∧ (c.kind = .macc → t.mem = s.mem ∧ (t.tile n).plane p
              = macc (x.plane p) c.ctl c.r3 (lget v 0 0) (lget v 1 0) (if mcMxA c.ctl then lget v 2 0 else 0)
                  (if mcMxB c.ctl then lget v (if mcMxA c.ctl then 3 else 2) 0 else 0))
          ∧ (c.kind = .mldp → t.mem = s.mem ∧ (t.tile n).plane p = mldp (lget v 0 0) (mcAnchor c.ctl))
          ∧ (c.kind = .mdrn → mcMx c.ctl = false →
              let bytes := storedBytes (mcFmtA c.ctl) (mcUpk c.ctl) 16384
              (t.tile n).plane p = x.plane p ∧ BytesKept (spadKey n (bitsOf c.r1 22 0)) bytes s t
                ∧ memLoad t.mem (spadKey n (bitsOf c.r1 22 0)) bytes
                    = bytesOf bytes (packElems (storedBits (mcFmtA c.ctl) (mcUpk c.ctl))
                        (drainElem (x.plane p) c.ctl c.r2 c.r3) 16384 0)))

/-- Vector instructions (R81, R161, R162): a command joins the vector queue with the scalar operands read at issue; a format or
rounding mode outside the operation's set, or an address that fails its check, aborts the task.
A vector command completes (R81, R88, R161, R162): an integer operation changes the active elements of its destination
alone, each to the result of its own two elements; a whole-register load takes 256 bytes of the scratchpad, and a
whole-register store writes them and no other byte.
The integer operations of a vector element (R162) are those of 32-bit words. -/
def Obligations.VectorEngine : Prop :=
  (∀ (n w : Nat) (s : State),
      let x := s.tile n
      (∀ (op : VecOp) (c : Instr),
        (iOp w = 0x20 ∧ c = .varith n op ∨ iOp w = 0x21 ∧ c = .vconv n op ∨ iOp w = 0x22 ∧ c = .vreduce n op) →
        vecGroup op w = true → vecFnLegal w = true → (vecPredDest op = true → iF1 w < 8) → Issues n w (vecUses op w) s →
        (vecFmtOk op w = true → x.vecq.length < 32 →
          Completes c s (Retired n { x with
            vecq := x.vecq ++ [⟨op, w, x.gr (iGs w), x.gr (iGs w + 1), x.pc.toNat, s.cmdSlot n, x.sLevel⟩]
            cmdNo := x.cmdNo + 1
            watch := if x.vecq.isEmpty then { x.watch with vec := s.now } else x.watch } s))
        ∧ (vecFmtOk op w = true → 32 ≤ x.vecq.length → exec c s = .next s)
        ∧ (vecFmtOk op w = false → x.sLevel = false → Completes c s (TaskFaults n 0x02 s)))
      ∧ ∀ (op : VecOp) (c : Instr), (iOp w = 0x18 ∧ op = .vld ∧ c = .vld n ∨ iOp w = 0x19 ∧ op = .vst ∧ c = .vst n) →
        iSz w < 2 → Issues n w ⟨iF2 w :: (if iSz w = 1 then [iSubM w] else []), []⟩ s →
        let base := (x.gr (iF2 w) + iDisp w) % 2 ^ 64
        (s.vecFault n w base (x.gr (iSubM w)) = none → x.vecq.length < 32 →
          Completes c s (Retired n { x with
            vecq := x.vecq ++ [⟨op, w, base, x.gr (iSubM w), x.pc.toNat, s.cmdSlot n, x.sLevel⟩]
            cmdNo := x.cmdNo + 1
            watch := if x.vecq.isEmpty then { x.watch with vec := s.now } else x.watch } s))
        ∧ (s.vecFault n w base (x.gr (iSubM w)) = none → 32 ≤ x.vecq.length → exec c s = .next s)
        ∧ ∀ cause a, s.vecFault n w base (x.gr (iSubM w)) = some (cause, a) → x.sLevel = false →
            Completes c s (TaskFaults n cause s))
  ∧ (∀ (n : Nat) (s : State) (c : VecCmd) (cs : List VecCmd), n < 144 → s.chipReset = false → s.gateOpen n = true →
      Engine.vector ∉ (s.tile n).inReset → memWf s.mem = true → TileOk (s.tile n) → (s.tile n).vecq = c :: cs →
      let x := s.tile n
      let vd := iF1 c.word
      (c.op ∈ [VecOp.iadd, .isub, .imul, .isll, .isrl, .isra, .iand, .ior, .ixor] →
        Completes (.vectorCmdDone n) s fun t =>
          OnlyTile n (tallyOffs n) s t ∧ (t.tile n).vecq = cs ∧ (t.tile n).g = x.g ∧ (t.tile n).p = x.p
            ∧ (∀ r, r ≠ vd → (t.tile n).vr r = x.vr r)
            ∧ ∀ i, i < 64 → elem 32 ((t.tile n).vr vd) i
                = if bitAt (x.pr (iPm c.word)) i
                  then intLane c.op (elem 32 (x.vr (iF2 c.word)) i) (elem 32 (x.vr (iF3 c.word)) i)
                  else elem 32 (x.vr vd) i)
      ∧ ∀ off, targetOf c.x = .spad off → iSz c.word = 0 →
        (c.op = .vld → s.vecFits n c = true → (∀ wd ∈ spadWords off 256, wd ∉ x.spadUe) →
          Completes (.vectorCmdDone n) s fun t =>
            (t.tile n).vecq = cs ∧ (t.tile n).vr vd = ofBytes (memLoad s.mem (spadKey n off) 256)
              ∧ (∀ r, r ≠ vd → (t.tile n).vr r = x.vr r) ∧ (t.tile n).g = x.g ∧ t.mem = s.mem ∧ TilesKept n s t)
        ∧ (c.op = .vst → off % 8 = 0 →
          Completes (.vectorCmdDone n) s fun t =>
            (t.tile n).vecq = cs ∧ memLoad t.mem (spadKey n off) 256 = bytesOf 256 (x.vr vd)
              ∧ BytesKept (spadKey n off) 256 s t ∧ (t.tile n).v = x.v ∧ (t.tile n).g = x.g ∧ TilesKept n s t))
  ∧ (∀ (a b : BitVec 32),
      intLane .iadd a.toNat b.toNat = (a + b).toNat ∧ intLane .isub a.toNat b.toNat = (a - b).toNat
        ∧ intLane .imul a.toNat b.toNat = (a * b).toNat ∧ intLane .isll a.toNat b.toNat = (a <<< (b.toNat % 32)).toNat
        ∧ intLane .isrl a.toNat b.toNat = (a >>> (b.toNat % 32)).toNat
        ∧ intLane .isra a.toNat b.toNat = (a.sshiftRight (b.toNat % 32)).toNat
        ∧ intLane .iand a.toNat b.toNat = (a &&& b).toNat ∧ intLane .ior a.toNat b.toNat = (a ||| b).toNat
        ∧ intLane .ixor a.toNat b.toNat = (a ^^^ b).toNat)

/-- DMA instructions (R81, R163 to R167): a command that passes its checks joins its channel's queue with its operands read at
issue, one that finds the channel's 16 entries in use waits, and one that fails a check aborts the task.
A channel's head command starts (R98, R100, R164): one that passes the checks of its ranges starts, one that moves
nothing completes at once, and one that fails them empties the channel's queue and records its cause. -/
def Obligations.DmaCommandsStart : Prop :=
  (∀ (n w : Nat) (s : State) (kind : DmaKind) (sub : Nat) (c : Instr),
      (kind = .copy ∧ sub = 0 ∧ c = .dmaCopy n ∨ kind = .copy2d ∧ sub = 1 ∧ c = .dmaCopy2d n
        ∨ kind = .fill ∧ sub = 2 ∧ c = .dmaFill n ∨ kind = .graphSend ∧ sub = 3 ∧ c = .graphSend n
        ∨ kind = .flaggedWrite ∧ sub = 4 ∧ c = .flaggedWriteCmd n) →
      iOp w = 0x2C → iSubE w = sub → bitsOf (iCtl w) 30 25 = 0 → Issues n w ⟨[iF1 w, iF2 w, iF3 w, iF4 w], []⟩ s →
      let x := s.tile n
      let k := iCtl w
      let ch := x.chan (dcChan k)
      let m : DmaCmd := ⟨kind, x.gr (iF1 w), x.gr (iF2 w), x.gr (iF3 w), x.gr (iF4 w), dcDstDom k, dcAckDom k, dcAckEn k,
        dcFlen k, x.pc.toNat, s.cmdSlot n, s.producerA n, x.cmdNo, false, 0, 0, 0, .toRequest, 0, 0, 0⟩
      (s.dmaIllegal m w = true → x.sLevel = false → Completes c s (TaskFaults n 0x02 s))
      ∧ (s.dmaIllegal m w = false →
        (∀ cause a, dmaAddrFault m = some (cause, a) → x.sLevel = false → Completes c s (TaskFaults n cause s))
        ∧ (dmaAddrFault m = none →
          (s.dmaDomainBad n m = true → x.sLevel = false → Completes c s (TaskFaults n 0x07 s))
          ∧ (s.dmaDomainBad n m = false → ch.occupied < 16 →
            Completes c s (Retired n
              { x.setChan (dcChan k) { ch with queue := ch.queue ++ [m] } with cmdNo := x.cmdNo + 1 } s))
          ∧ (s.dmaDomainBad n m = false → 16 ≤ ch.occupied → exec c s = .next s))))
  ∧ (∀ (n ch : Nat) (s : State) (c : DmaCmd) (cs : List DmaCmd), TileOk (s.tile n) → s.dmaRuns n = true → ch < 4 →
      ((s.tile n).chan ch).queue = c :: cs → c.started = false →
      let x := s.tile n
      let moves := c.kind = .graphSend ∨ c.kind = .flaggedWrite ∨ (c.rows.1 ≠ 0 ∧ c.rows.2.1 ≠ 0)
      (s.dmaStartCause c = 0 → moves →
        Completes (.dmaCmdStart n ch) s fun t =>
          OnlyTile n [] s t ∧ (t.tile n).chan ch = { x.chan ch with
              queue := { c with started := true } :: cs
              since := if (x.chan ch).active then (x.chan ch).since else s.now }
            ∧ t.tile n = { x with dma := (t.tile n).dma })
      ∧ (s.dmaStartCause c = 0 → ¬ moves →
        Completes (.dmaCmdStart n ch) s fun t =>
          OnlyTile n [] s t ∧ (t.tile n).chan ch = { x.chan ch with queue := cs }
            ∧ t.tile n = { x with dma := (t.tile n).dma })
      ∧ (s.dmaStartCause c ≠ 0 →
        Completes (.dmaCmdStart n ch) s fun t =>
          TilesKept n s t ∧ t.mem = s.mem ∧ ((t.tile n).chan ch).queue = []
            ∧ t.fld TL_DMA_STAT_last_cause n ch = s.dmaStartCause c ∧ t.flag TL_EVT_dma_error n = true
            ∧ ∀ k, x.runSlot = some k → ((t.tile n).slot k).state = .abort))

/-- The packets of a channel (R98, R99, R163 to R167, R195, R256): the channel whose turn it is sends the next packet of its
head command. A fill sends a WRITE that repeats the fill value, a put or local copy one with the bytes of its source, up
to the next packet boundary; a copy whose data GET_REQs bring sends one that names source, destination and domain; a
flagged write sends the bytes of its scratchpad range with its expected value; a graph-send sends its request under a
tag that no other one has, or, granted, its descriptors under the ticket. The channel then counts one packet more, and
memory keeps every byte.
Retries of a channel (R201, R261): a flagged write that the channel retries is sent again where it waits, before any
GET_REQ that waits, and no GET_REQ of a later command goes meanwhile. -/
def Obligations.DmaPackets : Prop :=
  (∀ (n ch : Nat) (s : State) (c : DmaCmd) (cs : List DmaCmd), TileOk (s.tile n) → s.dmaRuns n = true →
      s.dmaTurn n = some ch → ((s.tile n).chan ch).queue = c :: cs →
      let x := s.tile n
      let dst := (c.dstRow c.row + c.off) % 2 ^ 64
      let src := (c.srcRow c.row + c.off) % 2 ^ 64
      let size := min (c.rows.2.1 - c.off) (s.packetBytes - dst % s.packetBytes)
      let asked := min (c.rows.2.1 - c.off) (65536 - dst % 65536)
      let pieces := cutPackets s.packetBytes 65 dst asked
      let own := bitsOf c.r1 22 0
      let sends := fun (queue : List DmaCmd) (P : Packet → Prop) (Q : State → Prop) =>
        Completes (.dmaPacketSend n ch) s fun t =>
          MemSent s t ∧ TilesKept n s t ∧ (t.tile n).dmaLast = ch ∧ ((t.tile n).chan ch).queue = queue
            ∧ t.fld TL_DMA_STAT_packets n ch = (s.fld TL_DMA_STAT_packets n ch + 1) % 2 ^ 48
            ∧ (s.paired = false → Offered s t (tilePort n) fun q => q.partition = s.partitionOfTile n ∧ P q) ∧ Q t
      (c.kind = .fill →
        sends ((c.progress size 1).toList ++ cs)
          (fun q => q.type = tWRITE ∧ q.dst = gaNode dst ∧ q.domain = c.dstDom ∧ q.word 2 = dst ∧ q.status = 0
            ∧ q.sequence = c.seq % 65536 ∧ pcNeedCpl q.control = !s.inOwnSpad n dst
            ∧ q.body.drop 2 = List.replicate (size / 8) (BitVec.ofNat 64 c.r1) ++ List.replicate (size / 8 % 2) 0)
          (fun t => (t.tile n).puts.length = x.puts.length + if s.inOwnSpad n dst then 0 else 1))
      ∧ ((c.kind = .copy ∨ c.kind = .copy2d) → s.dmaIsGet n c = false →
        let cause := (s.dmaSource n ch src size).1
        sends ((c.progress size 1).toList ++ cs)
          (fun q => q.type = tWRITE ∧ q.dst = gaNode dst ∧ q.domain = c.dstDom ∧ q.word 2 = dst
            ∧ q.status = (if cause = 0 then 0 else 1) ∧ q.sequence = c.seq % 65536 ∧ pcCause q.control = cause
            ∧ pcNeedCpl q.control = !s.inOwnSpad n dst
            ∧ (cause = 0 → size % 16 = 0 → q.payloadBytes = memLoad s.mem (byteKey src) size))
          (fun t => (t.tile n).puts.length = x.puts.length + if s.inOwnSpad n dst then 0 else 1))
      ∧ (s.dmaIsGet n c = true →
        sends ((c.progress asked pieces.length).toList ++ cs)
          (fun q => q.type = tGET_REQ ∧ q.dst = gaNode src ∧ q.domain = c.dstDom ∧ q.word 2 = src ∧ q.word 3 = dst
            ∧ getLength q = asked ∧ q.sequence = c.seq % 65536)
          (fun t => ((t.tile n).chan ch).awaits.length = (x.chan ch).awaits.length + 1
            ∧ (t.tile n).puts = x.puts ++ if s.inOwnSpad n dst then []
                else fetchPuts (s.partitionOfTile n) n ch c x.putNo pieces))
      ∧ (c.kind = .flaggedWrite →
        let cause := (s.dmaSource n ch (spadAddr s.selfId n own) (16 * (c.flen + 1))).1
        sends cs
          (fun q => q.type = tFLAGGED_WRITE ∧ q.dst = gaNode c.r2 ∧ q.flagged = true ∧ q.domain = c.dstDom
            ∧ q.word 2 = c.r2 % 2 ^ 64 ∧ q.status = (if cause = 0 then 0 else 1) ∧ expectOf q = bitsOf c.r3 31 0
            ∧ (cause = 0 → q.payloadBytes = memLoad s.mem (spadKey n own) (16 * (c.flen + 1))))
          (fun t => ∃ f : SentFlag, ((t.tile n).chan ch).flags = (x.chan ch).flags ++ [f] ∧ f.slot = c.slot ∧ f.key = c.key
            ∧ f.number = c.number ∧ f.interval = 0 ∧ f.waiting = false ∧ f.gone = false))
      ∧ (c.kind = .graphSend → c.phase ≠ .granted → c.r3 ≤ 120 →
        ∃ tag, tag < 65536 ∧ (s.tagsInUse.length < 65536 → tag ∉ s.tagsInUse)
          ∧ sends ({ c with phase := .requested, tag := tag, seq := c.seq + 1 } :: cs)
            (fun q => q.type = tINTAKE_REQ ∧ q.dst = bitsOf c.r2 15 0 ∧ bitsOf (q.word 2) 12 0 = 1 + 2 * c.r3
              ∧ bitsOf (q.word 2) 31 16 = tag ∧ q.sequence = c.seq % 65536)
            fun _ => True)
      ∧ (c.kind = .graphSend → c.phase = .granted →
        (∀ wd ∈ spadWords own (64 + 128 * c.r3), wd ∉ x.spadUe) →
        sends cs
          (fun q => q.type = tGRAPH ∧ q.dst = bitsOf c.r2 15 0 ∧ preTicket q = c.ticket % 65536
            ∧ q.body.drop 1 = (wordsOfBytes (memLoad s.mem (spadKey n own) (64 + 128 * c.r3))).drop 1)
          fun _ => True))
  ∧ (∀ (n ch : Nat) (s : State), s.dmaRuns n = true → ch < 4 → TileOk (s.tile n) →
      let c := (s.tile n).chan ch
      let resends := fun (c' : DmaChan) (p : Packet) => Completes (.dmaRetry n ch) s fun t =>
        MemSent s t ∧ TilesKept n s t ∧ (t.tile n).chan ch = c'
          ∧ t.fld TL_DMA_STAT_packets n ch = (s.fld TL_DMA_STAT_packets n ch + 1) % 2 ^ 48
          ∧ (s.paired = false → Offered s t (tilePort n) fun q => q.dst = p.dst ∧ q.type = p.type ∧ q.domain = p.domain
              ∧ q.sequence = p.sequence ∧ q.body.take p.body.length = p.body)
      (∀ i f, c.retrying = some i → c.flags[i]? = some f → f.waiting = true →
        (s.dmaMaySend n ch 1 = true → resends { c with flags := lset c.flags i { f with waiting := false }, since := s.now } f.packet)
        ∧ (s.dmaMaySend n ch 1 = false → exec (.dmaRetry n ch) s = .next s))
      ∧ ∀ i a, (∀ j f, c.retrying = some j → c.flags[j]? = some f → f.waiting = false) →
        lfind (fun a : DmaAwait => a.waiting && !a.gone && c.mayResend a) c.awaits = some i → c.awaits[i]? = some a →
        s.dmaMaySend n ch 0 = true → resends { c with awaits := lset c.awaits i { a with waiting := false }, since := s.now } a.packet)

/-- The grant of a graph-send (R50, R99, R166): a granted one keeps the ticket until its channel's turn, and is sent at once
where that is now; "retry" doubles its wait up to 64 µs; results 2 to 4 end it unsent and record cause 3; the repeated
request, which the channel sends at its turn, asks for the same units under the same tag.
TOK and the outbound token queue (R61, R64, R166, R168): the entries read from consecutive registers form one packet that
joins the queue with the tile's number and its paddock's partition; the oldest packet of the queue is sent where the
router takes it, and the tile remembers its entries. -/
def Obligations.GraphAndTokenSends : Prop :=
  ((∀ (p : Packet) (n ch : Nat) (s : State) (c : DmaCmd) (cs : List DmaCmd), TakenUp p s →
        s.grantee (bitsOf (p.word 2) 31 16) p.src = some (n, ch) → ((s.tile n).chan ch).queue = c :: cs →
        TileOk (s.tile n) → n < 144 →
        let res := bitsOf (p.word 2) 51 48
        let own := bitsOf c.r1 22 0
        let granted := { c with phase := .granted, ticket := bitsOf (p.word 2) 47 32 }
        let turn := ((s.take p).onTile n fun x => x.setHead ch granted).dmaTurn n
        (res = 0 → s.dmaRuns n = false ∨ turn ≠ some ch →
          Completes (.intakeGrantReceive p) s fun t =>
            t = { s with delivered := t.delivered, tiles := t.tiles } ∧ TilesKept n s t
              ∧ ((t.tile n).chan ch).queue = granted :: cs)
        ∧ (res = 0 → s.dmaRuns n = true → turn = some ch →
          Completes (.intakeGrantReceive p) s fun t =>
            MemSent s t ∧ TilesKept n s t
              ∧ ((∀ wd ∈ spadWords own (64 + 128 * c.r3), wd ∉ (s.tile n).spadUe) →
                  ((t.tile n).chan ch).queue = cs
                  ∧ t.fld TL_DMA_STAT_packets n ch = (s.fld TL_DMA_STAT_packets n ch + 1) % 2 ^ 48
                  ∧ (s.paired = false → Offered s t (tilePort n) fun q => q.type = tGRAPH
                      ∧ q.dst = bitsOf c.r2 15 0 ∧ q.partition = s.partitionOfTile n
                      ∧ preTicket q = bitsOf (p.word 2) 47 32
                      ∧ q.body.drop 1 = (wordsOfBytes (memLoad s.mem (spadKey n own) (64 + 128 * c.r3))).drop 1)))
        ∧ (res = 1 →
          Completes (.intakeGrantReceive p) s fun t =>
            t = { s with delivered := t.delivered, tiles := t.tiles } ∧ TilesKept n s t
              ∧ ((t.tile n).chan ch).queue = { c with
                  phase := .retryWait, wait := if c.wait = 0 then 1 else min 64 (2 * c.wait) } :: cs)
        ∧ (2 ≤ res → res ≤ 4 →
          Completes (.intakeGrantReceive p) s fun t =>
            MemSent s t ∧ TilesKept n s t ∧ ((t.tile n).chan ch).queue = cs
              ∧ t.fld TL_DMA_STAT_last_cause n ch = 3))
      ∧ ∀ (n ch : Nat) (s : State) (c : DmaCmd) (cs : List DmaCmd), s.dmaRuns n = true → ch < 4 →
        ((s.tile n).chan ch).queue = c :: cs → c.kind = .graphSend → c.phase = .retryWait →
        ((s.tile n).chan ch).blocked = false → TileOk (s.tile n) → s.dmaMaySend n ch 0 = true → c.r3 ≤ 120 → c.tag < 65536 →
        Completes (.graphSendRetry n ch) s fun t =>
          MemSent s t ∧ TilesKept n s t
            ∧ ((t.tile n).chan ch).queue = { c with phase := .requested, seq := c.seq + 1 } :: cs
            ∧ (s.paired = false → Offered s t (tilePort n) fun q => q.type = tINTAKE_REQ
                ∧ q.dst = bitsOf c.r2 15 0 ∧ bitsOf (q.word 2) 12 0 = 1 + 2 * c.r3 ∧ bitsOf (q.word 2) 31 16 = c.tag
                ∧ q.sequence = c.seq % 65536))
  ∧ ((∀ (n w : Nat) (s : State), iOp w = 0x30 → iSubE w = 0 → bitsOf (iCtl w) 30 15 = 0 →
        Issues n w ⟨[iF1 w, iF3 w] ++ (List.range (bitsOf (iCtl w) 2 0)).map fun i => iF2 w + i, []⟩ s →
        let x := s.tile n
        let k := bitsOf (iCtl w) 2 0
        let es := (List.range k).map fun i => x.gr (iF2 w + i)
        let illegal := tokIllegal k (bitsOf (iCtl w) 3 3) (bitsOf (iCtl w) 4 4) (bitsOf (iCtl w) 14 5) (x.gr (iF1 w)) es
        (1 ≤ k → k ≤ 5 → iF2 w + k ≤ 32 → illegal = false →
          (x.tokq.length < 64 →
            Completes (.tok n) s fun t =>
              OnlyTile n (tallyOffs n) s t
                ∧ ∃ p key, t.tile n = { x with
                    tokq := x.tokq ++ [⟨p, key, x.cmdNo⟩], cmdNo := x.cmdNo + 1, pc := x.pc + 8
                    watch := if x.tokq.isEmpty then { x.watch with tok := s.now } else x.watch }
                  ∧ p.dst = x.gr (iF1 w) ∧ p.type = (if bitsOf (iCtl w) 3 3 = 1 then tCREDIT else tTOKEN)
                  ∧ (p.flagged = true ↔ bitsOf (iCtl w) 4 4 = 1) ∧ p.domain = bitsOf (iCtl w) 14 5 ∧ p.sequence = n
                  ∧ p.partition = s.partitionOfTile n ∧ tokenEntries p = es.map (BitVec.ofNat 64)
                  ∧ (p.flagged = true → expectOf p = bitsOf (x.gr (iF3 w)) 31 0))
          ∧ (64 ≤ x.tokq.length → exec (.tok n) s = .next s))
        ∧ (1 ≤ k → k ≤ 5 → 32 < iF2 w + k → x.sLevel = false → Completes (.tok n) s (TaskFaults n 0x01 s))
        ∧ (illegal = true → (k = 0 ∨ 5 < k ∨ iF2 w + k ≤ 32) → x.sLevel = false →
          Completes (.tok n) s (TaskFaults n 0x02 s)))
      ∧ ∀ (n : Nat) (s : State) (e : QueuedToken) (es : List QueuedToken), n < 144 → s.tileHeld n = false →
        s.parked = false → (s.tile n).tokq = e :: es →
        (s.pairStalls = false → s.canEnter (tilePort n) 0 = true →
          Completes (.tokenQueueSend n) s fun t =>
            MemSent s t ∧ TilesKept n s t
              ∧ t.tile n = { s.tile n with
                  tokq := es, tokSent := (s.tile n).tokSent ++ sentEntries e
                  watch := { (s.tile n).watch with tok := s.now } }
              ∧ (s.paired = false →
                  Offered s t (tilePort n) fun q => q = { e.packet.sized with src := s.node, epoch := 0 }))
        ∧ (s.pairStalls = true ∨ s.canEnter (tilePort n) 0 = false → exec (.tokenQueueSend n) s = .next s))

/-- A data packet arrives (R184, R192, R198, R206, R258, R276): WRITE and GET_DATA that pass the checks store their payload and no
other byte, and count once in their domain; with cause 3 or 8 they store and count nothing (GET_DATA that brings the data of
a put also counts that put's completion). A packet of any kind with
status 3 is discarded by its receiver and counted malformed; where one is counted is the model's choice (log entry 51).
A flagged write (R193, R200 to R203): it is performed at once where its domain has reached its expected value, waits in the
flag-hold buffer where it has not, and is discarded where the domain has an error; the held one that is eligible and
stands before the other eligible ones is applied, and leaves the buffer. -/
def Obligations.DataPackets : Prop :=
  (∀ (p : Packet) (s : State) (c : Instr), (c = .write p ∨ c = .getData p) → memWf s.mem = true →
      TakenUp p s → p.domain < 1024 →
      (c = .getData p → (s.tile (pcSrcTile p.control)).fetchedPut (pcChan p.control) p = none) →
      let a := p.ownAddr
      let n := p.payloadBytes.length
      let cause := s.receiveCheck p a n true [p.domain]
      (p.status = 0 → cause = 0 →
        HbmGood a n s →
        Completes c s fun t =>
          Stored (byteKey a) p.payloadBytes s t
            ∧ t.fld GI_CD_count p.domain = (s.fld GI_CD_count p.domain + 1) % 2 ^ 32
            ∧ ∀ d, d < 1024 → d ≠ p.domain → t.fld GI_CD_count d = s.fld GI_CD_count d)
      ∧ (cause = 3 ∨ cause = 8 →
        Completes c s fun t =>
          MemSent s t ∧ ∀ d, d < 1024 → t.fld GI_CD_count d = s.fld GI_CD_count d))
  ∧ (∀ (p : Packet) (s : State) (c : Instr) (l : List Nat), s.staleFor p = false → p.status = 3 →
      c ∈ [.intakeReq p, .graph p, .token p, .credit p, .tokenNak ⟨p, l⟩, .intakeGrantReceive p, .write p, .flaggedWrite p,
        .getReq p, .getData p, .completion p, .foldData p, .foldCredit p, .foldResend p, .foldConfirm p, .foldReleaseMsg p,
        .foldFault p, .foldAbortMsg p, .grant p, .bump p, .note p, .join p, .ack p, .lost p, .peerState p, .mgmtReq p,
        .musterData p l, .musterPoll p, .musterReport p, .musterClose p] →
      Completes c s fun t =>
        t = { s with delivered := t.delivered, regs := t.regs } ∧ RegsKept [RegId.RTR_PORT_STAT.offset portM 0] s t
          ∧ t.fld RTR_PORT_STAT_malformed portM
              = min RTR_PORT_STAT_malformed.max (s.fld RTR_PORT_STAT_malformed portM + 1))
  ∧ ((∀ (p : Packet) (s : State) (q : Nat), memWf s.mem = true → TakenUp p s → p.status = 0 →
        s.padOfPartition p.partition = some q →
        let a := p.ownAddr
        let n := p.payloadBytes.length
        s.receiveCheck p a n true (p.domain :: (sigDom p).toList) = 0 →
        (s.flag GI_CD_err p.domain = false → s.reached p.domain (pcExt p.control) = true →
          p.type = tFLAGGED_WRITE → HbmGood a n s →
          Completes (.flaggedWrite p) s fun t =>
            Stored (byteKey a) p.payloadBytes s t ∧ t.flagHold = s.flagHold)
        ∧ (s.flag GI_CD_err p.domain = false → s.reached p.domain (pcExt p.control) = false →
          p.type = tFLAGGED_WRITE → s.flagHold.length < 256 →
          (s.flagHold.filter fun h => h.pad == q).length < s.fhQuota q →
          Completes (.flaggedWrite p) s fun t => t.mem = s.mem ∧ t.tiles = s.tiles ∧ t.flagHold = s.flagHold ++ [⟨p, q⟩])
        ∧ (s.flag GI_CD_err p.domain = true → p.type = tFLAGGED_WRITE →
          Completes (.flaggedWrite p) s fun t => MemSent s t ∧ t.tiles = s.tiles ∧ t.flagHold = s.flagHold))
      ∧ ∀ (k : Nat) (s : State) (h : HeldFlag), s.flagHold[k]? = some h →
        (s.eligible h = true → (∀ g ∈ s.flagHold.take k, s.eligible g = false) →
          (h.packet.type = tFLAGGED_WRITE → memWf s.mem = true →
            HbmGood h.packet.ownAddr h.packet.payloadBytes.length s →
            Completes (.flagHoldApply k) s fun t =>
              t.flagHold = ldel s.flagHold k ∧ Stored (byteKey h.packet.ownAddr) h.packet.payloadBytes s t)
          ∧ (h.packet.type ≠ tFLAGGED_WRITE →
            Completes (.flagHoldApply k) s fun t => t.flagHold = ldel s.flagHold k ∧ MemSent s t))
        ∧ (s.eligible h = false → exec (.flagHoldApply k) s = .next s)
        ∧ (s.fld GI_FH_CTRL_hold_timeout_ms ≠ 0 → h.pad < 8 →
          Completes (.flagHoldTimeout k) s fun t =>
            t.flagHold = ldel s.flagHold k ∧ MemSent s t ∧ t.tiles = s.tiles
              ∧ t.fld GI_CD_EVT_fh_discard = withBit (s.fld GI_CD_EVT_fh_discard) h.pad true))

/-- Gets (R165, R192, R195, R261): a GET_REQ that passes its checks takes one of the 512 entries of the responder, or is answered
with status 2; the next piece of an entry is sent, numbered on from the request (log entry 103), with the bytes of
memory, none of which changes, or with status 1 and the cause that its read met; it waits while its read has no
read-return buffer (R219).
Completions (R165, R201, R260): the completion of a put, which echoes its control word, ends it and is counted in its ack_dom where ack_en is 1; that of a
flagged write ends it, or with status 2 makes it wait to be sent again; one for no operation is counted as late. -/
def Obligations.GetsAndCompletions : Prop :=
  (∀ (p : Packet) (s : State), TakenUp p s → 16 ≤ getLength p → getLength p ≤ 65536 → getLength p % 16 = 0 →
      s.receiveCheck p (bitsOf (p.word 2) 47 0) (getLength p) false [] = 0 →
      (s.gets.length < 512 →
        Completes (.getReq p) s fun t =>
          t = { s with delivered := t.delivered, gets := t.gets } ∧ t.gets = s.gets ++ [⟨p, 0, 0⟩])
      ∧ (512 ≤ s.gets.length →
        Completes (.getReq p) s fun t =>
          t.gets = s.gets ∧ SendKept [] s t ∧ t.tiles = s.tiles
            ∧ (s.paired = false → Offered s t portM fun q => q.type = tCOMPLETION ∧ q.status = 2 ∧ q.dst = p.src
                ∧ q.sequence = p.sequence)))
    ∧ (∀ (k : Nat) (s : State) (e : GetEntry), s.gets[k]? = some e →
      let src := bitsOf (e.req.word 2) 47 0 + e.off
      let ret := (e.req.word 3 + e.off) % 2 ^ 64
      let n := min (getLength e.req - e.off) (s.packetBytes - ret % s.packetBytes)
      let cause := (s.source src n).1
      (s.readFits src n = false → exec (.getDataSend k) s = .next s)
      ∧ (s.readFits src n = true → Completes (.getDataSend k) s fun t =>
        MemSent s t ∧ (gaSpace src = 0 → t.tiles = s.tiles)
          ∧ t.gets = (if getLength e.req ≤ e.off + n then ldel s.gets k
              else lset s.gets k { e with off := e.off + n, seq := e.seq + 1 })
          ∧ (s.paired = false → Offered s t portM fun q => q.type = tGET_DATA ∧ q.dst = e.req.src
              ∧ q.status = (if cause = 0 then 0 else 1) ∧ q.ownAddr = bitsOf ret 47 0
              ∧ q.sequence = (e.req.sequence + e.seq) % 65536 ∧ pcCause q.control = cause
              ∧ (cause = 0 → n % 16 = 0 → q.payloadBytes = memLoad s.mem (byteKey src) n))))
    ∧ ∀ (p : Packet) (s : State), TakenUp p s →
      let n := pcSrcTile (p.word 2)
      let ch := pcChan (p.word 2)
      n < 144 → pcNeedCpl (p.word 2) = true →
      (((s.tile n).chan ch).flags = [] → p.status = 0 →
        (∀ i o, lfind (fun o : OutPut => o.chan == ch && o.packet.type == tWRITE && answers p o.packet
              && echoes (p.word 2) o.packet.control) (s.tile n).puts = some i → (s.tile n).puts[i]? = some o →
          Completes (.completion p) s fun t =>
            (t.tile n).puts = ldel (s.tile n).puts i ∧ TilesKept n s t ∧ t.mem = s.mem
              ∧ (pcAckEn o.packet.control = false → t.regs = s.regs)
              ∧ (pcAckEn o.packet.control = true → s.partitionOwns o.packet.partition (pcAckDom o.packet.control) = true →
                  t.fld GI_CD_count (pcAckDom o.packet.control)
                    = (s.fld GI_CD_count (pcAckDom o.packet.control) + 1) % 2 ^ 32))
        ∧ ((∀ o ∈ (s.tile n).puts, o.chan = ch → o.packet.type = tWRITE →
              answers p o.packet = false ∨ echoes (p.word 2) o.packet.control = false) →
          Completes (.completion p) s fun t =>
            OnlyRegs [RegId.MGT_PEER_STAT.offset 0 0] { s with delivered := t.delivered } t))
      ∧ ((s.tile n).puts = [] → TileOk (s.tile n) → ∀ i f,
        lfind (fun f : SentFlag => answers p f.packet && echoes (p.word 2) f.packet.control && !f.waiting)
          ((s.tile n).chan ch).flags = some i →
        ((s.tile n).chan ch).flags[i]? = some f →
        let kept := fun (t : State) => t = { s with delivered := t.delivered, tiles := t.tiles } ∧ TilesKept n s t
        (p.status = 0 → Completes (.completion p) s fun t => kept t
          ∧ ((t.tile n).chan ch).flags = ldel ((s.tile n).chan ch).flags i)
        ∧ (p.status = 2 → f.gone = false → Completes (.completion p) s fun t => kept t
          ∧ ((t.tile n).chan ch).flags = lset ((s.tile n).chan ch).flags i
              { f with waiting := true, interval := if f.interval = 0 then 1 else min 64 (2 * f.interval) }))

/-- The access codes (R9): what a write of the bits of `m` leaves in each field of a register. RW takes the written bits,
RWL only while it is not locked, W1C and ST clear the bits written as 1, W1S sets them, RO and WO keep the field.
Register accesses of PCI Express and management requests (R8, R14, R30, R262): an access of a wrong size or to an offset that
no block decodes is refused and recorded in MGT_EVT_BADACC; a write of a register in a block held in reset is lost, and a
read of one completes with all ones; every other write writes its register under the access codes, and only that register
where the register has no effect of its own, and every other read answers the register's value. That the command of a
register write carries reads too is the model's choice (log entry 100). -/
def Obligations.RegisterAccesses : Prop :=
  (∀ (s : State) (r : RegId) (i j v m : Nat) (f : FieldRow), f ∈ r.desc.fields → zeroLow r = false → m < 2 ^ 64 →
      let old := bitsOf (s.reg r i j) f.hi f.lo
      let new := bitsOf ((s.plainWrite r i j v m).reg r i j) f.hi f.lo
      ∀ b, b < f.hi + 1 - f.lo →
        let reached := m.testBit (f.lo + b)
        let w := v.testBit (f.lo + b)
        new.testBit b = match f.acc with
          | .rw => if reached then w else old.testBit b
          | .rwl => if reached && !s.locked r i then w else old.testBit b
          | .w1c => if reached && w then false else old.testBit b
          | .st => if reached && w then false else old.testBit b
          | .w1s => if reached && w then true else old.testBit b
          | .ro => old.testBit b
          | .wo => old.testBit b)
  ∧ ((∀ (off size : Nat) (data : Word64) (s : State), off < 2 ^ 26 → s.tray.good = true → s.pcie.d3hot = false →
        (∀ d : Option Word64, accessFits off size = false ∨ s.decodeReg (off / 8 * 8) = none →
          Completes (.registerWrite off size d) s fun t =>
            t = { s with regs := t.regs, out := s.out ++ [.unsupported off] }
              ∧ RegsKept [RegId.MGT_EVT_BADACC.offset 0 0] s t
              ∧ t.flag MGT_EVT_BADACC_valid = true ∧ t.fld MGT_EVT_BADACC_offset = off
              ∧ t.flag MGT_EVT_BADACC_source = false ∧ t.flag MGT_EVT_BADACC_write = d.isSome)
        ∧ ∀ r i j, accessFits off size = true → s.decodeReg (off / 8 * 8) = some (r, i, j) →
          (s.blockHeld r i = true → exec (.registerWrite off size (some data)) s = .next s
            ∧ exec (.registerWrite off size none) s
                = .next { s with out := s.out ++ [.regRead off (BitVec.ofNat 64 (2 ^ (8 * size) - 1))] })
          ∧ (s.blockHeld r i = false → r ∉ [.RTR_TBL_DATA, .BT_TBL_DATA, .FWU_DUMP_DATA] →
            exec (.registerWrite off size none) s = .next { s with out := s.out ++ [.regRead off (BitVec.ofNat 64
              (if size = 8 then s.readReg r i j
                else if off % 8 = 4 then s.readReg r i j / 2 ^ 32 else s.readReg r i j % 2 ^ 32))] })
          ∧ (s.blockHeld r i = false →
            r ∈ [.GI_CTRL, .GI_EVT, .GI_PAD_WATER, .TL_EVT, .TL_TALLY_CFG, .HBM_EVT, .HBM_SCRUB, .RTR_CTRL, .RTR_EVT,
              .RTR_LINK_EVT, .BT_EVT, .FLD_CTRL, .PWR_EVT, .PWR_TILE, .MGT_WATCH_ACT, .FWU_EVT, .FUS_EVT] →
            let v := if off % 8 = 4 then (data.toNat % 2 ^ 32) <<< 32 else data.toNat
            let m := if size = 8 then 2 ^ 64 - 1 else if off % 8 = 4 then (2 ^ 32 - 1) <<< 32 else 2 ^ 32 - 1
            Completes (.registerWrite off size (some data)) s fun t =>
              OnlyRegs [r.offset i j] s t ∧ t.reg r i j = (s.plainWrite r i j v m).reg r i j))
      ∧ (∀ (off size : Nat) (data : Option Word64) (s : State), off < 2 ^ 26 →
        (s.tray.good = true → s.pcie.d3hot = true →
          exec (.registerWrite off size data) s = .next { s with out := s.out ++ [.unsupported off] })
        ∧ (s.tray.good = false → exec (.registerWrite off size data) s = .next s))
      ∧ ∀ (p : Packet) (s : State), p.status ≠ 3 → malformed (p.word 2) = false → gaSpace (p.word 2) = 2 →
        let off := gaReg (p.word 2)
        let size := p.word 4 % 16
        let answer := fun (t : State) (status cause data : Nat) => Offered s t portM fun q =>
          q.type = tMGMT_RESP ∧ q.dst = p.src ∧ q.status = status
            ∧ q.sequence = p.sequence ∧ q.word 2 = p.word 2 ∧ q.word 3 = data ∧ bitsOf (q.word 4) 7 4 = cause
        let allowed := s.isOwn p.src = true ∨ p.src = s.fld RTR_HEFT_CTRL_fm_node
        (¬ allowed → p.type = tMGMT_REQ → Completes (.mgmtReq p) s fun t =>
          t = { s with delivered := t.delivered, input := t.input } ∧ answer t 1 1 0)
        ∧ (allowed → p.operation ≤ 1 → p.type = tMGMT_REQ →
          (accessFits off size = false ∨ s.decodeReg (off / 8 * 8) = none →
            Completes (.mgmtReq p) s fun t =>
              t = { s with delivered := t.delivered, input := t.input, regs := t.regs } ∧ answer t 1 1 0
                ∧ RegsKept [RegId.MGT_EVT_BADACC.offset 0 0] s t
                ∧ t.flag MGT_EVT_BADACC_valid = true ∧ t.fld MGT_EVT_BADACC_offset = off
                ∧ t.flag MGT_EVT_BADACC_source = true)
          ∧ ∀ r i j, accessFits off size = true → s.decodeReg (off / 8 * 8) = some (r, i, j) →
            (s.blockHeld r i = true → Completes (.mgmtReq p) s fun t =>
              t = { s with delivered := t.delivered, input := t.input } ∧ answer t 1 3 0)
            ∧ (s.blockHeld r i = false → p.operation = 0 →
              r ∉ [.RTR_TBL_DATA, .BT_TBL_DATA, .FWU_DUMP_DATA] → Completes (.mgmtReq p) s fun t =>
                t = { s with delivered := t.delivered, input := t.input }
                  ∧ answer t 0 0 (if size = 8 then s.readReg r i j
                      else if off % 8 = 4 then s.readReg r i j / 2 ^ 32 else s.readReg r i j % 2 ^ 32))
            ∧ (s.blockHeld r i = false → p.operation = 1 → size = 8 → r ∈ [.GI_EVT, .GI_PAD_WATER, .TL_EVT, .RTR_LINK_EVT] →
              Completes (.mgmtReq p) s fun t =>
                t = { s with delivered := t.delivered, input := t.input, regs := t.regs } ∧ answer t 0 0 0
                  ∧ RegsKept [r.offset i j] s t
                  ∧ t.reg r i j = (s.plainWrite r i j (p.word 3) (2 ^ 64 - 1)).reg r i j)))

/-- HBM (R215, R216): the check of an interleave copy passes only a table of the package's length in which every entry in
use names a good stack and a slot within its share, no two of them the same place, equal to the other die's; a commit
starts the check, whose end gives the state and the first case that applied, and service starts once both copies are
valid.
Scrubbing, temperature, refresh management and training of the HBM stacks (R221 to R225): a scrub visits the next
granule of its pseudo-channel, which counts one activate of its bank, rewrites it where a symbol is in error, counts what
the on-die ECC corrects, and records an uncorrectable one; the refresh rate rises at once above 85 °C and 95 °C; refresh
management of a bank at its threshold starts the bank's count again (log entry 120: banks and thresholds are free); a stack's training ends in
success or failure, and after the last stack's end the interleave is written, committed and locked. -/
def Obligations.HbmAndInterleave : Prop :=
  (∀ (die : Nat) (s : State), die < 2 →
      let mode := s.fld HBM_ILV_CTRL_mode die
      let len := s.fld HBM_ILV_CTRL_length die
      (s.chipReset = false → Completes (.ilvCommit die) s fun t =>
          OnlyRegs [RegId.HBM_ILV_CTRL.offset die 0] s t ∧ t.fld HBM_ILV_CTRL_state die = 1
            ∧ t.fld HBM_ILV_CTRL_mode die = mode ∧ t.fld HBM_ILV_CTRL_length die = len)
      ∧ (s.ilvCheck die = 0 →
          len = s.fuse.ilvLength
            ∧ (∀ e ∈ ilvInUse mode len, s.stackGood (s.ilvEntry die e.2).1 = true
                ∧ (s.ilvEntry die e.2).2 < len / s.stackCount ∧ s.ilvEntry (1 - die) e.2 = s.ilvEntry die e.2)
            ∧ ∀ e ∈ ilvInUse mode len, ∀ f ∈ ilvInUse mode len, s.ilvEntry die e.2 = s.ilvEntry die f.2 → e = f)
      ∧ (s.fld HBM_ILV_CTRL_state die = 1 → Completes (.ilvCheckDone die) s fun t =>
          t = { s with regs := t.regs }
            ∧ RegsKept (RegId.HBM_ILV_CTRL.offset die 0 :: RegId.FUS_EVT.offset 0 0
                :: (List.range 12).map fun k => RegId.HBM_STAT.offset k 0) s t
            ∧ t.fld HBM_ILV_CTRL_fail_cause die = s.ilvCheck die
            ∧ t.fld HBM_ILV_CTRL_state die = (if s.ilvCheck die = 0 then 2 else 3)
            ∧ (s.ilvCheck die = 0 → s.fld HBM_ILV_CTRL_state (1 - die) = 2 → ∀ k, k < 12 → s.stackFused k = true →
                t.flag HBM_STAT_in_service k = true)))
  ∧ (∀ (k : Nat) (s : State), k < 12 → s.stackFused k = true →
      (∀ pc, pc < 32 → s.flag HBM_SCRUB_enable k = true → s.chipReset = false → s.fld PWR_STAT_state ≠ 2 →
        s.flag HBM_STAT_in_service k = true → (s.openReads = [] ∨ s.bufferFree (k * 32 + pc) = true) →
        let n := agetD s.scrubAt (k * 32 + pc) 0
        Completes (.patrolScrub k pc) s fun t =>
          t = { s with regs := t.regs, scrubAt := t.scrubAt, hbmCe := t.hbmCe, hbmOndie := t.hbmOndie, bankActs := t.bankActs }
            ∧ agetD t.scrubAt (k * 32 + pc) 0 = (n + 1) % pcGranules
            ∧ (∀ g, s.granuleAt s.hbmUe k (scrubLocal pc n) = some g →
                t.flag HBM_UE_LOG_valid k = true ∧ t.flag HBM_UE_LOG_scrub k = true ∧ t.flag HBM_EVT_ue k = true
                ∧ t.fld HBM_ECC_ue k = min (2 ^ 16 - 1) (s.fld HBM_ECC_ue k + 1))
            ∧ (∀ g, s.granuleAt (s.hbmOndie ++ s.hbmCe) k (scrubLocal pc n) = some g →
                t.hbmCe = s.hbmCe.filter (fun h => h != g) ∧ t.hbmOndie = s.hbmOndie.filter (fun h => h != g)
                  ∧ (g ∈ s.hbmCe → t.fld HBM_ECC_ce k = min (2 ^ 32 - 1) (s.fld HBM_ECC_ce k + 1))
                  ∧ (g ∈ s.hbmOndie → t.fld HBM_ECC_ondie k = min HBM_ECC_ondie.max (s.fld HBM_ECC_ondie k + 1)))
            ∧ (s.granuleAt (s.hbmOndie ++ s.hbmCe) k (scrubLocal pc n) = none →
                t.hbmCe = s.hbmCe ∧ t.hbmOndie = s.hbmOndie ∧ t.fld HBM_ECC_ce k = s.fld HBM_ECC_ce k)
            ∧ (agetD s.bankActs (bankOf k (scrubLocal pc n)) 0 < (Config.rfmMaximum k).toNat + 1 →
                agetD t.bankActs (bankOf k (scrubLocal pc n)) 0 = agetD s.bankActs (bankOf k (scrubLocal pc n)) 0 + 1))
      ∧ (∀ temp, temp < 256 → s.chipReset = false → Completes (.hbmTempRead k temp) s fun t =>
          t = { s with regs := t.regs, hbmCool := t.hbmCool }
            ∧ RegsKept [RegId.HBM_TEMP.offset k 0, RegId.HBM_EVT.offset k 0] s t ∧ t.fld HBM_TEMP_temp k = temp
            ∧ (95 < temp → t.fld HBM_TEMP_rate k = 2)
            ∧ (85 < temp → temp ≤ 95 → s.fld HBM_TEMP_rate k ≤ 1 → t.fld HBM_TEMP_rate k = 1)
            ∧ (temp ≤ 82 → (agetD s.hbmCool k (0, 0)).1 + 1 < 100 → (agetD s.hbmCool k (0, 0)).2 + 1 < 100 →
                s.fld HBM_TEMP_rate k ≤ 2 → t.fld HBM_TEMP_rate k = s.fld HBM_TEMP_rate k))
      ∧ (∀ bank, bank < 4096 →
          let own := (Config.rfmThreshold k).toNat + 1
          let set := s.fld HBM_RRB_CTRL_rfm_thresh (k / 6)
          let threshold := if set = 0 then own else min set own
          (threshold ≤ agetD s.bankActs (k * 4096 + bank) 0 → Completes (.rfmIssue k bank) s fun t =>
            t = { s with bankActs := t.bankActs } ∧ agetD t.bankActs (k * 4096 + bank) 0 = 0
              ∧ ∀ b, b ≠ k * 4096 + bank → agetD t.bankActs b 0 = agetD s.bankActs b 0)
          ∧ (agetD s.bankActs (k * 4096 + bank) 0 < threshold → exec (.rfmIssue k bank) s = .next s))
      ∧ ∀ (attempts : Nat) (ok : Bool), 1 ≤ attempts → attempts ≤ 3 → s.flag HBM_STAT_trained k = false →
        s.flag HBM_STAT_train_fail k = false → Completes (.hbmTrainingDone k attempts ok) s fun t =>
          t = { s with regs := t.regs }
            ∧ t.flag HBM_STAT_trained k = ok ∧ t.flag HBM_STAT_train_fail k = !ok
            ∧ t.fld HBM_STAT_attempts k = (if ok then attempts else 3)
            ∧ t.flag FUS_FP_UNIT_usable k = ok ∧ t.flag FUS_FP_UNIT_test_fail k = !ok
            ∧ (ok = false → t.flag FUS_EVT_kat_disagree = true)
            ∧ ((∀ j, j < 12 → j ≠ k → s.stackFused j = true →
                  s.flag HBM_STAT_trained j = true ∨ s.flag HBM_STAT_train_fail j = true) →
                ∀ die, die < 2 → t.fld HBM_ILV_CTRL_state die = 1 ∧ t.flag HBM_ILV_CTRL_lock die = true))

/-- The training of an external port (R236, R237, R243, R244): OFF, DETECT, LOCK, ALIGN, EQ, CONFIRM and ACTIVE in turn, with
a port whose lane map is no permutation, whose time limit passes or that has no usable width going to FAILED with its
cause. Lane firmware (R502, R504): a port that is due takes the firmware in use as it enters LOCK, the counter follows once it
is ACTIVE, and an activation that waited for the port goes on. -/
def Obligations.PortsTrain : Prop :=
  ∀ (k : Nat) (s : State), k < 8 →
    let lanes := (List.range 8).map fun i => RegId.LN_STAT.offset (8 * k + i) 0
    (∀ cls, cls < 8 → s.flag RTR_LINK_CTRL_lock k = false → s.tstate k = tsOff → s.fld RTR_LINK_STAT_pstate k ≠ 3 →
      s.portFree k = true → Completes (.linkEnable k cls) s fun t =>
        OnlyRegs (RegId.RTR_LINK_CTRL.offset k 0 :: RegId.RTR_LINK_STAT.offset k 0 :: RegId.RTR_PORT_CABLE.offset k 0
            :: lanes) s t
          ∧ t.tstate k = tsDetect ∧ t.flag RTR_LINK_CTRL_enable k = true ∧ t.fld RTR_PORT_CABLE_cable_class k = cls
          ∧ t.flag RTR_PORT_CABLE_class_valid k = true)
    ∧ (∀ signal, s.tstate k = tsDetect → s.flag RTR_PORT_CABLE_present k = true → 4 ≤ popCount 8 signal →
      Completes (.linkLock k signal) s fun t =>
        t.mem = s.mem ∧ t.tiles = s.tiles
          ∧ (s.mgmt.laneDue.contains k = true → s.flag FWU_SLOT_in_use 2 0 = true →
              aget t.mgmt.laneFw k = some (s.fld FWU_SLOT_svn 2 0) ∧ t.mgmt.laneDue.contains k = false)
          ∧ (s.mgmt.laneDue.contains k = false → t.mgmt = s.mgmt)
          ∧ t.fld RTR_LINK_STAT_trainings k = min (2 ^ 14 - 1) (s.fld RTR_LINK_STAT_trainings k + 1)
          ∧ (s.mapIsPermutation k = true → t.tstate k = tsLock ∧ ∀ i, i < 8 →
              t.flag LN_STAT_failed (8 * k + i) = false ∧ t.flag LN_STAT_lock (8 * k + i) = false
                ∧ (t.lane (8 * k + i)).taps = [0, -8, 112, -8, 0] ∧ (t.lane (8 * k + i)).ready = false)
          ∧ (s.mapIsPermutation k = false → t.tstate k = tsFailed ∧ t.fld RTR_LINK_STAT_fail_cause k = 1))
    ∧ (∀ locked inverted, s.tstate k = tsLock → 4 ≤ popCount 8 locked →
      Completes (.linkAlign k locked inverted) s fun t =>
        OnlyRegs (RegId.RTR_LINK_STAT.offset k 0 :: lanes) s t ∧ t.tstate k = tsAlign ∧ ∀ i, i < 8 →
          t.flag LN_STAT_lock (8 * k + i) = bitAt locked i ∧ t.flag LN_STAT_failed (8 * k + i)
                = (!bitAt locked i || s.flag LN_CTRL_force_fail (8 * k + i))
            ∧ t.flag LN_STAT_pol_inv (8 * k + i) = bitAt inverted i)
    ∧ (∀ skewed, s.tstate k = tsAlign → (s.link k).dormantExit = false → Completes (.linkEq k skewed) s fun t =>
        OnlyRegs (RegId.RTR_LINK_STAT.offset k 0 :: lanes) s t ∧ t.tstate k = tsEq
          ∧ (∀ i, i < 8 → bitAt skewed i = true → t.flag LN_STAT_failed (8 * k + i) = true)
          ∧ (t.flag RTR_LINK_STAT_reversed k = true ↔ (∃ l, l < 8 ∧ s.flag LN_STAT_lock (s.txLane k l) = true)
              ∧ ∀ l, l < 8 → s.flag LN_STAT_lock (s.txLane k l) = true → (s.lane (s.txLane k l)).farLane = 7 - l))
    ∧ (∀ skewed, s.tstate k = tsEq → Completes (.linkConfirm k skewed) s fun t =>
        t = { s with regs := t.regs, lanes := t.lanes } ∧ RegsKept (RegId.RTR_LINK_STAT.offset k 0 :: lanes) s t
          ∧ t.tstate k = tsConfirm ∧ ∀ i, i < 8 → (t.lane (8 * k + i)).ready
              = (s.laneGood (8 * k + i) && ((s.lane (8 * k + i)).ready || decide (96 ≤ s.fld LN_FOM_fom (8 * k + i)))))
    ∧ (s.tstate k = tsConfirm → (s.link k).dormantExit = false →
        let both := s.halfReady k 0 && s.halfReady k 1
        let narrow := s.flag RTR_LINK_CTRL_allow_x4 k
        (both = true → ∀ c, s.mgmt.update.training = some k → s.mgmt.update.ports = [] → s.mgmt.update.queue = [c] →
          Completes (.linkActive k) s fun t =>
            t.tstate k = tsActive ∧ t.mgmt.update.training = none ∧ t.updState = 0 ∧ t.mgmt.update.agent = none)
        ∧ (s.mgmt.update.training = none → Completes (.linkActive k) s fun t =>
          t.mem = s.mem ∧ t.tiles = s.tiles
            ∧ (both = true → t.tstate k = tsActive ∧ t.flag RTR_LINK_STAT_width_x4 k = false
                ∧ t.fld RTR_LINK_STAT_pstate k = 0
                ∧ ∀ v, aget s.mgmt.laneFw k = some v → s.fuse.svn < v → ∃ w, t.mgmt.update.advance = some w ∧ v ≤ w)
            ∧ (both = false → narrow = true → s.halfReady k 0 = true → t.tstate k = tsActive
                ∧ t.flag RTR_LINK_STAT_width_x4 k = true ∧ t.flag RTR_LINK_STAT_half k = false)
            ∧ (narrow = true → s.halfReady k 0 = false → s.halfReady k 1 = true → t.tstate k = tsActive
                ∧ t.flag RTR_LINK_STAT_width_x4 k = true ∧ t.flag RTR_LINK_STAT_half k = true)
            ∧ (both = false → (narrow = false ∨ (s.halfReady k 0 = false ∧ s.halfReady k 1 = false)) →
                t.tstate k = tsFailed ∧ t.fld RTR_LINK_STAT_fail_cause k = 5 ∧ t.flag RTR_LINK_EVT_down k = true)))
    ∧ ∀ cause, s.mgmt.update.training = none → (s.tstate k = tsLock ∧ cause = 2) ∨ (s.tstate k = tsAlign ∧ cause = 3) ∨ (s.tstate k = tsConfirm ∧ cause = 4) →
        Completes (.trainingTimeout k) s fun t =>
          t.mem = s.mem ∧ t.tiles = s.tiles ∧ t.tstate k = tsFailed ∧ t.fld RTR_LINK_STAT_fail_cause k = cause
            ∧ t.flag RTR_LINK_EVT_down k = true

/-- The lanes (R230, R233, R235, R238, R239, R244, R248): the block errors of a training period count on a lane that has block
lock; a training frame without a block error is kept, and its tap request is applied by the transmitter of the same logical
lane; tap requests never leave the limits of the taps; a figure of merit is recorded with its lowest value and its warning; a lane that fails in ACTIVE makes the
port ask for the other half where one is usable and ×4 is allowed, and otherwise ask the far end for a retrain, which begins
when the far end is seen or taken to have left ACTIVE. -/
def Obligations.LanesTrainAndFail : Prop :=
  (∀ (lane : Nat) (r : RxRun) (request : Word64) (s : State), lane < 64 → tsAlign ≤ s.tstate (lane / 8) →
      s.tstate (lane / 8) < tsActive →
      let reach := s.flag RTR_LINK_STAT_reach (lane / 8)
      let counted := fun (t : State) => RegsKept [RegId.LN_ERR.offset lane 0] s t
        ∧ t.fld LN_ERR_sync_err lane = (if s.flag LN_STAT_lock lane = true
            then min (2 ^ 24 - 1) (s.fld LN_ERR_sync_err lane + (r.blocks.filter (blockError reach)).length)
            else s.fld LN_ERR_sync_err lane)
      (r.frame reach = none → Completes (.trainingFrame lane r request) s fun t =>
          t = { s with regs := t.regs } ∧ counted t)
      ∧ ∀ ws, r.frame reach = some ws →
        let b1 := lbWord ws 1
        let b2 := lbWord ws 2
        let n := s.txOf lane
        Completes (.trainingFrame lane r request) s fun t =>
        t = { s with regs := t.regs, lanes := t.lanes, links := t.links } ∧ counted t
          ∧ (∀ m, m ≠ lane → m ≠ n → t.lane m = s.lane m) ∧ (∀ m, m ≠ lane / 8 → t.link m = s.link m)
          ∧ (t.lane lane).farReady = bitAt b1 10 ∧ (t.lane lane).farLane = bitsOf b1 2 0
          ∧ (t.lane lane).farPort = bitsOf b1 5 3 ∧ (t.lane lane).farReach = bitAt b1 6
          ∧ (bitsOf b2 3 0 = (s.lane n).ackSeq → (t.lane n).taps = (s.lane n).taps)
          ∧ (bitsOf b2 3 0 ≠ (s.lane n).ackSeq → (t.lane n).ackSeq = bitsOf b2 3 0
              ∧ (bitAt b2 14 = true → bitsOf b2 17 15 ≤ 3 → (t.lane n).taps = s.preset n (bitsOf b2 17 15)
                  ∧ (t.lane n).presetDone = true)
              ∧ (bitAt b2 14 = false → (t.lane n).taps = (tapSteps (s.lane n).taps (bitsOf b2 13 4)).1)))
    ∧ (∀ (ts : List Int) (req : Nat), ts.length = 5 →
      (∀ i, i < 5 → (tapLimits i).1 ≤ lget ts i 0 ∧ lget ts i 0 ≤ (tapLimits i).2) → tapSum ts ≤ 128 →
      let r := (tapSteps ts req).1
      r.length = 5 ∧ (∀ i, i < 5 → (tapLimits i).1 ≤ lget r i 0 ∧ lget r i 0 ≤ (tapLimits i).2) ∧ tapSum r ≤ 128)
    ∧ (∀ (lane fom : Nat) (s : State), lane < 64 → tsEq ≤ s.tstate (lane / 8) → s.tstate (lane / 8) < tsFailed →
      Completes (.fomMeasure lane fom) s fun t =>
        t = { s with regs := t.regs, lanes := t.lanes }
          ∧ RegsKept [RegId.LN_FOM.offset lane 0, RegId.LN_STAT.offset lane 0, RegId.RTR_LINK_EVT.offset (lane / 8) 0] s t
          ∧ t.fld LN_FOM_fom lane = min 255 fom
          ∧ t.fld LN_FOM_fom_min lane = min (s.fld LN_FOM_fom_min lane) (min 255 fom)
          ∧ t.flag LN_STAT_warn lane = decide (min 255 fom < s.fld LN_CTRL_fom_warn lane)
          ∧ (min 255 fom < s.fld LN_CTRL_fom_warn lane → s.flag LN_STAT_warn lane = false →
              t.flag RTR_LINK_EVT_fom_warn (lane / 8) = true))
    ∧ (∀ (lane : Nat) (s : State), lane < 64 → Completes (.lnClrMin lane) s fun t =>
        OnlyRegs [RegId.LN_FOM.offset lane 0] s t ∧ t.fld LN_FOM_fom_min lane = s.fld LN_FOM_fom lane
          ∧ t.fld LN_FOM_fom lane = s.fld LN_FOM_fom lane)
    ∧ (∀ (lane : Nat) (s : State), lane < 64 → s.tstate (lane / 8) = tsActive → (s.link (lane / 8)).retrainAsked = true →
      s.mapIsPermutation (lane / 8) = true → (∀ m, m / 8 = lane / 8 → m ≠ lane → s.flag LN_STAT_in_use m = true →
        s.flag LN_STAT_lock m = false) → Completes (.blockLockLoss lane) s fun t =>
          t.tstate (lane / 8) = tsLock ∧ t.flag RTR_LINK_EVT_retrain (lane / 8) = true ∧ t.mem = s.mem ∧ t.tiles = s.tiles)
    ∧ ∀ (lane : Nat) (s : State) (c : Instr), lane < 64 →
      (c = .blockLockLoss lane ∧ ∃ m, m / 8 = lane / 8 ∧ m ≠ lane ∧ s.flag LN_STAT_in_use m = true
          ∧ s.flag LN_STAT_lock m = true)
        ∨ c = .laneForceFail lane ∨ (c = .fomHoldExpiry lane ∧ s.fld LN_FOM_fom lane < 96) →
      let k := lane / 8
      let f := s.setFld LN_STAT_failed lane 0 1
      s.tstate k = tsActive → s.flag LN_STAT_failed lane = false → (s.link k).degAsked = none → (s.link k).degNext = none →
      (s.link k).retrainAsked = false → s.mapIsPermutation k = true → Completes c s fun t =>
        t.mem = s.mem ∧ t.tiles = s.tiles ∧ t.flag RTR_LINK_EVT_lane_failed k = true
          ∧ (∀ h, s.flag RTR_LINK_STAT_width_x4 k = false → s.flag RTR_LINK_CTRL_allow_x4 k = true →
              (f.halfUsable k 0 = true ∧ h = 0) ∨ (f.halfUsable k 0 = false ∧ f.halfUsable k 1 = true ∧ h = 1) →
              t.tstate k = tsActive ∧ t.flag LN_STAT_failed lane = true ∧ (t.link k).degAsked = some h
                ∧ t.out = (s.sendCtl k lcDegrade h).out)
          ∧ (s.flag RTR_LINK_STAT_width_x4 k = true ∨ s.flag RTR_LINK_CTRL_allow_x4 k = false
                ∨ (f.halfUsable k 0 = false ∧ f.halfUsable k 1 = false) →
              (s.fld RTR_LINK_STAT_pstate k ≠ 2 → t.tstate k = tsActive ∧ t.flag LN_STAT_failed lane = true
                ∧ (t.link k).retrainAsked = true ∧ t.out = (s.sendCtl k lcRetrain 0).out)
              ∧ (s.fld RTR_LINK_STAT_pstate k = 2 → t.tstate k = tsLock ∧ t.flag RTR_LINK_EVT_retrain k = true
                ∧ t.out = s.out ++ [.wake k]))

/-- Link blocks received (R230, R240, R241): a data block in sequence whose check passes is taken, and a packet that it holds
whole arrives at the input port; the acknowledged blocks leave the replay buffer; a data block that fails its check or
is out of sequence is not taken, and the receiver asks once for its expected sequence; block errors count on their lanes, also where
only IDLE blocks come.
Link blocks sent and sent again (R240, R241, R266, R294): an ACTIVE port sends in an unclaimed slot a data block of the
virtual channel it picks, in a claimed one of its circuit; it takes the units from the credit, and stores the block with
the next sequence until it is acknowledged; with nothing to send it sends a null block, in Quiet nothing, and where credit is
owed a data block without units; a resend starts at a stored sequence and goes on through the replay buffer, in a claimed
slot with blocks of its circuit alone.
The check of a link block (R229, R240): a block made of 31 words keeps them, carries its sequence and ack, is the same after
it was striped over four or eight lanes, and passes its check at a receiver that saw no block error; what the scrambler adds
the descrambler takes away. -/
def Obligations.LinkBlocks : Prop :=
  (∀ (k : Nat) (s : State) (lanes : List RxLane) (fec : List FecErrs), s.linkUp k = true →
      let ws := rxWords lanes
      let reach := s.flag RTR_LINK_STAT_reach k
      let passes := blockPasses reach (s.activeLanes k).length lanes
      let x := s.link k
      let next := s.fld RTR_LINK_REPLAY_next_seq k
      let oldest := (x.replay.head?.map (·.seq)).getD next
      let acked := (lbAck ws + 65536 - oldest) % 65536
      (passes = true → lbKind ws = 0 → acked ≤ (next + 65536 - oldest) % 65536 →
        (lbSeq ws = x.expect → Completes (.linkBlockReceive k lanes fec) s fun t =>
          t.mem = s.mem ∧ t.tiles = s.tiles ∧ t.out = s.out ∧ (t.link k).expect = (x.expect + 1) % 65536
            ∧ (t.link k).waiting = false ∧ (t.link k).replay = x.replay.drop acked
            ∧ (∀ v, v < 8 → t.fld RTR_VC_CREDIT_credit k v
                = if lbCrdValid ws = true ∧ lbCrdVc ws = v
                  then (s.fld RTR_VC_CREDIT_credit k v + lbCrdUnits ws) % 2 ^ 18 else s.fld RTR_VC_CREDIT_credit k v)
            ∧ (lbUnits ws = 0 → t.input = s.input)
            ∧ ∀ p : Packet, 0 < lbUnits ws → packetOfWords ((ws.drop 1).take (2 * lbUnits ws)) = some p →
                bitsOf (lbWord ws 1) 45 32 = lbUnits ws → lbStart ws 0 = true →
                (∀ u, 0 < u → u < lbUnits ws → lbStart ws u = false) →
                (∀ e ∈ s.input, e.comingOn k [lbVc ws] = false) → (∀ o ∈ s.output, o.comingOn k [lbVc ws] = false) →
                t.input = s.input ++ [⟨k, s.place k { p with vc := lbVc ws }, lbVc ws, lbUnits ws, false, false,
                  s.fld RTR_HEFT_FAR1_state k != 2⟩])
        ∧ (lbSeq ws ≠ x.expect → x.waiting = false → Completes (.linkBlockReceive k lanes fec) s fun t =>
          t.mem = s.mem ∧ t.tiles = s.tiles ∧ t.input = s.input ∧ (t.link k).expect = x.expect
            ∧ (t.link k).waiting = true ∧ (t.link k).replay = x.replay.drop acked
            ∧ t.out = (s.sendCtl k lcResend x.expect).out))
      ∧ ((∀ r ∈ lanes, ∀ b ∈ r, b.1.kind ≠ .data) → Completes (.linkBlockReceive k lanes fec) s fun t =>
          OnlyRegs ((List.range 64).map fun n => RegId.LN_ERR.offset n 0) s t)
      ∧ (passes = false → lbKind ws = 0 → x.waiting = false → (∃ r ∈ lanes, ∃ b ∈ r, b.1.kind = .data) →
        Completes (.linkBlockReceive k lanes fec) s fun t =>
          t.mem = s.mem ∧ t.tiles = s.tiles ∧ t.input = s.input ∧ (t.link k).expect = x.expect
            ∧ (t.link k).waiting = true ∧ (t.link k).replay = x.replay ∧ t.out = (s.sendCtl k lcResend x.expect).out
            ∧ (∀ n, n / 8 ≠ k → n < 64 → t.reg .LN_ERR n = s.reg .LN_ERR n)
            ∧ (s.mapIsPermutation k = true → ∀ (i : Nat) (r : RxLane) (l : Nat), lanes[i]? = some r → (s.activeLanes k)[i]? = some l →
                t.fld LN_ERR_sync_err (s.physLane k l) = min (2 ^ 24 - 1)
                  (s.fld LN_ERR_sync_err (s.physLane k l) + (r.filter (blockError reach)).length))))
  ∧ (∀ (k : Nat) (s : State), s.linkUp k = true →
      let grants := (List.range 8).map fun v => RegId.RTR_VC_CREDIT.offset k v
      let x := s.link k
      let seq := s.fld RTR_LINK_REPLAY_next_seq k
      let pstate := s.fld RTR_LINK_STAT_pstate k
      (pstate < 2 → x.slotKey = s.beatNo * 256 + s.slotNow →
        (∀ i b, x.replay[i]? = some b → lfind (fun c => c.seq == b.seq) x.replay = some i → x.resendAt = some b.seq →
          (x.slotCircuit = none
            ∨ ∃ c, x.slotCircuit = some c ∧ b.circuit = some (c, circPartition (s.circuit c))) → Completes (.linkBlockSend k) s fun t =>
            t = { s with regs := t.regs, links := t.links, out := t.out } ∧ RegsKept grants s t
              ∧ t.out = s.out ++ [.linkBlock k (s.stripes k (linkBlock (b.words.take 31) b.seq x.expect))]
              ∧ t.link k = { x with
                  resendAt := (x.replay[i + 1]?).map (·.seq), owed := (t.link k).owed, lendLast := (t.link k).lendLast
                  slotReady := (t.link k).slotReady })
        ∧ (∀ c q, x.slotCircuit = some c → x.resendAt = some q → x.storedCircuit q ≠ some (c, circPartition (s.circuit c)) → pstate = 0 →
          Completes (.linkBlockSend k) s fun t =>
            t.mem = s.mem ∧ t.tiles = s.tiles ∧ t.input = s.input ∧ t.output = s.output ∧ t.out = (s.sendNull k).out
              ∧ (t.link k).replay = x.replay ∧ (t.link k).resendAt = some q)
        ∧ (x.resendAt = none → x.replay.length < 4096 →
          (∀ v os, (x.slotCircuit = none ∧ ∃ y, s.pickVc k = some (v, os, y))
              ∨ (v = 4 ∧ s.readyBlock k 4 os = true ∧ ∃ c, x.slotCircuit = some c ∧ os = s.circuitQueue k c) →
            Completes (.linkBlockSend k) s fun t =>
            t.mem = s.mem ∧ t.tiles = s.tiles ∧ InputsAre s.input t
              ∧ t.fld RTR_LINK_REPLAY_next_seq k = (seq + 1) % 65536
              ∧ t.fld RTR_VC_CREDIT_credit k v = s.fld RTR_VC_CREDIT_credit k v - blockUnits os
              ∧ ∃ blk ends, t.out = s.out ++ [.linkBlock k (s.stripes k blk)]
                ∧ (t.link k).replay = x.replay
                    ++ [⟨seq, blk, ends, x.slotCircuit.map fun c => (c, circPartition (s.circuit c))⟩]
                ∧ blk.length = 32 ∧ lbKind blk = 0 ∧ lbVc blk = v ∧ lbUnits blk = blockUnits os ∧ lbSeq blk = seq
                ∧ lbAck blk = x.expect % 65536)
          ∧ (x.slotCircuit = none → s.pickVc k = none → (∃ v, v < 8 ∧ 0 < lget x.owed v 0) →
            Completes (.linkBlockSend k) s fun t =>
            t.mem = s.mem ∧ t.tiles = s.tiles ∧ t.input = s.input ∧ t.output = s.output
              ∧ t.fld RTR_LINK_REPLAY_next_seq k = (seq + 1) % 65536
              ∧ ∃ blk, t.out = s.out ++ [.linkBlock k (s.stripes k blk)] ∧ (t.link k).replay = x.replay ++ [⟨seq, blk, 0, none⟩]
                ∧ lbKind blk = 0 ∧ lbUnits blk = 0 ∧ lbCrdValid blk = true))
        ∧ (x.slotCircuit = none → x.resendAt = none →
          4096 ≤ x.replay.length ∨ (s.pickVc k = none ∧ ∀ u ∈ x.owed, u = 0) →
          (pstate = 0 → Completes (.linkBlockSend k) s fun t =>
            t = { s with regs := t.regs, links := t.links, out := t.out } ∧ RegsKept grants s t
              ∧ t.out = (s.sendNull k).out
              ∧ t.link k = { x with owed := (t.link k).owed, lendLast := (t.link k).lendLast })
          ∧ (pstate = 1 → exec (.linkBlockSend k) s = .next s)))
      ∧ (∀ q, (∃ b ∈ x.replay, b.seq = q) → (x.resendSeq = q → x.resendRun + 1 < s.fld RTR_LINK_CTRL_resend_limit k) →
          1 < s.fld RTR_LINK_CTRL_resend_limit k →
          ∀ c, c = .resend k q ∨ (c = .ackTimeout k ∧ x.replay.head?.map (·.seq) = some q) → Completes c s fun t =>
            t = { s with regs := t.regs, links := t.links } ∧ RegsKept [RegId.RTR_LINK_REPLAY.offset k 0] s t
              ∧ (t.link k).resendAt = some q ∧ (t.link k).replay = x.replay
              ∧ t.fld RTR_LINK_REPLAY_resends k = min (2 ^ 16 - 1) (s.fld RTR_LINK_REPLAY_resends k + 1))
      ∧ (x.waiting = true → Completes (.resendRepeat k) s (LinkSent k (s.sendCtl k lcResend x.expect).out x s)))
  ∧ (∀ (ws : List Word64) (seq ack : Nat), ws.length = 31 →
      let b := linkBlock ws seq ack
      b.length = 32 ∧ b.take 31 = ws ∧ lbSeq b = seq % 65536 ∧ lbAck b = ack % 65536 ∧ lbCrc b = crc32c (crcCover b)
        ∧ ∀ width reach, width = 4 ∨ width = 8 →
          let lanes := (List.range width).map fun l => (stripe width l b).map fun w => (dataBlock w, false)
          rxWords lanes = b ∧ (lbKind ws ≠ 3 → blockPasses reach width lanes = true))
  ∧ ∀ sent bits : List Bool, descramble sent (scramble sent bits) = bits

/-- Link control, power states and width changes (R231, R242, R244 to R246, R249): each message is answered as its rule says;
a RETRAIN received, and a frame seen after one was sent, goes to LOCK and keeps the link's stored blocks, while this end's own
retrain is asked for and repeated until then; the filler group goes out on every active lane with its logical lane and
counter, and a scheduled change takes effect there. -/
def Obligations.LinkControlTakesEffect : Prop :=
  ∀ (k : Nat) (s : State), k < 8 → s.tstate k = tsActive → s.mapIsPermutation k = true →
    let x := s.link k
    let pstate := s.fld RTR_LINK_STAT_pstate k
    let idle := s.linkIdle k && !s.claimsAny k
    let retrained := fun (t : State) => t.tstate k = tsLock ∧ t.flag RTR_LINK_EVT_retrain k = true
      ∧ (t.link k).replay = x.replay ∧ (t.link k).kept = true ∧ t.mem = s.mem ∧ t.tiles = s.tiles
    let asks := fun (u : State) => LinkSent k (u.sendCtl k lcRetrain 0).out
      { x with retrainAsked := true, degAsked := none, degNext := none } s
    (∀ u, 1 ≤ u → u ≤ 3 → x.degrading = false →
      (idle = true → x.pwrAsked = none → Completes (.pwrReq k u) s
        (LinkSent k (s.sendCtl k lcPwrAck u).out { x with pwrNext := some u } s))
      ∧ (idle = false → Completes (.pwrReq k u) s (LinkSent k (s.sendCtl k lcPwrNak u).out x s))
      ∧ (x.pwrAsked = some u → Completes (.pwrAck k u) s fun t =>
        t = { s with links := t.links } ∧ t.link k = { x with pwrAsked := none, pwrNext := some u })
      ∧ (x.pwrAsked = some u → Completes (.pwrNak k u) s fun t =>
        t = { s with links := t.links } ∧ t.link k = { x with pwrAsked := none })
      ∧ (x.pwrAsked = some u → x.retrainAsked = false →
        Completes (.linkControlRepeat k) s (LinkSent k (s.sendCtl k lcPwrReq u).out x s)))
    ∧ (∀ h, h < 2 → (s.halfUsable k h = true →
          Completes (.degrade k h) s (LinkSent k (s.sendCtl k lcDegradeAck h).out { x with degNext := some h } s))
        ∧ (s.halfUsable k h = false → pstate ≠ 2 → x.retrainAsked = false →
          Completes (.degrade k h) s (asks (s.sendCtl k lcDegradeAck h)))
        ∧ (x.degAsked = some h → Completes (.degradeAck k h) s fun t =>
          t = { s with links := t.links } ∧ t.link k = { x with degAsked := none, degNext := some h })
        ∧ (x.degAsked = some h → pstate ≠ 2 → x.retrainAsked = false → Completes (.degradeTimeout k) s (asks s))
        ∧ (x.degAsked = some h → x.retrainAsked = false →
          Completes (.linkControlRepeat k) s (LinkSent k (s.sendCtl k lcDegrade h).out x s))
        ∧ (x.degNext = some h → x.pwrNext = none → pstate < 2 → ∀ rx : RxFillers, rx.adjust ≤ 4 →
          Completes (.fillerGroup k rx) s fun t =>
          t.mem = s.mem ∧ t.tiles = s.tiles ∧ t.tstate k = tsActive ∧ t.flag RTR_LINK_STAT_width_x4 k = true
            ∧ t.fld RTR_LINK_STAT_half k = h ∧ t.flag RTR_LINK_EVT_degraded k = true ∧ (t.link k).replay = x.replay
            ∧ (t.link k).resendAt = x.replay.head?.map (·.seq)))
    ∧ Completes (.retrain k) s retrained
    ∧ (x.retrainAsked = true → ∀ lane (r : RxRun) request ws, lane / 8 = k →
        r.frame (s.flag RTR_LINK_STAT_reach k) = some ws → Completes (.trainingFrame lane r request) s retrained)
    ∧ (x.retrainAsked = true → x.degAsked = none → x.pwrAsked = none → s.fld RTR_LINK_PWR_target k = 0 →
        Completes (.linkControlRepeat k) s (LinkSent k (s.sendCtl k lcRetrain 0).out x s))
    ∧ (pstate ≠ 2 → x.retrainAsked = false → Completes (.linkRetrainCmd k) s (asks s))
    ∧ (pstate = 2 → Completes (.linkRetrainCmd k) s fun t => retrained t ∧ t.out = s.out ++ [.wake k])
    ∧ (pstate = 0 → s.fld RTR_LINK_PWR_target k = 1 → idle = true → x.degrading = false →
        x.pwrAsked = none → x.pwrNext = none → Completes (.quietIdle k) s
          (LinkSent k (s.sendCtl k lcPwrReq 1).out { x with pwrAsked := some 1 } s))
    ∧ (∀ cls u, u < 4 → (pstate = 2 → u ≤ 1 → Completes (.linkPwrTargetWrite k u cls) s fun t =>
          t.fld RTR_LINK_PWR_target k = u ∧ t.tstate k = tsLock ∧ (t.link k).dormantExit = true ∧ t.mem = s.mem
            ∧ t.out = s.out ++ [.wake k])
        ∧ (pstate = 0 → 2 ≤ u → idle = true → x.degrading = false →
          Completes (.linkPwrTargetWrite k u cls) s fun t =>
            t.fld RTR_LINK_PWR_target k = u ∧ LinkSent k (s.sendCtl k lcPwrReq u).out { x with pwrAsked := some u }
              (s.setFld RTR_LINK_PWR_target k 0 u) t))
    ∧ (pstate = 2 → Completes (.wakePattern k) s fun t =>
        t.tstate k = tsLock ∧ (t.link k).dormantExit = true ∧ (t.link k).kept = true ∧ t.mem = s.mem)
    ∧ (∀ u, ∀ rx : RxFillers, rx.adjust ≤ 4 → pstate < 2 → x.degNext = none → x.pwrNext = some u →
        (u = 1 ∨ u = 2 → Completes (.fillerGroup k rx) s fun t =>
          t.fld RTR_LINK_STAT_pstate k = u ∧ t.tstate k = tsActive
            ∧ t.link k = { x with group := (x.group + 1) % 65536, pwrNext := none }
            ∧ t.out = s.out ++ [.filler k ((s.activeLanes k).map fun l => (s.txLane k l, List.replicate 4 (fillerBlock l x.group)))]
            ∧ RegsKept (RegId.RTR_LINK_STAT.offset k 0 :: ((List.range 8).map fun i => RegId.LN_ERR.offset (8 * k + i) 0)
                ++ if u = 2 then (List.range 8).map fun i => RegId.LN_STAT.offset (8 * k + i) 0 else []) s t
            ∧ (u = 2 → ∀ i, i < 8 → t.flag LN_STAT_lock (8 * k + i) = false))
        ∧ (u = 3 → Completes (.fillerGroup k rx) s fun t =>
          t.fld RTR_LINK_STAT_pstate k = 3 ∧ t.tstate k = tsOff ∧ t.mem = s.mem ∧ t.tiles = s.tiles))
    ∧ (pstate < 2 → ∀ rx : RxFillers, 4 < rx.adjust → Completes (.fillerGroup k rx) s fun t =>
        t.mem = s.mem ∧ t.tiles = s.tiles ∧ ∀ n, n / 8 = k → s.flag LN_STAT_in_use n = true →
          t.flag LN_STAT_failed n = true)
    ∧ ∀ b,
        let level := fun (t : State) => { s with tray := { s.tray with cables := t.tray.cables } }
        (s.tray.good = true → s.flag RTR_PORT_CABLE_present k = !b → Completes (.portPresentChange k b) s fun t =>
          OnlyRegs [RegId.RTR_PORT_CABLE.offset k 0] (level t) t ∧ t.flag RTR_PORT_CABLE_present k = b
            ∧ t.tray.cables.contains k = b
            ∧ t.fld RTR_PORT_CABLE_present_changes k = min (2 ^ 16 - 1) (s.fld RTR_PORT_CABLE_present_changes k + 1))
        ∧ (s.tray.good = false → Completes (.portPresentChange k b) s fun t =>
          t = level t ∧ t.tray.cables.contains k = b)

/-- The lookup (R269, R270, R272, R295): a packet to the own node is delivered; another unicast packet leaves by the
entry's primary port, by its alternate where the primary is down, and waits where both are; a data packet takes VC2 to a
port that has credit for all of it, else VC3 to the first; a group's packet is replicated by its mask; a circuit packet
leaves by its circuit's port, and is refused where the circuit is not valid for its partition.
Packets on the wire (R255): the words of a packet whose fields fit the header's bits, and whose body fills its units,
spell that packet again.
Directed packets (R344 to R346): a request on an AGREED port goes on along its path with its arrival port recorded; at
its target it performs the register access where its origin is the fabric manager's node, and the response goes back by
the recorded ports; one from a far end that is not agreed is discarded and counted. -/
def Obligations.LookupAndDirectedPackets : Prop :=
  (∀ (port : Nat) (p : Packet) (s : State),
      let e := s.ucEntry p.dst
      let a := ucAlternate e
      let q := if ucPrimary e < 8 ∧ s.down (ucPrimary e) = true then a else ucPrimary e
      let bulk := (p.vc = 2 ∨ p.vc = 3) ∧ (p.type = tWRITE ∨ p.type = tGET_DATA ∨ p.type = tGRAPH)
      (s.flag RTR_NODE_ID_valid = false → s.routeAct port p = .hold)
      ∧ (s.flag RTR_NODE_ID_valid = true →
        (p.vc ≠ 4 → p.mcast = false → p.dst = s.node → s.routeAct port p = .deliver)
        ∧ (p.vc ≠ 4 → p.mcast = true → s.routeAct port p = .replicate (s.mcEntry (p.dst % 4096)))
        ∧ (p.vc ≠ 4 → p.mcast = false → s.isOwn p.dst = false → ucMcast e = true →
            s.routeAct port p = .replicate (s.mcEntry (ucGroup e)))
        ∧ (p.vc ≠ 4 → p.mcast = false → s.isOwn p.dst = false → ucMcast e = false → ucPrimary e ≠ 8 → a ≠ 8 →
            (s.down q = true → s.routeAct port p = .hold)
            ∧ (s.down q = false → ¬ bulk → s.routeAct port p = .send q p.vc)
            ∧ (s.down q = false → bulk →
                let first := s.takesWhole q p.length
                let second := s.takesWhole a p.length
                (first = true → second = false → s.routeAct port p = .send q 2)
                ∧ (first = false → second = true → s.routeAct port p = .send a 2)
                ∧ (first = false → second = false → s.routeAct port p = .send q 3)
                ∧ (first = true → second = true → s.freeCredit a 2 ≤ s.freeCredit q 2 → s.routeAct port p = .send q 2)
                ∧ (first = true → second = true → s.freeCredit q 2 < s.freeCredit a 2 → s.routeAct port p = .send a 2)))
        ∧ (p.vc = 4 →
            let c := s.circuit p.circuitId
            (circValid c = false ∨ circPartition c ≠ p.partition → s.routeAct port p = .refuse)
            ∧ (circValid c = true → circPartition c = p.partition → circOut c < 8 → s.down (circOut c) = false →
                s.claimsFor (circOut c) p.circuitId = true → s.routeAct port p = .send (circOut c) 4))))
  ∧ (∀ p : Packet, p.dst < 2 ^ 16 → p.src < 2 ^ 16 → p.length < 2 ^ 14 → p.vc < 8 → p.type < 32 → p.status < 4 →
      p.sequence < 2 ^ 16 → p.epoch < 2 ^ 16 → p.partition < 2 ^ 12 → p.domain < 2 ^ 10 → p.operation < 2 ^ 6 →
      p.body.length + 2 = 2 * p.length → packetOfWords (packetWords p) = some p)
  ∧ ((∀ (port : Nat) (p : Packet) (s : State), port < 8 → p.status ≠ 3 → s.fld RTR_PORT_ROLE_role port ≠ 7 →
        s.agreed port = false → Completes (.directedRequest port p) s fun t =>
          t = { s with delivered := t.delivered, regs := t.regs } ∧ RegsKept [RegId.RTR_HEFT_FAR1.offset port 0] s t
            ∧ t.fld RTR_HEFT_FAR1_blocked port = min (2 ^ 14 - 1) (s.fld RTR_HEFT_FAR1_blocked port + 1))
      ∧ (∀ (port : Nat) (p : Packet) (s : State), port < 8 → p.status ≠ 3 → s.fld RTR_PORT_ROLE_role port ≠ 7 →
        s.agreed port = true → s.fld RTR_LINK_STAT_pstate port ≠ 2 →
        let i := dqIdx p
        (i < dqHops p → dqPath p i ≠ port → s.agreed (dqPath p i) = true → s.fld RTR_LINK_STAT_pstate (dqPath p i) ≠ 2 →
          Completes (.directedRequest port p) s fun t =>
            t = { s with delivered := t.delivered, output := t.output, routed := s.routed + 1 }
              ∧ ∃ o : OutPacket, t.output = s.output ++ [o] ∧ o.port = dqPath p i ∧ o.packet.type = tHEFT
                  ∧ o.packet.dst = 0 ∧ dqIdx o.packet = i + 1 ∧ dqHops o.packet = dqHops p ∧ dqOrigin o.packet = dqOrigin p
                  ∧ dqBack o.packet i = port ∧ (∀ j, j ≠ i → j < 32 → dqBack o.packet j = dqBack p j)
                  ∧ ∀ j, j < 31 → dqPath o.packet j = dqPath p j)
        ∧ (i = dqHops p → dqOrigin p ≠ s.fld RTR_HEFT_CTRL_fm_node → Completes (.directedRequest port p) s fun t =>
            t = { s with delivered := t.delivered, regs := t.regs } ∧ RegsKept [RegId.RTR_HEFT_EVT.offset 0 0] s t
              ∧ t.flag RTR_HEFT_EVT_directed_refused = true)
        ∧ (∀ r a b, i = dqHops p → dqOrigin p = s.fld RTR_HEFT_CTRL_fm_node → dqWrite p = false →
            accessFits (gaReg (p.word 6)) 8 = true → s.decodeReg (gaReg (p.word 6)) = some (r, a, b) →
            s.blockHeld r a = false → r ∉ [.RTR_TBL_DATA, .BT_TBL_DATA, .FWU_DUMP_DATA] →
            Completes (.directedRequest port p) s fun t =>
              t = { s with delivered := t.delivered, output := t.output, routed := s.routed + 1 }
                ∧ ∃ o : OutPacket, t.output = s.output ++ [o] ∧ o.port = port ∧ o.packet.type = tHEFT
                    ∧ bitsOf (o.packet.word 2) 2 0 = 2 ∧ bitsOf (o.packet.word 2) 33 30 = 0
                    ∧ o.packet.word 7 = s.readReg r a b))
      ∧ ∀ (port : Nat) (p : Packet) (s : State), port < 8 → p.status ≠ 3 → s.agreed (dqBack p (dqIdx p)) = true →
        s.fld RTR_LINK_STAT_pstate (dqBack p (dqIdx p)) ≠ 2 → Completes (.directedResponse port p) s fun t =>
          t = { s with delivered := t.delivered, output := t.output, routed := s.routed + 1 }
            ∧ ∃ o : OutPacket, t.output = s.output ++ [o] ∧ o.port = dqBack p (dqIdx p) ∧ o.packet.type = tHEFT
                ∧ dqIdx o.packet = dqIdx p - 1 ∧ o.packet.word 7 = p.word 7)

/-- Packets at the router (R252, R254, R258, R259, R267, R270 to R273, R279, R298, R343): the next packet of an input port
and virtual channel whose head has come is discarded where it is too long, on a channel that its type does not allow, or from a
far end that heft refused; otherwise it is delivered, put at its output port, copied to each port of its mask that is up,
held, or refused, as the lookup says; a held one is discarded when its time is over, and so is one that has begun to leave on a
circuit that claims no slot any more; the limiter holds a packet that its destination's bucket does not allow and releases it
against the bucket, whose rate falls by an eighth in a window with a mark and rises by the step in one without. -/
def Obligations.PacketsRouted : Prop :=
  (∀ (port vc i : Nat) (s : State) (e : InPacket), port < 14 → vc < 8 → s.headOf port vc = some i →
      s.input[i]? = some e → e.headHere = true →
      let p := e.packet
      let x := s.mark port p.vc p
      let copies := fun mask => ((List.range 8).filter fun q => bitAt mask q && !s.down q).map fun q =>
        OutPacket.mk q p 0 port p.vc e.wire e.came s.routed true
      let drops := fun (t : State) => LeftInput s i e 9 t ∧ t.delivered = s.delivered
      (s.oversize p = true → Completes (.packetRoute port vc) s fun t => drops t
          ∧ t.flag RTR_PORT_EVT_oversize port = true
          ∧ t.fld RTR_PORT_STAT_oversize port = min (2 ^ 16 - 1) (s.fld RTR_PORT_STAT_oversize port + 1))
      ∧ (s.oversize p = false → vcAllowed p.type p.vc = false → Completes (.packetRoute port vc) s fun t => drops t
          ∧ t.fld RTR_PORT_STAT_malformed port = min 15 (s.fld RTR_PORT_STAT_malformed port + 1))
      ∧ (s.oversize p = false → vcAllowed p.type p.vc = true →
        p.type = tHEFT ∨ (p.type = tBELL ∧ s.flag RTR_NODE_ID_valid = true) → p.status ≠ 3 →
        Completes (.packetRoute port vc) s fun t =>
          LeftInput s i e 9 t ∧ t.delivered = s.delivered ++ [(portM, p)])
      ∧ (s.oversize p = false → vcAllowed p.type p.vc = true → p.type ≠ tHEFT →
        (p.type ≠ tBELL ∨ s.flag RTR_NODE_ID_valid = false) →
        (e.early = true → 3 ≤ s.fld RTR_HEFT_FAR1_state port → Completes (.packetRoute port vc) s fun t => drops t
          ∧ t.fld RTR_HEFT_FAR1_blocked port = min (2 ^ 14 - 1) (s.fld RTR_HEFT_FAR1_blocked port + 1))
        ∧ ((e.early = false ∨ s.fld RTR_HEFT_FAR1_state port < 3) →
          (∀ l, limiterApplies e = true → e.held = false → s.limiter.find? (fun l => l.dst == p.dst) = some l →
            s.bucketNow l < min 16384 (16 * p.length) → Completes (.packetRoute port vc) s fun t =>
              t = { s with input := lset s.input i { e with limited := true } })
          ∧ ((limiterApplies e = false ∨ e.held = true) →
            (s.routeAct port p = .hold → Completes (.packetRoute port vc) s fun t =>
              t = { s with input := lset s.input i { e with held := true, limited := false } })
            ∧ (s.routeAct port p = .deliver → s.paired = false → p.status ≠ 3 → s.refused28 port x = false →
              Completes (.packetRoute port vc) s fun t => LeftInput s i { e with packet := x } 8 t
                ∧ t.delivered = s.delivered
                    ++ if port < 8 ∧ e.came < p.length then [] else [(deliverPort x, x)])
            ∧ (∀ q v, s.routeAct port p = .send q v →
              (s.fld RTR_LINK_STAT_pstate q ≠ 2 → Completes (.packetRoute port vc) s fun t =>
                t = { s with input := ldel s.input i, output := t.output, routed := s.routed + 1, regs := t.regs }
                  ∧ RegsKept [RegId.BT_PORT_STAT0.offset q 0, RegId.BT_EVT.offset 0 0] s t
                  ∧ t.output = s.output ++ [⟨q, { p with vc := v }, 0, port, p.vc, e.wire, e.came, s.routed, false⟩])
              ∧ (s.fld RTR_LINK_STAT_pstate q = 2 → s.tstate q = tsActive → s.mapIsPermutation q = true →
                Completes (.packetRoute port vc) s fun t =>
                  t.mem = s.mem ∧ t.tiles = s.tiles ∧ t.tstate q = tsLock ∧ t.out = s.out ++ [.wake q]))
            ∧ (∀ mask, s.routeAct port p = .replicate mask → (∀ q, q < 8 → s.fld RTR_LINK_STAT_pstate q ≠ 2) →
              (copies mask = [] → bitAt mask 8 = false → Completes (.packetRoute port vc) s drops)
              ∧ (copies mask = [] → bitAt mask 8 = true → s.paired = false → p.status ≠ 3 → s.refused28 port x = false →
                Completes (.packetRoute port vc) s fun t => LeftInput s i { e with packet := x } 8 t
                  ∧ t.delivered = s.delivered
                      ++ if port < 8 ∧ e.came < p.length then [] else [(deliverPort x, x)])
              ∧ (copies mask ≠ [] → bitAt mask 8 = false → Completes (.packetRoute port vc) s fun t =>
                t.mem = s.mem ∧ t.tiles = s.tiles ∧ t.input = ldel s.input i ∧ t.delivered = s.delivered
                  ∧ t.output = s.output ++ copies mask)
              ∧ (copies mask ≠ [] → bitAt mask 8 = true → s.paired = false → p.status ≠ 3 → s.refused28 port x = false →
                Completes (.packetRoute port vc) s fun t =>
                t.mem = s.mem ∧ t.tiles = s.tiles ∧ t.input = ldel s.input i
                  ∧ (8 ≤ port ∨ p.length ≤ e.came → t.delivered = s.delivered ++ [(deliverPort x, x)]
                      ∧ t.output = s.output ++ copies mask)
                  ∧ (port < 8 → e.came < p.length → t.delivered = s.delivered
                      ∧ t.output = s.output ++ ⟨8, x, e.came, port, p.vc, e.wire, e.came, s.routed, true⟩ :: copies mask)))
            ∧ (s.routeAct port p = .refuse → Completes (.packetRoute port vc) s fun t => drops t
                ∧ t.flag BT_EVT_circuit_refused = true)))))
    ∧ (∀ (port vc : Nat) (s : State), port < 14 → vc < 8 →
      let waiting := lfind (fun e => e.port == port && e.packet.vc == vc && e.held) s.input
      let counted := fun (t : State) => t.delivered = s.delivered ∧ t.mem = s.mem ∧ t.tiles = s.tiles
        ∧ t.flag RTR_PORT_EVT_unroutable port = true
        ∧ t.fld RTR_PORT_STAT_unroutable port = min (2 ^ 16 - 1) (s.fld RTR_PORT_STAT_unroutable port + 1)
      (∀ i e, waiting = some i → s.input[i]? = some e → Completes (.unroutableTimeout port vc) s fun t =>
        LeftInput s i e 9 t ∧ counted t)
      ∧ ∀ o, waiting = none → s.output.find? (fun o => o.inPort == port && o.inVc == vc && s.stranded o) = some o →
        Completes (.unroutableTimeout port vc) s fun t =>
          counted t ∧ InputsAre s.input t ∧ ∀ q ∈ t.output, q.port = o.port → q.tag ≠ o.tag)
    ∧ (∀ (dst i q v : Nat) (s : State) (e : InPacket) (l : LimiterEntry),
      lfind (fun e => e.limited && e.packet.dst == dst) s.input = some i → s.input[i]? = some e →
      s.limiter.find? (fun l => l.dst == dst) = some l →
      s.routeAct e.port e.packet = .send q v → s.fld RTR_LINK_STAT_pstate q ≠ 2 →
      Completes (.limiterRelease dst) s fun t =>
        t.input = ldel s.input i ∧ t.mem = s.mem ∧ t.tiles = s.tiles
          ∧ t.output = s.output ++ [⟨q, { e.packet with vc := v }, 0, e.port, e.packet.vc, e.wire, e.came, s.routed, false⟩]
          ∧ t.limiter = s.limiter.map fun x => if x.number == l.number then
              { l with bucket := s.bucketNow l - 16 * e.packet.length, filledAt := s.now, lastUse := s.now } else x)
    ∧ ∀ (n : Nat) (s : State) (l : LimiterEntry), s.limiter.find? (fun l => l.number == n) = some l → l.rate ≤ 10000 →
      Completes (.raddleWindow n) s fun t =>
        t = { s with limiter := t.limiter } ∧ ∃ r, t.limiter = s.limiter.map (fun x => if x.number == n then
              { l with rate := r, marked := false, bucket := s.bucketNow l, filledAt := s.now } else x)
          ∧ (l.marked = true → r = max (max 1 (s.fld RTR_RAD_CTRL_r_min)) (l.rate * 7 / 8))
          ∧ (l.marked = false → r = min 10000 (l.rate + s.fld RTR_RAD_CTRL_step))

/-- The routing tables and the node ID (R275, R281, R283, R285, R335, R353): a table access reads or writes the entry at
the index, of the shadow bank only, and never what the router looks up; a flip is armed for the beat that flip_beat
names, or for the next one with an event where that has begun; writing the node ID makes it valid, clearing it makes it
invalid; clearing a highest occupancy sets it to the present one. -/
def Obligations.RoutingTablesAndNodeId : Prop :=
  ∀ s : State,
    (∀ b, b < 2 ^ 32 → Completes (.rtrTblArm b) s fun t =>
        t = { s with regs := t.regs, beat := t.beat } ∧ t.beat = { s.beat with rtrFlip := t.beat.rtrFlip }
          ∧ RegsKept [RegId.RTR_TBL_CTRL.offset 0 0, RegId.RTR_EVT.offset 0 0] s t
          ∧ t.flag RTR_TBL_CTRL_armed = true ∧ t.fld RTR_TBL_CTRL_flip_beat = b
          ∧ t.fld RTR_TBL_CTRL_active = s.fld RTR_TBL_CTRL_active
          ∧ ((t.beat.rtrFlip % 2 ^ 32 = b ∧ s.beatNo < t.beat.rtrFlip ∧ t.beat.rtrFlip < s.beatNo + 2 ^ 31
                ∧ t.fld RTR_EVT_flip_late = s.fld RTR_EVT_flip_late)
              ∨ ((∀ n, s.beatNo < n → n < s.beatNo + 2 ^ 31 → n % 2 ^ 32 ≠ b) ∧ t.beat.rtrFlip = s.beatNo + 1
                ∧ t.flag RTR_EVT_flip_late = true)))
    ∧ (Completes .rtrTblDisarm s fun t => OnlyRegs [RegId.RTR_TBL_CTRL.offset 0 0] s t
        ∧ t.flag RTR_TBL_CTRL_armed = false ∧ t.fld RTR_TBL_CTRL_active = s.fld RTR_TBL_CTRL_active)
    ∧ (∀ d : Word64, s.flag RTR_TBL_IDX_bank = false → Completes (.rtrTblDataAccess true d) s fun t =>
        t = { s with regs := t.regs, uc0 := t.uc0, uc1 := t.uc1, mc0 := t.mc0, mc1 := t.mc1 }
          ∧ RegsKept [RegId.RTR_TBL_IDX.offset 0 0, RegId.RTR_EVT.offset 0 0] s t
          ∧ (∀ n, t.ucEntry n = s.ucEntry n) ∧ (∀ n, t.mcEntry n = s.mcEntry n)
          ∧ (s.flag RTR_TBL_IDX_auto_inc = false →
              t.tblRead = d.toNat % (if s.flag RTR_TBL_IDX_table = true then 2 ^ 9 else 2 ^ 22)
                ∧ t.fld RTR_TBL_IDX_index = s.fld RTR_TBL_IDX_index)
          ∧ (s.flag RTR_TBL_IDX_auto_inc = true →
              t.fld RTR_TBL_IDX_index = (s.fld RTR_TBL_IDX_index + 1) % 65536))
    ∧ (∀ d : Word64, s.flag RTR_TBL_IDX_bank = true → Completes (.rtrTblDataAccess true d) s fun t =>
        OnlyRegs [RegId.RTR_TBL_IDX.offset 0 0, RegId.RTR_EVT.offset 0 0] s t ∧ t.flag RTR_EVT_active_write = true)
    ∧ (∀ d : Word64, Completes (.rtrTblDataAccess false d) s fun t =>
        t = { s with regs := t.regs, out := s.out ++ [.regRead (RegId.RTR_TBL_DATA.offset 0 0) (BitVec.ofNat 64 s.tblRead)] }
          ∧ RegsKept [RegId.RTR_TBL_IDX.offset 0 0] s t)
    ∧ (∀ id, id < 65536 → Completes (.nodeIdWrite id) s fun t => OnlyRegs [RegId.RTR_NODE_ID.offset 0 0] s t
        ∧ t.node = id ∧ t.flag RTR_NODE_ID_valid = true ∧ t.fld RTR_NODE_ID_source = 3
        ∧ t.fld RTR_NODE_ID_pos = s.fld RTR_NODE_ID_pos)
    ∧ (Completes .nodeIdClear s fun t => OnlyRegs [RegId.RTR_NODE_ID.offset 0 0] s t
        ∧ t.flag RTR_NODE_ID_valid = false ∧ t.fld RTR_NODE_ID_source = 0 ∧ t.node = s.node)
    ∧ ∀ port vc, port < 14 → vc < 8 → s.vcOcc port vc < 2 ^ 18 → Completes (.vcClrMax port vc) s fun t =>
        OnlyRegs [RegId.RTR_VC_DEPTH.offset port vc] s t ∧ t.fld RTR_VC_DEPTH_occ_max port vc = s.vcOcc port vc

/-- Heft discovery and port roles (R338 to R342, R347, R351): a hello is sent, and sent once more after the far end has
heard; a hello received gives the entry its far fields and its state; an accepted far end is evaluated again; a role
change sets the service role and starts discovery anew; self-heft gives the node the ID of its position where every torus
port sees the expected one. -/
def Obligations.HeftDiscovery : Prop :=
  ∀ (k : Nat) (s : State), k < 8 →
    let role := s.fld RTR_PORT_ROLE_role k
    (s.sendsHello k = true → (s.link k).helloDone = false → s.fld RTR_LINK_STAT_pstate k ≠ 2 →
      Completes (.helloRepeat k) s fun t =>
        t = { s with output := t.output, routed := s.routed + 1, links := t.links }
          ∧ (t.link k).helloDone = (s.link k).farHeard
          ∧ ∃ o : OutPacket, t.output = s.output ++ [o] ∧ o.port = k ∧ o.packet.type = tHEFT ∧ o.packet.vc = 6
              ∧ bitsOf (o.packet.word 2) 2 0 = 0 ∧ bitsOf (o.packet.word 2) 5 3 = k
              ∧ bitsOf (o.packet.word 2) 9 6 = role ∧ bitAt (o.packet.word 2) 17 = (s.link k).heard
              ∧ o.packet.word 3 = s.reg .MGT_SERIAL)
    ∧ (∀ p : Packet, bitsOf (p.word 2) 2 0 = 0 → p.status ≠ 3 →
      let changed := ∃ a, aget s.accepted k = some a ∧ a ≠ (p.word 3, bitsOf (p.word 2) 5 3)
      let manual := s.flag RTR_HEFT_CTRL_auto_accept = false
      Completes (.hello k p) s fun t =>
        t.mem = s.mem ∧ t.tiles = s.tiles
          ∧ (t.fld RTR_HEFT_FAR1_state k = 2 →
              t = { s with delivered := t.delivered, links := t.links, regs := t.regs, accepted := t.accepted }
                ∧ RegsKept [RegId.RTR_HEFT_FAR0.offset k 0, RegId.RTR_HEFT_FAR1.offset k 0] s t)
          ∧ (t.link k).heard = true ∧ t.fld RTR_HEFT_FAR0_serial k = p.word 3
          ∧ t.fld RTR_HEFT_FAR1_far_port k = bitsOf (p.word 2) 5 3
          ∧ t.fld RTR_HEFT_FAR1_far_role k = bitsOf (p.word 2) 9 6
          ∧ t.fld RTR_HEFT_FAR1_far_pos k = bitsOf (p.word 2) 15 10
          ∧ t.fld RTR_HEFT_FAR1_far_id k = bitsOf (p.word 2) 33 18
          ∧ (role = 0 → t.fld RTR_HEFT_FAR1_state k = 5)
          ∧ (role ≠ 0 → changed → manual → t.fld RTR_HEFT_FAR1_state k = 4)
          ∧ (role ≠ 0 → ¬ (changed ∧ manual) → bitsOf (p.word 2) 9 6 = farRole role →
              t.fld RTR_HEFT_FAR1_state k = 2 ∧ aget t.accepted k = some (p.word 3, bitsOf (p.word 2) 5 3))
          ∧ (role ≠ 0 → ¬ (changed ∧ manual) → bitsOf (p.word 2) 9 6 ≠ farRole role →
              t.fld RTR_HEFT_FAR1_state k = 3))
    ∧ (s.fld RTR_HEFT_FAR1_state k = 4 → role ≠ 0 → Completes (.heftAccept k) s fun t =>
        t.mem = s.mem ∧ t.tiles = s.tiles
          ∧ (t.fld RTR_HEFT_FAR1_state k = 2 → t = { s with regs := t.regs, accepted := t.accepted }
              ∧ RegsKept [RegId.RTR_HEFT_FAR1.offset k 0] s t
              ∧ aget t.accepted k = some (s.fld RTR_HEFT_FAR0_serial k, s.fld RTR_HEFT_FAR1_far_port k))
          ∧ t.fld RTR_HEFT_FAR1_state k = (if s.fld RTR_HEFT_FAR1_far_role k = farRole role then 2 else 3))
    ∧ (∀ n, n < 16 → Completes (.portRoleApply k n) s fun t =>
        t.mem = s.mem ∧ t.tiles = s.tiles ∧ t.fld RTR_PORT_ROLE_role k = (if n < 9 then n else role)
          ∧ (n < 9 → t.flag RTR_PORT_CFG_service k = decide (n = 7)
              ∧ t.fld RTR_HEFT_FAR1_state k = (if n = 0 then 5 else 1) ∧ (t.link k).helloDone = false))
    ∧ (s.flag RTR_HEFT_CTRL_self = true → s.selfWaitOver = true →
        let good := ∀ j, j < 8 → 1 ≤ s.fld RTR_PORT_ROLE_role j → s.fld RTR_PORT_ROLE_role j ≤ 6 →
          s.fld RTR_HEFT_FAR1_state j = 2 →
          s.fld RTR_HEFT_FAR1_far_pos j = expectedPos (s.fld RTR_PORT_ROLE_role j) (s.fld RTR_NODE_ID_pos)
        let pos := s.fld RTR_NODE_ID_pos
        (¬ good → Completes .selfHeft s fun t => OnlyRegs [RegId.RTR_HEFT_EVT.offset 0 0] s t
            ∧ t.flag RTR_HEFT_EVT_self_fail = true)
        ∧ (good → s.fld RTR_NODE_ID_source = 3 → Completes .selfHeft s fun t =>
            OnlyRegs [RegId.RTR_HEFT_EVT.offset 0 0] s t ∧ t.flag RTR_HEFT_EVT_self_done = true)
        ∧ (good → s.fld RTR_NODE_ID_source ≠ 3 → Completes .selfHeft s fun t =>
            OnlyRegs [RegId.RTR_HEFT_EVT.offset 0 0, RegId.RTR_NODE_ID.offset 0 0] s t
              ∧ t.flag RTR_HEFT_EVT_self_done = true ∧ t.flag RTR_NODE_ID_valid = true ∧ t.fld RTR_NODE_ID_source = 2
              ∧ t.node = (4 * s.fld RTR_HEFT_CTRL_bx + pos / 16) * 2 ^ 10
                  + (4 * s.fld RTR_HEFT_CTRL_by + pos / 4 % 4) * 2 ^ 5 + (4 * s.fld RTR_HEFT_CTRL_bz + pos % 4)))

/-- Beats (R275, R284 to R286, R299, R374): the next beat starts at its time on the grid and never earlier than T; a
pending period, an armed flip of the routing tables, one of the slot tables and an armed clone take effect at the start
of the beat that they name, and not before.
Bells (R287 to R291, R293): the node sends one bell with its beat, grid, period and next period on each child port whose
far end is agreed; a bell from the parent port makes a node without a grid adopt the bell's, and makes another one slew;
one that is far off, or whose grid differs from the bell's, steps, and no beat number or slot of a beat repeats; four good ones in a row make it synchronised and a bad one,
or none for 50 µs, ends that; a stray bell only counts. A node without an ID sends and takes none (log entry 110). -/
def Obligations.BeatsAndBells : Prop :=
  (∀ s : State,
      let n := s.beatNo + 1
      Completes .beatStart s fun t =>
        t.mem = s.mem ∧ t.tiles = s.tiles ∧ t.beatNo = n ∧ t.beat.t = max s.beat.t (s.beatStart n)
          ∧ (s.fld BT_PERIOD_next_ns ≠ 0 → s.beat.periodBeat ≤ n →
              t.fld BT_PERIOD_period_ns = max 1000 (min 64000 (s.fld BT_PERIOD_next_ns))
                ∧ t.fld BT_PERIOD_next_ns = 0 ∧ t.beat.nb = n
                ∧ t.beat.tb = s.beatStart n)
          ∧ (s.fld BT_PERIOD_next_ns = 0 ∨ n < s.beat.periodBeat →
              t.fld BT_PERIOD_period_ns = s.fld BT_PERIOD_period_ns ∧ t.beat.nb = s.beat.nb ∧ t.beat.tb = s.beat.tb)
          ∧ (s.flag RTR_TBL_CTRL_armed = true → s.beat.rtrFlip ≤ n →
              t.flag RTR_TBL_CTRL_active = !s.flag RTR_TBL_CTRL_active ∧ t.flag RTR_TBL_CTRL_armed = false
                ∧ (s.synced = false → t.flag RTR_EVT_flip_unsync = true))
          ∧ (s.flag RTR_TBL_CTRL_armed = false ∨ n < s.beat.rtrFlip →
              t.flag RTR_TBL_CTRL_active = s.flag RTR_TBL_CTRL_active ∧ t.flag RTR_TBL_CTRL_armed = s.flag RTR_TBL_CTRL_armed)
          ∧ (s.flag BT_FLIP_armed = true → s.beat.slotFlip ≤ n →
              t.flag BT_FLIP_active = !s.flag BT_FLIP_active ∧ t.flag BT_FLIP_armed = false)
          ∧ (s.flag BT_FLIP_armed = false ∨ n < s.beat.slotFlip →
              t.flag BT_FLIP_active = s.flag BT_FLIP_active ∧ t.flag BT_FLIP_armed = s.flag BT_FLIP_armed)
          ∧ (s.pair.cloneArmed = true → s.beat.cloneBeat ≤ n →
              t.flag RTR_PAIR_CLONE_busy = true ∧ ∀ q, q < 8 → t.flag GI_PAD_CFG_run q = false)
          ∧ (s.pair.cloneArmed = false ∨ n < s.beat.cloneBeat → t.pads = s.pads ∧ t.pair = s.pair
              ∧ ∀ q, q < 8 → t.reg .GI_PAD_CFG q = s.reg .GI_PAD_CFG q))
  ∧ ((∀ s : State, s.flag RTR_NODE_ID_valid = false → exec .bellSend s = .next s ∧ ∀ port p, exec (.bell port p) s = .next s)
      ∧ (∀ s : State, s.flag RTR_NODE_ID_valid = true → (∀ k, k < 8 → s.fld RTR_LINK_STAT_pstate k ≠ 2) →
        s.beatNo < 2 ^ 64 → s.beatStart s.beatNo < 2 ^ 64 →
        Completes .bellSend s fun t =>
          t = { s with output := t.output, routed := t.routed, links := t.links } ∧ ∃ l : List OutPacket,
            t.output = s.output ++ l
              ∧ l.map (·.port) = (List.range 8).filter (fun k => bitAt (s.fld BT_CTRL_child_mask) k && s.linkUp k
                  && s.fld RTR_HEFT_FAR1_state k == 2)
              ∧ ∀ o ∈ l, o.packet.type = tBELL ∧ o.packet.vc = 6 ∧ o.packet.word 2 = s.beatNo
                ∧ o.packet.word 3 = s.beatStart s.beatNo ∧ bitsOf (o.packet.word 5) 15 0 = s.fld BT_PERIOD_period_ns
                ∧ bitAt (o.packet.word 5) 40 = s.synced ∧ bitAt (o.packet.word 5) 41 = s.flag BT_CTRL_master
                ∧ bitsOf (o.packet.word 6) 15 0 = s.fld BT_PERIOD_next_ns)
      ∧ (∀ (port : Nat) (p : Packet) (s : State), s.flag RTR_NODE_ID_valid = true → p.status ≠ 3 →
        let hops := bitsOf (p.word 5) 23 16
        let stray := 8 ≤ port ∨ s.flag BT_CTRL_master = true ∨ port ≠ s.fld BT_CTRL_parent ∨ 64 ≤ hops
          ∨ s.fld RTR_HEFT_FAR1_state port ≠ 2
        let delay : Int := s.fld RTR_LINK_STAT_rtt port * 100 / 2 + signedOf 16 (s.fld BT_TRIM_trim_ps port)
        let e : Int := p.word 4 * 100 + delay - s.beat.t * 100
        let jump : Int := max 1 (s.fld BT_CTRL_jump_ns) * 1000
        let differs := s.gridDiffers (p.word 2) (p.word 3) (bitsOf (p.word 5) 15 0)
        (stray → Completes (.bell port p) s fun t =>
          t = { s with delivered := t.delivered, regs := t.regs } ∧ RegsKept [RegId.BT_BELL_STAT.offset 0 0] s t
            ∧ t.fld BT_BELL_STAT_stray = min (2 ^ 16 - 1) (s.fld BT_BELL_STAT_stray + 1))
        ∧ (¬ stray → Completes (.bell port p) s fun t =>
          t.mem = s.mem ∧ t.tiles = s.tiles ∧ t.fld BT_STAT_hops = hops + 1 ∧ t.fld BT_STAT_master = bitsOf (p.word 5) 39 24
            ∧ t.fld BT_PERIOD_next_ns = bitsOf (p.word 6) 15 0 ∧ t.fld BT_PERIOD_change_beat = bitsOf (p.word 6) 47 16
            ∧ (s.flag BT_STAT_adopted = false ∨ jump < e ∨ e < -jump ∨ differs = true → t.flag BT_STAT_adopted = true
                ∧ t.beat.t = s.beat.t + (e.tdiv 100).toNat ∧ t.beat.still = (-(e.tdiv 100)).toNat ∧ t.beat.nb = p.word 2 ∧ t.beat.tb = p.word 3
                ∧ t.fld BT_PERIOD_period_ns = bitsOf (p.word 5) 15 0 ∧ s.beatNo ≤ t.beatNo
                ∧ (t.beatNo = s.beatNo → s.slotNow ≤ t.slotNow))
            ∧ (s.flag BT_STAT_adopted = true → -jump ≤ e → e ≤ jump → differs = false →
                t.beat.t = s.beat.t ∧ t.beat.nb = s.beat.nb ∧ t.beat.tb = s.beat.tb ∧ t.beatNo = s.beatNo
                  ∧ t.beat.rate = s.slewRate e
                  ∧ (-10000 ≤ e → e ≤ 10000 → bitAt (p.word 5) 40 = true → t.beat.good = min 4 (s.beat.good + 1)
                      ∧ (3 ≤ s.beat.good → t.flag BT_STAT_sync = true)))
            ∧ ((e < -10000 ∨ 10000 < e ∨ bitAt (p.word 5) 40 = false) → t.beat.good = 0 ∧ t.flag BT_STAT_sync = false
                ∧ (s.flag BT_STAT_sync = true → t.flag BT_EVT_sync_lost = true))))
      ∧ ∀ s : State, s.flag BT_CTRL_master = false → Completes .syncTimeout s fun t =>
          t.mem = s.mem ∧ t.tiles = s.tiles ∧ t.beat = s.beat ∧ t.flag BT_STAT_sync = false
            ∧ (s.flag BT_STAT_sync = true → t.flag BT_EVT_sync_lost = true))

/-- The beat timer's registers and tables (R285, R286, R294 to R296, R299, R304): only the master takes a new period,
which reads as it was written and acts at its beat, or at the next one with an event where that has begun; a flip is armed for its beat, or for the next one with an event where that has begun, and ignored
while a copy runs; a copy makes every shadow bank equal to the active one; a table access reads or writes the entry at
the index, of the shadow bank only. -/
def Obligations.BeatTables : Prop :=
  ∀ s : State,
    (∀ next change, next < 65536 → change < 2 ^ 32 →
      (s.flag BT_CTRL_master = true → Completes (.btPeriodWrite next change) s fun t =>
        t = { s with regs := t.regs, beat := t.beat } ∧ RegsKept [RegId.BT_PERIOD.offset 0 0, RegId.BT_EVT.offset 0 0] s t
          ∧ t.beat = { s.beat with periodBeat := t.beat.periodBeat }
          ∧ (next ≠ 0 → (t.beat.periodBeat % 2 ^ 32 = change ∧ s.beatNo < t.beat.periodBeat
                ∧ t.beat.periodBeat < s.beatNo + 2 ^ 31)
              ∨ (t.beat.periodBeat = s.beatNo + 1 ∧ t.flag BT_EVT_flip_late = true))
          ∧ t.fld BT_PERIOD_period_ns = s.fld BT_PERIOD_period_ns ∧ t.fld BT_PERIOD_change_beat = change
          ∧ t.fld BT_PERIOD_next_ns = next)
      ∧ (s.flag BT_CTRL_master = false → exec (.btPeriodWrite next change) s = .next s))
    ∧ (∀ b, b < 2 ^ 32 →
      (s.flag BT_FLIP_copy_busy = true → Completes (.btFlipArm b) s fun t =>
        OnlyRegs [RegId.BT_FLIP.offset 0 0] s t ∧ t.fld BT_FLIP_flip_beat = b
          ∧ t.flag BT_FLIP_armed = s.flag BT_FLIP_armed)
      ∧ (s.flag BT_FLIP_copy_busy = false → Completes (.btFlipArm b) s fun t =>
        t = { s with regs := t.regs, beat := t.beat } ∧ t.beat = { s.beat with slotFlip := t.beat.slotFlip }
          ∧ RegsKept [RegId.BT_FLIP.offset 0 0, RegId.BT_EVT.offset 0 0] s t
          ∧ t.flag BT_FLIP_armed = true ∧ t.fld BT_FLIP_flip_beat = b ∧ t.flag BT_FLIP_active = s.flag BT_FLIP_active
          ∧ ((t.beat.slotFlip % 2 ^ 32 = b ∧ s.beatNo < t.beat.slotFlip ∧ t.beat.slotFlip < s.beatNo + 2 ^ 31)
              ∨ (t.beat.slotFlip = s.beatNo + 1 ∧ t.flag BT_EVT_flip_late = true))))
    ∧ (Completes .btFlipDisarm s fun t => OnlyRegs [RegId.BT_FLIP.offset 0 0] s t ∧ t.flag BT_FLIP_armed = false
        ∧ t.flag BT_FLIP_active = s.flag BT_FLIP_active)
    ∧ (Completes .btFlipCopy s fun t => OnlyRegs [RegId.BT_FLIP.offset 0 0] s t ∧ t.flag BT_FLIP_copy_busy = true
        ∧ t.flag BT_FLIP_active = s.flag BT_FLIP_active)
    ∧ (s.flag BT_FLIP_copy_busy = true → Completes .copyDone s fun t =>
        RegsKept [RegId.BT_FLIP.offset 0 0] s t ∧ t.flag BT_FLIP_copy_busy = false
          ∧ t = { s with
              regs := t.regs, slot0 := t.slot0, slot1 := t.slot1, circ0 := t.circ0, circ1 := t.circ1
              steer0 := t.steer0, steer1 := t.steer1 }
          ∧ t.slot0 = t.slot1 ∧ t.circ0 = t.circ1 ∧ t.steer0 = t.steer1
          ∧ (∀ k i, t.slotEntry k i = s.slotEntry k i) ∧ (∀ c, t.circuit c = s.circuit c)
          ∧ ∀ i, t.steerEntry i = s.steerEntry i)
    ∧ (∀ d : Word64,
      (s.flag BT_TBL_IDX_bank = false → Completes (.btTblDataAccess true d) s fun t =>
        RegsKept [RegId.BT_TBL_IDX.offset 0 0, RegId.BT_EVT.offset 0 0] s t ∧ t.mem = s.mem ∧ t.tiles = s.tiles
          ∧ (∀ k i, t.slotEntry k i = s.slotEntry k i) ∧ (∀ c, t.circuit c = s.circuit c)
          ∧ (∀ i, t.steerEntry i = s.steerEntry i)
          ∧ (s.flag BT_TBL_IDX_auto_inc = false → s.btSel ≠ none →
              t.btRead = d.toNat % (if s.fld BT_TBL_IDX_table = 0 then 2 ^ 25
                else if s.fld BT_TBL_IDX_table = 1 then 2 ^ 17 else 2 ^ 51))
          ∧ (s.flag BT_TBL_IDX_auto_inc = true → t.fld BT_TBL_IDX_index = (s.fld BT_TBL_IDX_index + 1) % 4096))
      ∧ (s.flag BT_TBL_IDX_bank = true → Completes (.btTblDataAccess true d) s fun t =>
        OnlyRegs [RegId.BT_TBL_IDX.offset 0 0, RegId.BT_EVT.offset 0 0] s t ∧ t.flag BT_EVT_active_write = true)
      ∧ Completes (.btTblDataAccess false d) s fun t =>
        t = { s with regs := t.regs, out := s.out ++ [.regRead (RegId.BT_TBL_DATA.offset 0 0) (BitVec.ofNat 64 s.btRead)] }
          ∧ RegsKept [RegId.BT_TBL_IDX.offset 0 0] s t)

/-- What a paired node's unit sends (R356, R360 to R363, R366, R370, R373): a node packet, and every packet of an unpaired
node, goes to the router at once; a stale node sends nothing; the standby keeps each rank packet in its hold until the
note that names it, and drops it where that has come; tiles stall behind a standby whose ledger or hold is full and behind a
fenced node; the active sends a note first and lets the packet wait, or on a
solo node sends it at once with its epoch.
Clones (R374): an armed clone waits for its beat; a source that is quiesced writes its caches back and then sends its bytes,
flag-hold entries, tiles and queues to its partner's ID, and until then the copy does not end; its end gives the target the
source's bytes wherever a valid paddock's windows and scratchpads lie, leaves every other byte alone, and clears stale. -/
def Obligations.PairSendsAndClones : Prop :=
  (∀ (port key : Nat) (p : Packet) (s : State),
      let t := s.sendKeyed port key p false false
      let noted := fun i => lfind (fun n : Nat × Nat => n.1 == key) s.pair.notes = i
      (s.paired = false ∨ isRankType p.type = false →
        t = { s with input := s.input ++ [s.entry port { p.sized with src := s.node, epoch := 0 }] })
      ∧ (s.paired = true → isRankType p.type = true → s.isOwn p.dst = false →
        (s.flag RTR_PAIR_LEASE_stale = true → t = s)
        ∧ (s.flag RTR_PAIR_LEASE_stale = false → s.fld RTR_PAIR_CTRL_role = 2 →
          (noted none → s.ledgerFull p.sized.length = true → t.input = s.input ∧ t.flag RTR_PAIR_EVT_ledger_full = true
              ∧ t.pair = { s.pair with stalled := s.pair.stalled ++ [⟨key, port, p.sized, s.now⟩] })
          ∧ (isJoined p false = false →
            (∀ i, noted (some i) → t = { s with pair := { s.pair with notes := ldel s.pair.notes i } })
            ∧ (noted none → s.ledgerFull p.sized.length = false → t.input = s.input ∧ t.tiles = s.tiles ∧ MemSent s t
                ∧ t.pair = { s.pair with hold := s.pair.hold ++ [⟨key, port, p.sized, s.now⟩] }))
          ∧ (isJoined p false = true → noted none → s.ledgerFull p.sized.length = false →
            MemSent s t ∧ t.tiles = s.tiles
              ∧ t.pair = { s.pair with
                  joinSeq := (s.pair.joinSeq + 1) % 65536, hold := s.pair.hold ++ [⟨key, port, p.sized, s.now⟩] }
              ∧ Offered s t portM fun q => q.type = tEPOCH ∧ epKind q = 5 ∧ q.dst = s.fld RTR_PAIR_CTRL_partner
                ∧ (key < 2 ^ 64 → epKeys q = [key])))
        ∧ (∀ i, s.flag RTR_PAIR_LEASE_stale = false → s.fld RTR_PAIR_CTRL_role = 1 → noted (some i) →
            t = { s with pair := { s.pair with notes := ldel s.pair.notes i } })
        ∧ (s.flag RTR_PAIR_LEASE_stale = false → s.fld RTR_PAIR_CTRL_role = 1 → noted none →
          s.flag RTR_PAIR_LEASE_fenced = false →
          (s.flag RTR_PAIR_LEASE_solo = true →
            t = { s with input := s.input
                ++ [s.entry port { p.sized with src := s.rank, epoch := s.fld RTR_PAIR_LEASE_epoch }] })
          ∧ (s.flag RTR_PAIR_LEASE_solo = false → isJoined p false = false →
            t.pair = { s.pair with
                noteSeq := (s.pair.noteSeq + 1) % 65536
                out := s.pair.out ++ [⟨key, port, p.sized, some s.pair.noteSeq, false, false, s.now⟩] }
              ∧ t.regs = s.regs ∧ Offered s t portM fun q => q.type = tEPOCH
                ∧ epKind q = 4 ∧ q.dst = s.fld RTR_PAIR_CTRL_partner
                ∧ (key < 2 ^ 64 → s.pair.noteSeq < 65536 → epKeys q = [key] ∧ epArg q = s.pair.noteSeq)))))
  ∧ (∀ (s : State) (tile chan k : Nat), s.pairStalls = true →
      ∀ c, c = .tokenQueueSend tile ∨ c = .graphSendRetry tile chan ∨ c = .dmaRetry tile chan ∨ c = .tokenResend tile k
        ∨ c = .dmaPacketSend tile chan → exec c s = .next s)
  ∧ (∀ s : State,
      (∀ b, b < 2 ^ 32 → Completes (.pairCloneArm b) s fun t =>
          t = { s with
                regs := t.regs, beat := { s.beat with cloneBeat := t.beat.cloneBeat }
                pair := { s.pair with cloneArmed := true } }
            ∧ RegsKept [RegId.RTR_PAIR_CLONE.offset 0 0] s t ∧ t.fld RTR_PAIR_CLONE_start_beat = b
            ∧ ((t.beat.cloneBeat % 2 ^ 32 = b ∧ s.beatNo < t.beat.cloneBeat) ∨ t.beat.cloneBeat = s.beatNo + 1))
      ∧ ∀ i : CloneImage, s.flag RTR_PAIR_CLONE_busy = true →
        (s.pairRole ≠ 1 → memWf s.mem = true → memWf i.mem = true →
          (∀ q ∈ i.queues, q.1 < 8) → (∀ d ∈ i.domains, d.1 < 1024) → (∀ f ∈ i.folds, f.1 < 512) →
          Completes (.cloneDone i) s fun t =>
            (∀ a, memByte t.mem a = if s.cloned a = true then memByte i.mem a else memByte s.mem a)
              ∧ t.flagHold = i.flagHold ∧ t.flag RTR_PAIR_CLONE_busy = false ∧ t.flag RTR_PAIR_LEASE_stale = false
              ∧ t.flag RTR_PAIR_EVT_clone_done = true ∧ t.node = s.node ∧ t.input = s.input)
        ∧ (s.pairRole = 1 → s.quiesced = false → exec (.cloneDone i) s = .next s)
        ∧ (s.pairRole = 1 → s.quiesced = true → Completes (.cloneDone i) s fun t =>
            t.flag RTR_PAIR_CLONE_busy = false ∧ t.flag RTR_PAIR_EVT_clone_done = true ∧ t.input = s.input
              ∧ t.flagHold = s.flagHold ∧ ∃ m : CloneImage, t.out = s.out ++ [.clone (s.fld RTR_PAIR_CTRL_partner) m]
                ∧ (∀ a, s.cloned a = true → memByte m.mem a = memByte t.mem a) ∧ m.flagHold = s.flagHold
                ∧ (∀ n, (∃ c ∈ m.tiles, c.tile = n) ↔ n < 144 ∧ (s.padOfTile n).isSome = true)
                ∧ ∀ q, q < 8 → s.flag GI_PAD_CFG_valid q = true → (q, (s.pad q).queue) ∈ m.queues))

/-- Notes, joins and acknowledgements between the nodes of a pair (R361 to R364, R369): the standby removes the held packet
that a note names or records the note, once, and acknowledges; an acknowledgement lets the covered packets leave, unless
the node is fenced or stale; a JOIN is kept for its packet or ends that packet's wait; a note not acknowledged is sent again; a
message from a node that is not the partner only counts. -/
def Obligations.NotesAndAcks : Prop :=
  ∀ (p : Packet) (s : State), p.status ≠ 3 →
    (s.fromPartner p = false → ∀ c, c = .note p ∨ c = .join p ∨ c = .ack p ∨ c = .lost p → Completes c s fun t =>
      t = { s with delivered := t.delivered, regs := t.regs } ∧ RegsKept [RegId.RTR_PAIR_CNT.offset 0 0] s t
        ∧ t.fld RTR_PAIR_CNT_bad_src = min (2 ^ 16 - 1) (s.fld RTR_PAIR_CNT_bad_src + 1))
    ∧ (s.fromPartner p = true →
      (∀ key, epKind p = 4 → epKeys p = [key] → s.pair.stalled = [] →
        let seq := epArg p % 65536
        let known := seqLe seq s.pair.ackSeq = true ∨ seq ∈ s.pair.got
        let held := lfind (fun h : PairHeld => h.key == key) s.pair.hold
        let acks := fun (t : State) => Offered s t portM fun q => q.type = tEPOCH
          ∧ epKind q = 6 ∧ q.dst = p.src ∧ epArg q % 65536 = t.pair.ackSeq % 65536
        (known → Completes (.note p) s fun t =>
          t = { s with delivered := t.delivered, input := t.input } ∧ acks t)
        ∧ (¬ known → ∀ i, held = some i → Completes (.note p) s fun t =>
          t = { s with delivered := t.delivered, input := t.input, pair := t.pair } ∧ acks t
            ∧ t.pair.hold = ldel s.pair.hold i ∧ t.pair.notes = s.pair.notes
            ∧ (seq = (s.pair.ackSeq + 1) % 65536 → s.pair.got = [] → t.pair.ackSeq = seq ∧ t.pair.got = []))
        ∧ (¬ known → held = none → s.noteFull = true → Completes (.note p) s fun t =>
          t = { s with delivered := t.delivered, input := t.input, regs := t.regs } ∧ acks t
            ∧ t.flag RTR_PAIR_EVT_ledger_full = true ∧ RegsKept [RegId.RTR_PAIR_EVT.offset 0 0] s t)
        ∧ (¬ known → held = none → s.noteFull = false → Completes (.note p) s fun t =>
          t = { s with delivered := t.delivered, input := t.input, pair := t.pair } ∧ acks t
            ∧ t.pair.hold = s.pair.hold ∧ t.pair.notes = s.pair.notes ++ [(key, s.now)]))
      ∧ (epKind p = 6 → s.flag RTR_PAIR_LEASE_solo = false →
        let a := epArg p % 65536
        let covered := fun (o : PairOut) => (o.acked || (match o.seq with
          | some q => seqLe q a
          | none => false)) && !o.needJoin
        (s.flag RTR_PAIR_LEASE_fenced = false → s.flag RTR_PAIR_LEASE_stale = false → Completes (.ack p) s fun t =>
          t = { s with delivered := t.delivered, input := t.input, pair := t.pair }
            ∧ (∃ l : List InPacket, t.input = s.input ++ l ∧ l.map (fun e => { e with came := 0 })
                = (s.pair.out.filter covered).map fun o => { s.entry o.port (s.stamp o.packet) with came := 0 })
            ∧ t.pair.out.map (·.key) = (s.pair.out.filter fun o => !covered o).map (·.key))
        ∧ (s.flag RTR_PAIR_LEASE_fenced = true → Completes (.ack p) s fun t =>
          t = { s with delivered := t.delivered, pair := t.pair } ∧ t.pair.out.length = s.pair.out.length))
      ∧ (∀ key, epKind p = 5 → epKeys p = [key] →
        lfind (fun o : PairOut => o.key == key && o.needJoin) s.pair.out = none → s.flag RTR_PAIR_LEASE_fenced = true →
        Completes (.join p) s fun t =>
          t = { s with delivered := t.delivered, pair := { s.pair with joins := s.pair.joins ++ [key] } })
      ∧ (∀ key o, epKind p = 5 → epKeys p = [key] → s.pair.out = [o] → o.key = key → o.needJoin = true →
        o.acked = true → s.flag RTR_PAIR_LEASE_fenced = false → s.flag RTR_PAIR_LEASE_stale = false →
        Completes (.join p) s fun t =>
          t = { s with delivered := t.delivered, input := t.input, pair := { s.pair with out := [] } }
            ∧ t.input = s.input ++ [s.entry o.port (s.stamp o.packet)])
      ∧ (epKind p = 8 → Completes (.lost p) s fun t =>
          t.mem = s.mem ∧ t.tiles = s.tiles ∧ t.flag RTR_PAIR_EVT_lost = true
            ∧ (s.pairRole = 1 → t.flag RTR_PAIR_LEASE_solo = true)))
    ∧ ∀ (seq : Nat) (o : PairOut), s.pair.out.find? (fun o => o.seq == some seq && !o.acked) = some o →
        Completes (.noteResend seq) s fun t => t = { s with input := t.input }
          ∧ Offered s t portM fun q => q.type = tEPOCH ∧ epKind q = 4
            ∧ q.dst = s.fld RTR_PAIR_CTRL_partner
            ∧ (o.key < 2 ^ 64 → seq < 65536 → epKeys q = [o.key] ∧ epArg q = seq)

/-- Leases and fail-over (R363 to R366, R369, R370, R374): a grant with a newer epoch gives the holder its lease, ends its
fence, and makes a standby the active that sends its hold in order; a bump advances the rank's epoch and deposes another
holder; a lease that runs out fences its holder; the watch makes the standby suspect and the active go solo. -/
def Obligations.LeasesAndFailOver : Prop :=
  ∀ (p : Packet) (s : State), p.status ≠ 3 →
    let toArbiter := fun (t : State) (kind : Nat) => Offered s t portM fun q =>
      q.type = tEPOCH ∧ q.dst = s.fld RTR_PAIR_CTRL_arbiter ∧ epKind q = kind ∧ epRank q = s.rank
    (s.fromArbiter p = false → ∀ c, c = .grant p ∨ c = .bump p → Completes c s fun t =>
      t = { s with delivered := t.delivered, regs := t.regs } ∧ RegsKept [RegId.RTR_PAIR_CNT.offset 0 0] s t
        ∧ t.fld RTR_PAIR_CNT_bad_src = min (2 ^ 16 - 1) (s.fld RTR_PAIR_CNT_bad_src + 1))
    ∧ (s.fromArbiter p = true → s.paired = true → epKind p = 1 → s.flag RTR_PAIR_LEASE_stale = false →
      epochNewer (epEpoch p) (s.fld RTR_PAIR_LEASE_epoch) = true →
      let leased := fun (t : State) => t.fld RTR_PAIR_LEASE_epoch = epEpoch p ∧ t.flag RTR_PAIR_LEASE_valid = true
        ∧ t.flag RTR_PAIR_LEASE_fenced = false ∧ t.mem = s.mem ∧ t.tiles = s.tiles
        ∧ (s.beat.t + 10 ^ 10 < 2 ^ 64 → t.fld RTR_PAIR_TEXP_t_exp = min (epArg p) (s.beat.t + 10 ^ 10))
      (s.fld RTR_PAIR_CTRL_role = 2 → Completes (.grant p) s fun t =>
        leased t ∧ t.fld RTR_PAIR_CTRL_role = 1 ∧ t.flag RTR_PAIR_LEASE_solo = true
          ∧ t.flag RTR_PAIR_EVT_takeover = true ∧ t.pair.hold = [] ∧ t.pair.stalled = []
          ∧ ((∀ h ∈ s.pair.hold ++ s.pair.stalled, ∀ n ∈ s.pair.notes, n.1 ≠ h.key) →
              ∃ l : List InPacket, t.input = s.input ++ l
                ∧ l.map (fun e => (e.port, e.packet.type, e.packet.dst, e.packet.sequence))
                  = (s.pair.hold ++ s.pair.stalled).map fun h => (h.port, h.packet.type, h.packet.dst, h.packet.sequence))
          ∧ ∀ h n, s.pair.hold = [h] → s.pair.stalled = [] → s.pair.notes = [n] → n.1 = h.key → t.input = s.input)
      ∧ (s.fld RTR_PAIR_CTRL_role = 1 → Completes (.grant p) s fun t => leased t ∧ t.fld RTR_PAIR_CTRL_role = 1))
    ∧ (∀ i, s.fromArbiter p = true → epKind p = 3 → s.rankEntry (epRank p) = some i →
      epochNewer (epEpoch p) (s.fld RTR_RANK_TBL_epoch i) = true →
      (s.paired = false ∨ epRank p ≠ s.rank → Completes (.bump p) s fun t =>
        t = { s with delivered := t.delivered, regs := t.regs } ∧ RegsKept [RegId.RTR_RANK_TBL.offset i 0] s t
          ∧ t.fld RTR_RANK_TBL_epoch i = epEpoch p)
      ∧ (s.paired = true → epRank p = s.rank → epHolder p ≠ s.node → s.holdsLease = true →
        Completes (.bump p) s fun t =>
          t.fld RTR_RANK_TBL_epoch i = epEpoch p ∧ t.flag RTR_PAIR_LEASE_fenced = true
            ∧ t.flag RTR_PAIR_LEASE_valid = false ∧ t.flag RTR_PAIR_LEASE_stale = true
            ∧ t.flag RTR_PAIR_EVT_deposed = true ∧ t.mem = s.mem ∧ t.tiles = s.tiles))
    ∧ (s.pairRole = 1 → s.fld RTR_PAIR_LEASE_epoch ≠ 0 → s.flag RTR_PAIR_LEASE_stale = false →
      Completes .renewSend s fun t => t = { s with input := t.input } ∧ toArbiter t 2)
    ∧ (s.pairRole = 1 → s.flag RTR_PAIR_LEASE_valid = true → Completes .leaseFence s fun t =>
        OnlyRegs [RegId.RTR_PAIR_LEASE.offset 0 0, RegId.RTR_PAIR_EVT.offset 0 0] s t
          ∧ t.flag RTR_PAIR_LEASE_fenced = true ∧ t.flag RTR_PAIR_LEASE_valid = false
          ∧ t.flag RTR_PAIR_EVT_fenced = true)
    ∧ (s.pairRole = 2 → s.pair.hold ≠ [] → Completes .pairWatchExpiry s fun t =>
        t = { s with input := t.input, regs := t.regs } ∧ toArbiter t 7 ∧ t.flag RTR_PAIR_EVT_suspect = true
          ∧ RegsKept [RegId.RTR_PAIR_EVT.offset 0 0] s t)
    ∧ (∀ o, s.pairRole = 1 → s.flag RTR_PAIR_LEASE_solo = false → o ∈ s.pair.out → o.seq.isSome = true →
      o.acked = false → s.flag RTR_PAIR_LEASE_fenced = false → s.flag RTR_PAIR_LEASE_stale = false →
      Completes .pairWatchExpiry s fun t =>
        t.flag RTR_PAIR_LEASE_solo = true ∧ t.pair.out = [] ∧ t.mem = s.mem ∧ t.tiles = s.tiles)
    ∧ (s.pairRole = 2 → s.pair.notes ≠ [] → Completes .pairBehind s fun t =>
        OnlyRegs [RegId.RTR_PAIR_EVT.offset 0 0] s t ∧ t.flag RTR_PAIR_EVT_behind = true)

/-- Collectives are set up and ended (R307, R308, R314, R315, R327, R328): a commit of a free entry is checked behind those written before it, and gives a
READY entry with its claim of the store or a REFUSED one with its cause; an instance starts at its trigger with the next
number; a complete one counts once in done_dom, and an eager reduce-scatter is complete with the member's own segment; an
abort ends one without a count and sets the domain's error; a release takes effect after every commit written before it,
frees an entry and gives its claim back, but not while an instance runs. -/
def Obligations.CollectivesSetUpAndEnd : Prop :=
  ∀ (e : Nat) (s : State), e < 512 → s.fDone e < 1024 →
    let free := s.fld FLD_STORE_free_kib
    let others := fun (t : State) => MemSent s t ∧ t.tiles = s.tiles ∧ ∀ f, f ≠ e → t.foldE f = s.foldE f
    (s.fstate e = fsFree ∨ s.fstate e = fsRefused → e ∉ s.commits →
        exec (.foldCommit e) s = .next { s with commits := s.commits ++ [e] })
    ∧ (s.commits.head? = some e → s.flag FLD_CTRL_enable = true →
      ((s.fCheck e).1 ≠ 0 → Completes (.foldCommitChecked e) s fun t =>
        others t ∧ t.fstate e = fsRefused ∧ t.fld FLD_COLL_STAT_refuse_cause e = (s.fCheck e).1
          ∧ t.flag FLD_EVT_refused_setup = true ∧ t.fld FLD_STORE_free_kib = free ∧ t.commits = s.commits.filter (· != e))
      ∧ ((s.fCheck e).1 = 0 →
        let kib := if (s.fCheck e).2 = true then 0 else (s.fClaim e + 1023) / 1024
        Completes (.foldCommitChecked e) s fun t =>
          t.mem = s.mem ∧ (∀ f, f ≠ e → t.foldE f = s.foldE f) ∧ t.fstate e = fsReady ∧ kib ≤ free ∧ t.fld FLD_STORE_free_kib = free - kib
            ∧ t.fld FLD_COLL_STAT_claimed_kib e = kib ∧ t.flag FLD_COLL_STAT_endpoint e = (s.fCheck e).2
            ∧ t.commits = s.commits.filter (· != e) ∧ t.fInstance e = 0 ∧ (t.foldE e).flows = [] ∧ (t.foldE e).done = []))
    ∧ (s.flag FLD_CTRL_enable = true → e ∈ s.commits ∨ s.fRunning e = false → Completes (.foldRelease e) s fun t =>
        t.mem = s.mem ∧ t.fstate e = fsFree ∧ t.commits = [] ∧ t.foldE e = FoldEntry.empty)
    ∧ (s.commits = [] → s.fRunning e = false → free + s.fld FLD_COLL_STAT_claimed_kib e < 2 ^ 15 → Completes (.foldRelease e) s fun t =>
        others t ∧ t.fstate e = fsFree ∧ t.fld FLD_STORE_free_kib = free + s.fld FLD_COLL_STAT_claimed_kib e
          ∧ t.fld FLD_COLL_STAT_claimed_kib e = 0 ∧ t.foldE e = FoldEntry.empty)
    ∧ (s.commits = [] → s.fRunning e = true → Completes (.foldRelease e) s fun t =>
        OnlyRegs [RegId.FLD_EVT.offset 0 0] s t ∧ t.flag FLD_EVT_busy_write = true)
    ∧ (s.fRunning e = true → (s.foldE e).aborted ≠ some (s.fInstance e) → Completes (.foldAbort e) s fun t =>
        others t ∧ t.fstate e = fsReady ∧ (t.foldE e).flows = [] ∧ (t.foldE e).partials = []
          ∧ t.flag GI_CD_err (s.fDone e) = true ∧ t.fld GI_CD_count (s.fDone e) = s.fld GI_CD_count (s.fDone e)
          ∧ (s.flag GI_CD_err (s.fDone e) = false → t.fld GI_CD_cause (s.fDone e) = 4)
          ∧ t.flag FLD_EVT_abort = true)
    ∧ (s.fstate e = fsReady →
        s.reached (s.fld FLD_COLL_LEN_trig_dom e) (s.fld FLD_COLL_TRIG_next_expect e) = true →
        Completes (.foldInstanceStart e) s fun t =>
          t.fInstance e = (s.fInstance e + 1) % 2 ^ 32
            ∧ t.fld FLD_COLL_TRIG_next_expect e
                = (s.fld FLD_COLL_TRIG_next_expect e + s.fld FLD_COLL_TRIG_trig_inc e) % 2 ^ 32
            ∧ (s.fOp e ≠ 6 → s.fRoot e = false → 0 < s.fDue e → s.flag FLD_COLL_STAT_endpoint e = false →
                (s.fInstance e + 1) % 2 ^ 32 % 65536 ∉ (s.foldE e).faults → others t ∧ t.fstate e = fsRunning)
            ∧ ((s.fInstance e + 1) % 2 ^ 32 % 65536 ∈ (s.foldE e).faults → others t ∧ t.fstate e = fsReady))
    ∧ (s.fRunning e = true → s.fEager e = true → s.fOp e = 1 →
        (∀ c, c < s.fChunks e → (s.placeChunk e c 0).2.2 ≠ 0 → ∃ d ∈ (s.foldE e).done, d.1 = c) → s.foldComplete e = true)
    ∧ (s.foldComplete e = true → Completes (.foldInstanceDone e) s fun t =>
        others t ∧ t.foldE e = s.foldE e ∧ t.fstate e = fsReady
          ∧ t.fld GI_CD_count (s.fDone e) = (s.fld GI_CD_count (s.fDone e) + 1) % 2 ^ 32
          ∧ ∀ d, d < 1024 → d ≠ s.fDone e → t.fld GI_CD_count d = s.fld GI_CD_count d)

/-- Chunks (R311, R315 to R318, R321): a chunk that is ready goes out against one credit and is kept until its credit
returns, but none without a usable fold unit (R419); one that waits too long is sent again, up to the limit; an up partial whose check passes waits for the others
of its chunk, and one that fails is asked for again; a result chunk is written where the operation places it and passed
to the children; a combined chunk is the member's own elements combined with each child's in child order. -/
def Obligations.ChunksMoveAlongTheTree : Prop :=
  (∀ (e d : Nat) (s : State) (ch : FoldChunk), e < 512 → s.fCommitted e = true → s.paired = false →
      let f := s.flow e d
      let sent := fun (t : State) => t.mem = s.mem ∧ t.tiles = s.tiles ∧ (∀ g, g ≠ e → t.foldE g = s.foldE g)
      let carries := fun (t : State) (inst : Nat) => Offered s t portF fun q => q.type = tFOLD_DATA ∧ q.dst = s.fNode e d
          ∧ q.partition = s.fPart e ∧ q.vc = 5 ∧ fdChunk q = ch.chunk % 2 ^ 22 ∧ fdKind q = s.kindOf e d
          ∧ fdInstance q = inst % 65536 ∧ (ch.crc < 2 ^ 32 → fdCrc q = ch.crc)
          ∧ (ch.bad = false → ch.payload.length % 16 = 0 → bytesOfWords (q.body.drop 2) = ch.payload)
      let late := (s.foldE e).late.find? fun l => l.dest == d
      (∀ rest, s.foldUnits = true → late = none → s.fTarget e d = true → f.credit ≠ 0 → f.ready = ch :: rest →
        Completes (.foldChunkSend e d) s fun t => sent t ∧ carries t (s.fInstance e)
          ∧ t.flow e d = { f with credit := f.credit - 1, ready := rest, kept := f.kept ++ [ch] })
      ∧ (∀ l, s.foldUnits = true → late = some l → l.chunk = ch → Completes (.foldChunkSend e d) s fun t => sent t ∧ carries t l.inst
          ∧ (t.foldE e).late = (s.foldE e).late.erase l ∧ t.flow e d = f)
      ∧ (s.foldUnits = false → exec (.foldChunkSend e d) s = .next s)
      ∧ (∀ rest, f.kept = ch :: rest → ch.tries < s.fld FLD_CTRL_resend_max → s.kindOf e d = 1 → ch.good = false →
        s.fRoot e = false → ch.chunk < 2 ^ 64 → Completes (.foldChunkTimeout e d) s fun t => sent t
          ∧ Offered s t portF fun q => q.type = tFOLD_CTRL ∧ q.dst = s.fUp e ∧ fcMsg q = fmResend ∧ q.word 3 = ch.chunk)
      ∧ (∀ rest, f.kept = ch :: rest → ch.tries < s.fld FLD_CTRL_resend_max → (s.kindOf e d = 1 → ch.good = true) →
        Completes (.foldChunkTimeout e d) s fun t =>
          sent t ∧ carries t (s.fInstance e) ∧ t.fld FLD_STAT_resends = min (2 ^ 16 - 1) (s.fld FLD_STAT_resends + 1)
            ∧ (t.flow e d).kept.head? = some { ch with tries := ch.tries + 1 }
            ∧ (t.flow e d).credit = f.credit))
    ∧ (∀ (p : Packet) (s : State) (e : Nat), s.staleFor p = false → s.foldClosed p.partition = false →
      s.foldEntryOf p.partition (fdColl p) = some e → fdInstance p = s.fInstance e % 65536 → s.kindFits e p = true →
      s.epochCheck p = (true, s) → s.fRunning e = true → p.status = 0 → s.fRoot e = false → s.foldUnits = true →
      let bs := (bytesOfWords (p.body.drop 2)).take (s.chunkBytesDue e (fdChunk p) (fdKind p))
      let ch : FoldChunk := ⟨fdChunk p, fdRank p, bs, fdCrc p, 0, false⟩
      let x := s.foldE e
      (fdKind p = 0 → s.fOp e ≤ 1 → 0 < s.fDue e → x.done = [] →
        (ch.good = true → ¬ (∃ q ∈ x.partials, q.1 = fdChild p ∧ q.2.chunk = ch.chunk) → x.next ≤ ch.chunk →
          Completes (.foldData p) s fun t =>
            t = { s with delivered := t.delivered, fold := t.fold }
              ∧ (t.foldE e).partials = x.partials ++ [(fdChild p, ch)] ∧ (t.foldE e).next = x.next
              ∧ ∀ f, f ≠ e → t.foldE f = s.foldE f)
        ∧ (ch.good = false → s.paired = false → Completes (.foldData p) s fun t =>
            t = { s with delivered := t.delivered, input := t.input } ∧ Offered s t portF fun q =>
              q.type = tFOLD_CTRL ∧ fcMsg q = fmResend ∧ q.word 3 = ch.chunk))
      ∧ (fdKind p = 1 → s.fEager e = true → ch.good = true → (ch.chunk, ch.srcRank) ∉ x.done →
          memWf s.mem = true →
        let w := s.placeChunk e ch.chunk ch.srcRank
        let a := bitsOf (s.reg .FLD_COLL_DST e) 47 0 + w.1
        let es := elemBytes (s.fOut e)
        let put := (bs.drop (w.2.1 * es)).take (w.2.2 * es)
        gaSpace a = 0 → HbmGood a put.length s → Completes (.foldData p) s fun t =>
          Stored (hbmKey (gaHbm a)) put s t
            ∧ (t.foldE e).done = x.done ++ [(ch.chunk, ch.srcRank)]
            ∧ ∀ j, j < s.fKids e → (t.flow e (1 + j)).ready = (s.flow e (1 + j)).ready ++ [ch]))
    ∧ ∀ (s : State) (e c : Nat) (own : List Byte) (acc : List Nat), s.combineChunk e c own = some acc →
      let mine := (elemsOf (s.fCount e c) (elemBytes (s.fFmt e)) own).map (toWorking (s.fFmt e) (s.fWork e) (s.fAnchor e))
      acc.length = s.fCount e c
        ∧ (∀ j, j < s.fKids e → ∃ q ∈ (s.foldE e).partials, q.1 = j ∧ q.2.chunk = c)
        ∧ (s.fKids e = 0 → acc = mine)
        ∧ ∀ q, s.fKids e = 1 → (s.foldE e).partials.find? (fun p => p.1 == 0 && p.2.chunk == c) = some q →
            ∀ i, i < s.fCount e c → lget acc i 0 = foldCombine (s.fOperator e) (s.fWork e) (s.fAnchor e) (lget mine i 0)
              (lget (elemsOf (s.fCount e c) (elemBytes (s.fWork e)) q.2.payload) i 0)

/-- Fold control messages (R316, R319 to R324, R327): a credit frees the chunks it covers, and a vertex whose only child has
credited a result chunk credits it to its own up node; a RESEND makes a kept chunk go out
again; CONFIRM and RELEASE are noted at a sealed entry; a FAULT ends the instance it names and sets the error of
done_dom, once for each instance; an ABORT ends the current instance, and is ignored where that has completed; a message that fits no committed entry is
refused. -/
def Obligations.FoldMessages : Prop :=
  ∀ (p : Packet) (s : State), p.status ≠ 3 → s.staleFor p = false →
    let refused := fun (t : State) => t = { s with delivered := t.delivered, regs := t.regs }
      ∧ RegsKept [RegId.FLD_STAT.offset 0 0, RegId.FLD_EVT.offset 0 0] s t ∧ t.flag FLD_EVT_pkt_refused = true
      ∧ t.fld FLD_STAT_refused = min (2 ^ 16 - 1) (s.fld FLD_STAT_refused + 1)
    let others := fun (e : Nat) (t : State) => MemSent s t ∧ t.tiles = s.tiles ∧ ∀ f, f ≠ e → t.foldE f = s.foldE f
    (∀ m c, (m = fmCredit ∧ c = .foldCredit p) ∨ (m = fmResend ∧ c = .foldResend p) ∨ (m = fmConfirm ∧ c = .foldConfirm p)
        ∨ (m = fmRelease ∧ c = .foldReleaseMsg p) ∨ (m = fmAbort ∧ c = .foldAbortMsg p) →
      s.ctrlEntry p m = none → Completes c s refused)
    ∧ (s.foldClosed p.partition = true → Completes (.foldData p) s refused ∧ Completes (.foldFault p) s refused)
    ∧ (∀ e d, s.ctrlEntry p fmCredit = some (e, d) →
      let n := p.word 3 % 2 ^ 32
      isTreeOp (s.fOp e) = false ∨ s.fRoot e = false → Completes (.foldCredit p) s fun t =>
        others e t ∧ ((s.foldE e).owed = [] → t = { s with delivered := t.delivered, fold := t.fold })
          ∧ t.flow e d = { s.flow e d with credit := (s.flow e d).credit + n, kept := (s.flow e d).kept.drop n })
    ∧ (∀ e d o, s.ctrlEntry p fmCredit = some (e, d) → isTreeOp (s.fOp e) = true → s.fRoot e = false → s.paired = false →
      (s.foldE e).owed = [o] → o.1 = s.fUp e → o.2.1 = 0 → 1 ≤ d → s.fKids e = 1 →
      (s.flow e 1).ready = [] → (s.flow e 1).kept.length ≤ p.word 3 % 2 ^ 32 → d = 1 →
      Completes (.foldCredit p) s fun t => (t.foldE e).owed = []
        ∧ Offered s t portF fun q => q.type = tFOLD_CTRL ∧ q.dst = s.fUp e ∧ fcMsg q = fmCredit ∧ q.word 3 = 1)
    ∧ (∀ e d ch, s.ctrlEntry p fmResend = some (e, d) →
      (s.flow e d).kept.find? (fun c => c.chunk == p.word 3 % 2 ^ 22) = some ch →
      ch.tries < s.fld FLD_CTRL_resend_max → (s.kindOf e d = 1 → ch.good = true) → s.paired = false →
      Completes (.foldResend p) s fun t =>
        others e t ∧ t.fld FLD_STAT_resends = min (2 ^ 16 - 1) (s.fld FLD_STAT_resends + 1)
          ∧ Offered s t portF fun q => q.type = tFOLD_DATA
              ∧ q.dst = s.fNode e d ∧ fdChunk q = ch.chunk % 2 ^ 22)
    ∧ (∀ e d, s.ctrlEntry p fmConfirm = some (e, d) → s.fEager e = false → 1 ≤ d → d ≤ 7 →
      d - 1 ∉ (s.foldE e).confirms → (s.foldE e).done.length < s.fDue e → Completes (.foldConfirm p) s fun t =>
        t = { s with delivered := t.delivered, fold := t.fold } ∧ (∀ f, f ≠ e → t.foldE f = s.foldE f)
          ∧ t.foldE e = { s.foldE e with confirms := (s.foldE e).confirms ++ [d - 1] })
    ∧ (∀ e, s.ctrlEntry p fmRelease = some (e, 0) → s.fEager e = false → isTreeOp (s.fOp e) = true →
      s.fRunning e = true → Completes (.foldReleaseMsg p) s fun t =>
        others e t ∧ t.foldE e = { s.foldE e with released := true }
          ∧ (s.paired = false → t.input.length = s.input.length + s.fKids e))
    ∧ (∀ e, s.foldClosed p.partition = false → fcMsg p = fmFault → s.foldEntryOf p.partition (fcColl p) = some e →
      (s.fNeighbours e).contains p.src = true → fcInstance p ∉ (s.foldE e).faults → s.fDone e < 1024 → e < 512 →
      Completes (.foldFault p) s fun t =>
        others e t ∧ (t.foldE e).faults = (s.foldE e).faults ++ [fcInstance p] ∧ t.flag FLD_EVT_coll_fault = true
          ∧ t.flag GI_CD_err (s.fDone e) = true
          ∧ (s.flag GI_CD_err (s.fDone e) = false → t.fld GI_CD_cause (s.fDone e) = fcCause p)
          ∧ (s.flag FLD_FAULT_LOG_valid = false → t.fld FLD_FAULT_LOG_instance = fcInstance p
              ∧ t.fld FLD_FAULT_LOG_cause = fcCause p ∧ t.fld FLD_FAULT_LOG_node = p.src % 65536)
          ∧ (s.fInstance e % 65536 = fcInstance p → s.fRunning e = true → t.fstate e = fsReady))
    ∧ (∀ e d, s.ctrlEntry p fmAbort = some (e, d) → s.fRunning e = false ∨ (s.foldE e).aborted = some (s.fInstance e) →
      Completes (.foldAbortMsg p) s fun t => t = { s with delivered := t.delivered })
    ∧ ∀ e d, s.ctrlEntry p fmAbort = some (e, d) → s.fRunning e = true → (s.foldE e).aborted ≠ some (s.fInstance e) →
      s.fDone e < 1024 → e < 512 → Completes (.foldAbortMsg p) s fun t =>
        others e t ∧ t.fstate e = fsReady ∧ (t.foldE e).partials = [] ∧ t.flag FLD_EVT_abort = true
          ∧ t.flag GI_CD_err (s.fDone e) = true
          ∧ (s.flag GI_CD_err (s.fDone e) = false → t.fld GI_CD_cause (s.fDone e) = fcCause p)
          ∧ t.fld GI_CD_count (s.fDone e) = s.fld GI_CD_count (s.fDone e)

/-- The progress watch (R378 to R382): the watch of a unit that expects progress fires at the end of its window with the
event and the record of its level; action 1 stops there, a starved slot is only reported, and action 2 resets the unit;
a parked module, action 0 and a unit that expects nothing let nothing happen; a heartbeat or a window's write starts the
timers anew, and so does progress: a task that starts, an engine's command that completes, a packet that leaves; a starved
slot's timer starts again; an overrun of a partition reset asks for a chip reset.
Dumps (R393 to R397, R403): a dump is asked for unless one is held; its end leaves a header and one entry of two words
for each register in scope, with the register's value where it could be read; a register access that timed out stays
unread; the held dump goes to the host word by word or to flash, and is then released. -/
def Obligations.WatchAndDumps : Prop :=
  ((∀ (w : WatchUnit) (s : State),
        let level := w.level
        let due := s.expects w = true ∧ s.watchStart w + s.watchWindow level ≤ s.now
        (s.parked = true ∨ s.watchAct level = 0 ∨ s.expects w = false → exec (.watchExpiry w) s = .next s)
        ∧ (s.parked = false → s.watchAct level = 1 → due → (∀ n k, w = .slot n k → ((s.tile n).slot k).state = .run) →
          Completes (.watchExpiry w) s fun t =>
            OnlyRegs [RegId.MGT_RST_EVT.offset 0 0, RegId.MGT_RST_LOG.offset 0 0] s t
              ∧ t.flag (watchEvent level) = true ∧ t.fld MGT_RST_LOG_level = level ∧ t.fld MGT_RST_LOG_cause = 1
              ∧ t.flag MGT_RST_LOG_valid = true)
        ∧ (∀ n k, s.parked = false → s.watchAct 1 ≠ 0 → w = .slot n k → due → ((s.tile n).slot k).state = .ready →
          Completes (.watchExpiry w) s fun t =>
            OnlyTile n [RegId.MGT_RST_EVT.offset 0 0, RegId.MGT_RST_LOG.offset 0 0] s t
              ∧ t.flag MGT_RST_EVT_starved = true ∧ t.fld MGT_RST_LOG_cause = 6 ∧ t.fld MGT_RST_LOG_tile = n
              ∧ t.fld MGT_RST_LOG_slot = k
              ∧ (k < (s.tile n).slots.length →
                  t.tile n = (s.tile n).setSlot k { (s.tile n).slot k with since := s.now } ∧ s.now ≤ t.watchStart w))
        ∧ (∀ n k, s.parked = false → s.watchAct 1 = 2 → w = .slot n k → due → ((s.tile n).slot k).state = .run →
          (s.tile n).slots.length = 32 → s.covers 1 (n * 32 + k) = false → Completes (.watchExpiry w) s fun t =>
            t.mem = s.mem ∧ TilesKept n s t ∧ ((t.tile n).slot k).state = .abort ∧ t.flag MGT_RST_EVT_watch_ctx = true))
      ∧ (∀ (n : Nat) (s : State), n < 35 → Completes (.heartbeat n) s fun t =>
          t = { s with recovery := t.recovery }
            ∧ t.watchStart (.heartbeat n) = max (max (lget s.recovery.winAt 3 0) s.power.upAt) s.now)
      ∧ (∀ (n k : Nat) (s : State) (c : MatCmd), n < 144 → s.chipReset = false → s.gateOpen n = true →
        Engine.matrix ∉ (s.tile n).inReset → (s.tile n).matq[k]? = some c →
        (∀ d ∈ (s.tile n).matq.take k, mcPlane d.ctl ≠ mcPlane c.ctl) →
        Completes (.matrixCmdDone n k) s fun t => s.now ≤ t.watchStart (.engine n 1))
      ∧ (∀ (n k q : Nat) (s : State) (sl : Slot), n < 144 → s.parked = false → s.seqIdle n = true → s.padRun n = true →
        bestSlot ((s.markReady n).tile n).slots = some (k, sl) → s.padOfTile n = some q →
        Completes (.taskSelect n) s fun t =>
          s.now ≤ t.watchStart (.slot n k) ∧ s.now ≤ t.watchStart (.paddock q))
      ∧ (∀ (level us : Nat) (s : State), 1 ≤ level → level ≤ 4 → us < 2 ^ 24 → s.recovery.winAt.length = 4 →
        Completes (.watchWindowWrite level us) s fun t =>
          t = { s with recovery := t.recovery, regs := t.regs } ∧ lget t.recovery.winAt (level - 1) 0 = s.now
            ∧ RegsKept [RegId.MGT_WATCH_WIN0.offset 0 0, RegId.MGT_WATCH_WIN1.offset 0 0] s t
            ∧ t.watchWindow level = 10000 * max 10 (min 10000000 us))
      ∧ ∀ (q : Nat) (s : State), (s.runningReset 3 q).isSome = true → s.watchAct 3 = 3 →
        (∀ j ∈ s.recovery.waiting ++ s.recovery.running, j.level < 4) → s.flag FWU_DUMP_CTRL_enable = false →
        s.recovery.dumping = none → Completes (.resetOverrun 3 q) s fun t =>
          t.flag MGT_RST_EVT_escalated = true ∧ t.chipReset = true ∧ t.fld MGT_RST_LOG_level = 4
            ∧ t.fld MGT_RST_LOG_cause = 3)
  ∧ (∀ s : State,
      (s.recovery.dumping = none → s.flag FWU_DUMP_CTRL_enable = true →
        (s.dumpHeld = true → Completes .dumpNow s fun t =>
          OnlyRegs [RegId.FWU_DUMP_STAT.offset 0 0] s t
            ∧ t.fld FWU_DUMP_STAT_skipped = min (2 ^ 16 - 1) (s.fld FWU_DUMP_STAT_skipped + 1))
        ∧ (s.dumpHeld = false → Completes .dumpNow s fun t =>
          t = { s with regs := t.regs, recovery := { s.recovery with dumping := some ⟨0, 0, [], s.beatNo, s.beat.t, []⟩ } }
            ∧ RegsKept [RegId.FWU_DUMP_STAT.offset 0 0] s t ∧ t.flag FWU_DUMP_STAT_busy = true))
      ∧ (∀ d off, s.recovery.dumping = some d → (∀ m ∈ d.missed, m.1 ≠ unitOf off) →
        Completes (.dumpAccessTimeout off) s fun t =>
          t = { s with recovery := { s.recovery with dumping := some { d with missed := d.missed ++ [(unitOf off, off)] } } })
      ∧ (∀ d, s.recovery.dumping = some d → s.recovery.waiting = [] → Completes .dumpDone s fun t =>
          let scope := (s.dumpScope d.level d.pads).take s.dumpRoom
          t = { s with regs := t.regs, recovery := t.recovery } ∧ t.recovery.dumping = none
            ∧ t.flag FWU_DUMP_STAT_held = true ∧ t.flag FWU_DUMP_STAT_busy = false
            ∧ t.flag MGT_RST_EVT_dump_done = true ∧ t.recovery.held.length = 8 + 2 * scope.length
            ∧ ∀ i off r a b, scope[i]? = some (off, r, a, b) → s.dumpStatus d.missed off r a = 0 → off < 2 ^ 26 →
                lget t.recovery.held (8 + 2 * i) 0 = BitVec.ofNat 64 off
                  ∧ lget t.recovery.held (9 + 2 * i) 0 = BitVec.ofNat 64 (s.readReg r a b))
      ∧ (Completes .dumpRelease s fun t =>
          t = { s with regs := t.regs, recovery := { s.recovery with held := [] } } ∧ t.dumpHeld = false
            ∧ RegsKept [RegId.FWU_DUMP_STAT.offset 0 0] s t)
      ∧ (s.dumpHeld = true → s.flag FWU_DUMP_CTRL_to_flash = true → Completes .dumpDrainDone s fun t =>
          t.flash = { s.flash with dump := t.flash.dump } ∧ t.recovery.held = [] ∧ t.dumpHeld = false
            ∧ (∃ x, t.flash.dump = some x ∧ x.magic = 0x44554D50 ∧ x.length = 8 * s.recovery.held.length
                ∧ x.seq = s.fld FWU_DUMP_STAT_seq ∧ x.body = s.recovery.held
                ∧ x.crc = crc32c (bytesOfWords s.recovery.held))
            ∧ t.flag FWU_DUMP_STAT_flash_done = true ∧ RegsKept [RegId.FWU_DUMP_STAT.offset 0 0] s t)
      ∧ (s.tray.good = true → s.pcie.d3hot = true → Completes .dumpDataRead s fun t =>
          t = { s with out := s.out ++ [.unsupported (RegId.FWU_DUMP_DATA.offset 0 0)] })
      ∧ (s.tray.good = true → s.pcie.d3hot = false → s.fld FWU_DUMP_PTR_offset + 8 < 2 ^ 23 →
          Completes .dumpDataRead s fun t =>
          t = { s with
              regs := t.regs
              out := s.out ++ [.regRead (RegId.FWU_DUMP_DATA.offset 0 0)
                (lget s.recovery.held (s.fld FWU_DUMP_PTR_offset / 8) 0)] }
            ∧ RegsKept [RegId.FWU_DUMP_PTR.offset 0 0] s t
            ∧ t.fld FWU_DUMP_PTR_offset = s.fld FWU_DUMP_PTR_offset / 8 * 8 + 8))

/-- Requested resets (R15, R16, R102, R384 to R387): a request that a deeper or equal reset covers is absorbed and only
recorded; otherwise a context reset aborts its slot, an engine reset empties and holds its engine, a partition reset
stops its paddock, empties its queues and tiles and zeroes the windows and scratchpads that are its own, a chip reset
reads all of HBM and scratchpads as zeros, and a power cycle waits for its dump. -/
def Obligations.ResetRequests : Prop :=
  ∀ s : State,
    let request := fun (level n k u q : Nat) => Instr.resetRequest level n k u q true
    let logged := fun (t : State) (level : Nat) => t.fld MGT_RST_LOG_level = level ∧ t.fld MGT_RST_LOG_cause = 4
      ∧ t.flag MGT_RST_LOG_valid = true
    (s.covers 4 0 = true → ∀ n k u q, Completes (request 4 n k u q) s fun t =>
        OnlyRegs [RegId.MGT_RST_LOG.offset 0 0] s t ∧ t.flag MGT_RST_LOG_absorbed = true
          ∧ t.fld MGT_RST_LOG_absorbed_level = 4)
    ∧ (∀ n k u q, s.tileUsable n = true → k < 32 → s.covers 1 (n * 32 + k) = false → (s.tile n).slots.length = 32 →
        (let st := ((s.tile n).slot k).state; st = .run ∨ st = .wait ∨ st = .ready) →
        Completes (request 1 n k u q) s fun t =>
          t.mem = s.mem ∧ TilesKept n s t ∧ ((t.tile n).slot k).state = .abort ∧ logged t 1
            ∧ t.fld MGT_RST_LOG_tile = n ∧ t.fld MGT_RST_LOG_slot = k)
    ∧ (∀ n k q, s.tileUsable n = true → s.covers 2 (n * 8 + 1) = false → Completes (request 2 n k 1 q) s fun t =>
        t.mem = s.mem ∧ TilesKept n s t ∧ Engine.matrix ∈ (t.tile n).inReset ∧ (t.tile n).matq = []
          ∧ (t.tile n).planes = List.replicate 4 Plane.zero ∧ logged t 2 ∧ (t.runningReset 2 (n * 8 + 1)).isSome = true)
    ∧ (∀ n k u q, q < 8 → s.flag GI_PAD_CFG_valid q = true → s.covers 3 q = false → Completes (request 3 n k u q) s fun t =>
        q ∈ t.padReset ∧ (t.pad q).queue = [] ∧ (t.pad q).requests = [] ∧ (∀ g ∈ t.grants, g.pad ≠ q)
          ∧ (∀ h ∈ t.flagHold, h.pad ≠ q) ∧ (t.runningReset 3 q).isSome = true
          ∧ (∀ m, m < 144 → s.padOfTile m = some q →
              (t.tile m).slots = Tile.reset.slots ∧ (t.tile m).etb = [] ∧ Engine.sequencer ∈ (t.tile m).inReset)
          ∧ (∀ m, m < 144 → s.padOfTile m ≠ some q → t.tile m = s.tile m)
          ∧ (memWf s.mem = true → ∀ a,
              let mine := (∃ m, m < 144 ∧ s.padOfTile m = some q ∧ spadKey m 0 ≤ a ∧ a < spadKey m 0 + spadSize)
                ∨ ((∃ w ∈ s.windowsOf q, s.inWindow w a = true)
                    ∧ ¬ ∃ w, w < 64 ∧ s.flag RTR_WIN_BASE_valid w = true ∧ s.fld RTR_WIN_BASE_paddock w ≠ q
                        ∧ s.inWindow w a = true)
              (mine → memByte t.mem a = 0) ∧ (¬ mine → memByte t.mem a = memByte s.mem a)))
    ∧ (s.covers 4 0 = false → ∀ n k u q, Completes (request 4 n k u q) s fun t =>
        t.chipReset = true ∧ t.padReset = [] ∧ t.mem = [] ∧ t.hbmUe = [] ∧ t.gets = [] ∧ t.flagHold = [] ∧ logged t 4
          ∧ t.flag MGT_CAP_ID_valid = false ∧ ∀ m, m < 144 → (t.tile m).slots = Tile.reset.slots)
    ∧ (s.covers 5 0 = false → ∀ n k u q, Completes (request 5 n k u q) s fun t =>
        t.recovery.pcWaits = true ∧ logged t 5 ∧ t.mem = s.mem ∧ t.tiles = s.tiles)

/-- The end of resets (R15, R383, R386, R387, R389, R495): an engine leaves reset unless a deeper reset or a soft-disable
holds its tile; a partition reset's end frees its usable tiles and tells the fabric manager; a region of HBM is no longer
pending once it is zeroed; a power-cycle request puts the dies into reset and asks the tray controller until it answers.
Peers' notices (R390, R391, R402): a notice of a peer's state is taken from the fabric manager only, and one about the
node itself is refused; an accepted one is recorded; the loss of a peer ends the puts that wait for it. -/
def Obligations.ResetsEndAndNotices : Prop :=
  (∀ s : State,
      (∀ n e, n < 144 → e ∈ (s.tile n).inReset → s.chipReset = false → s.tileUsable n = true →
          (∀ q, s.padOfTile n = some q → q ∉ s.padReset) → Completes (.engineResetDone n e) s fun t =>
            t.mem = s.mem ∧ TilesKept n s t ∧ (t.tile n).inReset = (s.tile n).inReset.erase e
              ∧ ∀ j, (t.tile n).slot j = (s.tile n).slot j
                ∨ ((s.tile n).slot j).state = .wait ∧ ((s.tile n).slot j).meets = true
                  ∧ ∃ c, (t.tile n).slot j = { (s.tile n).slot j with state := .ready, stamp := c })
      ∧ (∀ q j, s.runningReset 3 q = some j → s.chipReset = false → Completes (.partitionResetDone q) s fun t =>
          t.padReset = s.padReset.filter (fun p => p != q) ∧ t.mem = s.mem ∧ t.fld MGT_RST_STAT_last = 3
            ∧ t.runningReset 3 q = none
            ∧ (∀ n, n < 144 → s.padOfTile n = some q → s.tileUsable n = true → (t.tile n).inReset = [])
            ∧ Offered s t portM fun p => p.type = tPEER_STATE ∧ psKind p = 2
                ∧ psLevel p = 3 ∧ psPart p = s.fld GI_PAD_CFG_partition q ∧ p.dst = s.fld RTR_HEFT_CTRL_fm_node
                ∧ psNode p = s.node)
      ∧ (∀ r, Completes (.hbmRegionZeroed r) s fun t =>
          t = { s with recovery := { s.recovery with zero := t.recovery.zero } }
            ∧ ∀ n, (∃ z ∈ t.recovery.zero, z.1 ≤ n ∧ n < z.2) ↔ (n ≠ r ∧ ∃ z ∈ s.recovery.zero, z.1 ≤ n ∧ n < z.2))
      ∧ (s.recovery.pcWaits = true → s.mgmt.update.proving = none → Completes .powerCycleRequest s fun t =>
          t.flag MGT_RST_STAT_pc_req = true ∧ t.flag MGT_RST_EVT_pc_request = true ∧ t.chipReset = true
            ∧ t.recovery.pcWaits = false ∧ t.recovery.pcSent = true ∧ ∃ bs, t.out = s.out ++ [.mctp 1 bs])
      ∧ (s.recovery.pcSent = true → s.mgmt.update.proving = none → Completes .powerCycleRepeat s fun t =>
          t = { s with recovery := { s.recovery with pcHeld := false }, out := t.out } ∧ ∃ bs, t.out = s.out ++ [.mctp 1 bs])
      ∧ (s.recovery.pcSent = true → Completes (.powerCycleAnswer 0) s fun t =>
          t = { s with recovery := { s.recovery with pcTaken := true } }))
  ∧ (∀ (p : Packet) (s : State), p.status ≠ 3 → psNode p < 2 ^ 16 →
      let recorded := fun (t : State) => t.fld MGT_PEER_LOG_kind = psKind p ∧ t.fld MGT_PEER_LOG_node = psNode p
        ∧ t.fld MGT_PEER_LOG_level = psLevel p ∧ t.flag MGT_PEER_LOG_valid = true
        ∧ t.fld MGT_PEER_STAT_notices = min (2 ^ 16 - 1) (s.fld MGT_PEER_STAT_notices + 1)
      ((psKind p = 3 ∨ psKind p = 4) → (p.src ≠ s.fld RTR_HEFT_CTRL_fm_node ∨ psNode p = s.node) →
        Completes (.peerState p) s fun t =>
          t = { s with delivered := t.delivered, regs := t.regs } ∧ RegsKept [RegId.MGT_PEER_STAT.offset 0 0] s t
            ∧ t.fld MGT_PEER_STAT_refused = min (2 ^ 16 - 1) (s.fld MGT_PEER_STAT_refused + 1))
      ∧ (p.src = s.fld RTR_HEFT_CTRL_fm_node → psNode p ≠ s.node →
        (psKind p = 4 → Completes (.peerState p) s fun t =>
          t = { s with delivered := t.delivered, regs := t.regs } ∧ recorded t
            ∧ RegsKept [RegId.MGT_PEER_LOG.offset 0 0, RegId.MGT_PEER_STAT.offset 0 0] s t)
        ∧ (psKind p = 3 → Completes (.peerState p) s fun t =>
          MemSent s t ∧ recorded t ∧ t.flag MGT_RST_EVT_peer_state = true
            ∧ (psLevel p ≠ 3 → ∀ n o, o ∈ (t.tile n).puts → n ∈ s.tiles.map (·.1) → o.packet.dst ≠ psNode p))))

/-- The steps of a cold boot (R36, R249, R404, R405, R408 to R411, R415, R501, R508): the boot ROM, the choice of firmware and
of a structure image, the fuse map, training, the known-answer tests with the floor plan and the capability table they leave,
and the microcode load, after which the link control of every port is locked; what serves MCTP requests an I3C address as it
starts where the target has none (R524); the table is valid after tests that followed the
fuse map's load, also where a chip reset ran them; a module without power or in recovery mode takes no step. -/
def Obligations.BootStepsRun : Prop :=
  ∀ (failed : List Nat) (s : State),
    let joins := if s.mgmt.i3c.1 = 0 then [Output.hotJoin] else []
    (s.boot.recovery = true ∨ s.tray.good = false → exec (.bootStepDone failed) s = .next s)
    ∧ (s.boot.recovery = false → s.tray.good = true →
      (s.boot.step = 1 → Completes (.bootStepDone failed) s fun t =>
        t = { s with
            regs := t.regs, mgmt := t.mgmt, boot := { s.boot with step := 2, recovery := s.tray.rcvr }
            out := s.out ++ if s.tray.rcvr then joins else [] }
          ∧ RegsKept [RegId.MGT_SERIAL.offset 0 0, RegId.MGT_ROT_STAT.offset 0 0] s t
          ∧ t.fld MGT_SERIAL_serial = s.fuse.serial.toNat ∧ t.flag MGT_ROT_STAT_rcvr_strap = s.tray.rcvr)
      ∧ (s.boot.step = 2 → Completes (.bootStepDone failed) s fun t =>
        t = { s with regs := t.regs, mgmt := t.mgmt, boot := t.boot, out := s.out ++ joins }
          ∧ RegsKept [RegId.FWU_SLOT.offset 0 0, RegId.FWU_SLOT.offset 0 1, RegId.MGT_ROT_STAT.offset 0 0] s t
          ∧ (s.bootSlot 1 = none → t.boot = { s.boot with recovery := true } ∧ t.flag MGT_ROT_STAT_recovery = true)
          ∧ ∀ k, s.bootSlot 1 = some k → t.boot = { s.boot with step := 3 } ∧ t.flag FWU_SLOT_in_use 0 k = true)
      ∧ (s.boot.step = 3 → Completes (.bootStepDone failed) s fun t =>
        let r := s.siSelect
        t = { s with regs := t.regs, mgmt := t.mgmt, boot := { s.boot with step := 4 } }
          ∧ RegsKept [RegId.FUS_SI_STAT.offset 0 0, RegId.FUS_EVT.offset 0 0] s t
          ∧ t.fld FUS_SI_STAT_a_cause = r.1 ∧ t.fld FUS_SI_STAT_b_cause = r.2.1
          ∧ (r.2.2 = 0 → t.fld FUS_SI_STAT_source = 3 ∧ t.flag FUS_EVT_si_rom = true)
          ∧ (r.2.2 ≠ 0 → t.fld FUS_SI_STAT_source = r.2.2 ∧ t.fld FUS_SI_STAT_seq = siSeq (s.siCopy (r.2.2 - 1))))
      ∧ (s.boot.step = 4 → Completes (.bootStepDone failed) s fun t => t.boot.step = 5
          ∧ (s.fld FUS_SI_STAT_source = 3 → s.settingsSlot = none →
            t.flag FUS_STAT_fuses_loaded = true ∧ t.flag GI_CTRL_lock = true ∧ t.flag RTR_CTRL_lock = true
              ∧ t.flag PWR_CTRL_lock = true ∧ t.boot.ports = List.range 8 ∧ t.fld BT_PERIOD_period_ns = 8000
              ∧ ∀ n, n < 144 → t.flag FUS_FP_TILE_fused_on n = !s.fuse.tilesOff.contains n))
      ∧ (s.boot.step = 5 → Completes (.bootStepDone failed) s fun t =>
        (s.trainingEnded = true → t = { s with boot := { s.boot with step := 6 } }) ∧ (s.trainingEnded = false → t = s))
      ∧ (s.boot.step = 7 → (∀ p ∈ s.boot.ports, p < 8) → Completes (.bootStepDone failed) s fun t =>
        t.boot.step = 8 ∧ (∀ k, k < 8 → t.flag RTR_LINK_CTRL_lock k = true)
          ∧ (s.bootSlot 2 ≠ none → ∀ n, s.tileUsable n = true → failed.contains n = true →
              t.flag FUS_FP_TILE_muster_fail n = true ∧ t.tileUsable n = false))
      ∧ (8 ≤ s.boot.step → s.boot.step ≤ 10 → Completes (.bootStepDone failed) s fun t =>
        t = { s with boot := { s.boot with step := s.boot.step + 1 } }))
    ∧ ∀ (tiles : List (Nat × Nat)) (units : List Nat),
      let mask := fun (n : Nat) => ((tiles.find? fun (e : Nat × Nat) => e.1 == n).map fun (e : Nat × Nat) => e.2 % 32).getD 0
      let tested := fun (t : State) => t.flag FUS_STAT_kat_done = true
        ∧ (∀ n : Nat, n < 144 → t.flag FUS_FP_TILE_kat_fail n = decide (mask n ≠ 0) ∧ t.fld FUS_FP_TILE_kat_mask n = mask n)
        ∧ t.fld MGT_CAP_COMPUTE_tiles_usable = ((List.range 144).filter fun n => t.flag FUS_FP_TILE_fused_on n
            && mask n == 0 && !t.flag FUS_FP_TILE_si_off n && !t.flag FUS_FP_TILE_rt_off n).length
        ∧ t.flag MGT_CAP_ID_below_grade
            = decide (t.fld MGT_CAP_COMPUTE_tiles_usable < t.fld MGT_CAP_COMPUTE_tiles_grade)
      (s.chipReset = false → s.boot.recovery = false → s.boot.step = 6 → s.boot.enable = [] →
        Completes (.katDone tiles units) s fun t =>
          tested t ∧ t.flag MGT_CAP_ID_valid = true ∧ t = { s with regs := t.regs, boot := { s.boot with step := 7 } })
      ∧ (s.chipReset = true → s.trainingEnded = false ∨ s.flag FUS_STAT_kat_done = true →
        exec (.katDone tiles units) s = .next s)
      ∧ (s.chipReset = true → s.trainingEnded = true → s.flag FUS_STAT_kat_done = false → s.recovery.reload = none → s.boot.enable = [] →
        Completes (.katDone tiles units) s fun t =>
          let booting := s.boot.recovery = false ∧ (s.boot.step = 5 ∨ s.boot.step = 6)
          tested t ∧ (t.flag MGT_CAP_ID_valid = true ↔ 5 ≤ s.boot.step ∧ s.boot.recovery = false)
            ∧ (booting → t = { s with regs := t.regs, boot := { s.boot with step := 7 } })
            ∧ (¬ booting → t = { s with regs := t.regs }))

/-- The end of a chip reset, soft-disabling, and the structure reload (R386, R387, R389, R406, R413, R417): a chip reset ends
once its tests have; a soft-disabled tile is empty and held, a port goes to Off, and a unit to be enabled again waits; a
reload without a valid copy keeps the running structure. -/
def Obligations.UnitsGoOffAndOn : Prop :=
  ∀ s : State,
    (s.chipReset = false ∨ s.flag FUS_STAT_kat_done = false → ∀ failed, exec (.chipResetDone failed) s = .next s)
    ∧ (s.chipReset = true → s.flag FUS_STAT_kat_done = true → s.recovery.pcSent = false → s.recovery.pcWaits = false →
      s.flag MGT_RST_STAT_stuck = false → ∀ failed, Completes (.chipResetDone failed) s fun t =>
        t.chipReset = false ∧ t.mem = s.mem ∧ t.recovery.zero = [(0, s.hbmCap / 2 ^ 20)]
          ∧ t.runningReset 4 0 = none)
    ∧ (∀ kind n off, (3 ≤ kind ∨ (kind = 0 ∧ 144 ≤ n) ∨ (kind = 1 ∧ 8 ≤ n) ∨ (kind = 2 ∧ 4 ≤ n)) →
        exec (.softDisable kind n off) s = .next s)
    ∧ (∀ kind n, (kind = 0 ∧ n < 144 ∧ s.flag FUS_FP_TILE_fused_on n = true)
          ∨ (kind = 1 ∧ n < 8 ∧ s.flag FUS_FP_UNIT_fused_on (portUnit n) = true)
          ∨ (kind = 2 ∧ n < 4 ∧ s.flag FUS_FP_UNIT_fused_on (foldUnit n) = true) →
        Completes (.softDisable kind n false) s fun t =>
          t = { s with boot := t.boot } ∧ t.boot = { s.boot with enable := t.boot.enable }
            ∧ ∀ e, e ∈ t.boot.enable ↔ e = (kind, n) ∨ e ∈ s.boot.enable)
    ∧ (∀ n, n < 144 → s.flag FUS_FP_TILE_fused_on n = true → Completes (.softDisable 0 n true) s fun t =>
        t.mem = s.mem ∧ TilesKept n s t ∧ t.tileUsable n = false ∧ t.flag FUS_FP_TILE_rt_off n = true
          ∧ t.flag FUS_EVT_soft_off = true ∧ (t.tile n).slots = Tile.reset.slots ∧ (t.tile n).etb = []
          ∧ ∀ e, e ∈ [Engine.sequencer, .matrix, .vector, .dma] → e ∈ (t.tile n).inReset)
    ∧ (∀ n, n < 8 → s.flag FUS_FP_UNIT_fused_on (portUnit n) = true → Completes (.softDisable 1 n true) s fun t =>
        t.flag FUS_FP_UNIT_rt_off (portUnit n) = true ∧ t.flag FUS_FP_UNIT_usable (portUnit n) = false
          ∧ t.tstate n = tsOff ∧ t.fld RTR_LINK_STAT_pstate n = 3 ∧ t.flag FUS_EVT_soft_off = true)
    ∧ (∀ n, n < 4 → s.flag FUS_FP_UNIT_fused_on (foldUnit n) = true → Completes (.softDisable 2 n true) s fun t =>
        t = { s with regs := t.regs, boot := t.boot }
          ∧ RegsKept [RegId.FUS_FP_UNIT.offset (foldUnit n) 0, RegId.FUS_EVT.offset 0 0] s t
          ∧ t.flag FUS_FP_UNIT_rt_off (foldUnit n) = true ∧ t.flag FUS_FP_UNIT_usable (foldUnit n) = false)
    ∧ (s.covers 4 0 = true → Completes .structureReload s fun t =>
        OnlyRegs [RegId.MGT_RST_LOG.offset 0 0] s t ∧ t.flag MGT_RST_LOG_absorbed = true)
    ∧ (s.covers 4 0 = false → s.flag FWU_DUMP_CTRL_enable = false → s.recovery.dumping = none →
        Completes .structureReload s fun t =>
          t.chipReset = true ∧ t.mem = [] ∧ t.flag MGT_CAP_ID_valid = false
            ∧ (s.siSelect.2.2 = 0 → t.boot = s.boot ∧ t.recovery.reload = s.recovery.reload)
            ∧ (s.siSelect.2.2 ≠ 0 → t.recovery.reload = some s.siSelect.2.2))

/-- A receiver of muster (R258, R421 to R425, R429): an armed entry starts with nothing received; a block that is whole, in range
and from the entry's originator is stored once and counted, and any other is discarded; POLL is answered with reports;
CLOSE judges the entry; a packet with status 3 is discarded and counted malformed. -/
def Obligations.MusterReceives : Prop :=
  ∀ s : State,
    (∀ e (v : Word64), e < 8 → Completes (.musterRxArm e v) s fun t =>
        t = { s with regs := t.regs, muster := t.muster }
          ∧ RegsKept [RegId.FUS_MUSTER_RX_CFG.offset e 0, RegId.FUS_MUSTER_RX_STAT.offset e 0] s t
          ∧ t.fld FUS_MUSTER_RX_CFG_session e = bitsOf v.toNat 15 0
          ∧ t.fld FUS_MUSTER_RX_CFG_originator e = bitsOf v.toNat 31 16
          ∧ t.fld FUS_MUSTER_RX_CFG_total_m1 e = bitsOf v.toNat 47 32
          ∧ (bitAt v.toNat 49 = true → t.gotBlocks e = [] ∧ t.fld FUS_MUSTER_RX_STAT_received e = 0
              ∧ t.flag FUS_MUSTER_RX_STAT_complete e = false ∧ t.flag FUS_MUSTER_RX_STAT_closed e = false)
          ∧ (bitAt v.toNat 49 = false → t.muster = s.muster))
    ∧ (∀ (p : Packet) (failed : List Nat), p.status ≠ 3 →
        let discarded := Completes (.musterData p failed) s fun t =>
          t = { s with delivered := t.delivered, regs := t.regs } ∧ t.muster = s.muster
            ∧ RegsKept ((List.range 8).map fun e => RegId.FUS_MUSTER_RX_STAT.offset e 0) s t
        (s.rxEntry p = none → discarded)
        ∧ ∀ e, s.rxEntry p = some e →
          let d := muPayload p
          let total := s.fld FUS_MUSTER_RX_CFG_total_m1 e + 1
          let off := s.fld FUS_MUSTER_RX_BASE_base e + muIndex p * 4096
          let good := muCrc p = crc32c d ∧ d.length ≤ 4096 ∧ muIndex p < total
            ∧ s.flag FUS_MUSTER_RX_STAT_closed e = false ∧ s.hbmOn = true ∧ s.chipReset = false
            ∧ s.rxWindow p off d.length = true
          (¬ good → discarded)
          ∧ (good → muIndex p ∈ s.gotBlocks e → Completes (.musterData p failed) s fun t =>
              t = { s with delivered := t.delivered })
          ∧ (good → muIndex p ∉ s.gotBlocks e → memWf s.mem = true → off + d.length ≤ 2 ^ 40 →
              (∀ g ∈ granules off d.length, g ∉ s.hbmUe) →
              (s.gotBlocks e).length + 1 ≤ total → Completes (.musterData p failed) s fun t =>
                t.bytes (hbmKey off) d.length = d ∧ BytesKept (hbmKey off) d.length s t
                  ∧ t.gotBlocks e = muIndex p :: s.gotBlocks e
                  ∧ t.fld FUS_MUSTER_RX_STAT_received e = (s.gotBlocks e).length + 1
                  ∧ ((s.gotBlocks e).length + 1 = total → t.flag FUS_MUSTER_RX_STAT_complete e = true)))
    ∧ (∀ p : Packet, p.status = 3 → ∀ c, (∃ failed, c = .musterData p failed) ∨ c = .musterPoll p ∨ c = .musterClose p →
        Completes c s fun t => t = { s with delivered := t.delivered, regs := t.regs }
          ∧ t.fld RTR_PORT_STAT_malformed portM = min 15 (s.fld RTR_PORT_STAT_malformed portM + 1))
    ∧ (∀ p : Packet, p.status ≠ 3 →
        (s.rxEntry p = none → ∀ c, c = .musterPoll p ∨ c = .musterClose p → Completes c s fun t =>
          t = { s with delivered := t.delivered })
        ∧ ∀ e, s.rxEntry p = some e →
          (s.fld FUS_MUSTER_RX_CFG_total_m1 e < 32768 → Completes (.musterPoll p) s fun t =>
            t = { s with delivered := t.delivered, input := t.input }
              ∧ Offered s t portM fun q => q.type = tMUSTER ∧ q.dst = p.src
                ∧ q.partition = p.partition ∧ muSession q = muSession p ∧ muKind q = 1 ∧ muIndex q = 0
                ∧ muCrc q = crc32c (muPayload q)
                ∧ ∀ i, i < s.fld FUS_MUSTER_RX_CFG_total_m1 e + 1 →
                    bitAt (lget (muPayload q) (i / 8) 0).toNat (i % 8) = (s.gotBlocks e).contains i)
          ∧ (s.flag FUS_MUSTER_RX_STAT_complete e = true → Completes (.musterClose p) s fun t =>
            t = { s with delivered := t.delivered, regs := t.regs } ∧ t.flag FUS_MUSTER_RX_STAT_closed e = true
              ∧ RegsKept [RegId.FUS_MUSTER_RX_STAT.offset e 0] s t)
          ∧ (s.flag FUS_MUSTER_RX_STAT_complete e = false → Completes (.musterClose p) s fun t =>
            t.mem = s.mem ∧ t.flag FUS_MUSTER_RX_STAT_closed e = true ∧ t.flag FUS_MUSTER_RX_STAT_incomplete e = true
              ∧ t.flag FUS_EVT_muster_incomplete = true
              ∧ (s.flag FUS_MUSTER_RX_CFG_kind e = true → ∀ n, s.tileUsable n = true →
                  t.tileUsable n = false ∧ t.flag FUS_FP_TILE_muster_fail n = true)))

/-- The originator of muster (R423, R424): a started session sends every block and polls its receivers; a report narrows
what its sender misses; a silent receiver misses every block; once none is awaited the session closes, or after a repair
round polls again, three rounds at most. -/
def Obligations.MusterSends : Prop :=
  ∀ s : State,
    (∀ cfg : Word64, s.flag FUS_MUSTER_TX_STAT_busy = true ∨ s.fld FUS_SI_STAT_source = 3 → Completes (.musterTxGo cfg) s fun t =>
        OnlyRegs [RegId.FUS_MUSTER_TX_CFG.offset 0 0] s t
          ∧ t.fld FUS_MUSTER_TX_CFG_session = bitsOf cfg.toNat 15 0)
    ∧ (∀ cfg : Word64, s.flag FUS_MUSTER_TX_STAT_busy = false → s.fld FUS_SI_STAT_source ≠ 3 →
        (s.receivers.1 ≠ [] → Completes (.musterTxGo cfg) s fun t =>
          t.mem = s.mem ∧ t.flag FUS_MUSTER_TX_STAT_busy = true ∧ t.fld FUS_MUSTER_TX_STAT_round = 0
            ∧ ∃ x, t.muster.tx = some x ∧ x.unanswered = s.receivers.1 ∧ x.never = s.receivers.1
                ∧ ∀ e ∈ x.missing, e.2 = List.range (bitsOf cfg.toNat 31 16 + 1))
        ∧ (s.receivers.1 = [] → Completes (.musterTxGo cfg) s fun t =>
          t.mem = s.mem ∧ t.flag FUS_MUSTER_TX_STAT_busy = false ∧ t.fld FUS_MUSTER_TX_STAT_round = 4 ∧ t.muster.tx = none))
    ∧ (s.muster.tx = none → (∀ p : Packet, p.status ≠ 3 → Completes (.musterReport p) s fun t => t = { s with delivered := t.delivered })
        ∧ ∀ n, exec (.musterPollTimeout n) s = .next s)
    ∧ (∀ x (p : Packet), p.status ≠ 3 → s.muster.tx = some x →
        (muSession p ≠ s.fld FUS_MUSTER_TX_CFG_session ∨ p.src ∉ x.unanswered ∨ muCrc p ≠ crc32c (muPayload p) →
          Completes (.musterReport p) s fun t => t = { s with delivered := t.delivered })
        ∧ (muSession p = s.fld FUS_MUSTER_TX_CFG_session → p.src ∈ x.unanswered → muCrc p = crc32c (muPayload p) →
          (∃ n ∈ x.unanswered, n ≠ p.src) → Completes (.musterReport p) s fun t =>
            t = { s with delivered := t.delivered, muster := t.muster }
              ∧ ∃ y, t.muster.tx = some y ∧ y.never = x.never.filter (· != p.src)
                ∧ y.missing = x.missing.map fun e =>
                    if e.1 = p.src then (e.1, e.2.filter fun i => !(reported p).contains i) else e))
    ∧ ∀ x n, s.muster.tx = some x →
        (n ∉ x.unanswered → exec (.musterPollTimeout n) s = .next s)
        ∧ (n ∈ x.unanswered → (∃ m ∈ x.unanswered, m ≠ n) → Completes (.musterPollTimeout n) s fun t =>
            t = { s with muster := { s.muster with tx := some { x with unanswered := x.unanswered.filter (· != n) } } })
        ∧ (x.unanswered = [n] → (x.missing.all (fun e => e.2.isEmpty) = true ∨ 3 ≤ s.fld FUS_MUSTER_TX_STAT_round) →
          Completes (.musterPollTimeout n) s fun t =>
            t.muster.tx = none ∧ t.mem = s.mem ∧ t.flag FUS_MUSTER_TX_STAT_busy = false
              ∧ t.fld FUS_MUSTER_TX_STAT_round = 4
              ∧ (x.missing.length < 65536 → t.fld FUS_MUSTER_TX_STAT_incomplete
                  = (x.missing.filter fun e => !e.2.isEmpty).length)
              ∧ (x.never.length < 65536 → t.fld FUS_MUSTER_TX_STAT_silent = x.never.length)
              ∧ Offered s t portM fun q => q.type = tMUSTER ∧ muKind q = 3 ∧ q.mcast = true)
        ∧ (x.unanswered = [n] → x.missing.all (fun e => e.2.isEmpty) = false → s.fld FUS_MUSTER_TX_STAT_round < 3 →
          bitsOf (s.reg .FUS_MUSTER_TX_SRC) 47 0 < 2 ^ 40 → Completes (.musterPollTimeout n) s fun t =>
            t.fld FUS_MUSTER_TX_STAT_round = s.fld FUS_MUSTER_TX_STAT_round + 1
              ∧ ∃ y, t.muster.tx = some y ∧ y.unanswered = x.missing.map (·.1))

/-- The power loops (R430, R431, R434, R436, R438, R439): the fast loop sets the limit and the gates, lowers the waiting tiles
in Follow, which follow f_wait, and raises those that wait no longer; a burst that ends bars another; the slow loop moves
every running tile by the same steps within its ceilings; a long wait lowers its tile; the telemetry reads as measured.
That the burst limit takes the place of the cap is the model's reading (log entry 142).
Sensors and the thermal model (R444 to R447): a spot's accepted temperature is the higher of two kept readings, a lost
pair falls back on the model's estimate, and 105 °C parks the module; a tile predicted above the target loses one step of
its ceiling and regains it below; a prediction of 105 °C brakes the module until all lie below 100 °C. -/
def Obligations.LoopsAndTemperatures : Prop :=
  (∀ s : State,
      (∀ gates burst, Completes (.fastLoopStep gates burst) s fun t =>
          t = { s with regs := t.regs, tiles := t.tiles, power := t.power } ∧ t.fld PWR_CAP_eff_limit = t.effW / 10
            ∧ t.power.burst = (decide (s.fld PWR_CTRL_mode = 1) && s.power.mayBurst && burst && !s.parked && !s.braked)
            ∧ (s.power.burst = true → t.power.burst = false → t.power.mayBurst = false)
            ∧ t.effW ≤ (if t.power.burst then s.capW * 9 / 8 else s.capW)
            ∧ ∀ n, s.tileUsable n = true →
                t.fld PWR_TILE_gate n = (if s.parked then 0 else min 64 (lget gates n 64))
                  ∧ (∀ f, s.fld PWR_CTRL_mode = 2 → s.parked = false → (s.tile n).idleWait = true ∨ (s.tile n).dwelt = true →
                      (aget s.power.former n).getD (s.fld PWR_TILE_f_now n) = f →
                      t.fld PWR_TILE_f_now n = min f (s.waitClock n) ∧ aget t.power.former n = some f)
                  ∧ (∀ f, s.parked = false →
                      s.fld PWR_CTRL_mode ≠ 2 ∨ ((s.tile n).idleWait = false ∧ (s.tile n).dwelt = false) →
                      aget s.power.former n = some f →
                      t.fld PWR_TILE_f_now n = min f (s.ceiling n) ∧ aget t.power.former n = none))
      ∧ (∀ steps, Completes (.slowLoopStep steps) s fun t =>
          t = { s with regs := t.regs, tiles := t.tiles, power := t.power } ∧ t.fld PWR_CAP_eff_limit = t.effW / 10
            ∧ ∀ n, s.tileUsable n = true →
                (s.parked = true → t.fld PWR_TILE_f_now n = min (s.ceiling n) 48)
                ∧ (s.parked = false → aget s.power.former n = none →
                    t.fld PWR_TILE_f_now n
                      = min (s.ceiling n) (max 48 (((s.fld PWR_TILE_f_now n : Nat) : Int) + steps).toNat)))
      ∧ (∀ n, s.tileUsable n = true → (s.tile n).longWait = true → Completes (.followDwellExpiry n) s fun t =>
          let f := (aget s.power.former n).getD (s.fld PWR_TILE_f_now n)
          OnlyTile n [RegId.PWR_TILE.offset n 0] { s with power := t.power } t ∧ (t.tile n).dwelt = true
            ∧ (s.fld PWR_CTRL_mode = 2 → s.parked = false →
                t.fld PWR_TILE_f_now n = min f (s.waitClock n) ∧ aget t.power.former n = some f)
            ∧ (s.fld PWR_CTRL_mode ≠ 2 ∨ s.parked = true →
                t = s.setTile n { s.tile n with wait := (s.tile n).wait.map fun w => { w with dwelt := true } }))
      ∧ (∀ n, (s.tile n).longWait = false → exec (.followDwellExpiry n) s = .next s)
      ∧ (s.tray.good = false → ∀ a b v c, exec (.telemetryRefresh a b v c) s = .next s)
      ∧ (s.tray.good = true → ∀ a b v c, a < 2 ^ 16 → b < 2 ^ 16 → v < 2 ^ 16 → c < 2 ^ 16 →
          Completes (.telemetryRefresh a b v c) s fun t =>
          t = { s with
                regs := t.regs
                power := { s.power with refreshes := (s.power.refreshes + 1) % 65536 } }
            ∧ RegsKept [RegId.PWR_TELEM.offset 0 0] s t ∧ t.fld PWR_TELEM_p_1us_w = a ∧ t.fld PWR_TELEM_p_100us_w = b
            ∧ t.fld PWR_TELEM_v_in = v ∧ t.fld PWR_TELEM_p_1s_w = c))
  ∧ (∀ s : State,
      (∀ k a b, k < 144 → Completes (.sensorSample [(k, a, b)]) s fun t =>
          let x := s.spot k
          let now := (t.spot k).accepted
          t = { s with regs := t.regs, tiles := t.tiles, power := t.power }
            ∧ t.fld PWR_TILE_temp k = twosOf 8 now
            ∧ (readingOk a = true → readingOk b = true → x.suspect = false → now = max a b)
            ∧ (readingOk a = true → readingOk b = false → now = max a x.estimate)
            ∧ (readingOk a = false → readingOk b = true → now = max b x.estimate)
            ∧ (readingOk a = false → readingOk b = false → now = x.estimate ∧ t.flag PWR_EVT_sensor_lost = true)
            ∧ (105 ≤ now → t.parked = true ∧ bitAt (t.fld PWR_STAT_park_reasons) 2 = true))
      ∧ (∀ k, k < 144 → Completes (.sensorSuspect k) s fun t =>
          t = { s with regs := t.regs, power := t.power } ∧ (t.spot k).suspect = true
            ∧ t.flag PWR_TILE_suspect k = true ∧ t.flag PWR_EVT_sensor_suspect = true
            ∧ RegsKept [RegId.PWR_EVT.offset 0 0, RegId.PWR_TILE.offset k 0] s t)
      ∧ (∀ k, (160 ≤ k ∨ (144 ≤ k ∧ k < 156)) → exec (.sensorSuspect k) s = .next s)
      ∧ ∀ k p e gates, k < 144 → Completes (.thermalModelRun [(k, p, e)] gates) s fun t =>
          let target := ((clampTo 75 100 (s.fld PWR_THERM_target) : Nat) : Int)
          let c := s.thermalCeiling k
          t = { s with regs := t.regs, power := t.power } ∧ (t.spot k).estimate = e
            ∧ (target < p → t.thermalCeiling k = max 48 (min c (s.plainCeiling k) - 1) ∧ t.flag PWR_EVT_thermal_throttle = true)
            ∧ (target - 2 < p → p ≤ target → t.thermalCeiling k = c)
            ∧ (p ≤ target - 2 → t.thermalCeiling k = if c < s.plainCeiling k then c + 1 else c)
            ∧ t.flag PWR_TILE_thr k = decide (t.thermalCeiling k < s.plainCeiling k)
            ∧ t.fld PWR_THERM_hot_pred = twosOf 8 p
            ∧ (105 ≤ p → t.power.brake = true ∧ t.power.burst = false
                ∧ (s.power.brake = false → t.flag PWR_EVT_brake_internal = true))
            ∧ (100 ≤ p → p < 105 → t.power.brake = s.power.brake) ∧ (p < 100 → t.power.brake = false))

/-- Park and the fast throttle (R441 to R444, R450): the first reason parks the module at the lowest clock with every gate
shut, and it stays parked while a reason is left; PARK_EXIT then lets it climb from 450 W; FT_N brakes the module at once,
and its end lets it climb from the brake level. -/
def Obligations.ParkAndFastThrottle : Prop :=
  ∀ s : State,
    (∀ c b, (c = .pwrCtrlPark ∧ b = 4)
          ∨ (c = .ftHoldExpiry ∧ b = 1 ∧ s.flag PWR_STAT_ft_n = true ∧ s.fld PWR_FT_CFG_hold_park_ms ≠ 0)
          ∨ (c = .inputUndervoltage false ∧ b = 3 ∧ s.tray.good = true) →
        Completes c s fun t =>
          t = { s with regs := t.regs, tiles := t.tiles, power := t.power, tray := t.tray } ∧ t.parked = true
            ∧ t.tray = { s.tray with vin := s.tray.vin && !(c == .inputUndervoltage false) }
            ∧ t.fld PWR_STAT_park_reasons = withBit (s.fld PWR_STAT_park_reasons) b true ∧ t.fld PWR_STAT_state = 2
            ∧ t.fld PWR_CAP_eff_limit = t.effW / 10 ∧ t.effW ≤ 450 ∧ (s.parked = true → t.tiles = s.tiles)
            ∧ (s.parked = false → t.flag PWR_EVT_park = true ∧ t.power.burst = false
                ∧ ∀ n, s.tileUsable n = true → t.fld PWR_TILE_f_now n = min (s.ceiling n) 48 ∧ t.fld PWR_TILE_gate n = 0))
    ∧ ((s.flag PWR_STAT_ft_n = false ∨ s.fld PWR_FT_CFG_hold_park_ms = 0) → exec .ftHoldExpiry s = .next s)
    ∧ (∀ c b, (c = .pwrCtrlUnpark ∧ b = 4) ∨ (c = .undervoltageClear ∧ b = 3) → Completes c s fun t =>
        OnlyRegs [RegId.PWR_STAT.offset 0 0] { s with tray := t.tray } t
          ∧ t.tray = { s.tray with vin := s.tray.vin || c == .undervoltageClear }
          ∧ t.fld PWR_STAT_park_reasons = withBit (s.fld PWR_STAT_park_reasons) b false)
    ∧ ((s.parked = false ∨ s.fld PWR_STAT_park_reasons ≠ 0 ∨ s.tray.releasing = true) → exec .parkExit s = .next s)
    ∧ (s.parked = true → s.fld PWR_STAT_park_reasons = 0 → s.tray.releasing = false → Completes .parkExit s fun t =>
        t = { s with regs := t.regs, power := t.power } ∧ t.parked = false ∧ t.power.ramp = 450000
          ∧ (450 < min s.capW (s.fld PWR_COOL_flow_limit_w) → t.power.climbing = true))
    ∧ (s.tray.good = false → ∀ gates, exec (.ftAssert gates) s = .next { s with tray := { s.tray with ft := true } })
    ∧ (∀ gates, s.tray.good = true → Completes (.ftAssert gates) s fun t =>
        t = { s with regs := t.regs, power := t.power, tray := { s.tray with ft := true } } ∧ t.flag PWR_STAT_ft_n = true ∧ t.flag PWR_STAT_ft_ack = true
          ∧ t.flag PWR_EVT_ft = true ∧ t.power.burst = false ∧ t.power.climbing = false
          ∧ (s.power.burst = true → t.power.mayBurst = false)
          ∧ t.fld PWR_CAP_eff_limit = t.effW / 10 ∧ t.effW ≤ s.brakeW
          ∧ t.fld PWR_STAT_state = (if s.parked then 2 else 1)
          ∧ ∀ n, s.tileUsable n = true →
              t.fld PWR_TILE_gate n = if s.parked then 0 else min 64 (lget gates n 64))
    ∧ (s.flag PWR_STAT_ft_n = false → exec .ftDeassert s = .next { s with tray := { s.tray with ft := false } })
    ∧ (s.flag PWR_STAT_ft_n = true → Completes .ftDeassert s fun t =>
        t = { s with regs := t.regs, power := t.power, tray := { s.tray with ft := false } } ∧ t.flag PWR_STAT_ft_n = false
          ∧ (t.power.climbing = true → t.effW ≤ s.brakeW) ∧ t.flag PWR_STAT_ft_ack = false ∧ t.power.ramp = s.brakeW * 1000
          ∧ t.fld PWR_STAT_park_reasons = withBit (s.fld PWR_STAT_park_reasons) 1 false
          ∧ (s.brakeW < min s.capW (s.fld PWR_COOL_flow_limit_w) → t.power.climbing = true))

/-- Modes, coolant, pacing, ageing and droop (R432, R433, R438, R440, R448): a change out of Sprint ends a burst, after which none starts until the 1 s average allows it, and the tiles follow at the next fast-loop step; a stale
coolant report removes derating; an ageing check keeps the tile's Fmax and the powered time in the other half of the record
in flash; a droop is counted. -/
def Obligations.LimitsAndModes : Prop :=
  ∀ s : State,
    (∀ m, m < 4 → Completes (.powerModeWrite m) s fun t =>
        t = { s with regs := t.regs, power := t.power } ∧ RegsKept [RegId.PWR_CTRL.offset 0 0] s t
          ∧ t.fld PWR_CTRL_mode = m ∧ (m = 1 → t.power = s.power)
          ∧ (m ≠ 1 → t.power = { s.power with burst := false, mayBurst := s.power.mayBurst && !s.power.burst }))
    ∧ (s.power.burst = false → exec .burstEnd s = .next s)
    ∧ (s.power.burst = true → Completes .burstEnd s fun t =>
        t = { s with regs := t.regs, power := t.power } ∧ t.power.burst = false ∧ t.power.mayBurst = false)
    ∧ (Completes .coolantStale s fun t =>
        t = { s with regs := t.regs, power := t.power } ∧ t.flag PWR_EVT_cool_stale = true
          ∧ t.fld PWR_COOL_flow_limit_w = s.fuse.sustainedW
          ∧ RegsKept [RegId.PWR_EVT.offset 0 0, RegId.PWR_COOL.offset 0 0, RegId.PWR_CAP.offset 0 0,
              RegId.PWR_STAT.offset 0 0] s t)
    ∧ (∀ w, s.power.limited < 128 → s.power.pace < 65536 → Completes (.paceWindowEnd w) s fun t =>
        t = { s with
              regs := t.regs
              power := { s.power with limited := s.fld PWR_STAT_limiter } }
          ∧ RegsKept [RegId.PWR_PACE.offset 0 0] s t ∧ t.fld PWR_PACE_wait_frac = min 1023 w
          ∧ t.fld PWR_PACE_limited = s.power.limited ∧ t.fld PWR_PACE_pace_node = s.power.pace
          ∧ t.flag PWR_PACE_self = (s.power.pace == s.node)
          ∧ t.fld PWR_PACE_windows = (s.fld PWR_PACE_windows + 1) % 2 ^ 24)
    ∧ (∀ n steps, n < 144 → s.flag FUS_FP_TILE_fused_on n = true → Completes (.ageingCheck n steps) s fun t =>
        let f := s.fld FUS_FP_TILE_fmax_now n - steps
        t = { s with regs := t.regs, flash := { s.flash with record := t.flash.record, last := t.flash.last } }
          ∧ RegsKept [RegId.FUS_FP_TILE.offset n 0, RegId.PWR_EVT.offset 0 0] s t
          ∧ t.fld FUS_FP_TILE_fmax_now n = f
          ∧ (steps ≠ 0 → t.flag PWR_EVT_fmax_aged = true ∧ (f < 120 → t.flag PWR_EVT_fmax_below_nominal = true))
          ∧ (s.flag FUS_STAT_fuses_loaded = true → s.flash.record.length = 2 →
              t.flash.kept = ⟨s.flash.kept.seq + 1, true, s.poweredTime, t.flash.kept.fmax⟩
                ∧ aget t.flash.kept.fmax n = some f
                ∧ ∀ k, s.flash.activeHalf = some k → t.flash.half k = s.flash.half k))
    ∧ ∀ n, n < 144 → Completes (.droopTrip n) s fun t =>
        OnlyRegs [RegId.PWR_TILE.offset n 0] s t
          ∧ t.fld PWR_TILE_droops n = min (2 ^ 16 - 1) (s.fld PWR_TILE_droops n + 1)

/-- The tile interrupt controllers and hold-off (R458, R459): a pending source that is acknowledged enters service and
starts its group's timer, and the EOI takes it out; a controller held in reset does nothing; a timer's end and a new time
change only its group.
The chip interrupt controller (R462 to R466): the source selected for a core has the largest priority, ties to the
lowest number, and lies above what runs; its delivery saves the PC, masks interrupts, and goes to the vector;
nothing is delivered while new management firmware is on trial (R503); the host's sources go out as MSI-X messages. -/
def Obligations.InterruptControllers : Prop :=
  (∀ (n k g v : Nat) (s : State), n < 144 → k < 64 → g < 16 → v < 2 ^ 16 →
      (s.tileInReset n = true → exec (.ticAck n k) s = .next s ∧ exec (.ticEoi n k) s = .next s
          ∧ exec (.holdoffUsWrite (.tile n g) v) s = .next s)
      ∧ (s.tileInReset n = false →
        (s.ticPend n k = false → exec (.ticAck n k) s = .next s)
        ∧ (s.ticPend n k = true → Completes (.ticAck n k) s fun t =>
            OnlyRegs [RegId.TIC_INSVC.offset n 0, RegId.TIC_HOLD.offset n (k / 4)] s t
              ∧ t.fld TIC_INSVC_insvc n = withBit (s.fld TIC_INSVC_insvc n) k true ∧ t.ticPend n k = false
              ∧ t.flag TIC_HOLD_active n (k / 4)
                  = (s.flag TIC_HOLD_active n (k / 4) || s.fld TIC_HOLD_holdoff_us n (k / 4) != 0))
        ∧ (Completes (.ticEoi n k) s fun t =>
            OnlyRegs [RegId.TIC_INSVC.offset n 0] s t
              ∧ t.fld TIC_INSVC_insvc n = withBit (s.fld TIC_INSVC_insvc n) k false)
        ∧ (Completes (.holdoffUsWrite (.tile n g) v) s fun t =>
            OnlyRegs [RegId.TIC_HOLD.offset n g] s t ∧ t.fld TIC_HOLD_holdoff_us n g = v
              ∧ t.flag TIC_HOLD_active n g = (s.flag TIC_HOLD_active n g && v != 0)))
      ∧ (Completes (.holdoffExpiry (.tile n g)) s fun t =>
          OnlyRegs [RegId.TIC_HOLD.offset n g] s t ∧ t.flag TIC_HOLD_active n g = false
            ∧ t.fld TIC_HOLD_holdoff_us n g = s.fld TIC_HOLD_holdoff_us n g)
      ∧ ∀ c, c < 32 →
          (Completes (.holdoffUsWrite (.chip c) v) s fun t =>
            OnlyRegs [RegId.CIC_HOLD.offset c 0] s t ∧ t.fld CIC_HOLD_holdoff_us c = v
              ∧ t.flag CIC_HOLD_active c = (s.flag CIC_HOLD_active c && v != 0))
          ∧ (Completes (.holdoffExpiry (.chip c)) s fun t =>
            OnlyRegs [RegId.CIC_HOLD.offset c 0] s t ∧ t.flag CIC_HOLD_active c = false
              ∧ t.fld CIC_HOLD_holdoff_us c = s.fld CIC_HOLD_holdoff_us c))
  ∧ (∀ s : State, s.cores.length = 4 →
      (∀ c n, s.cicBest c = some n →
          n < 1024 ∧ s.cicCandidate c n = true
            ∧ ∀ m, m < 1024 → s.cicCandidate c m = true →
                s.fld CIC_SRC_prio m < s.fld CIC_SRC_prio n ∨ (s.fld CIC_SRC_prio m = s.fld CIC_SRC_prio n ∧ n ≤ m))
      ∧ (∀ c pc n, c < 4 → s.flag CIC_CTRL_enable = true → (s.core c).insvc.length < 8 → s.cicBest c = some n →
          pc < 2 ^ 64 → s.mgmt.update.proving = none → Completes (.cicDeliver c pc (true, true)) s fun t =>
            let m := s.core c
            t = { s with regs := t.regs, cores := t.cores } ∧ (∀ d, d ≠ c → t.core d = s.core d)
              ∧ RegsKept [RegId.CIC_INSVC.offset (n / 64) 0, RegId.CIC_CUR.offset c 0, RegId.CIC_EVT.offset 0 0,
                  RegId.CIC_HOLD.offset (s.fld CIC_SRC_group n) 0] s t
              ∧ (t.core c).mepc = pc ∧ (t.core c).mcause = 2 ^ 63 + 11 ∧ (t.core c).mie = false ∧ (t.core c).meie = true
              ∧ (t.core c).pc = (s.fld CIC_VBASE_vbase c * 2 ^ 16 + n * 64) % 2 ^ 64
              ∧ (t.core c).insvc = m.insvc ++ [(n, s.cicGroup n)] ∧ t.cicInsvc n = true
              ∧ t.fld CIC_CUR_vector c = n ∧ t.fld CIC_CUR_depth c = m.insvc.length + 1
              ∧ (m.insvc.length = 7 → t.flag CIC_EVT_nest_full = true))
      ∧ (∀ c pc on, 4 ≤ c → exec (.cicDeliver c pc on) s = .next s)
      ∧ (∀ c pc on, c < 4 → (on ≠ (true, true) ∨ s.flag CIC_CTRL_enable = false ∨ 8 ≤ (s.core c).insvc.length
            ∨ s.mgmt.update.proving ≠ none ∨ s.cicBest c = none) →
          exec (.cicDeliver c pc on) s
            = .next { s with cores := lset s.cores c { s.core c with mie := on.1, meie := on.2 } })
      ∧ (∀ k, let n := k % 1024
          (s.cicInsvc n = true → s.onCore n = false → Completes (.cicHostEoi k) s fun t =>
            OnlyRegs [RegId.CIC_INSVC.offset (n / 64) 0] s t ∧ t.cicInsvc n = false)
          ∧ (s.cicInsvc n = false ∨ s.onCore n = true → exec (.cicHostEoi k) s = .next s))
      ∧ ∀ n,
          let v := s.fld CIC_SRC_msix n
          let sends := n < 1024 ∧ s.flag CIC_CTRL_enable = true ∧ s.cicPresentable n = true ∧ s.flag CIC_SRC_host n = true
            ∧ s.pcie.msixEnable = true ∧ s.vectorMasked v = false
          (sends → Completes (.msixSend n) s fun t =>
            t = { s with
                regs := t.regs
                out := s.out ++ [.msix (s.fld CIC_MSIX_ADDR_addr v) (s.fld CIC_MSIX_DATA_data v)] }
              ∧ RegsKept [RegId.CIC_INSVC.offset (n / 64) 0, RegId.CIC_HOLD.offset (s.fld CIC_SRC_group n) 0] s t
              ∧ t.cicInsvc n = true)
          ∧ (¬ sends → exec (.msixSend n) s = .next s))

/-- Tally counters and the tag sampler (R469 to R473): a counter that passes its last value, in any mode, wraps and sets ovf;
once the interval has ended a tag is queued at its tile, two at most, or dropped and counted, and the next interval is drawn
within its bounds; the oldest record of the next tile goes to its paddock's ring
while there is room, and is lost while HBM is out of service.
The level monitors (R474 to R476): an enabled monitor's sample moves its smallest and largest value, raises the alarm
above its level, and counts in its bin; a clear empties all of them. -/
def Obligations.TallyTagsMonitors : Prop :=
  (∀ s : State,
      (∀ n i v, n < 144 → i < 8 → s.flag TL_TALLY_CFG_filt n i = false → v < 2 ^ 48 →
          let mode := s.fld TL_TALLY_CFG_mode n i
          let thr := s.fld TL_TALLY_CFG_thr n i
          let before := lget (s.meter n).before i 0
          let d := if mode = 0 then v else if mode = 1 then (if thr < v then 1 else 0)
            else if mode = 2 then (if v ≤ thr then 1 else 0) else if thr < v ∧ before ≤ thr then 1 else 0
          (s.fld TL_TALLY_CNT_count n i + d < 2 ^ 48 → exec (.tallyOverflow n i v) s = .next s)
          ∧ (2 ^ 48 ≤ s.fld TL_TALLY_CNT_count n i + d → Completes (.tallyOverflow n i v) s fun t =>
              OnlyRegs [RegId.TL_TALLY_CNT.offset n i] s t ∧ t.flag TL_TALLY_CNT_ovf n i = true
                ∧ t.fld TL_TALLY_CNT_count n i = s.fld TL_TALLY_CNT_count n i + d - 2 ^ 48))
      ∧ (∀ n retired times stall lat,
          (s.seqActive n = false ∨ s.flag TL_TAG_CTRL_enable n = false ∨ (s.meter n).left ≠ 0 →
            exec (.tagSample n retired times stall lat) s = .next s)
          ∧ ∀ w, s.seqActive n = true → s.flag TL_TAG_CTRL_enable n = true → (s.meter n).left = 0 →
            (s.tile n).fetch (s.tile n).pc.toNat = some w → Completes (.tagSample n retired times stall lat) s fun t =>
              let q := (s.tile n).tagQueue
              t = { s with regs := t.regs, tiles := t.tiles, meters := t.meters, fresh := s.fresh + 1 } ∧ TilesKept n s t
                ∧ (∀ m, m ≠ n → t.meter m = s.meter m)
                ∧ (let e := min 24 (max 8 (s.fld TL_TAG_CTRL_exp n))
                   let drawn := (t.meter n).left - natOfBool retired
                   1 ≤ drawn ∧ drawn ≤ 2 ^ (e + 1) - 1)
                ∧ t.tile n = { s.tile n with tagLfsr := (t.tile n).tagLfsr, tagQueue := (t.tile n).tagQueue }
                ∧ (q.length < 2 → (t.tile n).tagQueue = q ++ [s.tagRecord n w retired times stall lat]
                    ∧ (∀ o, o ≠ RegId.TL_TAG_STAT.offset n 0 → aget t.regs o = aget s.regs o)
                    ∧ t.fld TL_TAG_STAT_records n = (s.fld TL_TAG_STAT_records n + 1) % 2 ^ 32)
                ∧ (2 ≤ q.length → (t.tile n).tagQueue = q ∧ t.flag TL_TAG_STAT_drop_evt n = true
                    ∧ t.fld TL_TAG_STAT_drops n = min (2 ^ 16 - 1) (s.fld TL_TAG_STAT_drops n + 1)))
      ∧ (s.nextTag = none → exec .tagRecordWrite s = .next s)
      ∧ ∀ n p r rest, s.nextTag = some n → (s.tile n).tagQueue = r :: rest → s.padOfTile n = some p →
          let wr := s.fld GI_PAD_TAGPTR_wr p
          let pages := s.fld GI_PAD_TAG_pages p
          let base := s.fld GI_PAD_TAG_base p * 4096
          let a := base + wr % (64 * pages) * 64
          let taken := fun (t : State) => t.lastTag = n ∧ TilesKept n s t ∧ t.tile n = { s.tile n with tagQueue := rest }
          (s.flag GI_PAD_TAG_enable p = false → Completes .tagRecordWrite s fun t =>
            taken t ∧ t.mem = s.mem ∧ t.fld TL_TAG_STAT_drops n = min (2 ^ 16 - 1) (s.fld TL_TAG_STAT_drops n + 1)
              ∧ t.fld GI_PAD_TAGPTR_drops p = min (2 ^ 16 - 1) (s.fld GI_PAD_TAGPTR_drops p + 1))
          ∧ (s.flag GI_PAD_TAG_enable p = true → pages ≠ 0 →
              (wr + 2 ^ 24 - s.fld GI_PAD_TAGPTR_rd p) % 2 ^ 24 ≠ 64 * pages % 2 ^ 24 →
              s.windowOk p base (pages * 4096) true = true → base + pages * 4096 ≤ 2 ^ 40 → r.length = 8 →
              memWf s.mem = true →
              (s.hbmOn = true → Completes .tagRecordWrite s fun t =>
                taken t ∧ t.bytes a 64 = bytesOfWords r ∧ BytesKept a 64 s t
                  ∧ t.fld GI_PAD_TAGPTR_wr p = (wr + 1) % 2 ^ 24)
              ∧ (s.hbmOn = false → Completes .tagRecordWrite s fun t =>
                taken t ∧ t.mem = s.mem ∧ t.regs = s.regs)))
  ∧ (∀ (m : Monitor) (s : State), m.valid = true →
      let r := m.regs
      let st := s.reg r.stat r.i
      (∀ x, bitAt (s.reg r.cfg r.i) 26 = false → exec (.lmonSample m x) s = .next s)
      ∧ (∀ x v, bitAt (s.reg r.cfg r.i) 26 = true → s.monValue m x = some v → Completes (.lmonSample m x) s fun t =>
          let b := monBin (s.reg r.cfg r.i) v
          let lo := 32 * (b % 2)
          let al := s.reg r.alarm r.i
          OnlyRegs [r.stat.offset r.i 0, r.hist.offset r.i (b / 2)] s t
            ∧ bitsOf (t.reg r.stat r.i) 23 0 = min (bitsOf st 23 0) (min v (2 ^ 24 - 1))
            ∧ bitsOf (t.reg r.stat r.i) 47 24 = max (bitsOf st 47 24) (min v (2 ^ 24 - 1))
            ∧ bitAt (t.reg r.stat r.i) 48 = (bitAt st 48 || (bitAt al 32 && decide (bitsOf al 31 0 < v)))
            ∧ bitsOf (t.reg r.hist r.i (b / 2)) (lo + 31) lo
                = min (2 ^ 32 - 1) (bitsOf (s.reg r.hist r.i (b / 2)) (lo + 31) lo + 1))
      ∧ (Completes (.lmonClear m) s fun t =>
          OnlyRegs (r.stat.offset r.i 0 :: (List.range 16).map fun k => r.hist.offset r.i k) s t
            ∧ bitsOf (t.reg r.stat r.i) 23 0 = 0xFFFFFF ∧ bitsOf (t.reg r.stat r.i) 47 24 = 0
            ∧ ∀ k, k < 16 → t.reg r.hist r.i k = 0))

/-- MCTP (R491 to R493, R508, R512, R524): a binding that the module does not serve and a packet above the limit leave the block
as it is; a message is assembled by binding, requester and tag, up to 8 tags a requester, and one above 8,192 bytes is
discarded and counted; a request of a served type and command is kept, an unknown one answered so or counted; control requests
are answered. Which codes the control and PLDM commands have is taken from outside the spec (log entry 143).
The I3C targets and the PCI Express function (R466, R485, R496, R524): the targets send their provisioned IDs and take the
bus owner's addresses; the telemetry record reads from the power registers, with zeros in standby; a PCI Express reset masks
every vector. -/
def Obligations.ManagementBuses : Prop :=
  (∀ (b : Nat) (s : State),
      let taken := { s.mgmt with inbox := takeFirst b s.mgmt.inbox }
      (s.serves b = true ↔ s.mgmtUp = true ∧ (b = 0 ∨ (b = 1 ∧ s.mgmt.i3c.1 ≠ 0)))
      ∧ (s.serves b = false → ∀ c, (∃ r t som eom bytes, c = .mctpPacket b r t som eom bytes)
            ∨ (∃ e, c = .setEndpointId b e) ∨ c = .getEndpointId b ∨ c = .getMctpVersionSupport b
            ∨ c = .getMessageTypeSupport b ∨ c = .getVendorDefinedMessageSupport b → exec c s = .next s)
      ∧ (s.serves b = true →
        (∀ r t som eom bytes, mctpLimit b < bytes.length → exec (.mctpPacket b r t som eom bytes) s = .next s)
        ∧ (∀ r t eom bytes, s.mgmt.part.find? (partIs b r t) = none →
            exec (.mctpPacket b r t false eom bytes) s = .next s
              ∧ (8 ≤ ((s.mgmt.part ++ s.mgmt.inbox).filter fun e => e.1 == b && e.2.1 == r).length →
                  exec (.mctpPacket b r t true eom bytes) s = .next s))
        ∧ (∀ r t som eom bytes x,
            let rest := s.mgmt.part.filter fun e => !partIs b r t e
            let m := x ++ bytes
            let code := fun i => (lget m i 0).toNat
            let c := Instr.mctpPacket b r t som eom bytes
            bytes.length ≤ mctpLimit b →
            ((som = true ∧ x = [] ∧ ((rest ++ s.mgmt.inbox).filter fun e => e.1 == b && e.2.1 == r).length < 8)
              ∨ (som = false ∧ ∃ e, s.mgmt.part.find? (partIs b r t) = some e ∧ e.2.2.2 = x)) →
            (8192 < m.length → Completes c s fun t' =>
              t' = { s with regs := t'.regs, mgmt := { s.mgmt with part := rest } }
                ∧ RegsKept [RegId.MGT_MCTP_STAT.offset 0 0] s t'
                ∧ t'.fld MGT_MCTP_STAT_oversize = min (2 ^ 16 - 1) (s.fld MGT_MCTP_STAT_oversize + 1))
            ∧ (m.length ≤ 8192 → eom = false → Completes c s fun t' =>
              t' = { s with mgmt := { s.mgmt with part := rest ++ [(b, r, t, m)] } })
            ∧ (m.length ≤ 8192 → eom = true → m ≠ [] →
              let kept := Completes c s fun t' =>
                t' = { s with mgmt := { s.mgmt with part := rest, inbox := s.mgmt.inbox ++ [(b, r, t, m)] } }
              let told := fun (o : Output) => Completes c s fun t' =>
                t' = { s with mgmt := { s.mgmt with part := rest }, out := s.out ++ [o] }
              let counted := Completes c s fun t' =>
                t' = { s with regs := t'.regs, mgmt := { s.mgmt with part := rest } }
                  ∧ t'.fld MGT_MCTP_STAT_unsupported = min (2 ^ 16 - 1) (s.fld MGT_MCTP_STAT_unsupported + 1)
              (code 0 = 0 → 128 ≤ code 1 → (code 2 ∈ [0x01, 0x02, 0x04, 0x05, 0x06] → kept)
                  ∧ (code 2 ∉ [0x01, 0x02, 0x04, 0x05, 0x06] → told (.control b (.unknown (code 2)))))
              ∧ (code 0 = 1 → 128 ≤ code 1 →
                  (code 2 % 64 = 5 → code 3 ∈ [0x01, 0x02, 0x10, 0x13, 0x14, 0x1A, 0x1B, 0x1C, 0x1D] → kept)
                  ∧ (code 2 % 64 = 0 → code 3 = 0x04 → told (.pldm b (.types [0, 5])))
                  ∧ (code 2 % 64 ≠ 0 → code 2 % 64 ≠ 5 → counted))
              ∧ (code 0 ≤ 1 → code 1 < 128 → Completes c s fun t' =>
                  t' = { s with mgmt := { s.mgmt with part := rest } })
              ∧ (2 ≤ code 0 % 128 → code 0 ≠ 0x7E → code 0 ≠ 0xFE → counted)
              ∧ (code 0 = 0x7E → s.boot.recovery = false → 6 ≤ m.length →
                ofBytes (slice m 1 2) = Config.vendorId.toNat → bitAt (code 4) 0 = false →
                  (bodyLength (code 3) = some (m.length - 6) → kept)
                  ∧ (bodyLength (code 3) = none →
                      told (.mctp b (halducHead (code 3) true (bitsOf (code 4) 7 1) 2))))))
        ∧ (∀ e, Completes (.setEndpointId b e) s fun t =>
            t = { s with
                mgmt := { taken with eid := lset s.mgmt.eid b (e % 256) }
                out := s.out ++ [.control b (.endpointId (e % 256))] })
        ∧ (Completes (.getEndpointId b) s fun t =>
            t = { s with mgmt := taken, out := s.out ++ [.control b (.endpointId (lget s.mgmt.eid b 0))] })
        ∧ (Completes (.getMctpVersionSupport b) s fun t =>
            t = { s with mgmt := taken, out := t.out, fresh := s.fresh + 1 }
              ∧ ∃ w, t.out = s.out ++ [.control b (.versions w)])
        ∧ (Completes (.getMessageTypeSupport b) s fun t =>
            t = { s with mgmt := taken, out := s.out ++ [.control b (.types [0x00, 0x01, 0x7E])] })
        ∧ (Completes (.getVendorDefinedMessageSupport b) s fun t =>
            t = { s with mgmt := taken, out := s.out ++ [.control b (.vendor Config.vendorId.toNat)] })))
  ∧ (∀ s : State,
      let id := fun target => target + 2 * (s.fuse.serial.toNat % 2 ^ 31) + 2 ^ 32 + 2 ^ 33 * Config.mipiId.toNat
      (s.auxOn = true ↔ 2 ≤ s.tray.mate ∧ s.tray.aux = true)
      ∧ (s.auxOn = false → ∀ c, (∃ a b, c = .i3cEntdaa a b) ∨ (∃ n, c = .i3cTelemetryRead n) ∨ c = .i3cTelemetryWrite →
          exec c s = .next s)
      ∧ (s.auxOn = true →
        (∀ a b, Completes (.i3cEntdaa a b) s fun t =>
          t = { s with
            mgmt := { s.mgmt with i3c := (if s.mgmtUp then a else s.mgmt.i3c.1, b) }
            out := s.out ++ [.entdaa (if s.mgmtUp then [id 0, id 1] else [id 1])] })
        ∧ (exec (.i3cTelemetryRead 0) s = .next s)
        ∧ (∀ n, 0 < n → n ≤ 16 → Completes (.i3cTelemetryRead n) s fun t => ∃ record : List Byte,
            t = { s with out := s.out ++ [.i3c (record.take n)] } ∧ record.length = 16
              ∧ (s.tray.good = true → record.take 8 = bytesOf 8 (s.reg .PWR_TELEM)
                  ∧ slice record 8 2 = bytesOf 2 (s.fld PWR_CAP_eff_limit)
                  ∧ lget record 10 0 = BitVec.ofNat 8 (s.fld PWR_STAT_state + 8 * s.fld PWR_STAT_park_reasons)
                  ∧ lget record 11 0 = BitVec.ofNat 8 (s.fld PWR_THERM_hot_now))
              ∧ (s.tray.good = false → record.take 12 = List.replicate 12 0)
              ∧ slice record 12 2 = bytesOf 2 s.power.refreshes)
        ∧ (Completes .i3cTelemetryWrite s fun t => t = { s with out := s.out ++ [.i3cNack] }))
      ∧ (Completes .pcieReset s fun t =>
          t = { s with regs := t.regs, pcie := ⟨false, false, false⟩ }
            ∧ RegsKept ((List.range 32).map fun v => RegId.CIC_MSIX_DATA.offset v 0) s t
            ∧ ∀ v, v < 32 → t.vectorMasked v = true
                ∧ t.fld CIC_MSIX_DATA_data v = s.fld CIC_MSIX_DATA_data v)
      ∧ ∀ a b c, Completes (.pcieConfigWrite a b c) s fun t => t = { s with pcie := ⟨a, b, c⟩ })

/-- Halduc commands (R435, R444, R448, R494, R495, R507, R510, R511): each takes its message, acts where its binding may send
it, and answers with its completion code; an attestation is signed while the next ones on its binding are refused, and its
response goes out with the first step of no command; a recovery-mode ROM serves none of them. -/
def Obligations.HalducCommands : Prop :=
  ∀ (b i : Nat) (s : State), s.serves b = true →
    let answers := fun (command cc : Nat) (t : State) => ∃ body,
      t.out = s.out ++ [.mctp b (halducHead command true i cc ++ body)]
    let only := fun (command cc : Nat) (t : State) =>
      t = { s with
        mgmt := { s.mgmt with inbox := takeFirst b s.mgmt.inbox }
        out := s.out ++ [.mctp b (halducHead command true i cc)] }
    (s.boot.recovery = true → ∀ c, c = .getIdentity b i ∨ (∃ x, c = .setCap b i x) ∨ (∃ x, c = .park b i x)
          ∨ (∃ x y, c = .coolant b i x y) ∨ (∃ x, c = .getSetting b i x) ∨ (∃ x y z, c = .setSetting b i x y z)
          ∨ (∃ x y, c = .getCert b i x y) ∨ (∃ x y, c = .attest b i x y) → exec c s = .next s)
    ∧ (s.boot.recovery = false →
      (Completes (.getIdentity b i) s fun t =>
          ∃ v1 v2 v3 v4, t = { s with
            mgmt := { s.mgmt with inbox := takeFirst b s.mgmt.inbox }
            out := s.out ++ [.mctp b (halducHead 0x01 true i 0
                ++ (bytesOf 8 s.fuse.serial.toNat ++ bytesOf 1 s.fuse.variant ++ bytesOf 1 s.fuse.stepping
                  ++ bytesOf 1 s.fuse.svn ++ bytesOf 1 0 ++ (bytesOf 4 v1 ++ bytesOf 4 v2 ++ bytesOf 4 v3 ++ bytesOf 4 v4)))] }
            ∧ (∀ k, s.slotInUse 1 = some k → v1 = fwVersion (s.fwSlot 1 k))
            ∧ (∀ k, s.slotInUse 2 = some k → v2 = fwVersion (s.fwSlot 2 k))
            ∧ (∀ k, s.slotInUse 3 = some k → v3 = fwVersion (s.fwSlot 3 k))
            ∧ (∀ k, k < 2 → s.fld FUS_SI_STAT_source = k + 1 → v4 = fwVersion (s.siContainer k)))
      ∧ (∀ v,
          let mine := if b = 0 then PWR_CAP_cap_host else PWR_CAP_cap_tray
          (v < 60 → Completes (.setCap b i v) s fun t =>
            answers 0x02 6 t ∧ t.flag PWR_CAP_refused = true ∧ t.fld mine = s.fld mine)
          ∧ (60 ≤ v → Completes (.setCap b i v) s fun t =>
            t.out = s.out ++ [.mctp b (halducHead 0x02 true i 0 ++ bytesOf 2 (t.fld PWR_CAP_eff_limit))]
              ∧ t.fld mine = min v (s.fuse.sustainedW / 10)))
      ∧ (b = 0 → (∀ x, Completes (.park b i x) s (only 0x03 4)) ∧ (∀ x y, Completes (.coolant b i x y) s (only 0x04 4)))
      ∧ (b = 1 → (∀ x, Completes (.getSetting b i x) s (only 0x06 4))
          ∧ (∀ x v r, Completes (.setSetting b i x v r) s (only 0x07 4)))
      ∧ (b = 1 → (∀ x, 2 ≤ x → Completes (.park b i x) s (only 0x03 6))
          ∧ (Completes (.park b i 1) s fun t =>
            answers 0x03 0 t ∧ t.parked = true ∧ bitAt (t.fld PWR_STAT_park_reasons) 0 = true)
          ∧ (Completes (.park b i 0) s fun t =>
            answers 0x03 0 t ∧ t.parked = s.parked
              ∧ t.fld PWR_STAT_park_reasons = withBit (s.fld PWR_STAT_park_reasons) 0 false)
          ∧ (∀ flow inlet, flow < 4096 → inlet < 1024 → Completes (.coolant b i flow inlet) s fun t =>
            answers 0x04 0 t ∧ t.fld PWR_COOL_flow = flow ∧ t.fld PWR_COOL_inlet = inlet ∧ t.coolAge = 0
              ∧ t.fld PWR_COOL_flow_limit_w = flowLimit s.fuse.sustainedW flow inlet))
      ∧ (b = 0 → (∀ x : Nat, isSetting x = false → Completes (.getSetting b i x) s (only 0x06 6))
          ∧ (∀ x v r, isSetting x = false → Completes (.setSetting b i x v r) s (only 0x07 6))
          ∧ (∀ x, isSetting x = true → Completes (.getSetting b i x) s fun t =>
            t.out = s.out ++ [.mctp b (halducHead 0x06 true i 0 ++ bytesOf 8 (s.settingValue x))]
              ∧ t.flash = s.flash)
          ∧ (∀ x v, isSetting x = true → s.flash.settings.length = 2 → Completes (.setSetting b i x v false) s fun t =>
            answers 0x07 0 t ∧ t.settingValue x = v.toNat
              ∧ ∀ y, y ≠ x → y ≠ 6 → t.settingValue y = s.settingValue y)
          ∧ (∀ x v, isSetting x = true → s.flash.settings.length = 2 → Completes (.setSetting b i x v true) s fun t =>
            answers 0x07 0 t ∧ ∀ e ∈ t.stored.values, e.1 ≠ x))
      ∧ (∀ at_ n, (4096 < n → Completes (.getCert b i at_ n) s (only 0x10 6))
          ∧ (n ≤ 4096 → Completes (.getCert b i at_ n) s fun t => t.out = s.out ++ [.mctp b (halducHead 0x10 true i 0
              ++ (bytesOf 4 at_ ++ bytesOf 4 7256 ++ slice s.fuse.certificate at_ n))]))
      ∧ ∀ nonce mask,
          let busy := ∃ j ∈ s.mgmt.signing, j.binding = b
          (nonce.length ≠ 32 → Completes (.attest b i nonce mask) s (only 0x11 3))
          ∧ (nonce.length = 32 → busy → Completes (.attest b i nonce mask) s (only 0x11 5))
          ∧ (nonce.length = 32 → ¬ busy → Completes (.attest b i nonce mask) s fun t =>
              t = { s with mgmt := { s.mgmt with
                  inbox := takeFirst b s.mgmt.inbox
                  signing := s.mgmt.signing ++ [⟨b, i, mask % 256, nonce⟩] } }
                ∧ (s.mgmt.signing = [] → ∃ body,
                    t.signTurn = { t with
                        mgmt := { t.mgmt with signing := [] }
                        out := s.out ++ [.mctp b (halducHead 0x11 true i 0 ++ (body ++ s.fuse.sign body))] }
                      ∧ (s.fuse.sign body).length = 4627
                      ∧ body.take 32 = nonce ∧ slice body 32 8 = bytesOf 8 s.fuse.serial.toNat
                      ∧ slice body 40 4 = bytesOf 1 s.fuse.variant ++ bytesOf 1 s.fuse.stepping ++ bytesOf 1 s.fuse.svn
                          ++ bytesOf 1 (mask % 256)
                      ∧ slice body 48 8 = bytesOf 8 s.beatNo)))

/-- The transfer of a firmware component (R498 to R500, R512): one agent holds update mode; a component's slot is erased and
its data requested piece by piece and written as it arrives; a whole good container goes on to verify, a block that fails
three times ends it; the verified component stands in its slot with activation number 0, in recovery mode one above the other
slot's; a cancel or a silent agent ends the update and leaves a partly written slot erased. -/
def Obligations.FirmwareTransfers : Prop :=
  ∀ (b : Nat) (s : State),
    let a := s.asker b
    let taken := { s.mgmt with inbox := takeFirst b s.mgmt.inbox }
    let u := s.mgmt.update
    let tells := fun (m : PldmMsg) (t : State) => t.out = s.out ++ [.pldm b m]
    let told := fun (m : PldmMsg) (t : State) => ∀ x, u.agent = some x → t.out = s.out ++ [.pldm x.1 m]
    let refused := fun (op : PldmOp) (code : PldmCode) (t : State) =>
      t = { s with mgmt := taken, out := s.out ++ [.pldm b (.answer op code)] }
    let holds := s.holds a = true
    let room := u.slot < 2 ∧ s.flash.si.length = 2 ∧ s.flash.fw.length = 6 ∧ s.flash.actNo.length = 6 ∧ 1 ≤ u.component
      ∧ u.component ≤ 4
    let slotHas := fun (t : State) (x : List Byte) => if u.component = 4 then t.siContainer u.slot = x
      else t.fwSlot u.component u.slot = x
    (∀ x t m, s.mgmt.inbox.find? (fun e => e.1 == b) = some (b, x, t, m) → a = (b, x))
    ∧ (s.serves b = false → ∀ c, c = .queryDeviceIdentifiers b ∨ c = .getFirmwareParameters b
          ∨ (∃ x, c = .requestUpdate b x) ∨ (∃ x, c = .passComponentTable b x) ∨ (∃ x y, c = .updateComponent b x y)
          ∨ c = .activateFirmware b ∨ c = .getStatus b ∨ c = .cancelUpdateComponent b ∨ c = .cancelUpdate b →
        exec c s = .next s)
    ∧ (s.serves b = true →
      (Completes (.queryDeviceIdentifiers b) s fun t =>
          t = { s with mgmt := taken, out := t.out }
            ∧ ∃ id, tells (.identifiers ⟨Config.vendorId.toNat, id, 0x120000, s.fuse.stepping⟩) t
                ∧ (s.fuse.variant = 0x0C → id = 0x4812) ∧ (s.fuse.variant = 0x0A → id = 0x4810)
                ∧ (s.fuse.variant = 0x08 → id = 0x4808))
      ∧ (Completes (.getFirmwareParameters b) s fun t => t = { s with mgmt := taken, out := t.out }
          ∧ ∃ l, tells (.parameters l) t ∧ l.map (·.1) = [(0x000A, 1), (0x000A, 2), (0x000A, 3), (0x0003, 4)]
            ∧ (∀ c k, c < 4 → s.slotInUse c = some k → ∀ e ∈ l, e.1.2 = c → e.2.1 = fwVersion (s.fwSlot c k))
            ∧ ∀ c k, u.applied = [(c, k)] → c < 4 → ∀ e ∈ l, e.1.2 = c → e.2.2 = fwVersion (s.fwSlot c k))
      ∧ (Completes (.getStatus b) s fun t =>
          t = { s with mgmt := taken, out := s.out ++ [.pldm b (.status s.updState (s.fld FWU_STAT_component))] })
      ∧ (∀ mts,
          (u.agent ≠ none ∨ s.updState ≠ 0 → Completes (.requestUpdate b mts) s
            (refused .requestUpdate .alreadyInUpdateMode))
          ∧ (u.agent = none → s.updState = 0 → Completes (.requestUpdate b mts) s fun t =>
            tells (.answer .requestUpdate .success) t ∧ t.updState = 1 ∧ t.fld FWU_STAT_agent = b
              ∧ t.mgmt.update = { u with agent := some a, mts := mts }))
      ∧ (∀ c, Completes (.passComponentTable b c) s (refused .passComponentTable
          (if s.holds a && s.updState == 1 && s.mayUpdate c then .success else .refused)))
      ∧ (∀ c, s.mayUpdate c = true ↔ 1 ≤ c.2 ∧ c.2 ≤ 4 ∧ c.1 = (if c.2 = 4 then 0x0003 else 0x000A)
          ∧ (s.boot.recovery = true → c.2 = 1 ∨ c.2 = 4))
      ∧ (∀ c n,
          let may := holds ∧ (s.updState = 1 ∨ s.updState = 5) ∧ s.mayUpdate c = true ∧ n ≤ slotBytes c.2
          (¬ may → Completes (.updateComponent b c n) s (refused .updateComponent .refused))
          ∧ (may → s.flash.fw.length = 6 → s.flash.actNo.length = 6 → s.flash.si.length = 2 →
            Completes (.updateComponent b c n) s fun t =>
              t.out = s.out ++ [.pldm b (.answer .updateComponent .success),
                  .pldm b (.requestData 0 (min (min u.mts 4096) n))]
                ∧ t.updState = 2 ∧ t.fld FWU_STAT_component = c.2 ∧ t.fld FWU_STAT_blocks_done = 0
                ∧ t.mgmt.update.component = c.2 ∧ t.mgmt.update.slot = s.targetSlot c.2 ∧ t.mgmt.update.bytes = []
                ∧ (c.2 ≠ 4 → t.fwSlot c.2 (s.targetSlot c.2) = [] ∧ t.fwActNo c.2 (s.targetSlot c.2) = 0)
                ∧ (c.2 = 4 → t.siContainer (s.targetSlot c.2) = [])))
      ∧ ((holds ∧ 2 ≤ s.updState ∧ s.updState ≤ 4) → Completes (.cancelUpdateComponent b) s fun t =>
          tells (.answer .cancelUpdateComponent .success) t ∧ t.updState = 1 ∧ t.mgmt.update.bytes = [] ∧ slotHas t [])
      ∧ (¬ (holds ∧ 2 ≤ s.updState ∧ s.updState ≤ 4) →
          Completes (.cancelUpdateComponent b) s (refused .cancelUpdateComponent .refused))
      ∧ ((holds ∧ s.updState ≠ 6) → Completes (.cancelUpdate b) s fun t =>
          tells (.answer .cancelUpdate .success) t ∧ t.updState = 0 ∧ t.mgmt.update.agent = none
            ∧ t.mgmt.update.applied = [] ∧ (s.transferring = false → t.flash = s.flash)
            ∧ (s.transferring = true → slotHas t []))
      ∧ (¬ (holds ∧ s.updState ≠ 6) → Completes (.cancelUpdate b) s (refused .cancelUpdate .refused)))
    ∧ (u.agent = none ∨ s.updState = 6 → exec .updateAgentTimeout s = .next s)
    ∧ (u.agent ≠ none → s.updState ≠ 6 → Completes .updateAgentTimeout s fun t =>
        t = { s with regs := t.regs, mgmt := t.mgmt, flash := t.flash } ∧ t.updState = 0 ∧ t.mgmt.update.agent = none
          ∧ t.mgmt.update.bytes = [] ∧ (s.transferring = false → t.flash = s.flash)
          ∧ (s.transferring = true → slotHas t [])
          ∧ (s.transferring = false → RegsKept [RegId.FWU_STAT.offset 0 0] s t))
    ∧ (s.updState ≠ 2 ∨ s.mgmtUp = false → ∀ bs, exec (.firmwareData bs) s = .next s)
    ∧ (s.updState = 2 → s.mgmtUp = true → u.agent ≠ none → u.redo = none → room → ∀ bs,
        let x := u.bytes ++ bs.take u.want.2
        let k := s.fld FWU_STAT_blocks_done
        let whole := fwPieceAt k + blockSize x k ≤ x.length ∧ k < fwBlocks x
        (¬ whole → x.length < u.size → Completes (.firmwareData bs) s fun t =>
          t = { s with mgmt := { s.mgmt with update := { u with bytes := x } }, out := t.out, flash := t.flash }
            ∧ slotHas t x ∧ told (.requestData x.length (min (min u.mts 4096) (u.size - x.length))) t)
        ∧ (whole → fwPieceOk x k = true → fwBlocks x = k + 1 → u.size ≤ x.length → Completes (.firmwareData bs) s fun t =>
          told (.transferComplete 0) t ∧ slotHas t x ∧ t.updState = 3 ∧ t.mgmt.update.bytes = x
            ∧ t.fld FWU_STAT_blocks_done = k + 1 ∧ RegsKept [RegId.FWU_STAT.offset 0 0] s t)
        ∧ (whole → fwPieceOk x k = false → u.tries < 2 → Completes (.firmwareData bs) s fun t =>
          t.updState = 2 ∧ t.mgmt.update.redo = some (k, []) ∧ t.mgmt.update.tries = u.tries + 1
            ∧ told (.requestData (fwPieceAt k) (min (min u.mts 4096) (blockSize x k))) t)
        ∧ (whole → fwPieceOk x k = false → u.tries = 2 → Completes (.firmwareData bs) s fun t =>
          told (.transferComplete 0x70) t ∧ t.updState = 1 ∧ t.mgmt.update.bytes = [] ∧ slotHas t []))
    ∧ (s.updState ≠ 3 ∨ s.mgmtUp = false → exec .verifyDone s = .next s)
    ∧ (s.updState = 3 → s.mgmtUp = true → u.agent ≠ none → Completes .verifyDone s fun t =>
        let v := s.fuse.fwCause u.component s.seqInUse u.bytes
        told (.verifyComplete v) t ∧ (v = 0 → t.updState = 4 ∧ t.mgmt = s.mgmt ∧ t.flash = s.flash)
          ∧ (v ≠ 0 → t.updState = 1 ∧ t.flag FWU_EVT_verify_fail = true ∧ t.mgmt.update.bytes = [] ∧ slotHas t []))
    ∧ (s.updState ≠ 4 ∨ s.mgmtUp = false → exec .applyDone s = .next s)
    ∧ (s.updState = 4 → s.mgmtUp = true → u.agent ≠ none → room → Completes .applyDone s fun t =>
          told .applyComplete t ∧ t.updState = 5 ∧ t.mgmt.update.applied = u.applied ++ [(u.component, u.slot)]
            ∧ slotHas t u.bytes ∧ (u.component = 4 → t.flash = { s.flash with si := t.flash.si })
            ∧ (u.component ≠ 4 → t.flash.si = s.flash.si ∧ t.fwActNo u.component u.slot
                = if s.boot.recovery then s.fwActNo u.component (1 - u.slot) + 1 else 0))

/-- The activation of components, the counter and the measurements (R412, R502, R503, R505, R506, R509, R512): a structure
image needs no more than its slot; microcode waits for quiet tiles with every run cleared; management firmware runs from
its new slot until it confirms, or falls back, or leaves the module in recovery mode; a component that fails its check as it is
taken from flash is not activated (that the rest goes on is the model's choice, log entry 146); the security-version counter
only follows its fuses; a measurement is extended. -/
def Obligations.ComponentsActivate : Prop :=
  ∀ (b : Nat) (s : State),
    let u := s.mgmt.update
    let ended := fun (t : State) => t.updState = 0 ∧ t.mgmt.update.agent = none ∧ t.mgmt.update.queue = []
    let joins := if s.mgmt.i3c.1 = 0 then [Output.hotJoin] else []
    (s.serves b = true →
      (s.holds (s.asker b) = false ∨ s.updState ≠ 5 → Completes (.activateFirmware b) s fun t =>
          t = { s with
              mgmt := { s.mgmt with inbox := takeFirst b s.mgmt.inbox }
              out := s.out ++ [.pldm b (.answer .activateFirmware .refused)] })
      ∧ (s.holds (s.asker b) = true → s.updState = 5 → s.boot.recovery = true → Completes (.activateFirmware b) s fun t =>
          ended t ∧ t.boot = { s.boot with recovery := false, step := 2 } ∧ t.flash = s.flash)
      ∧ (s.holds (s.asker b) = true → s.updState = 5 → s.boot.recovery = false →
        (∀ k, u.applied = [(4, k)] → Completes (.activateFirmware b) s fun t =>
          ended t ∧ t.flash = s.flash ∧ t.out = s.out ++ [.pldm b (.activating 0)])
        ∧ (∀ c k, u.applied = [(c, k)] → 1 ≤ c → c ≤ 3 → s.slotGood c k = false → Completes (.activateFirmware b) s fun t =>
          ended t ∧ t.flag FWU_EVT_verify_fail = true ∧ t.flash = s.flash)
        ∧ (∀ k, u.applied = [(2, k)] → s.slotGood 2 k = true → Completes (.activateFirmware b) s fun t =>
          t.updState = 6 ∧ t.fld FWU_STAT_component = 2 ∧ t.mgmt.update.queue = [(2, k)] ∧ t.mgmt.update.loading = false
            ∧ t.out = s.out ++ [.pldm b (.activating 30)]
            ∧ ∀ p, p < 8 → (s.flag GI_PAD_CFG_valid p = true → t.flag GI_PAD_CFG_run p = false)
                ∧ (p ∈ t.mgmt.update.runs ↔ s.flag GI_PAD_CFG_valid p = true ∧ s.flag GI_PAD_CFG_run p = true))
        ∧ (∀ k, u.applied = [(1, k)] → s.slotGood 1 k = true → k < 2 → s.flash.fw.length = 6 → s.flash.actNo.length = 6 →
          Completes (.activateFirmware b) s fun t =>
            t.updState = 6 ∧ t.mgmt.update.proving = some k ∧ t.flag FWU_STAT_confirm = false
              ∧ t.cores = s.cores.map (fun m => { MgtCore.reset with insvc := m.insvc }) ∧ t.flag FWU_SLOT_in_use 0 k = true
              ∧ t.fwActNo 1 k = s.fwActNo 1 (1 - k) + 1 ∧ t.fld FWU_STAT_component = 1
              ∧ t.out = s.out ++ [.pldm b (.activating 400)] ++ joins)))
    ∧ ((s.activating 2 = none ∨ u.loading = true ∨ s.chipReset = true ∨ s.tilesQuiet = false) →
        exec .microcodeQuiesced s = .next s)
    ∧ (∀ k, s.activating 2 = some k → u.loading = false → s.chipReset = false →
        (s.tilesQuiet = true → s.slotGood 2 k = true → Completes .microcodeQuiesced s fun t =>
          t = { s with mgmt := { s.mgmt with update := { u with loading := true } } })
        ∧ (s.tilesQuiet = true → s.slotGood 2 k = false → u.queue = [(2, k)] → (∀ p ∈ u.runs, p < 8) →
          Completes .microcodeQuiesced s fun t =>
            ended t ∧ t.flag FWU_EVT_verify_fail = true ∧ t.flash = s.flash
              ∧ ∀ p ∈ u.runs, t.flag GI_PAD_CFG_run p = true)
        ∧ (u.queue = [(2, k)] → (∀ p ∈ u.runs, p < 8) → Completes .quiesceTimeout s fun t =>
          ended t ∧ t.flag FWU_EVT_quiesce_timeout = true ∧ t.flash = s.flash ∧ t.tiles = s.tiles
            ∧ ∀ p ∈ u.runs, t.flag GI_PAD_CFG_run p = true))
    ∧ ((s.activating 2 = none ∨ u.loading = true ∨ s.chipReset = true) → exec .quiesceTimeout s = .next s)
    ∧ ((s.activating 2 = none ∨ u.loading = false ∨ s.chipReset = true) →
        ∀ failed, exec (.microcodeBroadcastDone failed) s = .next s)
    ∧ (∀ k failed, u.queue = [(2, k)] → u.loading = true → s.chipReset = false → k < 2 → s.flash.fw.length = 6 →
        s.flash.actNo.length = 6 → (∀ p ∈ u.runs, p < 8) → Completes (.microcodeBroadcastDone failed) s fun t =>
          ended t ∧ t.mem = s.mem ∧ t.fwActNo 2 k = s.fwActNo 2 (1 - k) + 1 ∧ t.flag FWU_SLOT_in_use 1 k = true
            ∧ (∀ p ∈ u.runs, t.flag GI_PAD_CFG_run p = true)
            ∧ ∀ n, s.tileUsable n = true → (failed.contains n = true → t.tileUsable n = false
                  ∧ t.flag FUS_FP_TILE_muster_fail n = true)
                ∧ (failed.contains n = false → t.tileUsable n = true))
    ∧ (u.proving = none → exec .confirmTimeout s = .next s ∧ Completes .fwConfirm s fun t =>
        OnlyRegs [RegId.FWU_STAT.offset 0 0] s t ∧ t.flag FWU_STAT_confirm = true ∧ t.updState = s.updState)
    ∧ (∀ k, u.proving = some k →
        (Completes .fwConfirm s fun t =>
          ended t ∧ t.mgmt.update.proving = none ∧ t.flag FWU_STAT_confirm = true ∧ t.flash.fw = s.flash.fw
            ∧ t.flash.actNo = s.flash.actNo ∧ t.cores = s.cores)
        ∧ (k < 2 → s.flash.fw.length = 6 → s.flash.actNo.length = 6 → Completes .confirmTimeout s fun t =>
          ended t ∧ t.mgmt.update.proving = none ∧ t.flag FWU_EVT_act_fallback = true ∧ t.fwActNo 1 k = 0
            ∧ t.fwSlot 1 k = s.fwSlot 1 k ∧ t.flag FWU_SLOT_in_use 0 k = false
            ∧ (s.slotGood 1 (1 - k) = true → t.cores = s.cores.map (fun m => { MgtCore.reset with insvc := m.insvc })
                ∧ t.flag FWU_SLOT_in_use 0 (1 - k) = true ∧ t.boot = s.boot)
            ∧ (s.slotGood 1 (1 - k) = false → t.boot = { s.boot with recovery := true }
                ∧ t.flag MGT_ROT_STAT_recovery = true)))
    ∧ (u.advance = none → exec .svnAdvanceDone s = .next s)
    ∧ (∀ v, u.advance = some v → v < 128 → Completes .svnAdvanceDone s fun t =>
        t = { s with
            regs := t.regs
            fuse := { s.fuse with svn := v }
            mgmt := { s.mgmt with update := { u with advance := none } } }
          ∧ RegsKept [RegId.MGT_ROT_STAT.offset 0 0, RegId.FWU_EVT.offset 0 0] s t
          ∧ t.fld MGT_ROT_STAT_svn_count = v ∧ t.flag FWU_EVT_svn_advanced = true)
    ∧ ∀ w : Word64, s.mgmt.meas.length = 8 → Completes (.measExtend w) s fun t =>
        t = { s with mgmt := { s.mgmt with meas := t.mgmt.meas } }
          ∧ lget t.mgmt.meas 7 0 = Config.sha3 (digestBytes (lget s.mgmt.meas 7 0) ++ bytesOf 8 w.toNat)
          ∧ ∀ k, k < 7 → lget t.mgmt.meas k 0 = lget s.mgmt.meas k 0

/-- Mating, main power and removal (R447, R450, R518 to R529, R537): the levels mate in their order, and again
after a removal, with PWR_EN open in between; the stage starts once the contacts, both supplies, the time off, the switch and
PWR_EN allow it; the end of its ramp starts the boot with everything that power holds as after reset and the pins sampled; a
trip turns it off until PWR_EN cycles; a release parks the module, saves the record in its other half and lets it go off; a
transfer that loses power leaves a slot that fails. -/
def Obligations.MainPower : Prop :=
  ∀ s : State,
    let live := s.tray.live
    let starts := fun (x : Tray) => x.pwrEn = true ∧ 4 ≤ x.mate ∧ x.aux = true ∧ x.vin = true ∧ x.ready ≤ s.now
      ∧ x.switch = true ∧ x.live = false ∧ x.mustCycle = false
    let started := fun (x : Tray) (t : State) => (starts x → t = { s with tray := { x with ramping := true } })
      ∧ (¬ starts x → t = { s with tray := x })
    let off := fun (t : State) => t.regs = [] ∧ t.mem = [] ∧ t.tiles = [] ∧ t.tray.good = false
      ∧ t.tray.ramping = false ∧ t.pending = s.pending ∧ t.out = s.out ∧ t.now = 0
      ∧ (s.tray.good = true → t.tray.ready = 1000000000)
      ∧ (s.transferring = false → s.flash.last = none → t.flash = { s.flash with dump := t.flash.dump })
      ∧ (s.transferring = true → s.mgmt.update.component ≠ 4 → t.fwSlot s.mgmt.update.component s.mgmt.update.slot = [])
      ∧ (∀ h, s.flash.last = some (.half h) → t.flash.half (1 - h) = s.flash.half (1 - h))
      ∧ (s.mgmt.update.advance = none → t.fuse = s.fuse)
    (∀ c, c = .thermalTrip ∨ c = .inputUndervoltage true ∨ c = .inputOvervoltage ∨ c = .overcurrent →
        let vin := s.tray.vin && !(c == .inputUndervoltage true)
        (live = false → exec c s = .next { s with tray := { s.tray with vin := vin } })
        ∧ (live = true → Completes c s fun t =>
            off t ∧ t.tray.mustCycle = (s.tray.mustCycle || s.tray.pwrEn) ∧ t.tray.mate = s.tray.mate ∧ t.tray.vin = vin
              ∧ t.tray.trip = (s.tray.trip || c == .thermalTrip)))
    ∧ (∀ level pos rcvr,
        (level = 0 ∨ 4 < level ∨ s.tray.mate + 1 < level ∨ 4 ≤ s.tray.mate →
          exec (.connectorMate level pos rcvr) s = .next s)
        ∧ (level = s.tray.mate + 1 → level ≤ 2 → Completes (.connectorMate level pos rcvr) s fun t =>
            t = { s with tray := { s.tray with mate := level, aux := s.tray.aux || level == 2 } })
        ∧ (level = s.tray.mate + 1 → level = 3 → Completes (.connectorMate level pos rcvr) s fun t =>
            t = { s with tray := { s.tray with mate := 3, vin := true, pos := pos % 64, rcvr := rcvr } })
        ∧ (level = s.tray.mate + 1 → level = 4 → Completes (.connectorMate level pos rcvr) s
            (started { s.tray with mate := 4, pos := pos % 64, rcvr := rcvr }))
        ∧ (1 ≤ level → level ≤ s.tray.mate → s.tray.mate < 4 → Completes (.connectorMate level pos rcvr) s fun t =>
            let x := { s.tray with
              mate := level, switch := false, pwrEn := false, mustCycle := false, trip := false
              aux := decide (level = 2 ∨ (level = 3 ∧ s.tray.aux = true)), vin := decide (level = 3) }
            t = { s with
              tray := if level = 3 then { x with pos := pos % 64, rcvr := rcvr } else x
              mgmt := if level ≤ 2 then { s.mgmt with i3c := (0, 0) } else s.mgmt }))
    ∧ (s.tray.mate < 3 → exec .prechargeDone s = .next s ∧ exec .pwrEnAssert s = .next s)
    ∧ (3 ≤ s.tray.mate → Completes .prechargeDone s (started { s.tray with switch := true, aux := true })
        ∧ Completes .pwrEnAssert s (started { s.tray with pwrEn := true }))
    ∧ (s.tray.ramping = false → exec .softStartComplete s = .next s)
    ∧ (s.tray.ramping = true → s.tray.pos < 64 → Completes .softStartComplete s fun t =>
        t.tray = { s.tray with good := true, ramping := false, releasing := false } ∧ t.boot = Boot.reset
          ∧ t.mem = [] ∧ t.tiles = []
          ∧ RegsKept (RegId.RTR_NODE_ID.offset 0 0 :: RegId.PWR_STAT.offset 0 0
              :: (List.range 8).map fun k => RegId.RTR_PORT_CABLE.offset k 0) { s with regs := [], meters := [] } t
          ∧ t.fld RTR_NODE_ID_pos = s.tray.pos ∧ t.flag RTR_NODE_ID_valid = false ∧ t.pending = s.pending
          ∧ t.flag PWR_STAT_ft_n = s.tray.ft ∧ t.flag PWR_STAT_ft_ack = s.tray.ft
          ∧ (∀ k, k < 8 → t.flag RTR_PORT_CABLE_present k = s.tray.cables.contains k) ∧ t.flash = s.flash)
    ∧ (s.tray.good = false → s.tray.ramping = false → Completes .release s fun t =>
        t = { s with tray := { s.tray with pwrEn := false, mustCycle := false, trip := false } })
    ∧ (s.tray.good = false → s.tray.ramping = true → Completes .release s fun t =>
        off t ∧ t.tray.pwrEn = false ∧ t.tray.switch = false)
    ∧ (s.tray.good = true → s.tray.releasing = false → Completes .release s fun t =>
        t.tray = { s.tray with pwrEn := false, mustCycle := false, trip := false, releasing := true }
          ∧ t.parked = true ∧ t.mem = s.mem ∧ t.tiles = s.tiles
          ∧ (∀ n, s.tileUsable n = true → t.fld PWR_TILE_gate n = 0)
          ∧ (s.flag FUS_STAT_fuses_loaded = true → s.flash.record.length = 2 →
              t.flash.kept = ⟨s.flash.kept.seq + 1, true, s.poweredTime, t.flash.kept.fmax⟩
                ∧ (∀ k, s.flash.activeHalf = some k → t.flash.half k = s.flash.half k)
                ∧ ∀ n, n < 144 → s.flag FUS_FP_TILE_fused_on n = true →
                    aget t.flash.kept.fmax n = some (s.fld FUS_FP_TILE_fmax_now n))
          ∧ (s.flag RTR_NODE_ID_valid = true → Offered s t portM fun p =>
              p.type = tPEER_STATE ∧ psKind p = 1 ∧ psLevel p = 5 ∧ p.dst = s.fld RTR_HEFT_CTRL_fm_node))
    ∧ (s.tray.releasing = false → exec .releaseDone s = .next s)
    ∧ (s.tray.releasing = true → Completes .releaseDone s fun t => off t ∧ t.tray.switch = false
        ∧ (s.transferring = false → t.flash = { s.flash with dump := t.flash.dump, last := none }))
    ∧ (Completes .mateBreak s fun t => t.tray.mate = min s.tray.mate 3
        ∧ (live = true → off t ∧ t.tray.switch = false) ∧ (live = false → t = { s with tray := t.tray }))
    ∧ (live = false → exec .auxUndervoltage s = .next { s with
        tray := { s.tray with aux := false, switch := false }
        mgmt := { s.mgmt with i3c := (0, 0) } })
    ∧ (live = true → Completes .auxUndervoltage s fun t =>
        off t ∧ t.mgmt.i3c = (0, 0) ∧ t.tray.aux = false ∧ t.tray.switch = false)

/-- The invariant of a run: whatever command is in front, and on an empty queue too, a step keeps memory in canonical form
(strictly rising addresses, no byte that an unlisted address reads as) and gives every tile its 32 slots, registers, planes
and channels (R58, R142). -/
def Obligations.EveryStepKeepsInv : Prop :=
  ∀ s t : State, Inv s → step s = .next t → Inv t

/-- Reset (R58, R283, R336, R454): the invariant holds; no command waits; every slot of every tile is FREE; the per-VC caps,
the two banks of the route tables and the clock-plan ceilings hold the values that the spec names. -/
def Obligations.ResetHolds : Prop :=
  Inv State.reset ∧ State.reset.pending = [] ∧ (∀ n k, ((State.reset.tile n).slot k).state = .free)
    ∧ (∀ p, p < 14 → (List.range 8).map (fun v => State.reset.fld RTR_VC_CFG_cap_units p v)
        = [4096, 4096, 65536, 8192, 16384, 32768, 2048, 16384])
    ∧ (∀ d, ucPrimary (State.reset.ucEntry d) = 15 ∧ ucAlternate (State.reset.ucEntry d) = 15
        ∧ ucPrimary ((State.reset.put RTR_TBL_CTRL_active 1).ucEntry d) = 15
        ∧ ucAlternate ((State.reset.put RTR_TBL_CTRL_active 1).ucEntry d) = 15)
    ∧ State.reset.mc0 = [] ∧ State.reset.mc1 = []
    ∧ ∀ n, n < 144 → State.reset.fld PWR_TILE_f_ceiling n = 136

/-- The register map (R29, R226): with nothing fused off, the offset of every copy of every register decodes to that copy, so
no two copies share an offset; a die-wide HBM register is reached through the block of each stack of its die. -/
def Obligations.RegistersDecode : Prop :=
  ∀ s : State, s.fuse.tilesOff = [] → s.fuse.stacksOff = [] → s.fuse.portsOff = [] →
    (∀ (r : RegId) (i j : Nat), i < r.desc.n1 → j < r.desc.n2 → s.decodeReg (r.offset i j) = some (r, i, j))
    ∧ ∀ k, k < 12 →
        s.decodeReg (0x800000 + k * 0x10000 + 0x100) = some (.HBM_ILV_CTRL, k / 6, 0)
          ∧ s.decodeReg (0x800000 + k * 0x10000 + 0x108) = some (.HBM_RRB_CTRL, k / 6, 0)
          ∧ ∀ e, e < 4096 → s.decodeReg (0x800000 + k * 0x10000 + 0x8000 + 8 * e) = some (.HBM_ILV_ENT, k / 6, e)

/-- R465: a core's write of a vector to its CIC_EOI. The source leaves service, run[c] is recomputed from the sources that
remain, and a source whose level is still 1 pends again; any source in service on the core may be named, and another one
changes nothing and sets CIC_EVT.bad_eoi. -/
def Obligations.EoiEndsService : Prop :=
  ∀ (c n : Nat) (s : State), c < 4 → n < 1024 → s.cores.length = 4 → (s.core c).insvc.length ≤ 8 →
    let place := lfind (fun e : Nat × Nat => e.1 == n) (s.core c).insvc
    (place = none → Completes (.cicEoi c n) s fun t =>
        OnlyRegs [RegId.CIC_EVT.offset 0 0] s t ∧ t.flag CIC_EVT_bad_eoi = true
          ∧ t.flag CIC_EVT_nest_full = s.flag CIC_EVT_nest_full)
    ∧ ∀ i, place = some i → Completes (.cicEoi c n) s fun t =>
        let rest := ldel (s.core c).insvc i
        t = { s with regs := t.regs, cores := t.cores } ∧ (∀ d, d ≠ c → t.core d = s.core d)
          ∧ t.core c = { s.core c with insvc := rest } ∧ t.cicInsvc n = false
          ∧ t.cicPend n = (s.cicLevel n && s.flag CIC_SRC_enable n)
          ∧ RegsKept [RegId.CIC_INSVC.offset (n / 64) 0, RegId.CIC_CUR.offset c 0] s t
          ∧ t.fld CIC_CUR_depth c = rest.length ∧ t.fld CIC_CUR_vector c = s.fld CIC_CUR_vector c
          ∧ (rest = [] → t.fld CIC_CUR_run c = 0x1FF)
          ∧ (rest ≠ [] → (∀ e ∈ rest, e.2 < 256) →
              (∃ e ∈ rest, t.fld CIC_CUR_run c = e.2) ∧ ∀ e ∈ rest, e.2 ≤ t.fld CIC_CUR_run c)

/-- R476: a sample greater than the threshold sets the monitor's alarm where LMON_ALARM.alarm_en is 1, and no other sample
does; the alarm drives the source of R457 of a tile's monitor, and those of R461 of a stack's and of the fabric die's. -/
def Obligations.MonitorAlarm : Prop :=
  (∀ (m : Monitor) (x v : Nat) (s : State), m.valid = true →
    let r := m.regs
    let al := s.reg r.alarm r.i
    bitAt (s.reg r.cfg r.i) 26 = true → s.monValue m x = some v → Completes (.lmonSample m x) s fun t =>
      (bitAt al 32 = true ∧ bitsOf al 31 0 < v → bitAt (t.reg r.stat r.i) 48 = true)
        ∧ (¬ (bitAt al 32 = true ∧ bitsOf al 31 0 < v) → bitAt (t.reg r.stat r.i) 48 = bitAt (s.reg r.stat r.i) 48))
    ∧ ∀ s : State,
        (∀ n, s.ticLevel n 17 = bitAt (s.reg .TL_LMON_STAT n) 48)
        ∧ (∀ k, k < 12 → s.cicLevel (384 + 4 * k + 3) = (s.stackFused k && bitAt (s.reg .HBM_LMON_STAT k) 48))
        ∧ ∀ m, m < 16 → s.cicLevel (600 + m) = bitAt (s.reg .MGT_LMON_STAT m) 48

/-- R435: a write of a cap below 600 W is refused, keeps the field and sets PWR_CAP.refused; one above sustained_w acts as
sustained_w, so a module under no other limit stays within its variant's power by its cap; a cap stays as it was last
written. -/
def Obligations.CapsClamp : Prop :=
  ∀ (tray : Bool) (v : Nat) (s : State),
    let mine := if tray then PWR_CAP_cap_tray else PWR_CAP_cap_host
    let other := if tray then PWR_CAP_cap_host else PWR_CAP_cap_tray
    Completes (.pwrCapWrite tray v) s fun t => t.fld other = s.fld other
      ∧ (v < 60 → OnlyRegs [RegId.PWR_CAP.offset 0 0] s t ∧ t.flag PWR_CAP_refused = true ∧ t.fld mine = s.fld mine)
      ∧ (60 ≤ v → t = { s with regs := t.regs, power := t.power }
          ∧ RegsKept [RegId.PWR_CAP.offset 0 0, RegId.PWR_STAT.offset 0 0] s t
          ∧ t.fld mine = min v (s.fuse.sustainedW / 10) ∧ t.flag PWR_CAP_refused = s.flag PWR_CAP_refused
          ∧ t.capW ≤ s.fuse.sustainedW ∧ t.effW ≤ s.fuse.sustainedW ∧ t.fld PWR_CAP_eff_limit = t.effW / 10)
      ∧ (s.fuse.variant = 0x0C → s.fuse.sustainedW = 3200) ∧ (s.fuse.variant = 0x0A → s.fuse.sustainedW = 2800)
      ∧ (s.fuse.variant = 0x08 → s.fuse.sustainedW = 2400)
end

