-- ==== Sys2Proof/Laws/Assoc.lean ====
section
/-! SUPPORT. Laws of tables and lists: reading an entry after setting it, or another one. -/
namespace Sys2Proof.Machine

@[simp] theorem aget_aset_same {α : Type} (t : Assoc α) (k : Nat) (v : α) : aget (aset t k v) k = some v := by
  induction t with
  | nil => simp [aset, aget]
  | cons e t ih =>
    obtain ⟨j, w⟩ := e
    simp only [aset]
    split
    · simp [aget]
    · split
      · simp [aget]
      · have : ¬ j = k := by omega
        simp [aget, this, ih]

theorem aget_aset_other {α : Type} (t : Assoc α) (k k' : Nat) (v : α) (h : k ≠ k') :
    aget (aset t k v) k' = aget t k' := by
  induction t with
  | nil => simp [aset, aget, h]
  | cons e t ih =>
    obtain ⟨j, w⟩ := e
    simp only [aset]
    split
    · simp [aget, h]
    · split
      · subst_vars; simp [aget, h]
      · by_cases c : j = k' <;> simp [aget, c, ih]

@[simp] theorem agetD_aset_same {α : Type} (t : Assoc α) (k : Nat) (v d : α) : agetD (aset t k v) k d = v := by
  simp [agetD]

theorem agetD_aset_other {α : Type} (t : Assoc α) (k k' : Nat) (v d : α) (h : k ≠ k') :
    agetD (aset t k v) k' d = agetD t k' d := by
  simp [agetD, aget_aset_other t k k' v h]

@[simp] theorem lset_length {α : Type} (l : List α) (i : Nat) (v : α) : (lset l i v).length = l.length := by
  induction l generalizing i with
  | nil => rfl
  | cons a t ih => cases i <;> simp [lset, ih]

theorem lget_lset_same {α : Type} (l : List α) (i : Nat) (v d : α) (h : i < l.length) : lget (lset l i v) i d = v := by
  induction l generalizing i with
  | nil => simp at h
  | cons a t ih =>
    cases i with
    | zero => simp [lset, lget]
    | succ i => simpa [lset, lget] using ih i (by simpa using h)

theorem lget_lset_other {α : Type} (l : List α) (i j : Nat) (v d : α) (h : i ≠ j) :
    lget (lset l i v) j d = lget l j d := by
  induction l generalizing i j with
  | nil => rfl
  | cons a t ih =>
    cases i <;> cases j
    · exact absurd rfl h
    · simp [lset, lget]
    · simp [lset, lget]
    · simpa [lset, lget] using ih _ _ (by omega)

end Sys2Proof.Machine
end

