-- ==== Sys2Proof/Laws/Bits.lean ====
section
/-! SUPPORT. Laws of bit fields: reading a field after writing it, or another one. -/
namespace Sys2Proof.Machine

theorem bitsOf_lt (v hi lo : Nat) : bitsOf v hi lo < 2 ^ (hi + 1 - lo) := Nat.mod_lt _ (Nat.two_pow_pos _)

@[simp] theorem bitsOf_zero (hi lo : Nat) : bitsOf 0 hi lo = 0 := by simp [bitsOf]

theorem testBit_bitsOf (v hi lo i : Nat) :
    (bitsOf v hi lo).testBit i = (decide (i < hi + 1 - lo) && v.testBit (lo + i)) := by
  simp [bitsOf, Nat.testBit_mod_two_pow, Nat.testBit_shiftRight]

/-- A number with a field replaced, in parts. -/
theorem withBits_parts (v hi lo x : Nat) (h : lo ≤ hi) :
    withBits v hi lo x
      = v % 2 ^ lo + 2 ^ lo * (x % 2 ^ (hi + 1 - lo)) + 2 ^ (hi + 1) * (v / 2 ^ (hi + 1)) := by
  have e : hi + 1 = lo + (hi + 1 - lo) := by omega
  have p : 2 ^ (hi + 1) = 2 ^ lo * 2 ^ (hi + 1 - lo) := by rw [← Nat.pow_add, ← e]
  have q : v / (2 ^ lo * 2 ^ (hi + 1 - lo)) = v / 2 ^ lo / 2 ^ (hi + 1 - lo) := (Nat.div_div_eq_div_mul _ _ _).symm
  have d1 := Nat.div_add_mod v (2 ^ lo)
  have d2 := Nat.div_add_mod (v / 2 ^ lo) (2 ^ (hi + 1 - lo))
  simp only [withBits, bitsOf, Nat.shiftRight_eq_div_pow, Nat.shiftLeft_eq]
  rw [p, q]
  generalize v / 2 ^ lo = a at *
  generalize 2 ^ (hi + 1 - lo) = w at *
  generalize x % w = y at *
  have d3 : 2 ^ lo * a = 2 ^ lo * (w * (a / w)) + 2 ^ lo * (a % w) := by rw [← Nat.mul_add, d2]
  have d4 : 2 ^ lo * w * (a / w) = 2 ^ lo * (w * (a / w)) := Nat.mul_assoc _ _ _
  have d5 : a % w * 2 ^ lo = 2 ^ lo * (a % w) := Nat.mul_comm _ _
  have d6 : y * 2 ^ lo = 2 ^ lo * y := Nat.mul_comm _ _
  omega

theorem testBit_withBits (v hi lo x i : Nat) (h : lo ≤ hi) :
    (withBits v hi lo x).testBit i
      = if lo ≤ i ∧ i ≤ hi then x.testBit (i - lo) else v.testBit i := by
  have e : hi + 1 = lo + (hi + 1 - lo) := by omega
  rw [withBits_parts v hi lo x h]
  have b1 : v % 2 ^ lo < 2 ^ lo := Nat.mod_lt _ (Nat.two_pow_pos _)
  have b2 : v % 2 ^ lo + 2 ^ lo * (x % 2 ^ (hi + 1 - lo)) < 2 ^ (hi + 1) := by
    have : x % 2 ^ (hi + 1 - lo) < 2 ^ (hi + 1 - lo) := Nat.mod_lt _ (Nat.two_pow_pos _)
    calc v % 2 ^ lo + 2 ^ lo * (x % 2 ^ (hi + 1 - lo))
        < 2 ^ lo + 2 ^ lo * (x % 2 ^ (hi + 1 - lo)) := by omega
      _ = 2 ^ lo * (x % 2 ^ (hi + 1 - lo) + 1) := by rw [Nat.mul_add, Nat.mul_one, Nat.add_comm]
      _ ≤ 2 ^ lo * 2 ^ (hi + 1 - lo) := Nat.mul_le_mul_left _ this
      _ = 2 ^ (hi + 1) := by rw [← Nat.pow_add, ← e]
  rw [Nat.add_comm _ (2 ^ (hi + 1) * _), Nat.testBit_two_pow_mul_add _ b2]
  by_cases c : i < hi + 1
  · rw [if_pos c, Nat.add_comm (v % 2 ^ lo), Nat.testBit_two_pow_mul_add _ b1]
    by_cases d : i < lo
    · rw [if_pos d, if_neg (by omega), Nat.testBit_mod_two_pow]; simp [d]
    · rw [if_neg d, if_pos (by omega), Nat.testBit_mod_two_pow]
      have : i - lo < hi + 1 - lo := by omega
      simp [this]
  · rw [if_neg c, if_neg (by omega), Nat.testBit_div_two_pow]
    congr 1; omega

/-- A field reads as what was written to it. -/
theorem bitsOf_withBits_same (v hi lo x : Nat) (h : lo ≤ hi) :
    bitsOf (withBits v hi lo x) hi lo = x % 2 ^ (hi + 1 - lo) := by
  apply Nat.eq_of_testBit_eq
  intro i
  rw [testBit_bitsOf, testBit_withBits _ _ _ _ _ h, Nat.testBit_mod_two_pow]
  by_cases c : i < hi + 1 - lo
  · rw [if_pos (by omega)]; simp
  · simp [c]

/-- A field that does not overlap the written one keeps its value. -/
theorem bitsOf_withBits_other (v hi lo x hi' lo' : Nat) (h : lo ≤ hi) (d : hi' < lo ∨ hi < lo') :
    bitsOf (withBits v hi lo x) hi' lo' = bitsOf v hi' lo' := by
  apply Nat.eq_of_testBit_eq
  intro i
  rw [testBit_bitsOf, testBit_bitsOf, testBit_withBits _ _ _ _ _ h]
  by_cases c : i < hi' + 1 - lo'
  · rw [if_neg (by omega)]
  · simp [c]

/-- A number below 2 ^ n stays below it when a field below bit n is replaced. -/
theorem withBits_lt (v hi lo x n : Nat) (h : lo ≤ hi) (hn : hi < n) (hv : v < 2 ^ n) :
    withBits v hi lo x < 2 ^ n := by
  apply Nat.lt_pow_two_of_testBit
  intro i hi'
  rw [testBit_withBits _ _ _ _ _ h, if_neg (by omega)]
  exact Nat.testBit_lt_two_pow (Nat.lt_of_lt_of_le hv (Nat.pow_le_pow_right (by omega) hi'))

/-- A field of a number taken to 64 bits. -/
theorem bitsOf_mod_64 (v hi lo : Nat) (h : hi < 64) : bitsOf (v % 2 ^ 64) hi lo = bitsOf v hi lo := by
  apply Nat.eq_of_testBit_eq
  intro i
  rw [testBit_bitsOf, testBit_bitsOf, Nat.testBit_mod_two_pow]
  by_cases c : i < hi + 1 - lo
  · have : lo + i < 64 := by omega
    simp [this]
  · simp [c]

end Sys2Proof.Machine
end

