-- ==== Sys2Proof/Laws/Regs.lean ====
section
/-! SUPPORT. Laws of the registers as storage: a field reads as what was written to it, and a write of one field leaves every
other field of every register. -/
namespace Sys2Proof.Machine

/-- A field whose bits lie in a register. -/
def Fld.ok (f : Fld) : Bool := decide (f.lo ≤ f.hi) && decide (f.hi < 64)

theorem Fld.ok_spec {f : Fld} (h : f.ok = true) : f.lo ≤ f.hi ∧ f.hi < 64 := by simpa [Fld.ok] using h

/-- A register reads as what was stored in it. -/
theorem reg_setReg_same (s : State) (r : RegId) (i j v : Nat) : (s.setReg r i j v).reg r i j = v % 2 ^ 64 := by
  simp [State.reg, State.setReg]

/-- A store to another offset leaves a register. -/
theorem reg_setReg_other (s : State) (r q : RegId) (i j i' j' v : Nat) (h : r.offset i j ≠ q.offset i' j') :
    (s.setReg r i j v).reg q i' j' = s.reg q i' j' := by
  simp [State.reg, State.setReg, aget_aset_other _ _ _ _ h]

/-- A field reads as what was written to it. -/
theorem fld_setFld_same (s : State) (f : Fld) (i j v : Nat) (h : f.ok = true) :
    (s.setFld f i j v).fld f i j = v % 2 ^ (f.hi + 1 - f.lo) := by
  obtain ⟨h1, h2⟩ := Fld.ok_spec h
  rw [State.fld, State.setFld, reg_setReg_same, bitsOf_mod_64 _ _ _ h2, bitsOf_withBits_same _ _ _ _ h1]

/-- Another field of the same copy keeps its value. -/
theorem fld_setFld_beside (s : State) (f g : Fld) (i j v : Nat) (h : f.ok = true) (hg : g.ok = true) (e : g.reg = f.reg)
    (d : g.hi < f.lo ∨ f.hi < g.lo) : (s.setFld f i j v).fld g i j = s.fld g i j := by
  obtain ⟨h1, _⟩ := Fld.ok_spec h
  obtain ⟨_, h2⟩ := Fld.ok_spec hg
  rw [State.fld, State.fld, State.setFld, e, reg_setReg_same, bitsOf_mod_64 _ _ _ h2,
    bitsOf_withBits_other _ _ _ _ _ _ h1 d]

/-- A field at another offset keeps its value. -/
theorem fld_setFld_other (s : State) (f g : Fld) (i j i' j' v : Nat) (h : f.reg.offset i j ≠ g.reg.offset i' j') :
    (s.setFld f i j v).fld g i' j' = s.fld g i' j' := by
  simp [State.fld, State.setFld, reg_setReg_other _ _ _ _ _ _ _ _ h]

theorem fld_put_same (s : State) (f : Fld) (v : Nat) (h : f.ok = true) :
    (s.put f v).fld f = v % 2 ^ (f.hi + 1 - f.lo) := fld_setFld_same s f 0 0 v h

theorem fld_put_beside (s : State) (f g : Fld) (v : Nat) (h : f.ok = true) (hg : g.ok = true) (e : g.reg = f.reg)
    (d : g.hi < f.lo ∨ f.hi < g.lo) : (s.put f v).fld g = s.fld g := fld_setFld_beside s f g 0 0 v h hg e d

theorem fld_put_other (s : State) (f g : Fld) (i' j' v : Nat) (h : f.reg.offset 0 0 ≠ g.reg.offset i' j') :
    (s.put f v).fld g i' j' = s.fld g i' j' := fld_setFld_other s f g 0 0 i' j' v h

/-- An event bit reads 1 after the event. -/
theorem flag_event_same (s : State) (f : Fld) (i : Nat) (h : f.ok = true) (e : f.hi = f.lo) :
    (s.event f i).flag f i = true := by
  have := fld_setFld_same s f i 0 1 h
  simp [State.flag, State.event, this, e]

theorem flag_put_same (s : State) (f : Fld) (v : Nat) (h : f.ok = true) (e : f.hi = f.lo) :
    (s.put f v).flag f = (v % 2 == 1) := by
  simp [State.flag, fld_put_same s f v h, e]

/-- A field is below its width's power of two. -/
theorem fld_lt (s : State) (f : Fld) (i j : Nat) : s.fld f i j < 2 ^ (f.hi + 1 - f.lo) := bitsOf_lt _ _ _

/-- An event bit within a field is set, and its other bits stay. -/
theorem fld_eventBit_same (s : State) (f : Fld) (b i : Nat) (h : f.ok = true) (hb : b ≤ f.hi - f.lo) :
    (s.eventBit f b i).fld f i = withBit (s.fld f i) b true := by
  obtain ⟨h1, _⟩ := Fld.ok_spec h
  rw [State.eventBit, fld_setFld_same _ _ _ _ _ h, Nat.mod_eq_of_lt]
  exact withBits_lt _ _ _ _ _ (Nat.le_refl _) (by omega) (fld_lt s f i 0)

end Sys2Proof.Machine
end

