-- ==== Sys2Proof/Laws/Frames.lean ====
section
/-! SUPPORT. What the shared operations leave unchanged: register stores, tally events, and sending a packet. -/
namespace Sys2Proof.Machine
open Sys2Proof.Safety

theorem RegsKept.refl (l : List Nat) (s : State) : RegsKept l s s := ⟨fun _ _ => rfl, fun _ _ => rfl⟩

theorem RegsKept.trans {l : List Nat} {s t u : State} (h : RegsKept l s t) (k : RegsKept l t u) : RegsKept l s u :=
  ⟨fun o ho => (k.1 o ho).trans (h.1 o ho), fun m hm => (k.2 m hm).trans (h.2 m hm)⟩

/-- The measures of a state whose meters are the same. -/
theorem meter_of_meters {s t : State} (h : t.meters = s.meters) (n : Nat) : t.meter n = s.meter n := by
  simp [State.meter, h]

theorem RegsKept.of_eq {l : List Nat} {s t : State} (h : t.regs = s.regs) (k : t.meters = s.meters) : RegsKept l s t :=
  ⟨fun _ _ => by rw [h], fun m _ => meter_of_meters k m⟩

theorem RegsKept.mono {l m : List Nat} {s t : State} (h : RegsKept l s t) (k : ∀ o, o ∈ l → o ∈ m) : RegsKept m s t :=
  ⟨fun o ho => h.1 o fun e => ho (k o e), fun n hn => h.2 n fun i hi e => hn i hi (k _ e)⟩

/-- A store to a register keeps the registers at other offsets. -/
theorem RegsKept.setReg {l : List Nat} (s : State) (r : RegId) (i j v : Nat) (h : r.offset i j ∈ l) :
    RegsKept l s (s.setReg r i j v) :=
  ⟨fun _ ho => aget_aset_other _ _ _ _ fun e => ho (e ▸ h), fun m _ => meter_of_meters rfl m⟩

theorem RegsKept.setFld {l : List Nat} (s : State) (f : Fld) (i j v : Nat) (h : f.reg.offset i j ∈ l) :
    RegsKept l s (s.setFld f i j v) := RegsKept.setReg s f.reg i j _ h

theorem RegsKept.put {l : List Nat} (s : State) (f : Fld) (v : Nat) (h : f.reg.offset 0 0 ∈ l) :
    RegsKept l s (s.put f v) := RegsKept.setReg s f.reg 0 0 _ h

theorem RegsKept.event {l : List Nat} (s : State) (f : Fld) (i : Nat) (h : f.reg.offset i 0 ∈ l) :
    RegsKept l s (s.event f i) := RegsKept.setReg s f.reg i 0 _ h

theorem RegsKept.eventBit {l : List Nat} (s : State) (f : Fld) (b i : Nat) (h : f.reg.offset i 0 ∈ l) :
    RegsKept l s (s.eventBit f b i) := RegsKept.setReg s f.reg i 0 _ h

/-- Only the router's input, the pairing state and RTR_PAIR_EVT change when a node that is not a standby sends a packet. -/
def SentFrom (s t : State) : Prop :=
  t = { s with input := t.input, pair := t.pair, regs := t.regs } ∧ RegsKept [RegId.RTR_PAIR_EVT.offset 0 0] s t

theorem sendKeyed_frame (s : State) (port key : Nat) (p : Packet) (a b : Bool) (h : s.fld RTR_PAIR_CTRL_role ≠ 2) :
    SentFrom s (s.sendKeyed port key p a b) := by
  unfold State.sendKeyed
  rw [if_neg h]
  repeat' split
  all_goals
    first
    | exact ⟨rfl, RegsKept.of_eq rfl rfl⟩
    | (simp only [State.awaitNote]
       repeat' split
       all_goals exact ⟨rfl, RegsKept.of_eq rfl rfl⟩)

theorem respond_frame (s : State) (port : Nat) (q : Packet) (i : Nat) (p : Packet) (h : s.fld RTR_PAIR_CTRL_role ≠ 2) :
    SentFrom s (s.respond port q i p) :=
  sendKeyed_frame s port _ p false false h

/-- Nothing changes but the counters of tile `n` and its measures (R468 to R471). -/
def TallyOnly (n : Nat) (s t : State) : Prop :=
  t = { s with regs := t.regs, meters := t.meters } ∧ RegsKept (tallyOffs n) s t

theorem TallyOnly.refl (n : Nat) (s : State) : TallyOnly n s s := ⟨rfl, RegsKept.refl _ _⟩

theorem TallyOnly.trans {n : Nat} {s t u : State} (h : TallyOnly n s t) (k : TallyOnly n t u) : TallyOnly n s u := by
  obtain ⟨h1, h2⟩ := h
  obtain ⟨k1, k2⟩ := k
  refine ⟨?_, RegsKept.trans h2 k2⟩
  rw [h1] at k1
  exact k1

theorem tallyOffs_mem (n i : Nat) (h : i < 8) : RegId.TL_TALLY_CNT.offset n i ∈ tallyOffs n :=
  List.mem_map.mpr ⟨i, List.mem_range.mpr h, rfl⟩

/-- A tile's measures changed. -/
theorem onMeter_frame (s : State) (n : Nat) (f : Meter → Meter) : TallyOnly n s (s.onMeter n f) := by
  refine ⟨rfl, fun _ _ => rfl, fun m hm => ?_⟩
  have h : n ≠ m := fun e => hm 0 (by decide) (e ▸ tallyOffs_mem n 0 (by decide))
  simp only [State.onMeter, State.meter]
  exact agetD_aset_other _ _ _ _ _ h

/-- A counter advanced. -/
theorem tallyAdd_frame (s : State) (n i d : Nat) (hi : i < 8) : OnlyRegs (tallyOffs n) s (s.tallyAdd n i d) := by
  have m : TL_TALLY_CNT_count.reg.offset n i ∈ tallyOffs n := tallyOffs_mem n i hi
  unfold State.tallyAdd
  by_cases h : 2 ^ 48 ≤ s.fld TL_TALLY_CNT_count n i + d
  · simp only [if_pos h]
    exact ⟨rfl, RegsKept.trans (RegsKept.setFld s TL_TALLY_CNT_ovf n i 1 m) (RegsKept.setFld _ TL_TALLY_CNT_count n i _ m)⟩
  · simp only [if_neg h]
    exact ⟨rfl, RegsKept.setFld s TL_TALLY_CNT_count n i _ m⟩

theorem OnlyRegs.tally {n : Nat} {s t : State} (h : OnlyRegs (tallyOffs n) s t) : TallyOnly n s t := by
  obtain ⟨h1, h2⟩ := h
  exact ⟨by rw [h1], h2⟩

/-- An event at one counter. -/
theorem tallyOne_frame (s : State) (n ev v part i : Nat) (hi : i < 8) : TallyOnly n s (s.tallyOne n ev v part i) := by
  unfold State.tallyOne
  split
  · dsimp only
    split
    · exact TallyOnly.trans (onMeter_frame s n _) (OnlyRegs.tally (tallyAdd_frame _ n i _ hi))
    · exact onMeter_frame s n _
  · exact TallyOnly.refl n s

theorem tallyList_frame (n ev v part : Nat) (l : List Nat) (hl : ∀ i ∈ l, i < 8) (s : State) :
    TallyOnly n s (l.foldl (fun s i => s.tallyOne n ev v part i) s) := by
  induction l generalizing s with
  | nil => exact TallyOnly.refl n s
  | cons i l ih =>
    exact TallyOnly.trans (tallyOne_frame s n ev v part i (hl i (by simp))) (ih (fun j hj => hl j (by simp [hj])) _)

/-- An event of a tile changes only the tile's counter registers and measures (R468). -/
theorem tallyFor_frame (s : State) (n ev v part : Nat) : TallyOnly n s (s.tallyFor n ev v part) := by
  have h := tallyList_frame n ev v part (List.range 8) (fun _ h => List.mem_range.mp h) s
  unfold State.tallyFor
  dsimp only
  split
  · exact TallyOnly.trans h (onMeter_frame _ n _)
  · exact h

theorem tally_frame (s : State) (n ev v : Nat) : TallyOnly n s (s.tally n ev v) := tallyFor_frame s n ev v _

/-- Nothing but the delivered list changes when a packet is taken from it. -/
theorem take_frame (s : State) (p : Packet) : s.take p = { s with delivered := (s.take p).delivered } := by
  unfold State.take; split <;> rfl

/-- Another tile keeps what it holds when one is replaced. -/
theorem tile_setTile_same (s : State) (n : Nat) (x : Tile) : (s.setTile n x).tile n = x := by
  simp [State.tile, State.setTile]

theorem tile_setTile_other (s : State) (n m : Nat) (x : Tile) (h : m ≠ n) : (s.setTile n x).tile m = s.tile m := by
  simp only [State.tile, State.setTile]
  exact agetD_aset_other _ _ _ _ _ (Ne.symm h)

/-- A tile of a state whose tiles are the same. -/
theorem tile_of_tiles {s t : State} (h : t.tiles = s.tiles) (n : Nat) : t.tile n = s.tile n := by simp [State.tile, h]

theorem tile_tally (s : State) (n ev v m : Nat) : (s.tally n ev v).tile m = s.tile m :=
  tile_of_tiles (by rw [(tally_frame s n ev v).1]) m

/-- A slot of a tile after one was replaced. -/
theorem slot_setSlot_same (x : Tile) (k : Nat) (sl : Slot) (h : k < x.slots.length) : (x.setSlot k sl).slot k = sl :=
  lget_lset_same _ _ _ _ h

theorem slot_setSlot_other (x : Tile) (k j : Nat) (sl : Slot) (h : j ≠ k) : (x.setSlot k sl).slot j = x.slot j :=
  lget_lset_other _ _ _ _ _ (Ne.symm h)

end Sys2Proof.Machine
end

