-- ==== Sys2Proof/Laws/Memory.lean ====
section
/-! SUPPORT. Laws of memory: every operation keeps the canonical form; a byte reads as what was stored to it, and a store
leaves every other byte. -/
namespace Sys2Proof.Machine

/-- The first address of a memory lies above a bound. -/
def memAbove (a : Nat) : List Host.Cell → Prop
  | [] => True
  | c :: _ => a < c.1

theorem memWf_cons (c : Host.Cell) (m : List Host.Cell) :
    memWf (c :: m) = true ↔ c.2 ≠ memDefault ∧ memAbove c.1 m ∧ memWf m = true := by
  cases m with
  | nil => simp [memWf, memAbove]
  | cons d t => simp [memWf, memAbove, and_assoc]

theorem memAbove_trans {a b : Nat} {m : List Host.Cell} (h : a < b) (hb : memAbove b m) : memAbove a m := by
  cases m with
  | nil => trivial
  | cons c t => exact Nat.lt_trans h hb

/-- Every address of a memory in canonical form lies above its first one. -/
theorem memByte_below (m : List Host.Cell) (a : Nat) (h : memWf m = true) (ha : memAbove a m) :
    memByte m a = memDefault := by
  induction m generalizing a with
  | nil => rfl
  | cons c t ih =>
    obtain ⟨j, v⟩ := c
    have hj : a < j := ha
    obtain ⟨_, h2, h3⟩ := (memWf_cons _ _).mp h
    simp only [memByte]
    rw [if_neg (by omega)]
    exact ih a h3 (memAbove_trans hj h2)

theorem memAbove_memSet (m : List Host.Cell) (a b : Nat) (v : Byte) (h : memAbove a m) (hb : a < b) (hw : memWf m = true) :
    memAbove a (memSet m b v) := by
  cases m with
  | nil => simp only [memSet]; split <;> simp_all [memAbove]
  | cons c t =>
    obtain ⟨j, w⟩ := c
    have hj : a < j := h
    obtain ⟨_, h2, _⟩ := (memWf_cons _ _).mp hw
    simp only [memSet]
    split
    · split
      · exact hj
      · exact hb
    · split
      · split
        · exact memAbove_trans hj h2
        · exact hb
      · exact hj

/-- Setting a byte keeps the canonical form. -/
theorem memWf_memSet (m : List Host.Cell) (a : Nat) (v : Byte) (h : memWf m = true) : memWf (memSet m a v) = true := by
  induction m with
  | nil => simp only [memSet]; split <;> simp_all [memWf]
  | cons c t ih =>
    obtain ⟨j, w⟩ := c
    obtain ⟨h1, h2, h3⟩ := (memWf_cons _ _).mp h
    simp only [memSet]
    split
    · split
      · exact h
      · exact (memWf_cons _ _).mpr ⟨by assumption, by assumption, h⟩
    · split
      · split
        · exact h3
        · subst_vars; exact (memWf_cons _ _).mpr ⟨by assumption, h2, h3⟩
      · exact (memWf_cons _ _).mpr ⟨h1, memAbove_memSet t j a v h2 (by omega) h3, ih h3⟩

/-- A byte reads as what was set. -/
theorem memByte_memSet_same (m : List Host.Cell) (a : Nat) (v : Byte) (h : memWf m = true) :
    memByte (memSet m a v) a = v := by
  induction m with
  | nil => simp only [memSet]; split <;> simp_all [memByte]
  | cons c t ih =>
    obtain ⟨j, w⟩ := c
    obtain ⟨h1, h2, h3⟩ := (memWf_cons _ _).mp h
    simp only [memSet]
    split
    · split
      · have hb : memAbove a ((j, w) :: t) := by assumption
        rw [memByte_below _ _ h hb]; simp_all
      · simp [memByte]
    · split
      · split
        · subst_vars
          rw [memByte_below _ _ h3 h2]
        · simp [memByte]
      · simp only [memByte]
        rw [if_neg (by assumption)]
        exact ih h3

/-- Setting a byte leaves every other one. -/
theorem memByte_memSet_other (m : List Host.Cell) (a b : Nat) (v : Byte) (h : a ≠ b) :
    memByte (memSet m a v) b = memByte m b := by
  induction m with
  | nil => simp only [memSet]; split <;> simp [memByte, h]
  | cons c t ih =>
    obtain ⟨j, w⟩ := c
    simp only [memSet]
    split
    · split
      · rfl
      · simp [memByte, h]
    · split
      · subst_vars
        split <;> simp [memByte, h]
      · by_cases e : j = b
        · simp [memByte, e]
        · simp [memByte, e, ih]

/-- A store keeps the canonical form. -/
theorem memWf_memStore (bs : List Byte) (m : List Host.Cell) (a : Nat) (h : memWf m = true) :
    memWf (memStore m a bs) = true := by
  induction bs generalizing m a with
  | nil => exact h
  | cons b bs ih => exact ih _ _ (memWf_memSet m a b h)

/-- A store leaves every byte outside the stored ones. -/
theorem memByte_memStore_outside (bs : List Byte) (m : List Host.Cell) (a c : Nat) (h : c < a ∨ a + bs.length ≤ c) :
    memByte (memStore m a bs) c = memByte m c := by
  induction bs generalizing m a with
  | nil => rfl
  | cons b bs ih =>
    simp only [List.length_cons] at h
    simp only [memStore]
    rw [ih _ _ (by omega), memByte_memSet_other _ _ _ _ (by omega)]

/-- The stored bytes read back. -/
theorem memLoad_memStore (bs : List Byte) (m : List Host.Cell) (a : Nat) (h : memWf m = true) :
    memLoad (memStore m a bs) a bs.length = bs := by
  induction bs generalizing m a with
  | nil => rfl
  | cons b bs ih =>
    simp only [memStore, memLoad, List.length_cons]
    rw [ih _ _ (memWf_memSet m a b h), memByte_memStore_outside _ _ _ _ (Or.inl (by omega)),
      memByte_memSet_same _ _ _ h]

theorem memAbove_filter (p : Host.Cell → Bool) (m : List Host.Cell) (a : Nat) (h : memAbove a m) (hw : memWf m = true) :
    memAbove a (m.filter p) := by
  induction m generalizing a with
  | nil => exact h
  | cons c t ih =>
    obtain ⟨_, h2, h3⟩ := (memWf_cons _ _).mp hw
    have ha : a < c.1 := h
    simp only [List.filter]
    split
    · exact ha
    · exact ih a (memAbove_trans ha h2) h3

/-- Leaving bytes out keeps the canonical form. -/
theorem memWf_filter (p : Host.Cell → Bool) (m : List Host.Cell) (h : memWf m = true) : memWf (m.filter p) = true := by
  induction m with
  | nil => rfl
  | cons c t ih =>
    obtain ⟨h1, h2, h3⟩ := (memWf_cons _ _).mp h
    simp only [List.filter]
    split
    · exact (memWf_cons _ _).mpr ⟨h1, memAbove_filter p t _ h2 h3, ih h3⟩
    · exact ih h3

/-- Zeroing a range keeps the canonical form. -/
theorem memWf_memZero (m : List Host.Cell) (lo hi : Nat) (h : memWf m = true) : memWf (memZero m lo hi) = true :=
  memWf_filter _ m h

end Sys2Proof.Machine
end

