-- ==== Sys2Proof/Laws/State.lean ====
section
/-! SUPPORT. What each update of the state leaves unchanged: one lemma for each field, and for each way of reading a
register, a tile, a paddock, a link or memory, that the update does not touch. -/
namespace Sys2Proof.Machine

/-! ### `State.setReg` -/

@[simp] theorem State.setReg_pending (s : State) (r : RegId) (i j v : Nat) : (s.setReg r i j v).pending = s.pending := rfl
@[simp] theorem State.setReg_mem (s : State) (r : RegId) (i j v : Nat) : (s.setReg r i j v).mem = s.mem := rfl
@[simp] theorem State.setReg_hbmUe (s : State) (r : RegId) (i j v : Nat) : (s.setReg r i j v).hbmUe = s.hbmUe := rfl
@[simp] theorem State.setReg_hbmCe (s : State) (r : RegId) (i j v : Nat) : (s.setReg r i j v).hbmCe = s.hbmCe := rfl
@[simp] theorem State.setReg_hbmOndie (s : State) (r : RegId) (i j v : Nat) : (s.setReg r i j v).hbmOndie = s.hbmOndie := rfl
@[simp] theorem State.setReg_reads (s : State) (r : RegId) (i j v : Nat) : (s.setReg r i j v).reads = s.reads := rfl
@[simp] theorem State.setReg_scrubAt (s : State) (r : RegId) (i j v : Nat) : (s.setReg r i j v).scrubAt = s.scrubAt := rfl
@[simp] theorem State.setReg_hbmCool (s : State) (r : RegId) (i j v : Nat) : (s.setReg r i j v).hbmCool = s.hbmCool := rfl
@[simp] theorem State.setReg_bankActs (s : State) (r : RegId) (i j v : Nat) : (s.setReg r i j v).bankActs = s.bankActs := rfl
@[simp] theorem State.setReg_tiles (s : State) (r : RegId) (i j v : Nat) : (s.setReg r i j v).tiles = s.tiles := rfl
@[simp] theorem State.setReg_pads (s : State) (r : RegId) (i j v : Nat) : (s.setReg r i j v).pads = s.pads := rfl
@[simp] theorem State.setReg_grants (s : State) (r : RegId) (i j v : Nat) : (s.setReg r i j v).grants = s.grants := rfl
@[simp] theorem State.setReg_lastPad (s : State) (r : RegId) (i j v : Nat) : (s.setReg r i j v).lastPad = s.lastPad := rfl
@[simp] theorem State.setReg_flagHold (s : State) (r : RegId) (i j v : Nat) : (s.setReg r i j v).flagHold = s.flagHold := rfl
@[simp] theorem State.setReg_gets (s : State) (r : RegId) (i j v : Nat) : (s.setReg r i j v).gets = s.gets := rfl
@[simp] theorem State.setReg_input (s : State) (r : RegId) (i j v : Nat) : (s.setReg r i j v).input = s.input := rfl
@[simp] theorem State.setReg_output (s : State) (r : RegId) (i j v : Nat) : (s.setReg r i j v).output = s.output := rfl
@[simp] theorem State.setReg_delivered (s : State) (r : RegId) (i j v : Nat) : (s.setReg r i j v).delivered = s.delivered := rfl
@[simp] theorem State.setReg_uc0 (s : State) (r : RegId) (i j v : Nat) : (s.setReg r i j v).uc0 = s.uc0 := rfl
@[simp] theorem State.setReg_uc1 (s : State) (r : RegId) (i j v : Nat) : (s.setReg r i j v).uc1 = s.uc1 := rfl
@[simp] theorem State.setReg_mc0 (s : State) (r : RegId) (i j v : Nat) : (s.setReg r i j v).mc0 = s.mc0 := rfl
@[simp] theorem State.setReg_mc1 (s : State) (r : RegId) (i j v : Nat) : (s.setReg r i j v).mc1 = s.mc1 := rfl
@[simp] theorem State.setReg_lanes (s : State) (r : RegId) (i j v : Nat) : (s.setReg r i j v).lanes = s.lanes := rfl
@[simp] theorem State.setReg_links (s : State) (r : RegId) (i j v : Nat) : (s.setReg r i j v).links = s.links := rfl
@[simp] theorem State.setReg_accepted (s : State) (r : RegId) (i j v : Nat) : (s.setReg r i j v).accepted = s.accepted := rfl
@[simp] theorem State.setReg_routed (s : State) (r : RegId) (i j v : Nat) : (s.setReg r i j v).routed = s.routed := rfl
@[simp] theorem State.setReg_beat (s : State) (r : RegId) (i j v : Nat) : (s.setReg r i j v).beat = s.beat := rfl
@[simp] theorem State.setReg_slot0 (s : State) (r : RegId) (i j v : Nat) : (s.setReg r i j v).slot0 = s.slot0 := rfl
@[simp] theorem State.setReg_slot1 (s : State) (r : RegId) (i j v : Nat) : (s.setReg r i j v).slot1 = s.slot1 := rfl
@[simp] theorem State.setReg_circ0 (s : State) (r : RegId) (i j v : Nat) : (s.setReg r i j v).circ0 = s.circ0 := rfl
@[simp] theorem State.setReg_circ1 (s : State) (r : RegId) (i j v : Nat) : (s.setReg r i j v).circ1 = s.circ1 := rfl
@[simp] theorem State.setReg_steer0 (s : State) (r : RegId) (i j v : Nat) : (s.setReg r i j v).steer0 = s.steer0 := rfl
@[simp] theorem State.setReg_steer1 (s : State) (r : RegId) (i j v : Nat) : (s.setReg r i j v).steer1 = s.steer1 := rfl
@[simp] theorem State.setReg_fold (s : State) (r : RegId) (i j v : Nat) : (s.setReg r i j v).fold = s.fold := rfl
@[simp] theorem State.setReg_commits (s : State) (r : RegId) (i j v : Nat) : (s.setReg r i j v).commits = s.commits := rfl
@[simp] theorem State.setReg_pair (s : State) (r : RegId) (i j v : Nat) : (s.setReg r i j v).pair = s.pair := rfl
@[simp] theorem State.setReg_limiter (s : State) (r : RegId) (i j v : Nat) : (s.setReg r i j v).limiter = s.limiter := rfl
@[simp] theorem State.setReg_padReset (s : State) (r : RegId) (i j v : Nat) : (s.setReg r i j v).padReset = s.padReset := rfl
@[simp] theorem State.setReg_chipReset (s : State) (r : RegId) (i j v : Nat) : (s.setReg r i j v).chipReset = s.chipReset := rfl
@[simp] theorem State.setReg_out (s : State) (r : RegId) (i j v : Nat) : (s.setReg r i j v).out = s.out := rfl
@[simp] theorem State.setReg_cores (s : State) (r : RegId) (i j v : Nat) : (s.setReg r i j v).cores = s.cores := rfl
@[simp] theorem State.setReg_pcie (s : State) (r : RegId) (i j v : Nat) : (s.setReg r i j v).pcie = s.pcie := rfl
@[simp] theorem State.setReg_lastTag (s : State) (r : RegId) (i j v : Nat) : (s.setReg r i j v).lastTag = s.lastTag := rfl
@[simp] theorem State.setReg_meters (s : State) (r : RegId) (i j v : Nat) : (s.setReg r i j v).meters = s.meters := rfl
@[simp] theorem State.setReg_fuse (s : State) (r : RegId) (i j v : Nat) : (s.setReg r i j v).fuse = s.fuse := rfl
@[simp] theorem State.setReg_recovery (s : State) (r : RegId) (i j v : Nat) : (s.setReg r i j v).recovery = s.recovery := rfl
@[simp] theorem State.setReg_power (s : State) (r : RegId) (i j v : Nat) : (s.setReg r i j v).power = s.power := rfl
@[simp] theorem State.setReg_boot (s : State) (r : RegId) (i j v : Nat) : (s.setReg r i j v).boot = s.boot := rfl
@[simp] theorem State.setReg_muster (s : State) (r : RegId) (i j v : Nat) : (s.setReg r i j v).muster = s.muster := rfl
@[simp] theorem State.setReg_mgmt (s : State) (r : RegId) (i j v : Nat) : (s.setReg r i j v).mgmt = s.mgmt := rfl
@[simp] theorem State.setReg_flash (s : State) (r : RegId) (i j v : Nat) : (s.setReg r i j v).flash = s.flash := rfl
@[simp] theorem State.setReg_tray (s : State) (r : RegId) (i j v : Nat) : (s.setReg r i j v).tray = s.tray := rfl
@[simp] theorem State.setReg_beatNo (s : State) (r : RegId) (i j v : Nat) : (s.setReg r i j v).beatNo = s.beatNo := rfl
@[simp] theorem State.setReg_now (s : State) (r : RegId) (i j v : Nat) : (s.setReg r i j v).now = s.now := rfl
@[simp] theorem State.setReg_fresh (s : State) (r : RegId) (i j v : Nat) : (s.setReg r i j v).fresh = s.fresh := rfl
@[simp] theorem State.setReg_tile (s : State) (r : RegId) (i j v : Nat) (n' : Nat) : (s.setReg r i j v).tile n' = s.tile n' := rfl
@[simp] theorem State.setReg_pad (s : State) (r : RegId) (i j v : Nat) (q' : Nat) : (s.setReg r i j v).pad q' = s.pad q' := rfl
@[simp] theorem State.setReg_link (s : State) (r : RegId) (i j v : Nat) (p' : Nat) : (s.setReg r i j v).link p' = s.link p' := rfl
@[simp] theorem State.setReg_bytes (s : State) (r : RegId) (i j v : Nat) (a' n' : Nat) : (s.setReg r i j v).bytes a' n' = s.bytes a' n' := rfl

/-! ### `State.setFld` -/

@[simp] theorem State.setFld_pending (s : State) (f : Fld) (i j v : Nat) : (s.setFld f i j v).pending = s.pending := rfl
@[simp] theorem State.setFld_mem (s : State) (f : Fld) (i j v : Nat) : (s.setFld f i j v).mem = s.mem := rfl
@[simp] theorem State.setFld_hbmUe (s : State) (f : Fld) (i j v : Nat) : (s.setFld f i j v).hbmUe = s.hbmUe := rfl
@[simp] theorem State.setFld_hbmCe (s : State) (f : Fld) (i j v : Nat) : (s.setFld f i j v).hbmCe = s.hbmCe := rfl
@[simp] theorem State.setFld_hbmOndie (s : State) (f : Fld) (i j v : Nat) : (s.setFld f i j v).hbmOndie = s.hbmOndie := rfl
@[simp] theorem State.setFld_reads (s : State) (f : Fld) (i j v : Nat) : (s.setFld f i j v).reads = s.reads := rfl
@[simp] theorem State.setFld_scrubAt (s : State) (f : Fld) (i j v : Nat) : (s.setFld f i j v).scrubAt = s.scrubAt := rfl
@[simp] theorem State.setFld_hbmCool (s : State) (f : Fld) (i j v : Nat) : (s.setFld f i j v).hbmCool = s.hbmCool := rfl
@[simp] theorem State.setFld_bankActs (s : State) (f : Fld) (i j v : Nat) : (s.setFld f i j v).bankActs = s.bankActs := rfl
@[simp] theorem State.setFld_tiles (s : State) (f : Fld) (i j v : Nat) : (s.setFld f i j v).tiles = s.tiles := rfl
@[simp] theorem State.setFld_pads (s : State) (f : Fld) (i j v : Nat) : (s.setFld f i j v).pads = s.pads := rfl
@[simp] theorem State.setFld_grants (s : State) (f : Fld) (i j v : Nat) : (s.setFld f i j v).grants = s.grants := rfl
@[simp] theorem State.setFld_lastPad (s : State) (f : Fld) (i j v : Nat) : (s.setFld f i j v).lastPad = s.lastPad := rfl
@[simp] theorem State.setFld_flagHold (s : State) (f : Fld) (i j v : Nat) : (s.setFld f i j v).flagHold = s.flagHold := rfl
@[simp] theorem State.setFld_gets (s : State) (f : Fld) (i j v : Nat) : (s.setFld f i j v).gets = s.gets := rfl
@[simp] theorem State.setFld_input (s : State) (f : Fld) (i j v : Nat) : (s.setFld f i j v).input = s.input := rfl
@[simp] theorem State.setFld_output (s : State) (f : Fld) (i j v : Nat) : (s.setFld f i j v).output = s.output := rfl
@[simp] theorem State.setFld_delivered (s : State) (f : Fld) (i j v : Nat) : (s.setFld f i j v).delivered = s.delivered := rfl
@[simp] theorem State.setFld_uc0 (s : State) (f : Fld) (i j v : Nat) : (s.setFld f i j v).uc0 = s.uc0 := rfl
@[simp] theorem State.setFld_uc1 (s : State) (f : Fld) (i j v : Nat) : (s.setFld f i j v).uc1 = s.uc1 := rfl
@[simp] theorem State.setFld_mc0 (s : State) (f : Fld) (i j v : Nat) : (s.setFld f i j v).mc0 = s.mc0 := rfl
@[simp] theorem State.setFld_mc1 (s : State) (f : Fld) (i j v : Nat) : (s.setFld f i j v).mc1 = s.mc1 := rfl
@[simp] theorem State.setFld_lanes (s : State) (f : Fld) (i j v : Nat) : (s.setFld f i j v).lanes = s.lanes := rfl
@[simp] theorem State.setFld_links (s : State) (f : Fld) (i j v : Nat) : (s.setFld f i j v).links = s.links := rfl
@[simp] theorem State.setFld_accepted (s : State) (f : Fld) (i j v : Nat) : (s.setFld f i j v).accepted = s.accepted := rfl
@[simp] theorem State.setFld_routed (s : State) (f : Fld) (i j v : Nat) : (s.setFld f i j v).routed = s.routed := rfl
@[simp] theorem State.setFld_beat (s : State) (f : Fld) (i j v : Nat) : (s.setFld f i j v).beat = s.beat := rfl
@[simp] theorem State.setFld_slot0 (s : State) (f : Fld) (i j v : Nat) : (s.setFld f i j v).slot0 = s.slot0 := rfl
@[simp] theorem State.setFld_slot1 (s : State) (f : Fld) (i j v : Nat) : (s.setFld f i j v).slot1 = s.slot1 := rfl
@[simp] theorem State.setFld_circ0 (s : State) (f : Fld) (i j v : Nat) : (s.setFld f i j v).circ0 = s.circ0 := rfl
@[simp] theorem State.setFld_circ1 (s : State) (f : Fld) (i j v : Nat) : (s.setFld f i j v).circ1 = s.circ1 := rfl
@[simp] theorem State.setFld_steer0 (s : State) (f : Fld) (i j v : Nat) : (s.setFld f i j v).steer0 = s.steer0 := rfl
@[simp] theorem State.setFld_steer1 (s : State) (f : Fld) (i j v : Nat) : (s.setFld f i j v).steer1 = s.steer1 := rfl
@[simp] theorem State.setFld_fold (s : State) (f : Fld) (i j v : Nat) : (s.setFld f i j v).fold = s.fold := rfl
@[simp] theorem State.setFld_commits (s : State) (f : Fld) (i j v : Nat) : (s.setFld f i j v).commits = s.commits := rfl
@[simp] theorem State.setFld_pair (s : State) (f : Fld) (i j v : Nat) : (s.setFld f i j v).pair = s.pair := rfl
@[simp] theorem State.setFld_limiter (s : State) (f : Fld) (i j v : Nat) : (s.setFld f i j v).limiter = s.limiter := rfl
@[simp] theorem State.setFld_padReset (s : State) (f : Fld) (i j v : Nat) : (s.setFld f i j v).padReset = s.padReset := rfl
@[simp] theorem State.setFld_chipReset (s : State) (f : Fld) (i j v : Nat) : (s.setFld f i j v).chipReset = s.chipReset := rfl
@[simp] theorem State.setFld_out (s : State) (f : Fld) (i j v : Nat) : (s.setFld f i j v).out = s.out := rfl
@[simp] theorem State.setFld_cores (s : State) (f : Fld) (i j v : Nat) : (s.setFld f i j v).cores = s.cores := rfl
@[simp] theorem State.setFld_pcie (s : State) (f : Fld) (i j v : Nat) : (s.setFld f i j v).pcie = s.pcie := rfl
@[simp] theorem State.setFld_lastTag (s : State) (f : Fld) (i j v : Nat) : (s.setFld f i j v).lastTag = s.lastTag := rfl
@[simp] theorem State.setFld_meters (s : State) (f : Fld) (i j v : Nat) : (s.setFld f i j v).meters = s.meters := rfl
@[simp] theorem State.setFld_fuse (s : State) (f : Fld) (i j v : Nat) : (s.setFld f i j v).fuse = s.fuse := rfl
@[simp] theorem State.setFld_recovery (s : State) (f : Fld) (i j v : Nat) : (s.setFld f i j v).recovery = s.recovery := rfl
@[simp] theorem State.setFld_power (s : State) (f : Fld) (i j v : Nat) : (s.setFld f i j v).power = s.power := rfl
@[simp] theorem State.setFld_boot (s : State) (f : Fld) (i j v : Nat) : (s.setFld f i j v).boot = s.boot := rfl
@[simp] theorem State.setFld_muster (s : State) (f : Fld) (i j v : Nat) : (s.setFld f i j v).muster = s.muster := rfl
@[simp] theorem State.setFld_mgmt (s : State) (f : Fld) (i j v : Nat) : (s.setFld f i j v).mgmt = s.mgmt := rfl
@[simp] theorem State.setFld_flash (s : State) (f : Fld) (i j v : Nat) : (s.setFld f i j v).flash = s.flash := rfl
@[simp] theorem State.setFld_tray (s : State) (f : Fld) (i j v : Nat) : (s.setFld f i j v).tray = s.tray := rfl
@[simp] theorem State.setFld_beatNo (s : State) (f : Fld) (i j v : Nat) : (s.setFld f i j v).beatNo = s.beatNo := rfl
@[simp] theorem State.setFld_now (s : State) (f : Fld) (i j v : Nat) : (s.setFld f i j v).now = s.now := rfl
@[simp] theorem State.setFld_fresh (s : State) (f : Fld) (i j v : Nat) : (s.setFld f i j v).fresh = s.fresh := rfl
@[simp] theorem State.setFld_tile (s : State) (f : Fld) (i j v : Nat) (n' : Nat) : (s.setFld f i j v).tile n' = s.tile n' := rfl
@[simp] theorem State.setFld_pad (s : State) (f : Fld) (i j v : Nat) (q' : Nat) : (s.setFld f i j v).pad q' = s.pad q' := rfl
@[simp] theorem State.setFld_link (s : State) (f : Fld) (i j v : Nat) (p' : Nat) : (s.setFld f i j v).link p' = s.link p' := rfl
@[simp] theorem State.setFld_bytes (s : State) (f : Fld) (i j v : Nat) (a' n' : Nat) : (s.setFld f i j v).bytes a' n' = s.bytes a' n' := rfl

/-! ### `State.put` -/

@[simp] theorem State.put_pending (s : State) (f : Fld) (v : Nat) : (s.put f v).pending = s.pending := rfl
@[simp] theorem State.put_mem (s : State) (f : Fld) (v : Nat) : (s.put f v).mem = s.mem := rfl
@[simp] theorem State.put_hbmUe (s : State) (f : Fld) (v : Nat) : (s.put f v).hbmUe = s.hbmUe := rfl
@[simp] theorem State.put_hbmCe (s : State) (f : Fld) (v : Nat) : (s.put f v).hbmCe = s.hbmCe := rfl
@[simp] theorem State.put_hbmOndie (s : State) (f : Fld) (v : Nat) : (s.put f v).hbmOndie = s.hbmOndie := rfl
@[simp] theorem State.put_reads (s : State) (f : Fld) (v : Nat) : (s.put f v).reads = s.reads := rfl
@[simp] theorem State.put_scrubAt (s : State) (f : Fld) (v : Nat) : (s.put f v).scrubAt = s.scrubAt := rfl
@[simp] theorem State.put_hbmCool (s : State) (f : Fld) (v : Nat) : (s.put f v).hbmCool = s.hbmCool := rfl
@[simp] theorem State.put_bankActs (s : State) (f : Fld) (v : Nat) : (s.put f v).bankActs = s.bankActs := rfl
@[simp] theorem State.put_tiles (s : State) (f : Fld) (v : Nat) : (s.put f v).tiles = s.tiles := rfl
@[simp] theorem State.put_pads (s : State) (f : Fld) (v : Nat) : (s.put f v).pads = s.pads := rfl
@[simp] theorem State.put_grants (s : State) (f : Fld) (v : Nat) : (s.put f v).grants = s.grants := rfl
@[simp] theorem State.put_lastPad (s : State) (f : Fld) (v : Nat) : (s.put f v).lastPad = s.lastPad := rfl
@[simp] theorem State.put_flagHold (s : State) (f : Fld) (v : Nat) : (s.put f v).flagHold = s.flagHold := rfl
@[simp] theorem State.put_gets (s : State) (f : Fld) (v : Nat) : (s.put f v).gets = s.gets := rfl
@[simp] theorem State.put_input (s : State) (f : Fld) (v : Nat) : (s.put f v).input = s.input := rfl
@[simp] theorem State.put_output (s : State) (f : Fld) (v : Nat) : (s.put f v).output = s.output := rfl
@[simp] theorem State.put_delivered (s : State) (f : Fld) (v : Nat) : (s.put f v).delivered = s.delivered := rfl
@[simp] theorem State.put_uc0 (s : State) (f : Fld) (v : Nat) : (s.put f v).uc0 = s.uc0 := rfl
@[simp] theorem State.put_uc1 (s : State) (f : Fld) (v : Nat) : (s.put f v).uc1 = s.uc1 := rfl
@[simp] theorem State.put_mc0 (s : State) (f : Fld) (v : Nat) : (s.put f v).mc0 = s.mc0 := rfl
@[simp] theorem State.put_mc1 (s : State) (f : Fld) (v : Nat) : (s.put f v).mc1 = s.mc1 := rfl
@[simp] theorem State.put_lanes (s : State) (f : Fld) (v : Nat) : (s.put f v).lanes = s.lanes := rfl
@[simp] theorem State.put_links (s : State) (f : Fld) (v : Nat) : (s.put f v).links = s.links := rfl
@[simp] theorem State.put_accepted (s : State) (f : Fld) (v : Nat) : (s.put f v).accepted = s.accepted := rfl
@[simp] theorem State.put_routed (s : State) (f : Fld) (v : Nat) : (s.put f v).routed = s.routed := rfl
@[simp] theorem State.put_beat (s : State) (f : Fld) (v : Nat) : (s.put f v).beat = s.beat := rfl
@[simp] theorem State.put_slot0 (s : State) (f : Fld) (v : Nat) : (s.put f v).slot0 = s.slot0 := rfl
@[simp] theorem State.put_slot1 (s : State) (f : Fld) (v : Nat) : (s.put f v).slot1 = s.slot1 := rfl
@[simp] theorem State.put_circ0 (s : State) (f : Fld) (v : Nat) : (s.put f v).circ0 = s.circ0 := rfl
@[simp] theorem State.put_circ1 (s : State) (f : Fld) (v : Nat) : (s.put f v).circ1 = s.circ1 := rfl
@[simp] theorem State.put_steer0 (s : State) (f : Fld) (v : Nat) : (s.put f v).steer0 = s.steer0 := rfl
@[simp] theorem State.put_steer1 (s : State) (f : Fld) (v : Nat) : (s.put f v).steer1 = s.steer1 := rfl
@[simp] theorem State.put_fold (s : State) (f : Fld) (v : Nat) : (s.put f v).fold = s.fold := rfl
@[simp] theorem State.put_commits (s : State) (f : Fld) (v : Nat) : (s.put f v).commits = s.commits := rfl
@[simp] theorem State.put_pair (s : State) (f : Fld) (v : Nat) : (s.put f v).pair = s.pair := rfl
@[simp] theorem State.put_limiter (s : State) (f : Fld) (v : Nat) : (s.put f v).limiter = s.limiter := rfl
@[simp] theorem State.put_padReset (s : State) (f : Fld) (v : Nat) : (s.put f v).padReset = s.padReset := rfl
@[simp] theorem State.put_chipReset (s : State) (f : Fld) (v : Nat) : (s.put f v).chipReset = s.chipReset := rfl
@[simp] theorem State.put_out (s : State) (f : Fld) (v : Nat) : (s.put f v).out = s.out := rfl
@[simp] theorem State.put_cores (s : State) (f : Fld) (v : Nat) : (s.put f v).cores = s.cores := rfl
@[simp] theorem State.put_pcie (s : State) (f : Fld) (v : Nat) : (s.put f v).pcie = s.pcie := rfl
@[simp] theorem State.put_lastTag (s : State) (f : Fld) (v : Nat) : (s.put f v).lastTag = s.lastTag := rfl
@[simp] theorem State.put_meters (s : State) (f : Fld) (v : Nat) : (s.put f v).meters = s.meters := rfl
@[simp] theorem State.put_fuse (s : State) (f : Fld) (v : Nat) : (s.put f v).fuse = s.fuse := rfl
@[simp] theorem State.put_recovery (s : State) (f : Fld) (v : Nat) : (s.put f v).recovery = s.recovery := rfl
@[simp] theorem State.put_power (s : State) (f : Fld) (v : Nat) : (s.put f v).power = s.power := rfl
@[simp] theorem State.put_boot (s : State) (f : Fld) (v : Nat) : (s.put f v).boot = s.boot := rfl
@[simp] theorem State.put_muster (s : State) (f : Fld) (v : Nat) : (s.put f v).muster = s.muster := rfl
@[simp] theorem State.put_mgmt (s : State) (f : Fld) (v : Nat) : (s.put f v).mgmt = s.mgmt := rfl
@[simp] theorem State.put_flash (s : State) (f : Fld) (v : Nat) : (s.put f v).flash = s.flash := rfl
@[simp] theorem State.put_tray (s : State) (f : Fld) (v : Nat) : (s.put f v).tray = s.tray := rfl
@[simp] theorem State.put_beatNo (s : State) (f : Fld) (v : Nat) : (s.put f v).beatNo = s.beatNo := rfl
@[simp] theorem State.put_now (s : State) (f : Fld) (v : Nat) : (s.put f v).now = s.now := rfl
@[simp] theorem State.put_fresh (s : State) (f : Fld) (v : Nat) : (s.put f v).fresh = s.fresh := rfl
@[simp] theorem State.put_tile (s : State) (f : Fld) (v : Nat) (n' : Nat) : (s.put f v).tile n' = s.tile n' := rfl
@[simp] theorem State.put_pad (s : State) (f : Fld) (v : Nat) (q' : Nat) : (s.put f v).pad q' = s.pad q' := rfl
@[simp] theorem State.put_link (s : State) (f : Fld) (v : Nat) (p' : Nat) : (s.put f v).link p' = s.link p' := rfl
@[simp] theorem State.put_bytes (s : State) (f : Fld) (v : Nat) (a' n' : Nat) : (s.put f v).bytes a' n' = s.bytes a' n' := rfl

/-! ### `State.event` -/

@[simp] theorem State.event_pending (s : State) (f : Fld) (i : Nat) : (s.event f i).pending = s.pending := rfl
@[simp] theorem State.event_mem (s : State) (f : Fld) (i : Nat) : (s.event f i).mem = s.mem := rfl
@[simp] theorem State.event_hbmUe (s : State) (f : Fld) (i : Nat) : (s.event f i).hbmUe = s.hbmUe := rfl
@[simp] theorem State.event_hbmCe (s : State) (f : Fld) (i : Nat) : (s.event f i).hbmCe = s.hbmCe := rfl
@[simp] theorem State.event_hbmOndie (s : State) (f : Fld) (i : Nat) : (s.event f i).hbmOndie = s.hbmOndie := rfl
@[simp] theorem State.event_reads (s : State) (f : Fld) (i : Nat) : (s.event f i).reads = s.reads := rfl
@[simp] theorem State.event_scrubAt (s : State) (f : Fld) (i : Nat) : (s.event f i).scrubAt = s.scrubAt := rfl
@[simp] theorem State.event_hbmCool (s : State) (f : Fld) (i : Nat) : (s.event f i).hbmCool = s.hbmCool := rfl
@[simp] theorem State.event_bankActs (s : State) (f : Fld) (i : Nat) : (s.event f i).bankActs = s.bankActs := rfl
@[simp] theorem State.event_tiles (s : State) (f : Fld) (i : Nat) : (s.event f i).tiles = s.tiles := rfl
@[simp] theorem State.event_pads (s : State) (f : Fld) (i : Nat) : (s.event f i).pads = s.pads := rfl
@[simp] theorem State.event_grants (s : State) (f : Fld) (i : Nat) : (s.event f i).grants = s.grants := rfl
@[simp] theorem State.event_lastPad (s : State) (f : Fld) (i : Nat) : (s.event f i).lastPad = s.lastPad := rfl
@[simp] theorem State.event_flagHold (s : State) (f : Fld) (i : Nat) : (s.event f i).flagHold = s.flagHold := rfl
@[simp] theorem State.event_gets (s : State) (f : Fld) (i : Nat) : (s.event f i).gets = s.gets := rfl
@[simp] theorem State.event_input (s : State) (f : Fld) (i : Nat) : (s.event f i).input = s.input := rfl
@[simp] theorem State.event_output (s : State) (f : Fld) (i : Nat) : (s.event f i).output = s.output := rfl
@[simp] theorem State.event_delivered (s : State) (f : Fld) (i : Nat) : (s.event f i).delivered = s.delivered := rfl
@[simp] theorem State.event_uc0 (s : State) (f : Fld) (i : Nat) : (s.event f i).uc0 = s.uc0 := rfl
@[simp] theorem State.event_uc1 (s : State) (f : Fld) (i : Nat) : (s.event f i).uc1 = s.uc1 := rfl
@[simp] theorem State.event_mc0 (s : State) (f : Fld) (i : Nat) : (s.event f i).mc0 = s.mc0 := rfl
@[simp] theorem State.event_mc1 (s : State) (f : Fld) (i : Nat) : (s.event f i).mc1 = s.mc1 := rfl
@[simp] theorem State.event_lanes (s : State) (f : Fld) (i : Nat) : (s.event f i).lanes = s.lanes := rfl
@[simp] theorem State.event_links (s : State) (f : Fld) (i : Nat) : (s.event f i).links = s.links := rfl
@[simp] theorem State.event_accepted (s : State) (f : Fld) (i : Nat) : (s.event f i).accepted = s.accepted := rfl
@[simp] theorem State.event_routed (s : State) (f : Fld) (i : Nat) : (s.event f i).routed = s.routed := rfl
@[simp] theorem State.event_beat (s : State) (f : Fld) (i : Nat) : (s.event f i).beat = s.beat := rfl
@[simp] theorem State.event_slot0 (s : State) (f : Fld) (i : Nat) : (s.event f i).slot0 = s.slot0 := rfl
@[simp] theorem State.event_slot1 (s : State) (f : Fld) (i : Nat) : (s.event f i).slot1 = s.slot1 := rfl
@[simp] theorem State.event_circ0 (s : State) (f : Fld) (i : Nat) : (s.event f i).circ0 = s.circ0 := rfl
@[simp] theorem State.event_circ1 (s : State) (f : Fld) (i : Nat) : (s.event f i).circ1 = s.circ1 := rfl
@[simp] theorem State.event_steer0 (s : State) (f : Fld) (i : Nat) : (s.event f i).steer0 = s.steer0 := rfl
@[simp] theorem State.event_steer1 (s : State) (f : Fld) (i : Nat) : (s.event f i).steer1 = s.steer1 := rfl
@[simp] theorem State.event_fold (s : State) (f : Fld) (i : Nat) : (s.event f i).fold = s.fold := rfl
@[simp] theorem State.event_commits (s : State) (f : Fld) (i : Nat) : (s.event f i).commits = s.commits := rfl
@[simp] theorem State.event_pair (s : State) (f : Fld) (i : Nat) : (s.event f i).pair = s.pair := rfl
@[simp] theorem State.event_limiter (s : State) (f : Fld) (i : Nat) : (s.event f i).limiter = s.limiter := rfl
@[simp] theorem State.event_padReset (s : State) (f : Fld) (i : Nat) : (s.event f i).padReset = s.padReset := rfl
@[simp] theorem State.event_chipReset (s : State) (f : Fld) (i : Nat) : (s.event f i).chipReset = s.chipReset := rfl
@[simp] theorem State.event_out (s : State) (f : Fld) (i : Nat) : (s.event f i).out = s.out := rfl
@[simp] theorem State.event_cores (s : State) (f : Fld) (i : Nat) : (s.event f i).cores = s.cores := rfl
@[simp] theorem State.event_pcie (s : State) (f : Fld) (i : Nat) : (s.event f i).pcie = s.pcie := rfl
@[simp] theorem State.event_lastTag (s : State) (f : Fld) (i : Nat) : (s.event f i).lastTag = s.lastTag := rfl
@[simp] theorem State.event_meters (s : State) (f : Fld) (i : Nat) : (s.event f i).meters = s.meters := rfl
@[simp] theorem State.event_fuse (s : State) (f : Fld) (i : Nat) : (s.event f i).fuse = s.fuse := rfl
@[simp] theorem State.event_recovery (s : State) (f : Fld) (i : Nat) : (s.event f i).recovery = s.recovery := rfl
@[simp] theorem State.event_power (s : State) (f : Fld) (i : Nat) : (s.event f i).power = s.power := rfl
@[simp] theorem State.event_boot (s : State) (f : Fld) (i : Nat) : (s.event f i).boot = s.boot := rfl
@[simp] theorem State.event_muster (s : State) (f : Fld) (i : Nat) : (s.event f i).muster = s.muster := rfl
@[simp] theorem State.event_mgmt (s : State) (f : Fld) (i : Nat) : (s.event f i).mgmt = s.mgmt := rfl
@[simp] theorem State.event_flash (s : State) (f : Fld) (i : Nat) : (s.event f i).flash = s.flash := rfl
@[simp] theorem State.event_tray (s : State) (f : Fld) (i : Nat) : (s.event f i).tray = s.tray := rfl
@[simp] theorem State.event_beatNo (s : State) (f : Fld) (i : Nat) : (s.event f i).beatNo = s.beatNo := rfl
@[simp] theorem State.event_now (s : State) (f : Fld) (i : Nat) : (s.event f i).now = s.now := rfl
@[simp] theorem State.event_fresh (s : State) (f : Fld) (i : Nat) : (s.event f i).fresh = s.fresh := rfl
@[simp] theorem State.event_tile (s : State) (f : Fld) (i : Nat) (n' : Nat) : (s.event f i).tile n' = s.tile n' := rfl
@[simp] theorem State.event_pad (s : State) (f : Fld) (i : Nat) (q' : Nat) : (s.event f i).pad q' = s.pad q' := rfl
@[simp] theorem State.event_link (s : State) (f : Fld) (i : Nat) (p' : Nat) : (s.event f i).link p' = s.link p' := rfl
@[simp] theorem State.event_bytes (s : State) (f : Fld) (i : Nat) (a' n' : Nat) : (s.event f i).bytes a' n' = s.bytes a' n' := rfl

/-! ### `State.eventBit` -/

@[simp] theorem State.eventBit_pending (s : State) (f : Fld) (b i : Nat) : (s.eventBit f b i).pending = s.pending := rfl
@[simp] theorem State.eventBit_mem (s : State) (f : Fld) (b i : Nat) : (s.eventBit f b i).mem = s.mem := rfl
@[simp] theorem State.eventBit_hbmUe (s : State) (f : Fld) (b i : Nat) : (s.eventBit f b i).hbmUe = s.hbmUe := rfl
@[simp] theorem State.eventBit_hbmCe (s : State) (f : Fld) (b i : Nat) : (s.eventBit f b i).hbmCe = s.hbmCe := rfl
@[simp] theorem State.eventBit_hbmOndie (s : State) (f : Fld) (b i : Nat) : (s.eventBit f b i).hbmOndie = s.hbmOndie := rfl
@[simp] theorem State.eventBit_reads (s : State) (f : Fld) (b i : Nat) : (s.eventBit f b i).reads = s.reads := rfl
@[simp] theorem State.eventBit_scrubAt (s : State) (f : Fld) (b i : Nat) : (s.eventBit f b i).scrubAt = s.scrubAt := rfl
@[simp] theorem State.eventBit_hbmCool (s : State) (f : Fld) (b i : Nat) : (s.eventBit f b i).hbmCool = s.hbmCool := rfl
@[simp] theorem State.eventBit_bankActs (s : State) (f : Fld) (b i : Nat) : (s.eventBit f b i).bankActs = s.bankActs := rfl
@[simp] theorem State.eventBit_tiles (s : State) (f : Fld) (b i : Nat) : (s.eventBit f b i).tiles = s.tiles := rfl
@[simp] theorem State.eventBit_pads (s : State) (f : Fld) (b i : Nat) : (s.eventBit f b i).pads = s.pads := rfl
@[simp] theorem State.eventBit_grants (s : State) (f : Fld) (b i : Nat) : (s.eventBit f b i).grants = s.grants := rfl
@[simp] theorem State.eventBit_lastPad (s : State) (f : Fld) (b i : Nat) : (s.eventBit f b i).lastPad = s.lastPad := rfl
@[simp] theorem State.eventBit_flagHold (s : State) (f : Fld) (b i : Nat) : (s.eventBit f b i).flagHold = s.flagHold := rfl
@[simp] theorem State.eventBit_gets (s : State) (f : Fld) (b i : Nat) : (s.eventBit f b i).gets = s.gets := rfl
@[simp] theorem State.eventBit_input (s : State) (f : Fld) (b i : Nat) : (s.eventBit f b i).input = s.input := rfl
@[simp] theorem State.eventBit_output (s : State) (f : Fld) (b i : Nat) : (s.eventBit f b i).output = s.output := rfl
@[simp] theorem State.eventBit_delivered (s : State) (f : Fld) (b i : Nat) : (s.eventBit f b i).delivered = s.delivered := rfl
@[simp] theorem State.eventBit_uc0 (s : State) (f : Fld) (b i : Nat) : (s.eventBit f b i).uc0 = s.uc0 := rfl
@[simp] theorem State.eventBit_uc1 (s : State) (f : Fld) (b i : Nat) : (s.eventBit f b i).uc1 = s.uc1 := rfl
@[simp] theorem State.eventBit_mc0 (s : State) (f : Fld) (b i : Nat) : (s.eventBit f b i).mc0 = s.mc0 := rfl
@[simp] theorem State.eventBit_mc1 (s : State) (f : Fld) (b i : Nat) : (s.eventBit f b i).mc1 = s.mc1 := rfl
@[simp] theorem State.eventBit_lanes (s : State) (f : Fld) (b i : Nat) : (s.eventBit f b i).lanes = s.lanes := rfl
@[simp] theorem State.eventBit_links (s : State) (f : Fld) (b i : Nat) : (s.eventBit f b i).links = s.links := rfl
@[simp] theorem State.eventBit_accepted (s : State) (f : Fld) (b i : Nat) : (s.eventBit f b i).accepted = s.accepted := rfl
@[simp] theorem State.eventBit_routed (s : State) (f : Fld) (b i : Nat) : (s.eventBit f b i).routed = s.routed := rfl
@[simp] theorem State.eventBit_beat (s : State) (f : Fld) (b i : Nat) : (s.eventBit f b i).beat = s.beat := rfl
@[simp] theorem State.eventBit_slot0 (s : State) (f : Fld) (b i : Nat) : (s.eventBit f b i).slot0 = s.slot0 := rfl
@[simp] theorem State.eventBit_slot1 (s : State) (f : Fld) (b i : Nat) : (s.eventBit f b i).slot1 = s.slot1 := rfl
@[simp] theorem State.eventBit_circ0 (s : State) (f : Fld) (b i : Nat) : (s.eventBit f b i).circ0 = s.circ0 := rfl
@[simp] theorem State.eventBit_circ1 (s : State) (f : Fld) (b i : Nat) : (s.eventBit f b i).circ1 = s.circ1 := rfl
@[simp] theorem State.eventBit_steer0 (s : State) (f : Fld) (b i : Nat) : (s.eventBit f b i).steer0 = s.steer0 := rfl
@[simp] theorem State.eventBit_steer1 (s : State) (f : Fld) (b i : Nat) : (s.eventBit f b i).steer1 = s.steer1 := rfl
@[simp] theorem State.eventBit_fold (s : State) (f : Fld) (b i : Nat) : (s.eventBit f b i).fold = s.fold := rfl
@[simp] theorem State.eventBit_commits (s : State) (f : Fld) (b i : Nat) : (s.eventBit f b i).commits = s.commits := rfl
@[simp] theorem State.eventBit_pair (s : State) (f : Fld) (b i : Nat) : (s.eventBit f b i).pair = s.pair := rfl
@[simp] theorem State.eventBit_limiter (s : State) (f : Fld) (b i : Nat) : (s.eventBit f b i).limiter = s.limiter := rfl
@[simp] theorem State.eventBit_padReset (s : State) (f : Fld) (b i : Nat) : (s.eventBit f b i).padReset = s.padReset := rfl
@[simp] theorem State.eventBit_chipReset (s : State) (f : Fld) (b i : Nat) : (s.eventBit f b i).chipReset = s.chipReset := rfl
@[simp] theorem State.eventBit_out (s : State) (f : Fld) (b i : Nat) : (s.eventBit f b i).out = s.out := rfl
@[simp] theorem State.eventBit_cores (s : State) (f : Fld) (b i : Nat) : (s.eventBit f b i).cores = s.cores := rfl
@[simp] theorem State.eventBit_pcie (s : State) (f : Fld) (b i : Nat) : (s.eventBit f b i).pcie = s.pcie := rfl
@[simp] theorem State.eventBit_lastTag (s : State) (f : Fld) (b i : Nat) : (s.eventBit f b i).lastTag = s.lastTag := rfl
@[simp] theorem State.eventBit_meters (s : State) (f : Fld) (b i : Nat) : (s.eventBit f b i).meters = s.meters := rfl
@[simp] theorem State.eventBit_fuse (s : State) (f : Fld) (b i : Nat) : (s.eventBit f b i).fuse = s.fuse := rfl
@[simp] theorem State.eventBit_recovery (s : State) (f : Fld) (b i : Nat) : (s.eventBit f b i).recovery = s.recovery := rfl
@[simp] theorem State.eventBit_power (s : State) (f : Fld) (b i : Nat) : (s.eventBit f b i).power = s.power := rfl
@[simp] theorem State.eventBit_boot (s : State) (f : Fld) (b i : Nat) : (s.eventBit f b i).boot = s.boot := rfl
@[simp] theorem State.eventBit_muster (s : State) (f : Fld) (b i : Nat) : (s.eventBit f b i).muster = s.muster := rfl
@[simp] theorem State.eventBit_mgmt (s : State) (f : Fld) (b i : Nat) : (s.eventBit f b i).mgmt = s.mgmt := rfl
@[simp] theorem State.eventBit_flash (s : State) (f : Fld) (b i : Nat) : (s.eventBit f b i).flash = s.flash := rfl
@[simp] theorem State.eventBit_tray (s : State) (f : Fld) (b i : Nat) : (s.eventBit f b i).tray = s.tray := rfl
@[simp] theorem State.eventBit_beatNo (s : State) (f : Fld) (b i : Nat) : (s.eventBit f b i).beatNo = s.beatNo := rfl
@[simp] theorem State.eventBit_now (s : State) (f : Fld) (b i : Nat) : (s.eventBit f b i).now = s.now := rfl
@[simp] theorem State.eventBit_fresh (s : State) (f : Fld) (b i : Nat) : (s.eventBit f b i).fresh = s.fresh := rfl
@[simp] theorem State.eventBit_tile (s : State) (f : Fld) (b i : Nat) (n' : Nat) : (s.eventBit f b i).tile n' = s.tile n' := rfl
@[simp] theorem State.eventBit_pad (s : State) (f : Fld) (b i : Nat) (q' : Nat) : (s.eventBit f b i).pad q' = s.pad q' := rfl
@[simp] theorem State.eventBit_link (s : State) (f : Fld) (b i : Nat) (p' : Nat) : (s.eventBit f b i).link p' = s.link p' := rfl
@[simp] theorem State.eventBit_bytes (s : State) (f : Fld) (b i : Nat) (a' n' : Nat) : (s.eventBit f b i).bytes a' n' = s.bytes a' n' := rfl

/-! ### `State.satCount` -/

@[simp] theorem State.satCount_pending (s : State) (f : Fld) (i j n : Nat) : (s.satCount f i j n).pending = s.pending := rfl
@[simp] theorem State.satCount_mem (s : State) (f : Fld) (i j n : Nat) : (s.satCount f i j n).mem = s.mem := rfl
@[simp] theorem State.satCount_hbmUe (s : State) (f : Fld) (i j n : Nat) : (s.satCount f i j n).hbmUe = s.hbmUe := rfl
@[simp] theorem State.satCount_hbmCe (s : State) (f : Fld) (i j n : Nat) : (s.satCount f i j n).hbmCe = s.hbmCe := rfl
@[simp] theorem State.satCount_hbmOndie (s : State) (f : Fld) (i j n : Nat) : (s.satCount f i j n).hbmOndie = s.hbmOndie := rfl
@[simp] theorem State.satCount_reads (s : State) (f : Fld) (i j n : Nat) : (s.satCount f i j n).reads = s.reads := rfl
@[simp] theorem State.satCount_scrubAt (s : State) (f : Fld) (i j n : Nat) : (s.satCount f i j n).scrubAt = s.scrubAt := rfl
@[simp] theorem State.satCount_hbmCool (s : State) (f : Fld) (i j n : Nat) : (s.satCount f i j n).hbmCool = s.hbmCool := rfl
@[simp] theorem State.satCount_bankActs (s : State) (f : Fld) (i j n : Nat) : (s.satCount f i j n).bankActs = s.bankActs := rfl
@[simp] theorem State.satCount_tiles (s : State) (f : Fld) (i j n : Nat) : (s.satCount f i j n).tiles = s.tiles := rfl
@[simp] theorem State.satCount_pads (s : State) (f : Fld) (i j n : Nat) : (s.satCount f i j n).pads = s.pads := rfl
@[simp] theorem State.satCount_grants (s : State) (f : Fld) (i j n : Nat) : (s.satCount f i j n).grants = s.grants := rfl
@[simp] theorem State.satCount_lastPad (s : State) (f : Fld) (i j n : Nat) : (s.satCount f i j n).lastPad = s.lastPad := rfl
@[simp] theorem State.satCount_flagHold (s : State) (f : Fld) (i j n : Nat) : (s.satCount f i j n).flagHold = s.flagHold := rfl
@[simp] theorem State.satCount_gets (s : State) (f : Fld) (i j n : Nat) : (s.satCount f i j n).gets = s.gets := rfl
@[simp] theorem State.satCount_input (s : State) (f : Fld) (i j n : Nat) : (s.satCount f i j n).input = s.input := rfl
@[simp] theorem State.satCount_output (s : State) (f : Fld) (i j n : Nat) : (s.satCount f i j n).output = s.output := rfl
@[simp] theorem State.satCount_delivered (s : State) (f : Fld) (i j n : Nat) : (s.satCount f i j n).delivered = s.delivered := rfl
@[simp] theorem State.satCount_uc0 (s : State) (f : Fld) (i j n : Nat) : (s.satCount f i j n).uc0 = s.uc0 := rfl
@[simp] theorem State.satCount_uc1 (s : State) (f : Fld) (i j n : Nat) : (s.satCount f i j n).uc1 = s.uc1 := rfl
@[simp] theorem State.satCount_mc0 (s : State) (f : Fld) (i j n : Nat) : (s.satCount f i j n).mc0 = s.mc0 := rfl
@[simp] theorem State.satCount_mc1 (s : State) (f : Fld) (i j n : Nat) : (s.satCount f i j n).mc1 = s.mc1 := rfl
@[simp] theorem State.satCount_lanes (s : State) (f : Fld) (i j n : Nat) : (s.satCount f i j n).lanes = s.lanes := rfl
@[simp] theorem State.satCount_links (s : State) (f : Fld) (i j n : Nat) : (s.satCount f i j n).links = s.links := rfl
@[simp] theorem State.satCount_accepted (s : State) (f : Fld) (i j n : Nat) : (s.satCount f i j n).accepted = s.accepted := rfl
@[simp] theorem State.satCount_routed (s : State) (f : Fld) (i j n : Nat) : (s.satCount f i j n).routed = s.routed := rfl
@[simp] theorem State.satCount_beat (s : State) (f : Fld) (i j n : Nat) : (s.satCount f i j n).beat = s.beat := rfl
@[simp] theorem State.satCount_slot0 (s : State) (f : Fld) (i j n : Nat) : (s.satCount f i j n).slot0 = s.slot0 := rfl
@[simp] theorem State.satCount_slot1 (s : State) (f : Fld) (i j n : Nat) : (s.satCount f i j n).slot1 = s.slot1 := rfl
@[simp] theorem State.satCount_circ0 (s : State) (f : Fld) (i j n : Nat) : (s.satCount f i j n).circ0 = s.circ0 := rfl
@[simp] theorem State.satCount_circ1 (s : State) (f : Fld) (i j n : Nat) : (s.satCount f i j n).circ1 = s.circ1 := rfl
@[simp] theorem State.satCount_steer0 (s : State) (f : Fld) (i j n : Nat) : (s.satCount f i j n).steer0 = s.steer0 := rfl
@[simp] theorem State.satCount_steer1 (s : State) (f : Fld) (i j n : Nat) : (s.satCount f i j n).steer1 = s.steer1 := rfl
@[simp] theorem State.satCount_fold (s : State) (f : Fld) (i j n : Nat) : (s.satCount f i j n).fold = s.fold := rfl
@[simp] theorem State.satCount_commits (s : State) (f : Fld) (i j n : Nat) : (s.satCount f i j n).commits = s.commits := rfl
@[simp] theorem State.satCount_pair (s : State) (f : Fld) (i j n : Nat) : (s.satCount f i j n).pair = s.pair := rfl
@[simp] theorem State.satCount_limiter (s : State) (f : Fld) (i j n : Nat) : (s.satCount f i j n).limiter = s.limiter := rfl
@[simp] theorem State.satCount_padReset (s : State) (f : Fld) (i j n : Nat) : (s.satCount f i j n).padReset = s.padReset := rfl
@[simp] theorem State.satCount_chipReset (s : State) (f : Fld) (i j n : Nat) : (s.satCount f i j n).chipReset = s.chipReset := rfl
@[simp] theorem State.satCount_out (s : State) (f : Fld) (i j n : Nat) : (s.satCount f i j n).out = s.out := rfl
@[simp] theorem State.satCount_cores (s : State) (f : Fld) (i j n : Nat) : (s.satCount f i j n).cores = s.cores := rfl
@[simp] theorem State.satCount_pcie (s : State) (f : Fld) (i j n : Nat) : (s.satCount f i j n).pcie = s.pcie := rfl
@[simp] theorem State.satCount_lastTag (s : State) (f : Fld) (i j n : Nat) : (s.satCount f i j n).lastTag = s.lastTag := rfl
@[simp] theorem State.satCount_meters (s : State) (f : Fld) (i j n : Nat) : (s.satCount f i j n).meters = s.meters := rfl
@[simp] theorem State.satCount_fuse (s : State) (f : Fld) (i j n : Nat) : (s.satCount f i j n).fuse = s.fuse := rfl
@[simp] theorem State.satCount_recovery (s : State) (f : Fld) (i j n : Nat) : (s.satCount f i j n).recovery = s.recovery := rfl
@[simp] theorem State.satCount_power (s : State) (f : Fld) (i j n : Nat) : (s.satCount f i j n).power = s.power := rfl
@[simp] theorem State.satCount_boot (s : State) (f : Fld) (i j n : Nat) : (s.satCount f i j n).boot = s.boot := rfl
@[simp] theorem State.satCount_muster (s : State) (f : Fld) (i j n : Nat) : (s.satCount f i j n).muster = s.muster := rfl
@[simp] theorem State.satCount_mgmt (s : State) (f : Fld) (i j n : Nat) : (s.satCount f i j n).mgmt = s.mgmt := rfl
@[simp] theorem State.satCount_flash (s : State) (f : Fld) (i j n : Nat) : (s.satCount f i j n).flash = s.flash := rfl
@[simp] theorem State.satCount_tray (s : State) (f : Fld) (i j n : Nat) : (s.satCount f i j n).tray = s.tray := rfl
@[simp] theorem State.satCount_beatNo (s : State) (f : Fld) (i j n : Nat) : (s.satCount f i j n).beatNo = s.beatNo := rfl
@[simp] theorem State.satCount_now (s : State) (f : Fld) (i j n : Nat) : (s.satCount f i j n).now = s.now := rfl
@[simp] theorem State.satCount_fresh (s : State) (f : Fld) (i j n : Nat) : (s.satCount f i j n).fresh = s.fresh := rfl
@[simp] theorem State.satCount_tile (s : State) (f : Fld) (i j n : Nat) (n' : Nat) : (s.satCount f i j n).tile n' = s.tile n' := rfl
@[simp] theorem State.satCount_pad (s : State) (f : Fld) (i j n : Nat) (q' : Nat) : (s.satCount f i j n).pad q' = s.pad q' := rfl
@[simp] theorem State.satCount_link (s : State) (f : Fld) (i j n : Nat) (p' : Nat) : (s.satCount f i j n).link p' = s.link p' := rfl
@[simp] theorem State.satCount_bytes (s : State) (f : Fld) (i j n : Nat) (a' n' : Nat) : (s.satCount f i j n).bytes a' n' = s.bytes a' n' := rfl

/-! ### `State.wrapCount` -/

@[simp] theorem State.wrapCount_pending (s : State) (f : Fld) (i j n : Nat) : (s.wrapCount f i j n).pending = s.pending := rfl
@[simp] theorem State.wrapCount_mem (s : State) (f : Fld) (i j n : Nat) : (s.wrapCount f i j n).mem = s.mem := rfl
@[simp] theorem State.wrapCount_hbmUe (s : State) (f : Fld) (i j n : Nat) : (s.wrapCount f i j n).hbmUe = s.hbmUe := rfl
@[simp] theorem State.wrapCount_hbmCe (s : State) (f : Fld) (i j n : Nat) : (s.wrapCount f i j n).hbmCe = s.hbmCe := rfl
@[simp] theorem State.wrapCount_hbmOndie (s : State) (f : Fld) (i j n : Nat) : (s.wrapCount f i j n).hbmOndie = s.hbmOndie := rfl
@[simp] theorem State.wrapCount_reads (s : State) (f : Fld) (i j n : Nat) : (s.wrapCount f i j n).reads = s.reads := rfl
@[simp] theorem State.wrapCount_scrubAt (s : State) (f : Fld) (i j n : Nat) : (s.wrapCount f i j n).scrubAt = s.scrubAt := rfl
@[simp] theorem State.wrapCount_hbmCool (s : State) (f : Fld) (i j n : Nat) : (s.wrapCount f i j n).hbmCool = s.hbmCool := rfl
@[simp] theorem State.wrapCount_bankActs (s : State) (f : Fld) (i j n : Nat) : (s.wrapCount f i j n).bankActs = s.bankActs := rfl
@[simp] theorem State.wrapCount_tiles (s : State) (f : Fld) (i j n : Nat) : (s.wrapCount f i j n).tiles = s.tiles := rfl
@[simp] theorem State.wrapCount_pads (s : State) (f : Fld) (i j n : Nat) : (s.wrapCount f i j n).pads = s.pads := rfl
@[simp] theorem State.wrapCount_grants (s : State) (f : Fld) (i j n : Nat) : (s.wrapCount f i j n).grants = s.grants := rfl
@[simp] theorem State.wrapCount_lastPad (s : State) (f : Fld) (i j n : Nat) : (s.wrapCount f i j n).lastPad = s.lastPad := rfl
@[simp] theorem State.wrapCount_flagHold (s : State) (f : Fld) (i j n : Nat) : (s.wrapCount f i j n).flagHold = s.flagHold := rfl
@[simp] theorem State.wrapCount_gets (s : State) (f : Fld) (i j n : Nat) : (s.wrapCount f i j n).gets = s.gets := rfl
@[simp] theorem State.wrapCount_input (s : State) (f : Fld) (i j n : Nat) : (s.wrapCount f i j n).input = s.input := rfl
@[simp] theorem State.wrapCount_output (s : State) (f : Fld) (i j n : Nat) : (s.wrapCount f i j n).output = s.output := rfl
@[simp] theorem State.wrapCount_delivered (s : State) (f : Fld) (i j n : Nat) : (s.wrapCount f i j n).delivered = s.delivered := rfl
@[simp] theorem State.wrapCount_uc0 (s : State) (f : Fld) (i j n : Nat) : (s.wrapCount f i j n).uc0 = s.uc0 := rfl
@[simp] theorem State.wrapCount_uc1 (s : State) (f : Fld) (i j n : Nat) : (s.wrapCount f i j n).uc1 = s.uc1 := rfl
@[simp] theorem State.wrapCount_mc0 (s : State) (f : Fld) (i j n : Nat) : (s.wrapCount f i j n).mc0 = s.mc0 := rfl
@[simp] theorem State.wrapCount_mc1 (s : State) (f : Fld) (i j n : Nat) : (s.wrapCount f i j n).mc1 = s.mc1 := rfl
@[simp] theorem State.wrapCount_lanes (s : State) (f : Fld) (i j n : Nat) : (s.wrapCount f i j n).lanes = s.lanes := rfl
@[simp] theorem State.wrapCount_links (s : State) (f : Fld) (i j n : Nat) : (s.wrapCount f i j n).links = s.links := rfl
@[simp] theorem State.wrapCount_accepted (s : State) (f : Fld) (i j n : Nat) : (s.wrapCount f i j n).accepted = s.accepted := rfl
@[simp] theorem State.wrapCount_routed (s : State) (f : Fld) (i j n : Nat) : (s.wrapCount f i j n).routed = s.routed := rfl
@[simp] theorem State.wrapCount_beat (s : State) (f : Fld) (i j n : Nat) : (s.wrapCount f i j n).beat = s.beat := rfl
@[simp] theorem State.wrapCount_slot0 (s : State) (f : Fld) (i j n : Nat) : (s.wrapCount f i j n).slot0 = s.slot0 := rfl
@[simp] theorem State.wrapCount_slot1 (s : State) (f : Fld) (i j n : Nat) : (s.wrapCount f i j n).slot1 = s.slot1 := rfl
@[simp] theorem State.wrapCount_circ0 (s : State) (f : Fld) (i j n : Nat) : (s.wrapCount f i j n).circ0 = s.circ0 := rfl
@[simp] theorem State.wrapCount_circ1 (s : State) (f : Fld) (i j n : Nat) : (s.wrapCount f i j n).circ1 = s.circ1 := rfl
@[simp] theorem State.wrapCount_steer0 (s : State) (f : Fld) (i j n : Nat) : (s.wrapCount f i j n).steer0 = s.steer0 := rfl
@[simp] theorem State.wrapCount_steer1 (s : State) (f : Fld) (i j n : Nat) : (s.wrapCount f i j n).steer1 = s.steer1 := rfl
@[simp] theorem State.wrapCount_fold (s : State) (f : Fld) (i j n : Nat) : (s.wrapCount f i j n).fold = s.fold := rfl
@[simp] theorem State.wrapCount_commits (s : State) (f : Fld) (i j n : Nat) : (s.wrapCount f i j n).commits = s.commits := rfl
@[simp] theorem State.wrapCount_pair (s : State) (f : Fld) (i j n : Nat) : (s.wrapCount f i j n).pair = s.pair := rfl
@[simp] theorem State.wrapCount_limiter (s : State) (f : Fld) (i j n : Nat) : (s.wrapCount f i j n).limiter = s.limiter := rfl
@[simp] theorem State.wrapCount_padReset (s : State) (f : Fld) (i j n : Nat) : (s.wrapCount f i j n).padReset = s.padReset := rfl
@[simp] theorem State.wrapCount_chipReset (s : State) (f : Fld) (i j n : Nat) : (s.wrapCount f i j n).chipReset = s.chipReset := rfl
@[simp] theorem State.wrapCount_out (s : State) (f : Fld) (i j n : Nat) : (s.wrapCount f i j n).out = s.out := rfl
@[simp] theorem State.wrapCount_cores (s : State) (f : Fld) (i j n : Nat) : (s.wrapCount f i j n).cores = s.cores := rfl
@[simp] theorem State.wrapCount_pcie (s : State) (f : Fld) (i j n : Nat) : (s.wrapCount f i j n).pcie = s.pcie := rfl
@[simp] theorem State.wrapCount_lastTag (s : State) (f : Fld) (i j n : Nat) : (s.wrapCount f i j n).lastTag = s.lastTag := rfl
@[simp] theorem State.wrapCount_meters (s : State) (f : Fld) (i j n : Nat) : (s.wrapCount f i j n).meters = s.meters := rfl
@[simp] theorem State.wrapCount_fuse (s : State) (f : Fld) (i j n : Nat) : (s.wrapCount f i j n).fuse = s.fuse := rfl
@[simp] theorem State.wrapCount_recovery (s : State) (f : Fld) (i j n : Nat) : (s.wrapCount f i j n).recovery = s.recovery := rfl
@[simp] theorem State.wrapCount_power (s : State) (f : Fld) (i j n : Nat) : (s.wrapCount f i j n).power = s.power := rfl
@[simp] theorem State.wrapCount_boot (s : State) (f : Fld) (i j n : Nat) : (s.wrapCount f i j n).boot = s.boot := rfl
@[simp] theorem State.wrapCount_muster (s : State) (f : Fld) (i j n : Nat) : (s.wrapCount f i j n).muster = s.muster := rfl
@[simp] theorem State.wrapCount_mgmt (s : State) (f : Fld) (i j n : Nat) : (s.wrapCount f i j n).mgmt = s.mgmt := rfl
@[simp] theorem State.wrapCount_flash (s : State) (f : Fld) (i j n : Nat) : (s.wrapCount f i j n).flash = s.flash := rfl
@[simp] theorem State.wrapCount_tray (s : State) (f : Fld) (i j n : Nat) : (s.wrapCount f i j n).tray = s.tray := rfl
@[simp] theorem State.wrapCount_beatNo (s : State) (f : Fld) (i j n : Nat) : (s.wrapCount f i j n).beatNo = s.beatNo := rfl
@[simp] theorem State.wrapCount_now (s : State) (f : Fld) (i j n : Nat) : (s.wrapCount f i j n).now = s.now := rfl
@[simp] theorem State.wrapCount_fresh (s : State) (f : Fld) (i j n : Nat) : (s.wrapCount f i j n).fresh = s.fresh := rfl
@[simp] theorem State.wrapCount_tile (s : State) (f : Fld) (i j n : Nat) (n' : Nat) : (s.wrapCount f i j n).tile n' = s.tile n' := rfl
@[simp] theorem State.wrapCount_pad (s : State) (f : Fld) (i j n : Nat) (q' : Nat) : (s.wrapCount f i j n).pad q' = s.pad q' := rfl
@[simp] theorem State.wrapCount_link (s : State) (f : Fld) (i j n : Nat) (p' : Nat) : (s.wrapCount f i j n).link p' = s.link p' := rfl
@[simp] theorem State.wrapCount_bytes (s : State) (f : Fld) (i j n : Nat) (a' n' : Nat) : (s.wrapCount f i j n).bytes a' n' = s.bytes a' n' := rfl

/-! ### `State.spend` -/

@[simp] theorem State.spend_pending (s : State) : (s.spend).pending = s.pending := rfl
@[simp] theorem State.spend_regs (s : State) : (s.spend).regs = s.regs := rfl
@[simp] theorem State.spend_mem (s : State) : (s.spend).mem = s.mem := rfl
@[simp] theorem State.spend_hbmUe (s : State) : (s.spend).hbmUe = s.hbmUe := rfl
@[simp] theorem State.spend_hbmCe (s : State) : (s.spend).hbmCe = s.hbmCe := rfl
@[simp] theorem State.spend_hbmOndie (s : State) : (s.spend).hbmOndie = s.hbmOndie := rfl
@[simp] theorem State.spend_reads (s : State) : (s.spend).reads = s.reads := rfl
@[simp] theorem State.spend_scrubAt (s : State) : (s.spend).scrubAt = s.scrubAt := rfl
@[simp] theorem State.spend_hbmCool (s : State) : (s.spend).hbmCool = s.hbmCool := rfl
@[simp] theorem State.spend_bankActs (s : State) : (s.spend).bankActs = s.bankActs := rfl
@[simp] theorem State.spend_tiles (s : State) : (s.spend).tiles = s.tiles := rfl
@[simp] theorem State.spend_pads (s : State) : (s.spend).pads = s.pads := rfl
@[simp] theorem State.spend_grants (s : State) : (s.spend).grants = s.grants := rfl
@[simp] theorem State.spend_lastPad (s : State) : (s.spend).lastPad = s.lastPad := rfl
@[simp] theorem State.spend_flagHold (s : State) : (s.spend).flagHold = s.flagHold := rfl
@[simp] theorem State.spend_gets (s : State) : (s.spend).gets = s.gets := rfl
@[simp] theorem State.spend_input (s : State) : (s.spend).input = s.input := rfl
@[simp] theorem State.spend_output (s : State) : (s.spend).output = s.output := rfl
@[simp] theorem State.spend_delivered (s : State) : (s.spend).delivered = s.delivered := rfl
@[simp] theorem State.spend_uc0 (s : State) : (s.spend).uc0 = s.uc0 := rfl
@[simp] theorem State.spend_uc1 (s : State) : (s.spend).uc1 = s.uc1 := rfl
@[simp] theorem State.spend_mc0 (s : State) : (s.spend).mc0 = s.mc0 := rfl
@[simp] theorem State.spend_mc1 (s : State) : (s.spend).mc1 = s.mc1 := rfl
@[simp] theorem State.spend_lanes (s : State) : (s.spend).lanes = s.lanes := rfl
@[simp] theorem State.spend_links (s : State) : (s.spend).links = s.links := rfl
@[simp] theorem State.spend_accepted (s : State) : (s.spend).accepted = s.accepted := rfl
@[simp] theorem State.spend_routed (s : State) : (s.spend).routed = s.routed := rfl
@[simp] theorem State.spend_beat (s : State) : (s.spend).beat = s.beat := rfl
@[simp] theorem State.spend_slot0 (s : State) : (s.spend).slot0 = s.slot0 := rfl
@[simp] theorem State.spend_slot1 (s : State) : (s.spend).slot1 = s.slot1 := rfl
@[simp] theorem State.spend_circ0 (s : State) : (s.spend).circ0 = s.circ0 := rfl
@[simp] theorem State.spend_circ1 (s : State) : (s.spend).circ1 = s.circ1 := rfl
@[simp] theorem State.spend_steer0 (s : State) : (s.spend).steer0 = s.steer0 := rfl
@[simp] theorem State.spend_steer1 (s : State) : (s.spend).steer1 = s.steer1 := rfl
@[simp] theorem State.spend_fold (s : State) : (s.spend).fold = s.fold := rfl
@[simp] theorem State.spend_commits (s : State) : (s.spend).commits = s.commits := rfl
@[simp] theorem State.spend_pair (s : State) : (s.spend).pair = s.pair := rfl
@[simp] theorem State.spend_limiter (s : State) : (s.spend).limiter = s.limiter := rfl
@[simp] theorem State.spend_padReset (s : State) : (s.spend).padReset = s.padReset := rfl
@[simp] theorem State.spend_chipReset (s : State) : (s.spend).chipReset = s.chipReset := rfl
@[simp] theorem State.spend_out (s : State) : (s.spend).out = s.out := rfl
@[simp] theorem State.spend_cores (s : State) : (s.spend).cores = s.cores := rfl
@[simp] theorem State.spend_pcie (s : State) : (s.spend).pcie = s.pcie := rfl
@[simp] theorem State.spend_lastTag (s : State) : (s.spend).lastTag = s.lastTag := rfl
@[simp] theorem State.spend_meters (s : State) : (s.spend).meters = s.meters := rfl
@[simp] theorem State.spend_fuse (s : State) : (s.spend).fuse = s.fuse := rfl
@[simp] theorem State.spend_recovery (s : State) : (s.spend).recovery = s.recovery := rfl
@[simp] theorem State.spend_power (s : State) : (s.spend).power = s.power := rfl
@[simp] theorem State.spend_boot (s : State) : (s.spend).boot = s.boot := rfl
@[simp] theorem State.spend_muster (s : State) : (s.spend).muster = s.muster := rfl
@[simp] theorem State.spend_mgmt (s : State) : (s.spend).mgmt = s.mgmt := rfl
@[simp] theorem State.spend_flash (s : State) : (s.spend).flash = s.flash := rfl
@[simp] theorem State.spend_tray (s : State) : (s.spend).tray = s.tray := rfl
@[simp] theorem State.spend_beatNo (s : State) : (s.spend).beatNo = s.beatNo := rfl
@[simp] theorem State.spend_now (s : State) : (s.spend).now = s.now := rfl
@[simp] theorem State.spend_reg (s : State) (q' : RegId) (a' b' : Nat) : (s.spend).reg q' a' b' = s.reg q' a' b' := rfl
@[simp] theorem State.spend_fld (s : State) (g' : Fld) (a' b' : Nat) : (s.spend).fld g' a' b' = s.fld g' a' b' := rfl
@[simp] theorem State.spend_flag (s : State) (g' : Fld) (a' b' : Nat) : (s.spend).flag g' a' b' = s.flag g' a' b' := rfl
@[simp] theorem State.spend_tile (s : State) (n' : Nat) : (s.spend).tile n' = s.tile n' := rfl
@[simp] theorem State.spend_pad (s : State) (q' : Nat) : (s.spend).pad q' = s.pad q' := rfl
@[simp] theorem State.spend_link (s : State) (p' : Nat) : (s.spend).link p' = s.link p' := rfl
@[simp] theorem State.spend_bytes (s : State) (a' n' : Nat) : (s.spend).bytes a' n' = s.bytes a' n' := rfl

/-! ### `State.store` -/

@[simp] theorem State.store_pending (s : State) (a : Nat) (bs : List Byte) : (s.store a bs).pending = s.pending := rfl
@[simp] theorem State.store_regs (s : State) (a : Nat) (bs : List Byte) : (s.store a bs).regs = s.regs := rfl
@[simp] theorem State.store_hbmUe (s : State) (a : Nat) (bs : List Byte) : (s.store a bs).hbmUe = s.hbmUe := rfl
@[simp] theorem State.store_hbmCe (s : State) (a : Nat) (bs : List Byte) : (s.store a bs).hbmCe = s.hbmCe := rfl
@[simp] theorem State.store_hbmOndie (s : State) (a : Nat) (bs : List Byte) : (s.store a bs).hbmOndie = s.hbmOndie := rfl
@[simp] theorem State.store_reads (s : State) (a : Nat) (bs : List Byte) : (s.store a bs).reads = s.reads := rfl
@[simp] theorem State.store_scrubAt (s : State) (a : Nat) (bs : List Byte) : (s.store a bs).scrubAt = s.scrubAt := rfl
@[simp] theorem State.store_hbmCool (s : State) (a : Nat) (bs : List Byte) : (s.store a bs).hbmCool = s.hbmCool := rfl
@[simp] theorem State.store_bankActs (s : State) (a : Nat) (bs : List Byte) : (s.store a bs).bankActs = s.bankActs := rfl
@[simp] theorem State.store_tiles (s : State) (a : Nat) (bs : List Byte) : (s.store a bs).tiles = s.tiles := rfl
@[simp] theorem State.store_pads (s : State) (a : Nat) (bs : List Byte) : (s.store a bs).pads = s.pads := rfl
@[simp] theorem State.store_grants (s : State) (a : Nat) (bs : List Byte) : (s.store a bs).grants = s.grants := rfl
@[simp] theorem State.store_lastPad (s : State) (a : Nat) (bs : List Byte) : (s.store a bs).lastPad = s.lastPad := rfl
@[simp] theorem State.store_flagHold (s : State) (a : Nat) (bs : List Byte) : (s.store a bs).flagHold = s.flagHold := rfl
@[simp] theorem State.store_gets (s : State) (a : Nat) (bs : List Byte) : (s.store a bs).gets = s.gets := rfl
@[simp] theorem State.store_input (s : State) (a : Nat) (bs : List Byte) : (s.store a bs).input = s.input := rfl
@[simp] theorem State.store_output (s : State) (a : Nat) (bs : List Byte) : (s.store a bs).output = s.output := rfl
@[simp] theorem State.store_delivered (s : State) (a : Nat) (bs : List Byte) : (s.store a bs).delivered = s.delivered := rfl
@[simp] theorem State.store_uc0 (s : State) (a : Nat) (bs : List Byte) : (s.store a bs).uc0 = s.uc0 := rfl
@[simp] theorem State.store_uc1 (s : State) (a : Nat) (bs : List Byte) : (s.store a bs).uc1 = s.uc1 := rfl
@[simp] theorem State.store_mc0 (s : State) (a : Nat) (bs : List Byte) : (s.store a bs).mc0 = s.mc0 := rfl
@[simp] theorem State.store_mc1 (s : State) (a : Nat) (bs : List Byte) : (s.store a bs).mc1 = s.mc1 := rfl
@[simp] theorem State.store_lanes (s : State) (a : Nat) (bs : List Byte) : (s.store a bs).lanes = s.lanes := rfl
@[simp] theorem State.store_links (s : State) (a : Nat) (bs : List Byte) : (s.store a bs).links = s.links := rfl
@[simp] theorem State.store_accepted (s : State) (a : Nat) (bs : List Byte) : (s.store a bs).accepted = s.accepted := rfl
@[simp] theorem State.store_routed (s : State) (a : Nat) (bs : List Byte) : (s.store a bs).routed = s.routed := rfl
@[simp] theorem State.store_beat (s : State) (a : Nat) (bs : List Byte) : (s.store a bs).beat = s.beat := rfl
@[simp] theorem State.store_slot0 (s : State) (a : Nat) (bs : List Byte) : (s.store a bs).slot0 = s.slot0 := rfl
@[simp] theorem State.store_slot1 (s : State) (a : Nat) (bs : List Byte) : (s.store a bs).slot1 = s.slot1 := rfl
@[simp] theorem State.store_circ0 (s : State) (a : Nat) (bs : List Byte) : (s.store a bs).circ0 = s.circ0 := rfl
@[simp] theorem State.store_circ1 (s : State) (a : Nat) (bs : List Byte) : (s.store a bs).circ1 = s.circ1 := rfl
@[simp] theorem State.store_steer0 (s : State) (a : Nat) (bs : List Byte) : (s.store a bs).steer0 = s.steer0 := rfl
@[simp] theorem State.store_steer1 (s : State) (a : Nat) (bs : List Byte) : (s.store a bs).steer1 = s.steer1 := rfl
@[simp] theorem State.store_fold (s : State) (a : Nat) (bs : List Byte) : (s.store a bs).fold = s.fold := rfl
@[simp] theorem State.store_commits (s : State) (a : Nat) (bs : List Byte) : (s.store a bs).commits = s.commits := rfl
@[simp] theorem State.store_pair (s : State) (a : Nat) (bs : List Byte) : (s.store a bs).pair = s.pair := rfl
@[simp] theorem State.store_limiter (s : State) (a : Nat) (bs : List Byte) : (s.store a bs).limiter = s.limiter := rfl
@[simp] theorem State.store_padReset (s : State) (a : Nat) (bs : List Byte) : (s.store a bs).padReset = s.padReset := rfl
@[simp] theorem State.store_chipReset (s : State) (a : Nat) (bs : List Byte) : (s.store a bs).chipReset = s.chipReset := rfl
@[simp] theorem State.store_out (s : State) (a : Nat) (bs : List Byte) : (s.store a bs).out = s.out := rfl
@[simp] theorem State.store_cores (s : State) (a : Nat) (bs : List Byte) : (s.store a bs).cores = s.cores := rfl
@[simp] theorem State.store_pcie (s : State) (a : Nat) (bs : List Byte) : (s.store a bs).pcie = s.pcie := rfl
@[simp] theorem State.store_lastTag (s : State) (a : Nat) (bs : List Byte) : (s.store a bs).lastTag = s.lastTag := rfl
@[simp] theorem State.store_meters (s : State) (a : Nat) (bs : List Byte) : (s.store a bs).meters = s.meters := rfl
@[simp] theorem State.store_fuse (s : State) (a : Nat) (bs : List Byte) : (s.store a bs).fuse = s.fuse := rfl
@[simp] theorem State.store_recovery (s : State) (a : Nat) (bs : List Byte) : (s.store a bs).recovery = s.recovery := rfl
@[simp] theorem State.store_power (s : State) (a : Nat) (bs : List Byte) : (s.store a bs).power = s.power := rfl
@[simp] theorem State.store_boot (s : State) (a : Nat) (bs : List Byte) : (s.store a bs).boot = s.boot := rfl
@[simp] theorem State.store_muster (s : State) (a : Nat) (bs : List Byte) : (s.store a bs).muster = s.muster := rfl
@[simp] theorem State.store_mgmt (s : State) (a : Nat) (bs : List Byte) : (s.store a bs).mgmt = s.mgmt := rfl
@[simp] theorem State.store_flash (s : State) (a : Nat) (bs : List Byte) : (s.store a bs).flash = s.flash := rfl
@[simp] theorem State.store_tray (s : State) (a : Nat) (bs : List Byte) : (s.store a bs).tray = s.tray := rfl
@[simp] theorem State.store_beatNo (s : State) (a : Nat) (bs : List Byte) : (s.store a bs).beatNo = s.beatNo := rfl
@[simp] theorem State.store_now (s : State) (a : Nat) (bs : List Byte) : (s.store a bs).now = s.now := rfl
@[simp] theorem State.store_fresh (s : State) (a : Nat) (bs : List Byte) : (s.store a bs).fresh = s.fresh := rfl
@[simp] theorem State.store_reg (s : State) (a : Nat) (bs : List Byte) (q' : RegId) (a' b' : Nat) : (s.store a bs).reg q' a' b' = s.reg q' a' b' := rfl
@[simp] theorem State.store_fld (s : State) (a : Nat) (bs : List Byte) (g' : Fld) (a' b' : Nat) : (s.store a bs).fld g' a' b' = s.fld g' a' b' := rfl
@[simp] theorem State.store_flag (s : State) (a : Nat) (bs : List Byte) (g' : Fld) (a' b' : Nat) : (s.store a bs).flag g' a' b' = s.flag g' a' b' := rfl
@[simp] theorem State.store_tile (s : State) (a : Nat) (bs : List Byte) (n' : Nat) : (s.store a bs).tile n' = s.tile n' := rfl
@[simp] theorem State.store_pad (s : State) (a : Nat) (bs : List Byte) (q' : Nat) : (s.store a bs).pad q' = s.pad q' := rfl
@[simp] theorem State.store_link (s : State) (a : Nat) (bs : List Byte) (p' : Nat) : (s.store a bs).link p' = s.link p' := rfl

/-! ### `State.setTile` -/

@[simp] theorem State.setTile_pending (s : State) (t : Nat) (x : Tile) : (s.setTile t x).pending = s.pending := rfl
@[simp] theorem State.setTile_regs (s : State) (t : Nat) (x : Tile) : (s.setTile t x).regs = s.regs := rfl
@[simp] theorem State.setTile_mem (s : State) (t : Nat) (x : Tile) : (s.setTile t x).mem = s.mem := rfl
@[simp] theorem State.setTile_hbmUe (s : State) (t : Nat) (x : Tile) : (s.setTile t x).hbmUe = s.hbmUe := rfl
@[simp] theorem State.setTile_hbmCe (s : State) (t : Nat) (x : Tile) : (s.setTile t x).hbmCe = s.hbmCe := rfl
@[simp] theorem State.setTile_hbmOndie (s : State) (t : Nat) (x : Tile) : (s.setTile t x).hbmOndie = s.hbmOndie := rfl
@[simp] theorem State.setTile_reads (s : State) (t : Nat) (x : Tile) : (s.setTile t x).reads = s.reads := rfl
@[simp] theorem State.setTile_scrubAt (s : State) (t : Nat) (x : Tile) : (s.setTile t x).scrubAt = s.scrubAt := rfl
@[simp] theorem State.setTile_hbmCool (s : State) (t : Nat) (x : Tile) : (s.setTile t x).hbmCool = s.hbmCool := rfl
@[simp] theorem State.setTile_bankActs (s : State) (t : Nat) (x : Tile) : (s.setTile t x).bankActs = s.bankActs := rfl
@[simp] theorem State.setTile_pads (s : State) (t : Nat) (x : Tile) : (s.setTile t x).pads = s.pads := rfl
@[simp] theorem State.setTile_grants (s : State) (t : Nat) (x : Tile) : (s.setTile t x).grants = s.grants := rfl
@[simp] theorem State.setTile_lastPad (s : State) (t : Nat) (x : Tile) : (s.setTile t x).lastPad = s.lastPad := rfl
@[simp] theorem State.setTile_flagHold (s : State) (t : Nat) (x : Tile) : (s.setTile t x).flagHold = s.flagHold := rfl
@[simp] theorem State.setTile_gets (s : State) (t : Nat) (x : Tile) : (s.setTile t x).gets = s.gets := rfl
@[simp] theorem State.setTile_input (s : State) (t : Nat) (x : Tile) : (s.setTile t x).input = s.input := rfl
@[simp] theorem State.setTile_output (s : State) (t : Nat) (x : Tile) : (s.setTile t x).output = s.output := rfl
@[simp] theorem State.setTile_delivered (s : State) (t : Nat) (x : Tile) : (s.setTile t x).delivered = s.delivered := rfl
@[simp] theorem State.setTile_uc0 (s : State) (t : Nat) (x : Tile) : (s.setTile t x).uc0 = s.uc0 := rfl
@[simp] theorem State.setTile_uc1 (s : State) (t : Nat) (x : Tile) : (s.setTile t x).uc1 = s.uc1 := rfl
@[simp] theorem State.setTile_mc0 (s : State) (t : Nat) (x : Tile) : (s.setTile t x).mc0 = s.mc0 := rfl
@[simp] theorem State.setTile_mc1 (s : State) (t : Nat) (x : Tile) : (s.setTile t x).mc1 = s.mc1 := rfl
@[simp] theorem State.setTile_lanes (s : State) (t : Nat) (x : Tile) : (s.setTile t x).lanes = s.lanes := rfl
@[simp] theorem State.setTile_links (s : State) (t : Nat) (x : Tile) : (s.setTile t x).links = s.links := rfl
@[simp] theorem State.setTile_accepted (s : State) (t : Nat) (x : Tile) : (s.setTile t x).accepted = s.accepted := rfl
@[simp] theorem State.setTile_routed (s : State) (t : Nat) (x : Tile) : (s.setTile t x).routed = s.routed := rfl
@[simp] theorem State.setTile_beat (s : State) (t : Nat) (x : Tile) : (s.setTile t x).beat = s.beat := rfl
@[simp] theorem State.setTile_slot0 (s : State) (t : Nat) (x : Tile) : (s.setTile t x).slot0 = s.slot0 := rfl
@[simp] theorem State.setTile_slot1 (s : State) (t : Nat) (x : Tile) : (s.setTile t x).slot1 = s.slot1 := rfl
@[simp] theorem State.setTile_circ0 (s : State) (t : Nat) (x : Tile) : (s.setTile t x).circ0 = s.circ0 := rfl
@[simp] theorem State.setTile_circ1 (s : State) (t : Nat) (x : Tile) : (s.setTile t x).circ1 = s.circ1 := rfl
@[simp] theorem State.setTile_steer0 (s : State) (t : Nat) (x : Tile) : (s.setTile t x).steer0 = s.steer0 := rfl
@[simp] theorem State.setTile_steer1 (s : State) (t : Nat) (x : Tile) : (s.setTile t x).steer1 = s.steer1 := rfl
@[simp] theorem State.setTile_fold (s : State) (t : Nat) (x : Tile) : (s.setTile t x).fold = s.fold := rfl
@[simp] theorem State.setTile_commits (s : State) (t : Nat) (x : Tile) : (s.setTile t x).commits = s.commits := rfl
@[simp] theorem State.setTile_pair (s : State) (t : Nat) (x : Tile) : (s.setTile t x).pair = s.pair := rfl
@[simp] theorem State.setTile_limiter (s : State) (t : Nat) (x : Tile) : (s.setTile t x).limiter = s.limiter := rfl
@[simp] theorem State.setTile_padReset (s : State) (t : Nat) (x : Tile) : (s.setTile t x).padReset = s.padReset := rfl
@[simp] theorem State.setTile_chipReset (s : State) (t : Nat) (x : Tile) : (s.setTile t x).chipReset = s.chipReset := rfl
@[simp] theorem State.setTile_out (s : State) (t : Nat) (x : Tile) : (s.setTile t x).out = s.out := rfl
@[simp] theorem State.setTile_cores (s : State) (t : Nat) (x : Tile) : (s.setTile t x).cores = s.cores := rfl
@[simp] theorem State.setTile_pcie (s : State) (t : Nat) (x : Tile) : (s.setTile t x).pcie = s.pcie := rfl
@[simp] theorem State.setTile_lastTag (s : State) (t : Nat) (x : Tile) : (s.setTile t x).lastTag = s.lastTag := rfl
@[simp] theorem State.setTile_meters (s : State) (t : Nat) (x : Tile) : (s.setTile t x).meters = s.meters := rfl
@[simp] theorem State.setTile_fuse (s : State) (t : Nat) (x : Tile) : (s.setTile t x).fuse = s.fuse := rfl
@[simp] theorem State.setTile_recovery (s : State) (t : Nat) (x : Tile) : (s.setTile t x).recovery = s.recovery := rfl
@[simp] theorem State.setTile_power (s : State) (t : Nat) (x : Tile) : (s.setTile t x).power = s.power := rfl
@[simp] theorem State.setTile_boot (s : State) (t : Nat) (x : Tile) : (s.setTile t x).boot = s.boot := rfl
@[simp] theorem State.setTile_muster (s : State) (t : Nat) (x : Tile) : (s.setTile t x).muster = s.muster := rfl
@[simp] theorem State.setTile_mgmt (s : State) (t : Nat) (x : Tile) : (s.setTile t x).mgmt = s.mgmt := rfl
@[simp] theorem State.setTile_flash (s : State) (t : Nat) (x : Tile) : (s.setTile t x).flash = s.flash := rfl
@[simp] theorem State.setTile_tray (s : State) (t : Nat) (x : Tile) : (s.setTile t x).tray = s.tray := rfl
@[simp] theorem State.setTile_beatNo (s : State) (t : Nat) (x : Tile) : (s.setTile t x).beatNo = s.beatNo := rfl
@[simp] theorem State.setTile_now (s : State) (t : Nat) (x : Tile) : (s.setTile t x).now = s.now := rfl
@[simp] theorem State.setTile_fresh (s : State) (t : Nat) (x : Tile) : (s.setTile t x).fresh = s.fresh := rfl
@[simp] theorem State.setTile_reg (s : State) (t : Nat) (x : Tile) (q' : RegId) (a' b' : Nat) : (s.setTile t x).reg q' a' b' = s.reg q' a' b' := rfl
@[simp] theorem State.setTile_fld (s : State) (t : Nat) (x : Tile) (g' : Fld) (a' b' : Nat) : (s.setTile t x).fld g' a' b' = s.fld g' a' b' := rfl
@[simp] theorem State.setTile_flag (s : State) (t : Nat) (x : Tile) (g' : Fld) (a' b' : Nat) : (s.setTile t x).flag g' a' b' = s.flag g' a' b' := rfl
@[simp] theorem State.setTile_pad (s : State) (t : Nat) (x : Tile) (q' : Nat) : (s.setTile t x).pad q' = s.pad q' := rfl
@[simp] theorem State.setTile_link (s : State) (t : Nat) (x : Tile) (p' : Nat) : (s.setTile t x).link p' = s.link p' := rfl
@[simp] theorem State.setTile_bytes (s : State) (t : Nat) (x : Tile) (a' n' : Nat) : (s.setTile t x).bytes a' n' = s.bytes a' n' := rfl

/-! ### `State.onTile` -/

@[simp] theorem State.onTile_pending (s : State) (t : Nat) (f : Tile → Tile) : (s.onTile t f).pending = s.pending := rfl
@[simp] theorem State.onTile_regs (s : State) (t : Nat) (f : Tile → Tile) : (s.onTile t f).regs = s.regs := rfl
@[simp] theorem State.onTile_mem (s : State) (t : Nat) (f : Tile → Tile) : (s.onTile t f).mem = s.mem := rfl
@[simp] theorem State.onTile_hbmUe (s : State) (t : Nat) (f : Tile → Tile) : (s.onTile t f).hbmUe = s.hbmUe := rfl
@[simp] theorem State.onTile_hbmCe (s : State) (t : Nat) (f : Tile → Tile) : (s.onTile t f).hbmCe = s.hbmCe := rfl
@[simp] theorem State.onTile_hbmOndie (s : State) (t : Nat) (f : Tile → Tile) : (s.onTile t f).hbmOndie = s.hbmOndie := rfl
@[simp] theorem State.onTile_reads (s : State) (t : Nat) (f : Tile → Tile) : (s.onTile t f).reads = s.reads := rfl
@[simp] theorem State.onTile_scrubAt (s : State) (t : Nat) (f : Tile → Tile) : (s.onTile t f).scrubAt = s.scrubAt := rfl
@[simp] theorem State.onTile_hbmCool (s : State) (t : Nat) (f : Tile → Tile) : (s.onTile t f).hbmCool = s.hbmCool := rfl
@[simp] theorem State.onTile_bankActs (s : State) (t : Nat) (f : Tile → Tile) : (s.onTile t f).bankActs = s.bankActs := rfl
@[simp] theorem State.onTile_pads (s : State) (t : Nat) (f : Tile → Tile) : (s.onTile t f).pads = s.pads := rfl
@[simp] theorem State.onTile_grants (s : State) (t : Nat) (f : Tile → Tile) : (s.onTile t f).grants = s.grants := rfl
@[simp] theorem State.onTile_lastPad (s : State) (t : Nat) (f : Tile → Tile) : (s.onTile t f).lastPad = s.lastPad := rfl
@[simp] theorem State.onTile_flagHold (s : State) (t : Nat) (f : Tile → Tile) : (s.onTile t f).flagHold = s.flagHold := rfl
@[simp] theorem State.onTile_gets (s : State) (t : Nat) (f : Tile → Tile) : (s.onTile t f).gets = s.gets := rfl
@[simp] theorem State.onTile_input (s : State) (t : Nat) (f : Tile → Tile) : (s.onTile t f).input = s.input := rfl
@[simp] theorem State.onTile_output (s : State) (t : Nat) (f : Tile → Tile) : (s.onTile t f).output = s.output := rfl
@[simp] theorem State.onTile_delivered (s : State) (t : Nat) (f : Tile → Tile) : (s.onTile t f).delivered = s.delivered := rfl
@[simp] theorem State.onTile_uc0 (s : State) (t : Nat) (f : Tile → Tile) : (s.onTile t f).uc0 = s.uc0 := rfl
@[simp] theorem State.onTile_uc1 (s : State) (t : Nat) (f : Tile → Tile) : (s.onTile t f).uc1 = s.uc1 := rfl
@[simp] theorem State.onTile_mc0 (s : State) (t : Nat) (f : Tile → Tile) : (s.onTile t f).mc0 = s.mc0 := rfl
@[simp] theorem State.onTile_mc1 (s : State) (t : Nat) (f : Tile → Tile) : (s.onTile t f).mc1 = s.mc1 := rfl
@[simp] theorem State.onTile_lanes (s : State) (t : Nat) (f : Tile → Tile) : (s.onTile t f).lanes = s.lanes := rfl
@[simp] theorem State.onTile_links (s : State) (t : Nat) (f : Tile → Tile) : (s.onTile t f).links = s.links := rfl
@[simp] theorem State.onTile_accepted (s : State) (t : Nat) (f : Tile → Tile) : (s.onTile t f).accepted = s.accepted := rfl
@[simp] theorem State.onTile_routed (s : State) (t : Nat) (f : Tile → Tile) : (s.onTile t f).routed = s.routed := rfl
@[simp] theorem State.onTile_beat (s : State) (t : Nat) (f : Tile → Tile) : (s.onTile t f).beat = s.beat := rfl
@[simp] theorem State.onTile_slot0 (s : State) (t : Nat) (f : Tile → Tile) : (s.onTile t f).slot0 = s.slot0 := rfl
@[simp] theorem State.onTile_slot1 (s : State) (t : Nat) (f : Tile → Tile) : (s.onTile t f).slot1 = s.slot1 := rfl
@[simp] theorem State.onTile_circ0 (s : State) (t : Nat) (f : Tile → Tile) : (s.onTile t f).circ0 = s.circ0 := rfl
@[simp] theorem State.onTile_circ1 (s : State) (t : Nat) (f : Tile → Tile) : (s.onTile t f).circ1 = s.circ1 := rfl
@[simp] theorem State.onTile_steer0 (s : State) (t : Nat) (f : Tile → Tile) : (s.onTile t f).steer0 = s.steer0 := rfl
@[simp] theorem State.onTile_steer1 (s : State) (t : Nat) (f : Tile → Tile) : (s.onTile t f).steer1 = s.steer1 := rfl
@[simp] theorem State.onTile_fold (s : State) (t : Nat) (f : Tile → Tile) : (s.onTile t f).fold = s.fold := rfl
@[simp] theorem State.onTile_commits (s : State) (t : Nat) (f : Tile → Tile) : (s.onTile t f).commits = s.commits := rfl
@[simp] theorem State.onTile_pair (s : State) (t : Nat) (f : Tile → Tile) : (s.onTile t f).pair = s.pair := rfl
@[simp] theorem State.onTile_limiter (s : State) (t : Nat) (f : Tile → Tile) : (s.onTile t f).limiter = s.limiter := rfl
@[simp] theorem State.onTile_padReset (s : State) (t : Nat) (f : Tile → Tile) : (s.onTile t f).padReset = s.padReset := rfl
@[simp] theorem State.onTile_chipReset (s : State) (t : Nat) (f : Tile → Tile) : (s.onTile t f).chipReset = s.chipReset := rfl
@[simp] theorem State.onTile_out (s : State) (t : Nat) (f : Tile → Tile) : (s.onTile t f).out = s.out := rfl
@[simp] theorem State.onTile_cores (s : State) (t : Nat) (f : Tile → Tile) : (s.onTile t f).cores = s.cores := rfl
@[simp] theorem State.onTile_pcie (s : State) (t : Nat) (f : Tile → Tile) : (s.onTile t f).pcie = s.pcie := rfl
@[simp] theorem State.onTile_lastTag (s : State) (t : Nat) (f : Tile → Tile) : (s.onTile t f).lastTag = s.lastTag := rfl
@[simp] theorem State.onTile_meters (s : State) (t : Nat) (f : Tile → Tile) : (s.onTile t f).meters = s.meters := rfl
@[simp] theorem State.onTile_fuse (s : State) (t : Nat) (f : Tile → Tile) : (s.onTile t f).fuse = s.fuse := rfl
@[simp] theorem State.onTile_recovery (s : State) (t : Nat) (f : Tile → Tile) : (s.onTile t f).recovery = s.recovery := rfl
@[simp] theorem State.onTile_power (s : State) (t : Nat) (f : Tile → Tile) : (s.onTile t f).power = s.power := rfl
@[simp] theorem State.onTile_boot (s : State) (t : Nat) (f : Tile → Tile) : (s.onTile t f).boot = s.boot := rfl
@[simp] theorem State.onTile_muster (s : State) (t : Nat) (f : Tile → Tile) : (s.onTile t f).muster = s.muster := rfl
@[simp] theorem State.onTile_mgmt (s : State) (t : Nat) (f : Tile → Tile) : (s.onTile t f).mgmt = s.mgmt := rfl
@[simp] theorem State.onTile_flash (s : State) (t : Nat) (f : Tile → Tile) : (s.onTile t f).flash = s.flash := rfl
@[simp] theorem State.onTile_tray (s : State) (t : Nat) (f : Tile → Tile) : (s.onTile t f).tray = s.tray := rfl
@[simp] theorem State.onTile_beatNo (s : State) (t : Nat) (f : Tile → Tile) : (s.onTile t f).beatNo = s.beatNo := rfl
@[simp] theorem State.onTile_now (s : State) (t : Nat) (f : Tile → Tile) : (s.onTile t f).now = s.now := rfl
@[simp] theorem State.onTile_fresh (s : State) (t : Nat) (f : Tile → Tile) : (s.onTile t f).fresh = s.fresh := rfl
@[simp] theorem State.onTile_reg (s : State) (t : Nat) (f : Tile → Tile) (q' : RegId) (a' b' : Nat) : (s.onTile t f).reg q' a' b' = s.reg q' a' b' := rfl
@[simp] theorem State.onTile_fld (s : State) (t : Nat) (f : Tile → Tile) (g' : Fld) (a' b' : Nat) : (s.onTile t f).fld g' a' b' = s.fld g' a' b' := rfl
@[simp] theorem State.onTile_flag (s : State) (t : Nat) (f : Tile → Tile) (g' : Fld) (a' b' : Nat) : (s.onTile t f).flag g' a' b' = s.flag g' a' b' := rfl
@[simp] theorem State.onTile_pad (s : State) (t : Nat) (f : Tile → Tile) (q' : Nat) : (s.onTile t f).pad q' = s.pad q' := rfl
@[simp] theorem State.onTile_link (s : State) (t : Nat) (f : Tile → Tile) (p' : Nat) : (s.onTile t f).link p' = s.link p' := rfl
@[simp] theorem State.onTile_bytes (s : State) (t : Nat) (f : Tile → Tile) (a' n' : Nat) : (s.onTile t f).bytes a' n' = s.bytes a' n' := rfl

/-! ### `State.setPad` -/

@[simp] theorem State.setPad_pending (s : State) (p : Nat) (x : Paddock) : (s.setPad p x).pending = s.pending := rfl
@[simp] theorem State.setPad_regs (s : State) (p : Nat) (x : Paddock) : (s.setPad p x).regs = s.regs := rfl
@[simp] theorem State.setPad_mem (s : State) (p : Nat) (x : Paddock) : (s.setPad p x).mem = s.mem := rfl
@[simp] theorem State.setPad_hbmUe (s : State) (p : Nat) (x : Paddock) : (s.setPad p x).hbmUe = s.hbmUe := rfl
@[simp] theorem State.setPad_hbmCe (s : State) (p : Nat) (x : Paddock) : (s.setPad p x).hbmCe = s.hbmCe := rfl
@[simp] theorem State.setPad_hbmOndie (s : State) (p : Nat) (x : Paddock) : (s.setPad p x).hbmOndie = s.hbmOndie := rfl
@[simp] theorem State.setPad_reads (s : State) (p : Nat) (x : Paddock) : (s.setPad p x).reads = s.reads := rfl
@[simp] theorem State.setPad_scrubAt (s : State) (p : Nat) (x : Paddock) : (s.setPad p x).scrubAt = s.scrubAt := rfl
@[simp] theorem State.setPad_hbmCool (s : State) (p : Nat) (x : Paddock) : (s.setPad p x).hbmCool = s.hbmCool := rfl
@[simp] theorem State.setPad_bankActs (s : State) (p : Nat) (x : Paddock) : (s.setPad p x).bankActs = s.bankActs := rfl
@[simp] theorem State.setPad_tiles (s : State) (p : Nat) (x : Paddock) : (s.setPad p x).tiles = s.tiles := rfl
@[simp] theorem State.setPad_grants (s : State) (p : Nat) (x : Paddock) : (s.setPad p x).grants = s.grants := rfl
@[simp] theorem State.setPad_lastPad (s : State) (p : Nat) (x : Paddock) : (s.setPad p x).lastPad = s.lastPad := rfl
@[simp] theorem State.setPad_flagHold (s : State) (p : Nat) (x : Paddock) : (s.setPad p x).flagHold = s.flagHold := rfl
@[simp] theorem State.setPad_gets (s : State) (p : Nat) (x : Paddock) : (s.setPad p x).gets = s.gets := rfl
@[simp] theorem State.setPad_input (s : State) (p : Nat) (x : Paddock) : (s.setPad p x).input = s.input := rfl
@[simp] theorem State.setPad_output (s : State) (p : Nat) (x : Paddock) : (s.setPad p x).output = s.output := rfl
@[simp] theorem State.setPad_delivered (s : State) (p : Nat) (x : Paddock) : (s.setPad p x).delivered = s.delivered := rfl
@[simp] theorem State.setPad_uc0 (s : State) (p : Nat) (x : Paddock) : (s.setPad p x).uc0 = s.uc0 := rfl
@[simp] theorem State.setPad_uc1 (s : State) (p : Nat) (x : Paddock) : (s.setPad p x).uc1 = s.uc1 := rfl
@[simp] theorem State.setPad_mc0 (s : State) (p : Nat) (x : Paddock) : (s.setPad p x).mc0 = s.mc0 := rfl
@[simp] theorem State.setPad_mc1 (s : State) (p : Nat) (x : Paddock) : (s.setPad p x).mc1 = s.mc1 := rfl
@[simp] theorem State.setPad_lanes (s : State) (p : Nat) (x : Paddock) : (s.setPad p x).lanes = s.lanes := rfl
@[simp] theorem State.setPad_links (s : State) (p : Nat) (x : Paddock) : (s.setPad p x).links = s.links := rfl
@[simp] theorem State.setPad_accepted (s : State) (p : Nat) (x : Paddock) : (s.setPad p x).accepted = s.accepted := rfl
@[simp] theorem State.setPad_routed (s : State) (p : Nat) (x : Paddock) : (s.setPad p x).routed = s.routed := rfl
@[simp] theorem State.setPad_beat (s : State) (p : Nat) (x : Paddock) : (s.setPad p x).beat = s.beat := rfl
@[simp] theorem State.setPad_slot0 (s : State) (p : Nat) (x : Paddock) : (s.setPad p x).slot0 = s.slot0 := rfl
@[simp] theorem State.setPad_slot1 (s : State) (p : Nat) (x : Paddock) : (s.setPad p x).slot1 = s.slot1 := rfl
@[simp] theorem State.setPad_circ0 (s : State) (p : Nat) (x : Paddock) : (s.setPad p x).circ0 = s.circ0 := rfl
@[simp] theorem State.setPad_circ1 (s : State) (p : Nat) (x : Paddock) : (s.setPad p x).circ1 = s.circ1 := rfl
@[simp] theorem State.setPad_steer0 (s : State) (p : Nat) (x : Paddock) : (s.setPad p x).steer0 = s.steer0 := rfl
@[simp] theorem State.setPad_steer1 (s : State) (p : Nat) (x : Paddock) : (s.setPad p x).steer1 = s.steer1 := rfl
@[simp] theorem State.setPad_fold (s : State) (p : Nat) (x : Paddock) : (s.setPad p x).fold = s.fold := rfl
@[simp] theorem State.setPad_commits (s : State) (p : Nat) (x : Paddock) : (s.setPad p x).commits = s.commits := rfl
@[simp] theorem State.setPad_pair (s : State) (p : Nat) (x : Paddock) : (s.setPad p x).pair = s.pair := rfl
@[simp] theorem State.setPad_limiter (s : State) (p : Nat) (x : Paddock) : (s.setPad p x).limiter = s.limiter := rfl
@[simp] theorem State.setPad_padReset (s : State) (p : Nat) (x : Paddock) : (s.setPad p x).padReset = s.padReset := rfl
@[simp] theorem State.setPad_chipReset (s : State) (p : Nat) (x : Paddock) : (s.setPad p x).chipReset = s.chipReset := rfl
@[simp] theorem State.setPad_out (s : State) (p : Nat) (x : Paddock) : (s.setPad p x).out = s.out := rfl
@[simp] theorem State.setPad_cores (s : State) (p : Nat) (x : Paddock) : (s.setPad p x).cores = s.cores := rfl
@[simp] theorem State.setPad_pcie (s : State) (p : Nat) (x : Paddock) : (s.setPad p x).pcie = s.pcie := rfl
@[simp] theorem State.setPad_lastTag (s : State) (p : Nat) (x : Paddock) : (s.setPad p x).lastTag = s.lastTag := rfl
@[simp] theorem State.setPad_meters (s : State) (p : Nat) (x : Paddock) : (s.setPad p x).meters = s.meters := rfl
@[simp] theorem State.setPad_fuse (s : State) (p : Nat) (x : Paddock) : (s.setPad p x).fuse = s.fuse := rfl
@[simp] theorem State.setPad_recovery (s : State) (p : Nat) (x : Paddock) : (s.setPad p x).recovery = s.recovery := rfl
@[simp] theorem State.setPad_power (s : State) (p : Nat) (x : Paddock) : (s.setPad p x).power = s.power := rfl
@[simp] theorem State.setPad_boot (s : State) (p : Nat) (x : Paddock) : (s.setPad p x).boot = s.boot := rfl
@[simp] theorem State.setPad_muster (s : State) (p : Nat) (x : Paddock) : (s.setPad p x).muster = s.muster := rfl
@[simp] theorem State.setPad_mgmt (s : State) (p : Nat) (x : Paddock) : (s.setPad p x).mgmt = s.mgmt := rfl
@[simp] theorem State.setPad_flash (s : State) (p : Nat) (x : Paddock) : (s.setPad p x).flash = s.flash := rfl
@[simp] theorem State.setPad_tray (s : State) (p : Nat) (x : Paddock) : (s.setPad p x).tray = s.tray := rfl
@[simp] theorem State.setPad_beatNo (s : State) (p : Nat) (x : Paddock) : (s.setPad p x).beatNo = s.beatNo := rfl
@[simp] theorem State.setPad_now (s : State) (p : Nat) (x : Paddock) : (s.setPad p x).now = s.now := rfl
@[simp] theorem State.setPad_fresh (s : State) (p : Nat) (x : Paddock) : (s.setPad p x).fresh = s.fresh := rfl
@[simp] theorem State.setPad_reg (s : State) (p : Nat) (x : Paddock) (q' : RegId) (a' b' : Nat) : (s.setPad p x).reg q' a' b' = s.reg q' a' b' := rfl
@[simp] theorem State.setPad_fld (s : State) (p : Nat) (x : Paddock) (g' : Fld) (a' b' : Nat) : (s.setPad p x).fld g' a' b' = s.fld g' a' b' := rfl
@[simp] theorem State.setPad_flag (s : State) (p : Nat) (x : Paddock) (g' : Fld) (a' b' : Nat) : (s.setPad p x).flag g' a' b' = s.flag g' a' b' := rfl
@[simp] theorem State.setPad_tile (s : State) (p : Nat) (x : Paddock) (n' : Nat) : (s.setPad p x).tile n' = s.tile n' := rfl
@[simp] theorem State.setPad_link (s : State) (p : Nat) (x : Paddock) (p' : Nat) : (s.setPad p x).link p' = s.link p' := rfl
@[simp] theorem State.setPad_bytes (s : State) (p : Nat) (x : Paddock) (a' n' : Nat) : (s.setPad p x).bytes a' n' = s.bytes a' n' := rfl

/-! ### `State.offer` -/

@[simp] theorem State.offer_pending (s : State) (port : Nat) (p : Packet) : (s.offer port p).pending = s.pending := rfl
@[simp] theorem State.offer_regs (s : State) (port : Nat) (p : Packet) : (s.offer port p).regs = s.regs := rfl
@[simp] theorem State.offer_mem (s : State) (port : Nat) (p : Packet) : (s.offer port p).mem = s.mem := rfl
@[simp] theorem State.offer_hbmUe (s : State) (port : Nat) (p : Packet) : (s.offer port p).hbmUe = s.hbmUe := rfl
@[simp] theorem State.offer_hbmCe (s : State) (port : Nat) (p : Packet) : (s.offer port p).hbmCe = s.hbmCe := rfl
@[simp] theorem State.offer_hbmOndie (s : State) (port : Nat) (p : Packet) : (s.offer port p).hbmOndie = s.hbmOndie := rfl
@[simp] theorem State.offer_reads (s : State) (port : Nat) (p : Packet) : (s.offer port p).reads = s.reads := rfl
@[simp] theorem State.offer_scrubAt (s : State) (port : Nat) (p : Packet) : (s.offer port p).scrubAt = s.scrubAt := rfl
@[simp] theorem State.offer_hbmCool (s : State) (port : Nat) (p : Packet) : (s.offer port p).hbmCool = s.hbmCool := rfl
@[simp] theorem State.offer_bankActs (s : State) (port : Nat) (p : Packet) : (s.offer port p).bankActs = s.bankActs := rfl
@[simp] theorem State.offer_tiles (s : State) (port : Nat) (p : Packet) : (s.offer port p).tiles = s.tiles := rfl
@[simp] theorem State.offer_pads (s : State) (port : Nat) (p : Packet) : (s.offer port p).pads = s.pads := rfl
@[simp] theorem State.offer_grants (s : State) (port : Nat) (p : Packet) : (s.offer port p).grants = s.grants := rfl
@[simp] theorem State.offer_lastPad (s : State) (port : Nat) (p : Packet) : (s.offer port p).lastPad = s.lastPad := rfl
@[simp] theorem State.offer_flagHold (s : State) (port : Nat) (p : Packet) : (s.offer port p).flagHold = s.flagHold := rfl
@[simp] theorem State.offer_gets (s : State) (port : Nat) (p : Packet) : (s.offer port p).gets = s.gets := rfl
@[simp] theorem State.offer_output (s : State) (port : Nat) (p : Packet) : (s.offer port p).output = s.output := rfl
@[simp] theorem State.offer_delivered (s : State) (port : Nat) (p : Packet) : (s.offer port p).delivered = s.delivered := rfl
@[simp] theorem State.offer_uc0 (s : State) (port : Nat) (p : Packet) : (s.offer port p).uc0 = s.uc0 := rfl
@[simp] theorem State.offer_uc1 (s : State) (port : Nat) (p : Packet) : (s.offer port p).uc1 = s.uc1 := rfl
@[simp] theorem State.offer_mc0 (s : State) (port : Nat) (p : Packet) : (s.offer port p).mc0 = s.mc0 := rfl
@[simp] theorem State.offer_mc1 (s : State) (port : Nat) (p : Packet) : (s.offer port p).mc1 = s.mc1 := rfl
@[simp] theorem State.offer_lanes (s : State) (port : Nat) (p : Packet) : (s.offer port p).lanes = s.lanes := rfl
@[simp] theorem State.offer_links (s : State) (port : Nat) (p : Packet) : (s.offer port p).links = s.links := rfl
@[simp] theorem State.offer_accepted (s : State) (port : Nat) (p : Packet) : (s.offer port p).accepted = s.accepted := rfl
@[simp] theorem State.offer_routed (s : State) (port : Nat) (p : Packet) : (s.offer port p).routed = s.routed := rfl
@[simp] theorem State.offer_beat (s : State) (port : Nat) (p : Packet) : (s.offer port p).beat = s.beat := rfl
@[simp] theorem State.offer_slot0 (s : State) (port : Nat) (p : Packet) : (s.offer port p).slot0 = s.slot0 := rfl
@[simp] theorem State.offer_slot1 (s : State) (port : Nat) (p : Packet) : (s.offer port p).slot1 = s.slot1 := rfl
@[simp] theorem State.offer_circ0 (s : State) (port : Nat) (p : Packet) : (s.offer port p).circ0 = s.circ0 := rfl
@[simp] theorem State.offer_circ1 (s : State) (port : Nat) (p : Packet) : (s.offer port p).circ1 = s.circ1 := rfl
@[simp] theorem State.offer_steer0 (s : State) (port : Nat) (p : Packet) : (s.offer port p).steer0 = s.steer0 := rfl
@[simp] theorem State.offer_steer1 (s : State) (port : Nat) (p : Packet) : (s.offer port p).steer1 = s.steer1 := rfl
@[simp] theorem State.offer_fold (s : State) (port : Nat) (p : Packet) : (s.offer port p).fold = s.fold := rfl
@[simp] theorem State.offer_commits (s : State) (port : Nat) (p : Packet) : (s.offer port p).commits = s.commits := rfl
@[simp] theorem State.offer_pair (s : State) (port : Nat) (p : Packet) : (s.offer port p).pair = s.pair := rfl
@[simp] theorem State.offer_limiter (s : State) (port : Nat) (p : Packet) : (s.offer port p).limiter = s.limiter := rfl
@[simp] theorem State.offer_padReset (s : State) (port : Nat) (p : Packet) : (s.offer port p).padReset = s.padReset := rfl
@[simp] theorem State.offer_chipReset (s : State) (port : Nat) (p : Packet) : (s.offer port p).chipReset = s.chipReset := rfl
@[simp] theorem State.offer_out (s : State) (port : Nat) (p : Packet) : (s.offer port p).out = s.out := rfl
@[simp] theorem State.offer_cores (s : State) (port : Nat) (p : Packet) : (s.offer port p).cores = s.cores := rfl
@[simp] theorem State.offer_pcie (s : State) (port : Nat) (p : Packet) : (s.offer port p).pcie = s.pcie := rfl
@[simp] theorem State.offer_lastTag (s : State) (port : Nat) (p : Packet) : (s.offer port p).lastTag = s.lastTag := rfl
@[simp] theorem State.offer_meters (s : State) (port : Nat) (p : Packet) : (s.offer port p).meters = s.meters := rfl
@[simp] theorem State.offer_fuse (s : State) (port : Nat) (p : Packet) : (s.offer port p).fuse = s.fuse := rfl
@[simp] theorem State.offer_recovery (s : State) (port : Nat) (p : Packet) : (s.offer port p).recovery = s.recovery := rfl
@[simp] theorem State.offer_power (s : State) (port : Nat) (p : Packet) : (s.offer port p).power = s.power := rfl
@[simp] theorem State.offer_boot (s : State) (port : Nat) (p : Packet) : (s.offer port p).boot = s.boot := rfl
@[simp] theorem State.offer_muster (s : State) (port : Nat) (p : Packet) : (s.offer port p).muster = s.muster := rfl
@[simp] theorem State.offer_mgmt (s : State) (port : Nat) (p : Packet) : (s.offer port p).mgmt = s.mgmt := rfl
@[simp] theorem State.offer_flash (s : State) (port : Nat) (p : Packet) : (s.offer port p).flash = s.flash := rfl
@[simp] theorem State.offer_tray (s : State) (port : Nat) (p : Packet) : (s.offer port p).tray = s.tray := rfl
@[simp] theorem State.offer_beatNo (s : State) (port : Nat) (p : Packet) : (s.offer port p).beatNo = s.beatNo := rfl
@[simp] theorem State.offer_now (s : State) (port : Nat) (p : Packet) : (s.offer port p).now = s.now := rfl
@[simp] theorem State.offer_fresh (s : State) (port : Nat) (p : Packet) : (s.offer port p).fresh = s.fresh := rfl
@[simp] theorem State.offer_reg (s : State) (port : Nat) (p : Packet) (q' : RegId) (a' b' : Nat) : (s.offer port p).reg q' a' b' = s.reg q' a' b' := rfl
@[simp] theorem State.offer_fld (s : State) (port : Nat) (p : Packet) (g' : Fld) (a' b' : Nat) : (s.offer port p).fld g' a' b' = s.fld g' a' b' := rfl
@[simp] theorem State.offer_flag (s : State) (port : Nat) (p : Packet) (g' : Fld) (a' b' : Nat) : (s.offer port p).flag g' a' b' = s.flag g' a' b' := rfl
@[simp] theorem State.offer_tile (s : State) (port : Nat) (p : Packet) (n' : Nat) : (s.offer port p).tile n' = s.tile n' := rfl
@[simp] theorem State.offer_pad (s : State) (port : Nat) (p : Packet) (q' : Nat) : (s.offer port p).pad q' = s.pad q' := rfl
@[simp] theorem State.offer_link (s : State) (port : Nat) (p : Packet) (p' : Nat) : (s.offer port p).link p' = s.link p' := rfl
@[simp] theorem State.offer_bytes (s : State) (port : Nat) (p : Packet) (a' n' : Nat) : (s.offer port p).bytes a' n' = s.bytes a' n' := rfl

/-! ### `State.emit` -/

@[simp] theorem State.emit_pending (s : State) (o : Output) : (s.emit o).pending = s.pending := rfl
@[simp] theorem State.emit_regs (s : State) (o : Output) : (s.emit o).regs = s.regs := rfl
@[simp] theorem State.emit_mem (s : State) (o : Output) : (s.emit o).mem = s.mem := rfl
@[simp] theorem State.emit_hbmUe (s : State) (o : Output) : (s.emit o).hbmUe = s.hbmUe := rfl
@[simp] theorem State.emit_hbmCe (s : State) (o : Output) : (s.emit o).hbmCe = s.hbmCe := rfl
@[simp] theorem State.emit_hbmOndie (s : State) (o : Output) : (s.emit o).hbmOndie = s.hbmOndie := rfl
@[simp] theorem State.emit_reads (s : State) (o : Output) : (s.emit o).reads = s.reads := rfl
@[simp] theorem State.emit_scrubAt (s : State) (o : Output) : (s.emit o).scrubAt = s.scrubAt := rfl
@[simp] theorem State.emit_hbmCool (s : State) (o : Output) : (s.emit o).hbmCool = s.hbmCool := rfl
@[simp] theorem State.emit_bankActs (s : State) (o : Output) : (s.emit o).bankActs = s.bankActs := rfl
@[simp] theorem State.emit_tiles (s : State) (o : Output) : (s.emit o).tiles = s.tiles := rfl
@[simp] theorem State.emit_pads (s : State) (o : Output) : (s.emit o).pads = s.pads := rfl
@[simp] theorem State.emit_grants (s : State) (o : Output) : (s.emit o).grants = s.grants := rfl
@[simp] theorem State.emit_lastPad (s : State) (o : Output) : (s.emit o).lastPad = s.lastPad := rfl
@[simp] theorem State.emit_flagHold (s : State) (o : Output) : (s.emit o).flagHold = s.flagHold := rfl
@[simp] theorem State.emit_gets (s : State) (o : Output) : (s.emit o).gets = s.gets := rfl
@[simp] theorem State.emit_input (s : State) (o : Output) : (s.emit o).input = s.input := rfl
@[simp] theorem State.emit_output (s : State) (o : Output) : (s.emit o).output = s.output := rfl
@[simp] theorem State.emit_delivered (s : State) (o : Output) : (s.emit o).delivered = s.delivered := rfl
@[simp] theorem State.emit_uc0 (s : State) (o : Output) : (s.emit o).uc0 = s.uc0 := rfl
@[simp] theorem State.emit_uc1 (s : State) (o : Output) : (s.emit o).uc1 = s.uc1 := rfl
@[simp] theorem State.emit_mc0 (s : State) (o : Output) : (s.emit o).mc0 = s.mc0 := rfl
@[simp] theorem State.emit_mc1 (s : State) (o : Output) : (s.emit o).mc1 = s.mc1 := rfl
@[simp] theorem State.emit_lanes (s : State) (o : Output) : (s.emit o).lanes = s.lanes := rfl
@[simp] theorem State.emit_links (s : State) (o : Output) : (s.emit o).links = s.links := rfl
@[simp] theorem State.emit_accepted (s : State) (o : Output) : (s.emit o).accepted = s.accepted := rfl
@[simp] theorem State.emit_routed (s : State) (o : Output) : (s.emit o).routed = s.routed := rfl
@[simp] theorem State.emit_beat (s : State) (o : Output) : (s.emit o).beat = s.beat := rfl
@[simp] theorem State.emit_slot0 (s : State) (o : Output) : (s.emit o).slot0 = s.slot0 := rfl
@[simp] theorem State.emit_slot1 (s : State) (o : Output) : (s.emit o).slot1 = s.slot1 := rfl
@[simp] theorem State.emit_circ0 (s : State) (o : Output) : (s.emit o).circ0 = s.circ0 := rfl
@[simp] theorem State.emit_circ1 (s : State) (o : Output) : (s.emit o).circ1 = s.circ1 := rfl
@[simp] theorem State.emit_steer0 (s : State) (o : Output) : (s.emit o).steer0 = s.steer0 := rfl
@[simp] theorem State.emit_steer1 (s : State) (o : Output) : (s.emit o).steer1 = s.steer1 := rfl
@[simp] theorem State.emit_fold (s : State) (o : Output) : (s.emit o).fold = s.fold := rfl
@[simp] theorem State.emit_commits (s : State) (o : Output) : (s.emit o).commits = s.commits := rfl
@[simp] theorem State.emit_pair (s : State) (o : Output) : (s.emit o).pair = s.pair := rfl
@[simp] theorem State.emit_limiter (s : State) (o : Output) : (s.emit o).limiter = s.limiter := rfl
@[simp] theorem State.emit_padReset (s : State) (o : Output) : (s.emit o).padReset = s.padReset := rfl
@[simp] theorem State.emit_chipReset (s : State) (o : Output) : (s.emit o).chipReset = s.chipReset := rfl
@[simp] theorem State.emit_cores (s : State) (o : Output) : (s.emit o).cores = s.cores := rfl
@[simp] theorem State.emit_pcie (s : State) (o : Output) : (s.emit o).pcie = s.pcie := rfl
@[simp] theorem State.emit_lastTag (s : State) (o : Output) : (s.emit o).lastTag = s.lastTag := rfl
@[simp] theorem State.emit_meters (s : State) (o : Output) : (s.emit o).meters = s.meters := rfl
@[simp] theorem State.emit_fuse (s : State) (o : Output) : (s.emit o).fuse = s.fuse := rfl
@[simp] theorem State.emit_recovery (s : State) (o : Output) : (s.emit o).recovery = s.recovery := rfl
@[simp] theorem State.emit_power (s : State) (o : Output) : (s.emit o).power = s.power := rfl
@[simp] theorem State.emit_boot (s : State) (o : Output) : (s.emit o).boot = s.boot := rfl
@[simp] theorem State.emit_muster (s : State) (o : Output) : (s.emit o).muster = s.muster := rfl
@[simp] theorem State.emit_mgmt (s : State) (o : Output) : (s.emit o).mgmt = s.mgmt := rfl
@[simp] theorem State.emit_flash (s : State) (o : Output) : (s.emit o).flash = s.flash := rfl
@[simp] theorem State.emit_tray (s : State) (o : Output) : (s.emit o).tray = s.tray := rfl
@[simp] theorem State.emit_beatNo (s : State) (o : Output) : (s.emit o).beatNo = s.beatNo := rfl
@[simp] theorem State.emit_now (s : State) (o : Output) : (s.emit o).now = s.now := rfl
@[simp] theorem State.emit_fresh (s : State) (o : Output) : (s.emit o).fresh = s.fresh := rfl
@[simp] theorem State.emit_reg (s : State) (o : Output) (q' : RegId) (a' b' : Nat) : (s.emit o).reg q' a' b' = s.reg q' a' b' := rfl
@[simp] theorem State.emit_fld (s : State) (o : Output) (g' : Fld) (a' b' : Nat) : (s.emit o).fld g' a' b' = s.fld g' a' b' := rfl
@[simp] theorem State.emit_flag (s : State) (o : Output) (g' : Fld) (a' b' : Nat) : (s.emit o).flag g' a' b' = s.flag g' a' b' := rfl
@[simp] theorem State.emit_tile (s : State) (o : Output) (n' : Nat) : (s.emit o).tile n' = s.tile n' := rfl
@[simp] theorem State.emit_pad (s : State) (o : Output) (q' : Nat) : (s.emit o).pad q' = s.pad q' := rfl
@[simp] theorem State.emit_link (s : State) (o : Output) (p' : Nat) : (s.emit o).link p' = s.link p' := rfl
@[simp] theorem State.emit_bytes (s : State) (o : Output) (a' n' : Nat) : (s.emit o).bytes a' n' = s.bytes a' n' := rfl

/-! ### `State.setLink` -/

@[simp] theorem State.setLink_pending (s : State) (k : Nat) (x : LinkPort) : (s.setLink k x).pending = s.pending := rfl
@[simp] theorem State.setLink_regs (s : State) (k : Nat) (x : LinkPort) : (s.setLink k x).regs = s.regs := rfl
@[simp] theorem State.setLink_mem (s : State) (k : Nat) (x : LinkPort) : (s.setLink k x).mem = s.mem := rfl
@[simp] theorem State.setLink_hbmUe (s : State) (k : Nat) (x : LinkPort) : (s.setLink k x).hbmUe = s.hbmUe := rfl
@[simp] theorem State.setLink_hbmCe (s : State) (k : Nat) (x : LinkPort) : (s.setLink k x).hbmCe = s.hbmCe := rfl
@[simp] theorem State.setLink_hbmOndie (s : State) (k : Nat) (x : LinkPort) : (s.setLink k x).hbmOndie = s.hbmOndie := rfl
@[simp] theorem State.setLink_reads (s : State) (k : Nat) (x : LinkPort) : (s.setLink k x).reads = s.reads := rfl
@[simp] theorem State.setLink_scrubAt (s : State) (k : Nat) (x : LinkPort) : (s.setLink k x).scrubAt = s.scrubAt := rfl
@[simp] theorem State.setLink_hbmCool (s : State) (k : Nat) (x : LinkPort) : (s.setLink k x).hbmCool = s.hbmCool := rfl
@[simp] theorem State.setLink_bankActs (s : State) (k : Nat) (x : LinkPort) : (s.setLink k x).bankActs = s.bankActs := rfl
@[simp] theorem State.setLink_tiles (s : State) (k : Nat) (x : LinkPort) : (s.setLink k x).tiles = s.tiles := rfl
@[simp] theorem State.setLink_pads (s : State) (k : Nat) (x : LinkPort) : (s.setLink k x).pads = s.pads := rfl
@[simp] theorem State.setLink_grants (s : State) (k : Nat) (x : LinkPort) : (s.setLink k x).grants = s.grants := rfl
@[simp] theorem State.setLink_lastPad (s : State) (k : Nat) (x : LinkPort) : (s.setLink k x).lastPad = s.lastPad := rfl
@[simp] theorem State.setLink_flagHold (s : State) (k : Nat) (x : LinkPort) : (s.setLink k x).flagHold = s.flagHold := rfl
@[simp] theorem State.setLink_gets (s : State) (k : Nat) (x : LinkPort) : (s.setLink k x).gets = s.gets := rfl
@[simp] theorem State.setLink_input (s : State) (k : Nat) (x : LinkPort) : (s.setLink k x).input = s.input := rfl
@[simp] theorem State.setLink_output (s : State) (k : Nat) (x : LinkPort) : (s.setLink k x).output = s.output := rfl
@[simp] theorem State.setLink_delivered (s : State) (k : Nat) (x : LinkPort) : (s.setLink k x).delivered = s.delivered := rfl
@[simp] theorem State.setLink_uc0 (s : State) (k : Nat) (x : LinkPort) : (s.setLink k x).uc0 = s.uc0 := rfl
@[simp] theorem State.setLink_uc1 (s : State) (k : Nat) (x : LinkPort) : (s.setLink k x).uc1 = s.uc1 := rfl
@[simp] theorem State.setLink_mc0 (s : State) (k : Nat) (x : LinkPort) : (s.setLink k x).mc0 = s.mc0 := rfl
@[simp] theorem State.setLink_mc1 (s : State) (k : Nat) (x : LinkPort) : (s.setLink k x).mc1 = s.mc1 := rfl
@[simp] theorem State.setLink_lanes (s : State) (k : Nat) (x : LinkPort) : (s.setLink k x).lanes = s.lanes := rfl
@[simp] theorem State.setLink_accepted (s : State) (k : Nat) (x : LinkPort) : (s.setLink k x).accepted = s.accepted := rfl
@[simp] theorem State.setLink_routed (s : State) (k : Nat) (x : LinkPort) : (s.setLink k x).routed = s.routed := rfl
@[simp] theorem State.setLink_beat (s : State) (k : Nat) (x : LinkPort) : (s.setLink k x).beat = s.beat := rfl
@[simp] theorem State.setLink_slot0 (s : State) (k : Nat) (x : LinkPort) : (s.setLink k x).slot0 = s.slot0 := rfl
@[simp] theorem State.setLink_slot1 (s : State) (k : Nat) (x : LinkPort) : (s.setLink k x).slot1 = s.slot1 := rfl
@[simp] theorem State.setLink_circ0 (s : State) (k : Nat) (x : LinkPort) : (s.setLink k x).circ0 = s.circ0 := rfl
@[simp] theorem State.setLink_circ1 (s : State) (k : Nat) (x : LinkPort) : (s.setLink k x).circ1 = s.circ1 := rfl
@[simp] theorem State.setLink_steer0 (s : State) (k : Nat) (x : LinkPort) : (s.setLink k x).steer0 = s.steer0 := rfl
@[simp] theorem State.setLink_steer1 (s : State) (k : Nat) (x : LinkPort) : (s.setLink k x).steer1 = s.steer1 := rfl
@[simp] theorem State.setLink_fold (s : State) (k : Nat) (x : LinkPort) : (s.setLink k x).fold = s.fold := rfl
@[simp] theorem State.setLink_commits (s : State) (k : Nat) (x : LinkPort) : (s.setLink k x).commits = s.commits := rfl
@[simp] theorem State.setLink_pair (s : State) (k : Nat) (x : LinkPort) : (s.setLink k x).pair = s.pair := rfl
@[simp] theorem State.setLink_limiter (s : State) (k : Nat) (x : LinkPort) : (s.setLink k x).limiter = s.limiter := rfl
@[simp] theorem State.setLink_padReset (s : State) (k : Nat) (x : LinkPort) : (s.setLink k x).padReset = s.padReset := rfl
@[simp] theorem State.setLink_chipReset (s : State) (k : Nat) (x : LinkPort) : (s.setLink k x).chipReset = s.chipReset := rfl
@[simp] theorem State.setLink_out (s : State) (k : Nat) (x : LinkPort) : (s.setLink k x).out = s.out := rfl
@[simp] theorem State.setLink_cores (s : State) (k : Nat) (x : LinkPort) : (s.setLink k x).cores = s.cores := rfl
@[simp] theorem State.setLink_pcie (s : State) (k : Nat) (x : LinkPort) : (s.setLink k x).pcie = s.pcie := rfl
@[simp] theorem State.setLink_lastTag (s : State) (k : Nat) (x : LinkPort) : (s.setLink k x).lastTag = s.lastTag := rfl
@[simp] theorem State.setLink_meters (s : State) (k : Nat) (x : LinkPort) : (s.setLink k x).meters = s.meters := rfl
@[simp] theorem State.setLink_fuse (s : State) (k : Nat) (x : LinkPort) : (s.setLink k x).fuse = s.fuse := rfl
@[simp] theorem State.setLink_recovery (s : State) (k : Nat) (x : LinkPort) : (s.setLink k x).recovery = s.recovery := rfl
@[simp] theorem State.setLink_power (s : State) (k : Nat) (x : LinkPort) : (s.setLink k x).power = s.power := rfl
@[simp] theorem State.setLink_boot (s : State) (k : Nat) (x : LinkPort) : (s.setLink k x).boot = s.boot := rfl
@[simp] theorem State.setLink_muster (s : State) (k : Nat) (x : LinkPort) : (s.setLink k x).muster = s.muster := rfl
@[simp] theorem State.setLink_mgmt (s : State) (k : Nat) (x : LinkPort) : (s.setLink k x).mgmt = s.mgmt := rfl
@[simp] theorem State.setLink_flash (s : State) (k : Nat) (x : LinkPort) : (s.setLink k x).flash = s.flash := rfl
@[simp] theorem State.setLink_tray (s : State) (k : Nat) (x : LinkPort) : (s.setLink k x).tray = s.tray := rfl
@[simp] theorem State.setLink_beatNo (s : State) (k : Nat) (x : LinkPort) : (s.setLink k x).beatNo = s.beatNo := rfl
@[simp] theorem State.setLink_now (s : State) (k : Nat) (x : LinkPort) : (s.setLink k x).now = s.now := rfl
@[simp] theorem State.setLink_fresh (s : State) (k : Nat) (x : LinkPort) : (s.setLink k x).fresh = s.fresh := rfl
@[simp] theorem State.setLink_reg (s : State) (k : Nat) (x : LinkPort) (q' : RegId) (a' b' : Nat) : (s.setLink k x).reg q' a' b' = s.reg q' a' b' := rfl
@[simp] theorem State.setLink_fld (s : State) (k : Nat) (x : LinkPort) (g' : Fld) (a' b' : Nat) : (s.setLink k x).fld g' a' b' = s.fld g' a' b' := rfl
@[simp] theorem State.setLink_flag (s : State) (k : Nat) (x : LinkPort) (g' : Fld) (a' b' : Nat) : (s.setLink k x).flag g' a' b' = s.flag g' a' b' := rfl
@[simp] theorem State.setLink_tile (s : State) (k : Nat) (x : LinkPort) (n' : Nat) : (s.setLink k x).tile n' = s.tile n' := rfl
@[simp] theorem State.setLink_pad (s : State) (k : Nat) (x : LinkPort) (q' : Nat) : (s.setLink k x).pad q' = s.pad q' := rfl
@[simp] theorem State.setLink_bytes (s : State) (k : Nat) (x : LinkPort) (a' n' : Nat) : (s.setLink k x).bytes a' n' = s.bytes a' n' := rfl

/-! ### `State.onLink` -/

@[simp] theorem State.onLink_pending (s : State) (k : Nat) (f : LinkPort → LinkPort) : (s.onLink k f).pending = s.pending := rfl
@[simp] theorem State.onLink_regs (s : State) (k : Nat) (f : LinkPort → LinkPort) : (s.onLink k f).regs = s.regs := rfl
@[simp] theorem State.onLink_mem (s : State) (k : Nat) (f : LinkPort → LinkPort) : (s.onLink k f).mem = s.mem := rfl
@[simp] theorem State.onLink_hbmUe (s : State) (k : Nat) (f : LinkPort → LinkPort) : (s.onLink k f).hbmUe = s.hbmUe := rfl
@[simp] theorem State.onLink_hbmCe (s : State) (k : Nat) (f : LinkPort → LinkPort) : (s.onLink k f).hbmCe = s.hbmCe := rfl
@[simp] theorem State.onLink_hbmOndie (s : State) (k : Nat) (f : LinkPort → LinkPort) : (s.onLink k f).hbmOndie = s.hbmOndie := rfl
@[simp] theorem State.onLink_reads (s : State) (k : Nat) (f : LinkPort → LinkPort) : (s.onLink k f).reads = s.reads := rfl
@[simp] theorem State.onLink_scrubAt (s : State) (k : Nat) (f : LinkPort → LinkPort) : (s.onLink k f).scrubAt = s.scrubAt := rfl
@[simp] theorem State.onLink_hbmCool (s : State) (k : Nat) (f : LinkPort → LinkPort) : (s.onLink k f).hbmCool = s.hbmCool := rfl
@[simp] theorem State.onLink_bankActs (s : State) (k : Nat) (f : LinkPort → LinkPort) : (s.onLink k f).bankActs = s.bankActs := rfl
@[simp] theorem State.onLink_tiles (s : State) (k : Nat) (f : LinkPort → LinkPort) : (s.onLink k f).tiles = s.tiles := rfl
@[simp] theorem State.onLink_pads (s : State) (k : Nat) (f : LinkPort → LinkPort) : (s.onLink k f).pads = s.pads := rfl
@[simp] theorem State.onLink_grants (s : State) (k : Nat) (f : LinkPort → LinkPort) : (s.onLink k f).grants = s.grants := rfl
@[simp] theorem State.onLink_lastPad (s : State) (k : Nat) (f : LinkPort → LinkPort) : (s.onLink k f).lastPad = s.lastPad := rfl
@[simp] theorem State.onLink_flagHold (s : State) (k : Nat) (f : LinkPort → LinkPort) : (s.onLink k f).flagHold = s.flagHold := rfl
@[simp] theorem State.onLink_gets (s : State) (k : Nat) (f : LinkPort → LinkPort) : (s.onLink k f).gets = s.gets := rfl
@[simp] theorem State.onLink_input (s : State) (k : Nat) (f : LinkPort → LinkPort) : (s.onLink k f).input = s.input := rfl
@[simp] theorem State.onLink_output (s : State) (k : Nat) (f : LinkPort → LinkPort) : (s.onLink k f).output = s.output := rfl
@[simp] theorem State.onLink_delivered (s : State) (k : Nat) (f : LinkPort → LinkPort) : (s.onLink k f).delivered = s.delivered := rfl
@[simp] theorem State.onLink_uc0 (s : State) (k : Nat) (f : LinkPort → LinkPort) : (s.onLink k f).uc0 = s.uc0 := rfl
@[simp] theorem State.onLink_uc1 (s : State) (k : Nat) (f : LinkPort → LinkPort) : (s.onLink k f).uc1 = s.uc1 := rfl
@[simp] theorem State.onLink_mc0 (s : State) (k : Nat) (f : LinkPort → LinkPort) : (s.onLink k f).mc0 = s.mc0 := rfl
@[simp] theorem State.onLink_mc1 (s : State) (k : Nat) (f : LinkPort → LinkPort) : (s.onLink k f).mc1 = s.mc1 := rfl
@[simp] theorem State.onLink_lanes (s : State) (k : Nat) (f : LinkPort → LinkPort) : (s.onLink k f).lanes = s.lanes := rfl
@[simp] theorem State.onLink_accepted (s : State) (k : Nat) (f : LinkPort → LinkPort) : (s.onLink k f).accepted = s.accepted := rfl
@[simp] theorem State.onLink_routed (s : State) (k : Nat) (f : LinkPort → LinkPort) : (s.onLink k f).routed = s.routed := rfl
@[simp] theorem State.onLink_beat (s : State) (k : Nat) (f : LinkPort → LinkPort) : (s.onLink k f).beat = s.beat := rfl
@[simp] theorem State.onLink_slot0 (s : State) (k : Nat) (f : LinkPort → LinkPort) : (s.onLink k f).slot0 = s.slot0 := rfl
@[simp] theorem State.onLink_slot1 (s : State) (k : Nat) (f : LinkPort → LinkPort) : (s.onLink k f).slot1 = s.slot1 := rfl
@[simp] theorem State.onLink_circ0 (s : State) (k : Nat) (f : LinkPort → LinkPort) : (s.onLink k f).circ0 = s.circ0 := rfl
@[simp] theorem State.onLink_circ1 (s : State) (k : Nat) (f : LinkPort → LinkPort) : (s.onLink k f).circ1 = s.circ1 := rfl
@[simp] theorem State.onLink_steer0 (s : State) (k : Nat) (f : LinkPort → LinkPort) : (s.onLink k f).steer0 = s.steer0 := rfl
@[simp] theorem State.onLink_steer1 (s : State) (k : Nat) (f : LinkPort → LinkPort) : (s.onLink k f).steer1 = s.steer1 := rfl
@[simp] theorem State.onLink_fold (s : State) (k : Nat) (f : LinkPort → LinkPort) : (s.onLink k f).fold = s.fold := rfl
@[simp] theorem State.onLink_commits (s : State) (k : Nat) (f : LinkPort → LinkPort) : (s.onLink k f).commits = s.commits := rfl
@[simp] theorem State.onLink_pair (s : State) (k : Nat) (f : LinkPort → LinkPort) : (s.onLink k f).pair = s.pair := rfl
@[simp] theorem State.onLink_limiter (s : State) (k : Nat) (f : LinkPort → LinkPort) : (s.onLink k f).limiter = s.limiter := rfl
@[simp] theorem State.onLink_padReset (s : State) (k : Nat) (f : LinkPort → LinkPort) : (s.onLink k f).padReset = s.padReset := rfl
@[simp] theorem State.onLink_chipReset (s : State) (k : Nat) (f : LinkPort → LinkPort) : (s.onLink k f).chipReset = s.chipReset := rfl
@[simp] theorem State.onLink_out (s : State) (k : Nat) (f : LinkPort → LinkPort) : (s.onLink k f).out = s.out := rfl
@[simp] theorem State.onLink_cores (s : State) (k : Nat) (f : LinkPort → LinkPort) : (s.onLink k f).cores = s.cores := rfl
@[simp] theorem State.onLink_pcie (s : State) (k : Nat) (f : LinkPort → LinkPort) : (s.onLink k f).pcie = s.pcie := rfl
@[simp] theorem State.onLink_lastTag (s : State) (k : Nat) (f : LinkPort → LinkPort) : (s.onLink k f).lastTag = s.lastTag := rfl
@[simp] theorem State.onLink_meters (s : State) (k : Nat) (f : LinkPort → LinkPort) : (s.onLink k f).meters = s.meters := rfl
@[simp] theorem State.onLink_fuse (s : State) (k : Nat) (f : LinkPort → LinkPort) : (s.onLink k f).fuse = s.fuse := rfl
@[simp] theorem State.onLink_recovery (s : State) (k : Nat) (f : LinkPort → LinkPort) : (s.onLink k f).recovery = s.recovery := rfl
@[simp] theorem State.onLink_power (s : State) (k : Nat) (f : LinkPort → LinkPort) : (s.onLink k f).power = s.power := rfl
@[simp] theorem State.onLink_boot (s : State) (k : Nat) (f : LinkPort → LinkPort) : (s.onLink k f).boot = s.boot := rfl
@[simp] theorem State.onLink_muster (s : State) (k : Nat) (f : LinkPort → LinkPort) : (s.onLink k f).muster = s.muster := rfl
@[simp] theorem State.onLink_mgmt (s : State) (k : Nat) (f : LinkPort → LinkPort) : (s.onLink k f).mgmt = s.mgmt := rfl
@[simp] theorem State.onLink_flash (s : State) (k : Nat) (f : LinkPort → LinkPort) : (s.onLink k f).flash = s.flash := rfl
@[simp] theorem State.onLink_tray (s : State) (k : Nat) (f : LinkPort → LinkPort) : (s.onLink k f).tray = s.tray := rfl
@[simp] theorem State.onLink_beatNo (s : State) (k : Nat) (f : LinkPort → LinkPort) : (s.onLink k f).beatNo = s.beatNo := rfl
@[simp] theorem State.onLink_now (s : State) (k : Nat) (f : LinkPort → LinkPort) : (s.onLink k f).now = s.now := rfl
@[simp] theorem State.onLink_fresh (s : State) (k : Nat) (f : LinkPort → LinkPort) : (s.onLink k f).fresh = s.fresh := rfl
@[simp] theorem State.onLink_reg (s : State) (k : Nat) (f : LinkPort → LinkPort) (q' : RegId) (a' b' : Nat) : (s.onLink k f).reg q' a' b' = s.reg q' a' b' := rfl
@[simp] theorem State.onLink_fld (s : State) (k : Nat) (f : LinkPort → LinkPort) (g' : Fld) (a' b' : Nat) : (s.onLink k f).fld g' a' b' = s.fld g' a' b' := rfl
@[simp] theorem State.onLink_flag (s : State) (k : Nat) (f : LinkPort → LinkPort) (g' : Fld) (a' b' : Nat) : (s.onLink k f).flag g' a' b' = s.flag g' a' b' := rfl
@[simp] theorem State.onLink_tile (s : State) (k : Nat) (f : LinkPort → LinkPort) (n' : Nat) : (s.onLink k f).tile n' = s.tile n' := rfl
@[simp] theorem State.onLink_pad (s : State) (k : Nat) (f : LinkPort → LinkPort) (q' : Nat) : (s.onLink k f).pad q' = s.pad q' := rfl
@[simp] theorem State.onLink_bytes (s : State) (k : Nat) (f : LinkPort → LinkPort) (a' n' : Nat) : (s.onLink k f).bytes a' n' = s.bytes a' n' := rfl

/-! ### `State.onLane` -/

@[simp] theorem State.onLane_pending (s : State) (n : Nat) (f : Lane → Lane) : (s.onLane n f).pending = s.pending := rfl
@[simp] theorem State.onLane_regs (s : State) (n : Nat) (f : Lane → Lane) : (s.onLane n f).regs = s.regs := rfl
@[simp] theorem State.onLane_mem (s : State) (n : Nat) (f : Lane → Lane) : (s.onLane n f).mem = s.mem := rfl
@[simp] theorem State.onLane_hbmUe (s : State) (n : Nat) (f : Lane → Lane) : (s.onLane n f).hbmUe = s.hbmUe := rfl
@[simp] theorem State.onLane_hbmCe (s : State) (n : Nat) (f : Lane → Lane) : (s.onLane n f).hbmCe = s.hbmCe := rfl
@[simp] theorem State.onLane_hbmOndie (s : State) (n : Nat) (f : Lane → Lane) : (s.onLane n f).hbmOndie = s.hbmOndie := rfl
@[simp] theorem State.onLane_reads (s : State) (n : Nat) (f : Lane → Lane) : (s.onLane n f).reads = s.reads := rfl
@[simp] theorem State.onLane_scrubAt (s : State) (n : Nat) (f : Lane → Lane) : (s.onLane n f).scrubAt = s.scrubAt := rfl
@[simp] theorem State.onLane_hbmCool (s : State) (n : Nat) (f : Lane → Lane) : (s.onLane n f).hbmCool = s.hbmCool := rfl
@[simp] theorem State.onLane_bankActs (s : State) (n : Nat) (f : Lane → Lane) : (s.onLane n f).bankActs = s.bankActs := rfl
@[simp] theorem State.onLane_tiles (s : State) (n : Nat) (f : Lane → Lane) : (s.onLane n f).tiles = s.tiles := rfl
@[simp] theorem State.onLane_pads (s : State) (n : Nat) (f : Lane → Lane) : (s.onLane n f).pads = s.pads := rfl
@[simp] theorem State.onLane_grants (s : State) (n : Nat) (f : Lane → Lane) : (s.onLane n f).grants = s.grants := rfl
@[simp] theorem State.onLane_lastPad (s : State) (n : Nat) (f : Lane → Lane) : (s.onLane n f).lastPad = s.lastPad := rfl
@[simp] theorem State.onLane_flagHold (s : State) (n : Nat) (f : Lane → Lane) : (s.onLane n f).flagHold = s.flagHold := rfl
@[simp] theorem State.onLane_gets (s : State) (n : Nat) (f : Lane → Lane) : (s.onLane n f).gets = s.gets := rfl
@[simp] theorem State.onLane_input (s : State) (n : Nat) (f : Lane → Lane) : (s.onLane n f).input = s.input := rfl
@[simp] theorem State.onLane_output (s : State) (n : Nat) (f : Lane → Lane) : (s.onLane n f).output = s.output := rfl
@[simp] theorem State.onLane_delivered (s : State) (n : Nat) (f : Lane → Lane) : (s.onLane n f).delivered = s.delivered := rfl
@[simp] theorem State.onLane_uc0 (s : State) (n : Nat) (f : Lane → Lane) : (s.onLane n f).uc0 = s.uc0 := rfl
@[simp] theorem State.onLane_uc1 (s : State) (n : Nat) (f : Lane → Lane) : (s.onLane n f).uc1 = s.uc1 := rfl
@[simp] theorem State.onLane_mc0 (s : State) (n : Nat) (f : Lane → Lane) : (s.onLane n f).mc0 = s.mc0 := rfl
@[simp] theorem State.onLane_mc1 (s : State) (n : Nat) (f : Lane → Lane) : (s.onLane n f).mc1 = s.mc1 := rfl
@[simp] theorem State.onLane_links (s : State) (n : Nat) (f : Lane → Lane) : (s.onLane n f).links = s.links := rfl
@[simp] theorem State.onLane_accepted (s : State) (n : Nat) (f : Lane → Lane) : (s.onLane n f).accepted = s.accepted := rfl
@[simp] theorem State.onLane_routed (s : State) (n : Nat) (f : Lane → Lane) : (s.onLane n f).routed = s.routed := rfl
@[simp] theorem State.onLane_beat (s : State) (n : Nat) (f : Lane → Lane) : (s.onLane n f).beat = s.beat := rfl
@[simp] theorem State.onLane_slot0 (s : State) (n : Nat) (f : Lane → Lane) : (s.onLane n f).slot0 = s.slot0 := rfl
@[simp] theorem State.onLane_slot1 (s : State) (n : Nat) (f : Lane → Lane) : (s.onLane n f).slot1 = s.slot1 := rfl
@[simp] theorem State.onLane_circ0 (s : State) (n : Nat) (f : Lane → Lane) : (s.onLane n f).circ0 = s.circ0 := rfl
@[simp] theorem State.onLane_circ1 (s : State) (n : Nat) (f : Lane → Lane) : (s.onLane n f).circ1 = s.circ1 := rfl
@[simp] theorem State.onLane_steer0 (s : State) (n : Nat) (f : Lane → Lane) : (s.onLane n f).steer0 = s.steer0 := rfl
@[simp] theorem State.onLane_steer1 (s : State) (n : Nat) (f : Lane → Lane) : (s.onLane n f).steer1 = s.steer1 := rfl
@[simp] theorem State.onLane_fold (s : State) (n : Nat) (f : Lane → Lane) : (s.onLane n f).fold = s.fold := rfl
@[simp] theorem State.onLane_commits (s : State) (n : Nat) (f : Lane → Lane) : (s.onLane n f).commits = s.commits := rfl
@[simp] theorem State.onLane_pair (s : State) (n : Nat) (f : Lane → Lane) : (s.onLane n f).pair = s.pair := rfl
@[simp] theorem State.onLane_limiter (s : State) (n : Nat) (f : Lane → Lane) : (s.onLane n f).limiter = s.limiter := rfl
@[simp] theorem State.onLane_padReset (s : State) (n : Nat) (f : Lane → Lane) : (s.onLane n f).padReset = s.padReset := rfl
@[simp] theorem State.onLane_chipReset (s : State) (n : Nat) (f : Lane → Lane) : (s.onLane n f).chipReset = s.chipReset := rfl
@[simp] theorem State.onLane_out (s : State) (n : Nat) (f : Lane → Lane) : (s.onLane n f).out = s.out := rfl
@[simp] theorem State.onLane_cores (s : State) (n : Nat) (f : Lane → Lane) : (s.onLane n f).cores = s.cores := rfl
@[simp] theorem State.onLane_pcie (s : State) (n : Nat) (f : Lane → Lane) : (s.onLane n f).pcie = s.pcie := rfl
@[simp] theorem State.onLane_lastTag (s : State) (n : Nat) (f : Lane → Lane) : (s.onLane n f).lastTag = s.lastTag := rfl
@[simp] theorem State.onLane_meters (s : State) (n : Nat) (f : Lane → Lane) : (s.onLane n f).meters = s.meters := rfl
@[simp] theorem State.onLane_fuse (s : State) (n : Nat) (f : Lane → Lane) : (s.onLane n f).fuse = s.fuse := rfl
@[simp] theorem State.onLane_recovery (s : State) (n : Nat) (f : Lane → Lane) : (s.onLane n f).recovery = s.recovery := rfl
@[simp] theorem State.onLane_power (s : State) (n : Nat) (f : Lane → Lane) : (s.onLane n f).power = s.power := rfl
@[simp] theorem State.onLane_boot (s : State) (n : Nat) (f : Lane → Lane) : (s.onLane n f).boot = s.boot := rfl
@[simp] theorem State.onLane_muster (s : State) (n : Nat) (f : Lane → Lane) : (s.onLane n f).muster = s.muster := rfl
@[simp] theorem State.onLane_mgmt (s : State) (n : Nat) (f : Lane → Lane) : (s.onLane n f).mgmt = s.mgmt := rfl
@[simp] theorem State.onLane_flash (s : State) (n : Nat) (f : Lane → Lane) : (s.onLane n f).flash = s.flash := rfl
@[simp] theorem State.onLane_tray (s : State) (n : Nat) (f : Lane → Lane) : (s.onLane n f).tray = s.tray := rfl
@[simp] theorem State.onLane_beatNo (s : State) (n : Nat) (f : Lane → Lane) : (s.onLane n f).beatNo = s.beatNo := rfl
@[simp] theorem State.onLane_now (s : State) (n : Nat) (f : Lane → Lane) : (s.onLane n f).now = s.now := rfl
@[simp] theorem State.onLane_fresh (s : State) (n : Nat) (f : Lane → Lane) : (s.onLane n f).fresh = s.fresh := rfl
@[simp] theorem State.onLane_reg (s : State) (n : Nat) (f : Lane → Lane) (q' : RegId) (a' b' : Nat) : (s.onLane n f).reg q' a' b' = s.reg q' a' b' := rfl
@[simp] theorem State.onLane_fld (s : State) (n : Nat) (f : Lane → Lane) (g' : Fld) (a' b' : Nat) : (s.onLane n f).fld g' a' b' = s.fld g' a' b' := rfl
@[simp] theorem State.onLane_flag (s : State) (n : Nat) (f : Lane → Lane) (g' : Fld) (a' b' : Nat) : (s.onLane n f).flag g' a' b' = s.flag g' a' b' := rfl
@[simp] theorem State.onLane_tile (s : State) (n : Nat) (f : Lane → Lane) (n' : Nat) : (s.onLane n f).tile n' = s.tile n' := rfl
@[simp] theorem State.onLane_pad (s : State) (n : Nat) (f : Lane → Lane) (q' : Nat) : (s.onLane n f).pad q' = s.pad q' := rfl
@[simp] theorem State.onLane_link (s : State) (n : Nat) (f : Lane → Lane) (p' : Nat) : (s.onLane n f).link p' = s.link p' := rfl
@[simp] theorem State.onLane_bytes (s : State) (n : Nat) (f : Lane → Lane) (a' n' : Nat) : (s.onLane n f).bytes a' n' = s.bytes a' n' := rfl

/-! ### `State.setFold` -/

@[simp] theorem State.setFold_pending (s : State) (e : Nat) (x : FoldEntry) : (s.setFold e x).pending = s.pending := rfl
@[simp] theorem State.setFold_regs (s : State) (e : Nat) (x : FoldEntry) : (s.setFold e x).regs = s.regs := rfl
@[simp] theorem State.setFold_mem (s : State) (e : Nat) (x : FoldEntry) : (s.setFold e x).mem = s.mem := rfl
@[simp] theorem State.setFold_hbmUe (s : State) (e : Nat) (x : FoldEntry) : (s.setFold e x).hbmUe = s.hbmUe := rfl
@[simp] theorem State.setFold_hbmCe (s : State) (e : Nat) (x : FoldEntry) : (s.setFold e x).hbmCe = s.hbmCe := rfl
@[simp] theorem State.setFold_hbmOndie (s : State) (e : Nat) (x : FoldEntry) : (s.setFold e x).hbmOndie = s.hbmOndie := rfl
@[simp] theorem State.setFold_reads (s : State) (e : Nat) (x : FoldEntry) : (s.setFold e x).reads = s.reads := rfl
@[simp] theorem State.setFold_scrubAt (s : State) (e : Nat) (x : FoldEntry) : (s.setFold e x).scrubAt = s.scrubAt := rfl
@[simp] theorem State.setFold_hbmCool (s : State) (e : Nat) (x : FoldEntry) : (s.setFold e x).hbmCool = s.hbmCool := rfl
@[simp] theorem State.setFold_bankActs (s : State) (e : Nat) (x : FoldEntry) : (s.setFold e x).bankActs = s.bankActs := rfl
@[simp] theorem State.setFold_tiles (s : State) (e : Nat) (x : FoldEntry) : (s.setFold e x).tiles = s.tiles := rfl
@[simp] theorem State.setFold_pads (s : State) (e : Nat) (x : FoldEntry) : (s.setFold e x).pads = s.pads := rfl
@[simp] theorem State.setFold_grants (s : State) (e : Nat) (x : FoldEntry) : (s.setFold e x).grants = s.grants := rfl
@[simp] theorem State.setFold_lastPad (s : State) (e : Nat) (x : FoldEntry) : (s.setFold e x).lastPad = s.lastPad := rfl
@[simp] theorem State.setFold_flagHold (s : State) (e : Nat) (x : FoldEntry) : (s.setFold e x).flagHold = s.flagHold := rfl
@[simp] theorem State.setFold_gets (s : State) (e : Nat) (x : FoldEntry) : (s.setFold e x).gets = s.gets := rfl
@[simp] theorem State.setFold_input (s : State) (e : Nat) (x : FoldEntry) : (s.setFold e x).input = s.input := rfl
@[simp] theorem State.setFold_output (s : State) (e : Nat) (x : FoldEntry) : (s.setFold e x).output = s.output := rfl
@[simp] theorem State.setFold_delivered (s : State) (e : Nat) (x : FoldEntry) : (s.setFold e x).delivered = s.delivered := rfl
@[simp] theorem State.setFold_uc0 (s : State) (e : Nat) (x : FoldEntry) : (s.setFold e x).uc0 = s.uc0 := rfl
@[simp] theorem State.setFold_uc1 (s : State) (e : Nat) (x : FoldEntry) : (s.setFold e x).uc1 = s.uc1 := rfl
@[simp] theorem State.setFold_mc0 (s : State) (e : Nat) (x : FoldEntry) : (s.setFold e x).mc0 = s.mc0 := rfl
@[simp] theorem State.setFold_mc1 (s : State) (e : Nat) (x : FoldEntry) : (s.setFold e x).mc1 = s.mc1 := rfl
@[simp] theorem State.setFold_lanes (s : State) (e : Nat) (x : FoldEntry) : (s.setFold e x).lanes = s.lanes := rfl
@[simp] theorem State.setFold_links (s : State) (e : Nat) (x : FoldEntry) : (s.setFold e x).links = s.links := rfl
@[simp] theorem State.setFold_accepted (s : State) (e : Nat) (x : FoldEntry) : (s.setFold e x).accepted = s.accepted := rfl
@[simp] theorem State.setFold_routed (s : State) (e : Nat) (x : FoldEntry) : (s.setFold e x).routed = s.routed := rfl
@[simp] theorem State.setFold_beat (s : State) (e : Nat) (x : FoldEntry) : (s.setFold e x).beat = s.beat := rfl
@[simp] theorem State.setFold_slot0 (s : State) (e : Nat) (x : FoldEntry) : (s.setFold e x).slot0 = s.slot0 := rfl
@[simp] theorem State.setFold_slot1 (s : State) (e : Nat) (x : FoldEntry) : (s.setFold e x).slot1 = s.slot1 := rfl
@[simp] theorem State.setFold_circ0 (s : State) (e : Nat) (x : FoldEntry) : (s.setFold e x).circ0 = s.circ0 := rfl
@[simp] theorem State.setFold_circ1 (s : State) (e : Nat) (x : FoldEntry) : (s.setFold e x).circ1 = s.circ1 := rfl
@[simp] theorem State.setFold_steer0 (s : State) (e : Nat) (x : FoldEntry) : (s.setFold e x).steer0 = s.steer0 := rfl
@[simp] theorem State.setFold_steer1 (s : State) (e : Nat) (x : FoldEntry) : (s.setFold e x).steer1 = s.steer1 := rfl
@[simp] theorem State.setFold_commits (s : State) (e : Nat) (x : FoldEntry) : (s.setFold e x).commits = s.commits := rfl
@[simp] theorem State.setFold_pair (s : State) (e : Nat) (x : FoldEntry) : (s.setFold e x).pair = s.pair := rfl
@[simp] theorem State.setFold_limiter (s : State) (e : Nat) (x : FoldEntry) : (s.setFold e x).limiter = s.limiter := rfl
@[simp] theorem State.setFold_padReset (s : State) (e : Nat) (x : FoldEntry) : (s.setFold e x).padReset = s.padReset := rfl
@[simp] theorem State.setFold_chipReset (s : State) (e : Nat) (x : FoldEntry) : (s.setFold e x).chipReset = s.chipReset := rfl
@[simp] theorem State.setFold_out (s : State) (e : Nat) (x : FoldEntry) : (s.setFold e x).out = s.out := rfl
@[simp] theorem State.setFold_cores (s : State) (e : Nat) (x : FoldEntry) : (s.setFold e x).cores = s.cores := rfl
@[simp] theorem State.setFold_pcie (s : State) (e : Nat) (x : FoldEntry) : (s.setFold e x).pcie = s.pcie := rfl
@[simp] theorem State.setFold_lastTag (s : State) (e : Nat) (x : FoldEntry) : (s.setFold e x).lastTag = s.lastTag := rfl
@[simp] theorem State.setFold_meters (s : State) (e : Nat) (x : FoldEntry) : (s.setFold e x).meters = s.meters := rfl
@[simp] theorem State.setFold_fuse (s : State) (e : Nat) (x : FoldEntry) : (s.setFold e x).fuse = s.fuse := rfl
@[simp] theorem State.setFold_recovery (s : State) (e : Nat) (x : FoldEntry) : (s.setFold e x).recovery = s.recovery := rfl
@[simp] theorem State.setFold_power (s : State) (e : Nat) (x : FoldEntry) : (s.setFold e x).power = s.power := rfl
@[simp] theorem State.setFold_boot (s : State) (e : Nat) (x : FoldEntry) : (s.setFold e x).boot = s.boot := rfl
@[simp] theorem State.setFold_muster (s : State) (e : Nat) (x : FoldEntry) : (s.setFold e x).muster = s.muster := rfl
@[simp] theorem State.setFold_mgmt (s : State) (e : Nat) (x : FoldEntry) : (s.setFold e x).mgmt = s.mgmt := rfl
@[simp] theorem State.setFold_flash (s : State) (e : Nat) (x : FoldEntry) : (s.setFold e x).flash = s.flash := rfl
@[simp] theorem State.setFold_tray (s : State) (e : Nat) (x : FoldEntry) : (s.setFold e x).tray = s.tray := rfl
@[simp] theorem State.setFold_beatNo (s : State) (e : Nat) (x : FoldEntry) : (s.setFold e x).beatNo = s.beatNo := rfl
@[simp] theorem State.setFold_now (s : State) (e : Nat) (x : FoldEntry) : (s.setFold e x).now = s.now := rfl
@[simp] theorem State.setFold_fresh (s : State) (e : Nat) (x : FoldEntry) : (s.setFold e x).fresh = s.fresh := rfl
@[simp] theorem State.setFold_reg (s : State) (e : Nat) (x : FoldEntry) (q' : RegId) (a' b' : Nat) : (s.setFold e x).reg q' a' b' = s.reg q' a' b' := rfl
@[simp] theorem State.setFold_fld (s : State) (e : Nat) (x : FoldEntry) (g' : Fld) (a' b' : Nat) : (s.setFold e x).fld g' a' b' = s.fld g' a' b' := rfl
@[simp] theorem State.setFold_flag (s : State) (e : Nat) (x : FoldEntry) (g' : Fld) (a' b' : Nat) : (s.setFold e x).flag g' a' b' = s.flag g' a' b' := rfl
@[simp] theorem State.setFold_tile (s : State) (e : Nat) (x : FoldEntry) (n' : Nat) : (s.setFold e x).tile n' = s.tile n' := rfl
@[simp] theorem State.setFold_pad (s : State) (e : Nat) (x : FoldEntry) (q' : Nat) : (s.setFold e x).pad q' = s.pad q' := rfl
@[simp] theorem State.setFold_link (s : State) (e : Nat) (x : FoldEntry) (p' : Nat) : (s.setFold e x).link p' = s.link p' := rfl
@[simp] theorem State.setFold_bytes (s : State) (e : Nat) (x : FoldEntry) (a' n' : Nat) : (s.setFold e x).bytes a' n' = s.bytes a' n' := rfl

/-! ### `State.onFold` -/

@[simp] theorem State.onFold_pending (s : State) (e : Nat) (f : FoldEntry → FoldEntry) : (s.onFold e f).pending = s.pending := rfl
@[simp] theorem State.onFold_regs (s : State) (e : Nat) (f : FoldEntry → FoldEntry) : (s.onFold e f).regs = s.regs := rfl
@[simp] theorem State.onFold_mem (s : State) (e : Nat) (f : FoldEntry → FoldEntry) : (s.onFold e f).mem = s.mem := rfl
@[simp] theorem State.onFold_hbmUe (s : State) (e : Nat) (f : FoldEntry → FoldEntry) : (s.onFold e f).hbmUe = s.hbmUe := rfl
@[simp] theorem State.onFold_hbmCe (s : State) (e : Nat) (f : FoldEntry → FoldEntry) : (s.onFold e f).hbmCe = s.hbmCe := rfl
@[simp] theorem State.onFold_hbmOndie (s : State) (e : Nat) (f : FoldEntry → FoldEntry) : (s.onFold e f).hbmOndie = s.hbmOndie := rfl
@[simp] theorem State.onFold_reads (s : State) (e : Nat) (f : FoldEntry → FoldEntry) : (s.onFold e f).reads = s.reads := rfl
@[simp] theorem State.onFold_scrubAt (s : State) (e : Nat) (f : FoldEntry → FoldEntry) : (s.onFold e f).scrubAt = s.scrubAt := rfl
@[simp] theorem State.onFold_hbmCool (s : State) (e : Nat) (f : FoldEntry → FoldEntry) : (s.onFold e f).hbmCool = s.hbmCool := rfl
@[simp] theorem State.onFold_bankActs (s : State) (e : Nat) (f : FoldEntry → FoldEntry) : (s.onFold e f).bankActs = s.bankActs := rfl
@[simp] theorem State.onFold_tiles (s : State) (e : Nat) (f : FoldEntry → FoldEntry) : (s.onFold e f).tiles = s.tiles := rfl
@[simp] theorem State.onFold_pads (s : State) (e : Nat) (f : FoldEntry → FoldEntry) : (s.onFold e f).pads = s.pads := rfl
@[simp] theorem State.onFold_grants (s : State) (e : Nat) (f : FoldEntry → FoldEntry) : (s.onFold e f).grants = s.grants := rfl
@[simp] theorem State.onFold_lastPad (s : State) (e : Nat) (f : FoldEntry → FoldEntry) : (s.onFold e f).lastPad = s.lastPad := rfl
@[simp] theorem State.onFold_flagHold (s : State) (e : Nat) (f : FoldEntry → FoldEntry) : (s.onFold e f).flagHold = s.flagHold := rfl
@[simp] theorem State.onFold_gets (s : State) (e : Nat) (f : FoldEntry → FoldEntry) : (s.onFold e f).gets = s.gets := rfl
@[simp] theorem State.onFold_input (s : State) (e : Nat) (f : FoldEntry → FoldEntry) : (s.onFold e f).input = s.input := rfl
@[simp] theorem State.onFold_output (s : State) (e : Nat) (f : FoldEntry → FoldEntry) : (s.onFold e f).output = s.output := rfl
@[simp] theorem State.onFold_delivered (s : State) (e : Nat) (f : FoldEntry → FoldEntry) : (s.onFold e f).delivered = s.delivered := rfl
@[simp] theorem State.onFold_uc0 (s : State) (e : Nat) (f : FoldEntry → FoldEntry) : (s.onFold e f).uc0 = s.uc0 := rfl
@[simp] theorem State.onFold_uc1 (s : State) (e : Nat) (f : FoldEntry → FoldEntry) : (s.onFold e f).uc1 = s.uc1 := rfl
@[simp] theorem State.onFold_mc0 (s : State) (e : Nat) (f : FoldEntry → FoldEntry) : (s.onFold e f).mc0 = s.mc0 := rfl
@[simp] theorem State.onFold_mc1 (s : State) (e : Nat) (f : FoldEntry → FoldEntry) : (s.onFold e f).mc1 = s.mc1 := rfl
@[simp] theorem State.onFold_lanes (s : State) (e : Nat) (f : FoldEntry → FoldEntry) : (s.onFold e f).lanes = s.lanes := rfl
@[simp] theorem State.onFold_links (s : State) (e : Nat) (f : FoldEntry → FoldEntry) : (s.onFold e f).links = s.links := rfl
@[simp] theorem State.onFold_accepted (s : State) (e : Nat) (f : FoldEntry → FoldEntry) : (s.onFold e f).accepted = s.accepted := rfl
@[simp] theorem State.onFold_routed (s : State) (e : Nat) (f : FoldEntry → FoldEntry) : (s.onFold e f).routed = s.routed := rfl
@[simp] theorem State.onFold_beat (s : State) (e : Nat) (f : FoldEntry → FoldEntry) : (s.onFold e f).beat = s.beat := rfl
@[simp] theorem State.onFold_slot0 (s : State) (e : Nat) (f : FoldEntry → FoldEntry) : (s.onFold e f).slot0 = s.slot0 := rfl
@[simp] theorem State.onFold_slot1 (s : State) (e : Nat) (f : FoldEntry → FoldEntry) : (s.onFold e f).slot1 = s.slot1 := rfl
@[simp] theorem State.onFold_circ0 (s : State) (e : Nat) (f : FoldEntry → FoldEntry) : (s.onFold e f).circ0 = s.circ0 := rfl
@[simp] theorem State.onFold_circ1 (s : State) (e : Nat) (f : FoldEntry → FoldEntry) : (s.onFold e f).circ1 = s.circ1 := rfl
@[simp] theorem State.onFold_steer0 (s : State) (e : Nat) (f : FoldEntry → FoldEntry) : (s.onFold e f).steer0 = s.steer0 := rfl
@[simp] theorem State.onFold_steer1 (s : State) (e : Nat) (f : FoldEntry → FoldEntry) : (s.onFold e f).steer1 = s.steer1 := rfl
@[simp] theorem State.onFold_commits (s : State) (e : Nat) (f : FoldEntry → FoldEntry) : (s.onFold e f).commits = s.commits := rfl
@[simp] theorem State.onFold_pair (s : State) (e : Nat) (f : FoldEntry → FoldEntry) : (s.onFold e f).pair = s.pair := rfl
@[simp] theorem State.onFold_limiter (s : State) (e : Nat) (f : FoldEntry → FoldEntry) : (s.onFold e f).limiter = s.limiter := rfl
@[simp] theorem State.onFold_padReset (s : State) (e : Nat) (f : FoldEntry → FoldEntry) : (s.onFold e f).padReset = s.padReset := rfl
@[simp] theorem State.onFold_chipReset (s : State) (e : Nat) (f : FoldEntry → FoldEntry) : (s.onFold e f).chipReset = s.chipReset := rfl
@[simp] theorem State.onFold_out (s : State) (e : Nat) (f : FoldEntry → FoldEntry) : (s.onFold e f).out = s.out := rfl
@[simp] theorem State.onFold_cores (s : State) (e : Nat) (f : FoldEntry → FoldEntry) : (s.onFold e f).cores = s.cores := rfl
@[simp] theorem State.onFold_pcie (s : State) (e : Nat) (f : FoldEntry → FoldEntry) : (s.onFold e f).pcie = s.pcie := rfl
@[simp] theorem State.onFold_lastTag (s : State) (e : Nat) (f : FoldEntry → FoldEntry) : (s.onFold e f).lastTag = s.lastTag := rfl
@[simp] theorem State.onFold_meters (s : State) (e : Nat) (f : FoldEntry → FoldEntry) : (s.onFold e f).meters = s.meters := rfl
@[simp] theorem State.onFold_fuse (s : State) (e : Nat) (f : FoldEntry → FoldEntry) : (s.onFold e f).fuse = s.fuse := rfl
@[simp] theorem State.onFold_recovery (s : State) (e : Nat) (f : FoldEntry → FoldEntry) : (s.onFold e f).recovery = s.recovery := rfl
@[simp] theorem State.onFold_power (s : State) (e : Nat) (f : FoldEntry → FoldEntry) : (s.onFold e f).power = s.power := rfl
@[simp] theorem State.onFold_boot (s : State) (e : Nat) (f : FoldEntry → FoldEntry) : (s.onFold e f).boot = s.boot := rfl
@[simp] theorem State.onFold_muster (s : State) (e : Nat) (f : FoldEntry → FoldEntry) : (s.onFold e f).muster = s.muster := rfl
@[simp] theorem State.onFold_mgmt (s : State) (e : Nat) (f : FoldEntry → FoldEntry) : (s.onFold e f).mgmt = s.mgmt := rfl
@[simp] theorem State.onFold_flash (s : State) (e : Nat) (f : FoldEntry → FoldEntry) : (s.onFold e f).flash = s.flash := rfl
@[simp] theorem State.onFold_tray (s : State) (e : Nat) (f : FoldEntry → FoldEntry) : (s.onFold e f).tray = s.tray := rfl
@[simp] theorem State.onFold_beatNo (s : State) (e : Nat) (f : FoldEntry → FoldEntry) : (s.onFold e f).beatNo = s.beatNo := rfl
@[simp] theorem State.onFold_now (s : State) (e : Nat) (f : FoldEntry → FoldEntry) : (s.onFold e f).now = s.now := rfl
@[simp] theorem State.onFold_fresh (s : State) (e : Nat) (f : FoldEntry → FoldEntry) : (s.onFold e f).fresh = s.fresh := rfl
@[simp] theorem State.onFold_reg (s : State) (e : Nat) (f : FoldEntry → FoldEntry) (q' : RegId) (a' b' : Nat) : (s.onFold e f).reg q' a' b' = s.reg q' a' b' := rfl
@[simp] theorem State.onFold_fld (s : State) (e : Nat) (f : FoldEntry → FoldEntry) (g' : Fld) (a' b' : Nat) : (s.onFold e f).fld g' a' b' = s.fld g' a' b' := rfl
@[simp] theorem State.onFold_flag (s : State) (e : Nat) (f : FoldEntry → FoldEntry) (g' : Fld) (a' b' : Nat) : (s.onFold e f).flag g' a' b' = s.flag g' a' b' := rfl
@[simp] theorem State.onFold_tile (s : State) (e : Nat) (f : FoldEntry → FoldEntry) (n' : Nat) : (s.onFold e f).tile n' = s.tile n' := rfl
@[simp] theorem State.onFold_pad (s : State) (e : Nat) (f : FoldEntry → FoldEntry) (q' : Nat) : (s.onFold e f).pad q' = s.pad q' := rfl
@[simp] theorem State.onFold_link (s : State) (e : Nat) (f : FoldEntry → FoldEntry) (p' : Nat) : (s.onFold e f).link p' = s.link p' := rfl
@[simp] theorem State.onFold_bytes (s : State) (e : Nat) (f : FoldEntry → FoldEntry) (a' n' : Nat) : (s.onFold e f).bytes a' n' = s.bytes a' n' := rfl

/-! ### `State.onRec` -/

@[simp] theorem State.onRec_pending (s : State) (f : Recovery → Recovery) : (s.onRec f).pending = s.pending := rfl
@[simp] theorem State.onRec_regs (s : State) (f : Recovery → Recovery) : (s.onRec f).regs = s.regs := rfl
@[simp] theorem State.onRec_mem (s : State) (f : Recovery → Recovery) : (s.onRec f).mem = s.mem := rfl
@[simp] theorem State.onRec_hbmUe (s : State) (f : Recovery → Recovery) : (s.onRec f).hbmUe = s.hbmUe := rfl
@[simp] theorem State.onRec_hbmCe (s : State) (f : Recovery → Recovery) : (s.onRec f).hbmCe = s.hbmCe := rfl
@[simp] theorem State.onRec_hbmOndie (s : State) (f : Recovery → Recovery) : (s.onRec f).hbmOndie = s.hbmOndie := rfl
@[simp] theorem State.onRec_reads (s : State) (f : Recovery → Recovery) : (s.onRec f).reads = s.reads := rfl
@[simp] theorem State.onRec_scrubAt (s : State) (f : Recovery → Recovery) : (s.onRec f).scrubAt = s.scrubAt := rfl
@[simp] theorem State.onRec_hbmCool (s : State) (f : Recovery → Recovery) : (s.onRec f).hbmCool = s.hbmCool := rfl
@[simp] theorem State.onRec_bankActs (s : State) (f : Recovery → Recovery) : (s.onRec f).bankActs = s.bankActs := rfl
@[simp] theorem State.onRec_tiles (s : State) (f : Recovery → Recovery) : (s.onRec f).tiles = s.tiles := rfl
@[simp] theorem State.onRec_pads (s : State) (f : Recovery → Recovery) : (s.onRec f).pads = s.pads := rfl
@[simp] theorem State.onRec_grants (s : State) (f : Recovery → Recovery) : (s.onRec f).grants = s.grants := rfl
@[simp] theorem State.onRec_lastPad (s : State) (f : Recovery → Recovery) : (s.onRec f).lastPad = s.lastPad := rfl
@[simp] theorem State.onRec_flagHold (s : State) (f : Recovery → Recovery) : (s.onRec f).flagHold = s.flagHold := rfl
@[simp] theorem State.onRec_gets (s : State) (f : Recovery → Recovery) : (s.onRec f).gets = s.gets := rfl
@[simp] theorem State.onRec_input (s : State) (f : Recovery → Recovery) : (s.onRec f).input = s.input := rfl
@[simp] theorem State.onRec_output (s : State) (f : Recovery → Recovery) : (s.onRec f).output = s.output := rfl
@[simp] theorem State.onRec_delivered (s : State) (f : Recovery → Recovery) : (s.onRec f).delivered = s.delivered := rfl
@[simp] theorem State.onRec_uc0 (s : State) (f : Recovery → Recovery) : (s.onRec f).uc0 = s.uc0 := rfl
@[simp] theorem State.onRec_uc1 (s : State) (f : Recovery → Recovery) : (s.onRec f).uc1 = s.uc1 := rfl
@[simp] theorem State.onRec_mc0 (s : State) (f : Recovery → Recovery) : (s.onRec f).mc0 = s.mc0 := rfl
@[simp] theorem State.onRec_mc1 (s : State) (f : Recovery → Recovery) : (s.onRec f).mc1 = s.mc1 := rfl
@[simp] theorem State.onRec_lanes (s : State) (f : Recovery → Recovery) : (s.onRec f).lanes = s.lanes := rfl
@[simp] theorem State.onRec_links (s : State) (f : Recovery → Recovery) : (s.onRec f).links = s.links := rfl
@[simp] theorem State.onRec_accepted (s : State) (f : Recovery → Recovery) : (s.onRec f).accepted = s.accepted := rfl
@[simp] theorem State.onRec_routed (s : State) (f : Recovery → Recovery) : (s.onRec f).routed = s.routed := rfl
@[simp] theorem State.onRec_beat (s : State) (f : Recovery → Recovery) : (s.onRec f).beat = s.beat := rfl
@[simp] theorem State.onRec_slot0 (s : State) (f : Recovery → Recovery) : (s.onRec f).slot0 = s.slot0 := rfl
@[simp] theorem State.onRec_slot1 (s : State) (f : Recovery → Recovery) : (s.onRec f).slot1 = s.slot1 := rfl
@[simp] theorem State.onRec_circ0 (s : State) (f : Recovery → Recovery) : (s.onRec f).circ0 = s.circ0 := rfl
@[simp] theorem State.onRec_circ1 (s : State) (f : Recovery → Recovery) : (s.onRec f).circ1 = s.circ1 := rfl
@[simp] theorem State.onRec_steer0 (s : State) (f : Recovery → Recovery) : (s.onRec f).steer0 = s.steer0 := rfl
@[simp] theorem State.onRec_steer1 (s : State) (f : Recovery → Recovery) : (s.onRec f).steer1 = s.steer1 := rfl
@[simp] theorem State.onRec_fold (s : State) (f : Recovery → Recovery) : (s.onRec f).fold = s.fold := rfl
@[simp] theorem State.onRec_commits (s : State) (f : Recovery → Recovery) : (s.onRec f).commits = s.commits := rfl
@[simp] theorem State.onRec_pair (s : State) (f : Recovery → Recovery) : (s.onRec f).pair = s.pair := rfl
@[simp] theorem State.onRec_limiter (s : State) (f : Recovery → Recovery) : (s.onRec f).limiter = s.limiter := rfl
@[simp] theorem State.onRec_padReset (s : State) (f : Recovery → Recovery) : (s.onRec f).padReset = s.padReset := rfl
@[simp] theorem State.onRec_chipReset (s : State) (f : Recovery → Recovery) : (s.onRec f).chipReset = s.chipReset := rfl
@[simp] theorem State.onRec_out (s : State) (f : Recovery → Recovery) : (s.onRec f).out = s.out := rfl
@[simp] theorem State.onRec_cores (s : State) (f : Recovery → Recovery) : (s.onRec f).cores = s.cores := rfl
@[simp] theorem State.onRec_pcie (s : State) (f : Recovery → Recovery) : (s.onRec f).pcie = s.pcie := rfl
@[simp] theorem State.onRec_lastTag (s : State) (f : Recovery → Recovery) : (s.onRec f).lastTag = s.lastTag := rfl
@[simp] theorem State.onRec_meters (s : State) (f : Recovery → Recovery) : (s.onRec f).meters = s.meters := rfl
@[simp] theorem State.onRec_fuse (s : State) (f : Recovery → Recovery) : (s.onRec f).fuse = s.fuse := rfl
@[simp] theorem State.onRec_power (s : State) (f : Recovery → Recovery) : (s.onRec f).power = s.power := rfl
@[simp] theorem State.onRec_boot (s : State) (f : Recovery → Recovery) : (s.onRec f).boot = s.boot := rfl
@[simp] theorem State.onRec_muster (s : State) (f : Recovery → Recovery) : (s.onRec f).muster = s.muster := rfl
@[simp] theorem State.onRec_mgmt (s : State) (f : Recovery → Recovery) : (s.onRec f).mgmt = s.mgmt := rfl
@[simp] theorem State.onRec_flash (s : State) (f : Recovery → Recovery) : (s.onRec f).flash = s.flash := rfl
@[simp] theorem State.onRec_tray (s : State) (f : Recovery → Recovery) : (s.onRec f).tray = s.tray := rfl
@[simp] theorem State.onRec_beatNo (s : State) (f : Recovery → Recovery) : (s.onRec f).beatNo = s.beatNo := rfl
@[simp] theorem State.onRec_now (s : State) (f : Recovery → Recovery) : (s.onRec f).now = s.now := rfl
@[simp] theorem State.onRec_fresh (s : State) (f : Recovery → Recovery) : (s.onRec f).fresh = s.fresh := rfl
@[simp] theorem State.onRec_reg (s : State) (f : Recovery → Recovery) (q' : RegId) (a' b' : Nat) : (s.onRec f).reg q' a' b' = s.reg q' a' b' := rfl
@[simp] theorem State.onRec_fld (s : State) (f : Recovery → Recovery) (g' : Fld) (a' b' : Nat) : (s.onRec f).fld g' a' b' = s.fld g' a' b' := rfl
@[simp] theorem State.onRec_flag (s : State) (f : Recovery → Recovery) (g' : Fld) (a' b' : Nat) : (s.onRec f).flag g' a' b' = s.flag g' a' b' := rfl
@[simp] theorem State.onRec_tile (s : State) (f : Recovery → Recovery) (n' : Nat) : (s.onRec f).tile n' = s.tile n' := rfl
@[simp] theorem State.onRec_pad (s : State) (f : Recovery → Recovery) (q' : Nat) : (s.onRec f).pad q' = s.pad q' := rfl
@[simp] theorem State.onRec_link (s : State) (f : Recovery → Recovery) (p' : Nat) : (s.onRec f).link p' = s.link p' := rfl
@[simp] theorem State.onRec_bytes (s : State) (f : Recovery → Recovery) (a' n' : Nat) : (s.onRec f).bytes a' n' = s.bytes a' n' := rfl

/-! ### `State.onPower` -/

@[simp] theorem State.onPower_pending (s : State) (f : Power → Power) : (s.onPower f).pending = s.pending := rfl
@[simp] theorem State.onPower_regs (s : State) (f : Power → Power) : (s.onPower f).regs = s.regs := rfl
@[simp] theorem State.onPower_mem (s : State) (f : Power → Power) : (s.onPower f).mem = s.mem := rfl
@[simp] theorem State.onPower_hbmUe (s : State) (f : Power → Power) : (s.onPower f).hbmUe = s.hbmUe := rfl
@[simp] theorem State.onPower_hbmCe (s : State) (f : Power → Power) : (s.onPower f).hbmCe = s.hbmCe := rfl
@[simp] theorem State.onPower_hbmOndie (s : State) (f : Power → Power) : (s.onPower f).hbmOndie = s.hbmOndie := rfl
@[simp] theorem State.onPower_reads (s : State) (f : Power → Power) : (s.onPower f).reads = s.reads := rfl
@[simp] theorem State.onPower_scrubAt (s : State) (f : Power → Power) : (s.onPower f).scrubAt = s.scrubAt := rfl
@[simp] theorem State.onPower_hbmCool (s : State) (f : Power → Power) : (s.onPower f).hbmCool = s.hbmCool := rfl
@[simp] theorem State.onPower_bankActs (s : State) (f : Power → Power) : (s.onPower f).bankActs = s.bankActs := rfl
@[simp] theorem State.onPower_tiles (s : State) (f : Power → Power) : (s.onPower f).tiles = s.tiles := rfl
@[simp] theorem State.onPower_pads (s : State) (f : Power → Power) : (s.onPower f).pads = s.pads := rfl
@[simp] theorem State.onPower_grants (s : State) (f : Power → Power) : (s.onPower f).grants = s.grants := rfl
@[simp] theorem State.onPower_lastPad (s : State) (f : Power → Power) : (s.onPower f).lastPad = s.lastPad := rfl
@[simp] theorem State.onPower_flagHold (s : State) (f : Power → Power) : (s.onPower f).flagHold = s.flagHold := rfl
@[simp] theorem State.onPower_gets (s : State) (f : Power → Power) : (s.onPower f).gets = s.gets := rfl
@[simp] theorem State.onPower_input (s : State) (f : Power → Power) : (s.onPower f).input = s.input := rfl
@[simp] theorem State.onPower_output (s : State) (f : Power → Power) : (s.onPower f).output = s.output := rfl
@[simp] theorem State.onPower_delivered (s : State) (f : Power → Power) : (s.onPower f).delivered = s.delivered := rfl
@[simp] theorem State.onPower_uc0 (s : State) (f : Power → Power) : (s.onPower f).uc0 = s.uc0 := rfl
@[simp] theorem State.onPower_uc1 (s : State) (f : Power → Power) : (s.onPower f).uc1 = s.uc1 := rfl
@[simp] theorem State.onPower_mc0 (s : State) (f : Power → Power) : (s.onPower f).mc0 = s.mc0 := rfl
@[simp] theorem State.onPower_mc1 (s : State) (f : Power → Power) : (s.onPower f).mc1 = s.mc1 := rfl
@[simp] theorem State.onPower_lanes (s : State) (f : Power → Power) : (s.onPower f).lanes = s.lanes := rfl
@[simp] theorem State.onPower_links (s : State) (f : Power → Power) : (s.onPower f).links = s.links := rfl
@[simp] theorem State.onPower_accepted (s : State) (f : Power → Power) : (s.onPower f).accepted = s.accepted := rfl
@[simp] theorem State.onPower_routed (s : State) (f : Power → Power) : (s.onPower f).routed = s.routed := rfl
@[simp] theorem State.onPower_beat (s : State) (f : Power → Power) : (s.onPower f).beat = s.beat := rfl
@[simp] theorem State.onPower_slot0 (s : State) (f : Power → Power) : (s.onPower f).slot0 = s.slot0 := rfl
@[simp] theorem State.onPower_slot1 (s : State) (f : Power → Power) : (s.onPower f).slot1 = s.slot1 := rfl
@[simp] theorem State.onPower_circ0 (s : State) (f : Power → Power) : (s.onPower f).circ0 = s.circ0 := rfl
@[simp] theorem State.onPower_circ1 (s : State) (f : Power → Power) : (s.onPower f).circ1 = s.circ1 := rfl
@[simp] theorem State.onPower_steer0 (s : State) (f : Power → Power) : (s.onPower f).steer0 = s.steer0 := rfl
@[simp] theorem State.onPower_steer1 (s : State) (f : Power → Power) : (s.onPower f).steer1 = s.steer1 := rfl
@[simp] theorem State.onPower_fold (s : State) (f : Power → Power) : (s.onPower f).fold = s.fold := rfl
@[simp] theorem State.onPower_commits (s : State) (f : Power → Power) : (s.onPower f).commits = s.commits := rfl
@[simp] theorem State.onPower_pair (s : State) (f : Power → Power) : (s.onPower f).pair = s.pair := rfl
@[simp] theorem State.onPower_limiter (s : State) (f : Power → Power) : (s.onPower f).limiter = s.limiter := rfl
@[simp] theorem State.onPower_padReset (s : State) (f : Power → Power) : (s.onPower f).padReset = s.padReset := rfl
@[simp] theorem State.onPower_chipReset (s : State) (f : Power → Power) : (s.onPower f).chipReset = s.chipReset := rfl
@[simp] theorem State.onPower_out (s : State) (f : Power → Power) : (s.onPower f).out = s.out := rfl
@[simp] theorem State.onPower_cores (s : State) (f : Power → Power) : (s.onPower f).cores = s.cores := rfl
@[simp] theorem State.onPower_pcie (s : State) (f : Power → Power) : (s.onPower f).pcie = s.pcie := rfl
@[simp] theorem State.onPower_lastTag (s : State) (f : Power → Power) : (s.onPower f).lastTag = s.lastTag := rfl
@[simp] theorem State.onPower_meters (s : State) (f : Power → Power) : (s.onPower f).meters = s.meters := rfl
@[simp] theorem State.onPower_fuse (s : State) (f : Power → Power) : (s.onPower f).fuse = s.fuse := rfl
@[simp] theorem State.onPower_recovery (s : State) (f : Power → Power) : (s.onPower f).recovery = s.recovery := rfl
@[simp] theorem State.onPower_boot (s : State) (f : Power → Power) : (s.onPower f).boot = s.boot := rfl
@[simp] theorem State.onPower_muster (s : State) (f : Power → Power) : (s.onPower f).muster = s.muster := rfl
@[simp] theorem State.onPower_mgmt (s : State) (f : Power → Power) : (s.onPower f).mgmt = s.mgmt := rfl
@[simp] theorem State.onPower_flash (s : State) (f : Power → Power) : (s.onPower f).flash = s.flash := rfl
@[simp] theorem State.onPower_tray (s : State) (f : Power → Power) : (s.onPower f).tray = s.tray := rfl
@[simp] theorem State.onPower_beatNo (s : State) (f : Power → Power) : (s.onPower f).beatNo = s.beatNo := rfl
@[simp] theorem State.onPower_now (s : State) (f : Power → Power) : (s.onPower f).now = s.now := rfl
@[simp] theorem State.onPower_fresh (s : State) (f : Power → Power) : (s.onPower f).fresh = s.fresh := rfl
@[simp] theorem State.onPower_reg (s : State) (f : Power → Power) (q' : RegId) (a' b' : Nat) : (s.onPower f).reg q' a' b' = s.reg q' a' b' := rfl
@[simp] theorem State.onPower_fld (s : State) (f : Power → Power) (g' : Fld) (a' b' : Nat) : (s.onPower f).fld g' a' b' = s.fld g' a' b' := rfl
@[simp] theorem State.onPower_flag (s : State) (f : Power → Power) (g' : Fld) (a' b' : Nat) : (s.onPower f).flag g' a' b' = s.flag g' a' b' := rfl
@[simp] theorem State.onPower_tile (s : State) (f : Power → Power) (n' : Nat) : (s.onPower f).tile n' = s.tile n' := rfl
@[simp] theorem State.onPower_pad (s : State) (f : Power → Power) (q' : Nat) : (s.onPower f).pad q' = s.pad q' := rfl
@[simp] theorem State.onPower_link (s : State) (f : Power → Power) (p' : Nat) : (s.onPower f).link p' = s.link p' := rfl
@[simp] theorem State.onPower_bytes (s : State) (f : Power → Power) (a' n' : Nat) : (s.onPower f).bytes a' n' = s.bytes a' n' := rfl

/-! ### `State.onBoot` -/

@[simp] theorem State.onBoot_pending (s : State) (f : Boot → Boot) : (s.onBoot f).pending = s.pending := rfl
@[simp] theorem State.onBoot_regs (s : State) (f : Boot → Boot) : (s.onBoot f).regs = s.regs := rfl
@[simp] theorem State.onBoot_mem (s : State) (f : Boot → Boot) : (s.onBoot f).mem = s.mem := rfl
@[simp] theorem State.onBoot_hbmUe (s : State) (f : Boot → Boot) : (s.onBoot f).hbmUe = s.hbmUe := rfl
@[simp] theorem State.onBoot_hbmCe (s : State) (f : Boot → Boot) : (s.onBoot f).hbmCe = s.hbmCe := rfl
@[simp] theorem State.onBoot_hbmOndie (s : State) (f : Boot → Boot) : (s.onBoot f).hbmOndie = s.hbmOndie := rfl
@[simp] theorem State.onBoot_reads (s : State) (f : Boot → Boot) : (s.onBoot f).reads = s.reads := rfl
@[simp] theorem State.onBoot_scrubAt (s : State) (f : Boot → Boot) : (s.onBoot f).scrubAt = s.scrubAt := rfl
@[simp] theorem State.onBoot_hbmCool (s : State) (f : Boot → Boot) : (s.onBoot f).hbmCool = s.hbmCool := rfl
@[simp] theorem State.onBoot_bankActs (s : State) (f : Boot → Boot) : (s.onBoot f).bankActs = s.bankActs := rfl
@[simp] theorem State.onBoot_tiles (s : State) (f : Boot → Boot) : (s.onBoot f).tiles = s.tiles := rfl
@[simp] theorem State.onBoot_pads (s : State) (f : Boot → Boot) : (s.onBoot f).pads = s.pads := rfl
@[simp] theorem State.onBoot_grants (s : State) (f : Boot → Boot) : (s.onBoot f).grants = s.grants := rfl
@[simp] theorem State.onBoot_lastPad (s : State) (f : Boot → Boot) : (s.onBoot f).lastPad = s.lastPad := rfl
@[simp] theorem State.onBoot_flagHold (s : State) (f : Boot → Boot) : (s.onBoot f).flagHold = s.flagHold := rfl
@[simp] theorem State.onBoot_gets (s : State) (f : Boot → Boot) : (s.onBoot f).gets = s.gets := rfl
@[simp] theorem State.onBoot_input (s : State) (f : Boot → Boot) : (s.onBoot f).input = s.input := rfl
@[simp] theorem State.onBoot_output (s : State) (f : Boot → Boot) : (s.onBoot f).output = s.output := rfl
@[simp] theorem State.onBoot_delivered (s : State) (f : Boot → Boot) : (s.onBoot f).delivered = s.delivered := rfl
@[simp] theorem State.onBoot_uc0 (s : State) (f : Boot → Boot) : (s.onBoot f).uc0 = s.uc0 := rfl
@[simp] theorem State.onBoot_uc1 (s : State) (f : Boot → Boot) : (s.onBoot f).uc1 = s.uc1 := rfl
@[simp] theorem State.onBoot_mc0 (s : State) (f : Boot → Boot) : (s.onBoot f).mc0 = s.mc0 := rfl
@[simp] theorem State.onBoot_mc1 (s : State) (f : Boot → Boot) : (s.onBoot f).mc1 = s.mc1 := rfl
@[simp] theorem State.onBoot_lanes (s : State) (f : Boot → Boot) : (s.onBoot f).lanes = s.lanes := rfl
@[simp] theorem State.onBoot_links (s : State) (f : Boot → Boot) : (s.onBoot f).links = s.links := rfl
@[simp] theorem State.onBoot_accepted (s : State) (f : Boot → Boot) : (s.onBoot f).accepted = s.accepted := rfl
@[simp] theorem State.onBoot_routed (s : State) (f : Boot → Boot) : (s.onBoot f).routed = s.routed := rfl
@[simp] theorem State.onBoot_beat (s : State) (f : Boot → Boot) : (s.onBoot f).beat = s.beat := rfl
@[simp] theorem State.onBoot_slot0 (s : State) (f : Boot → Boot) : (s.onBoot f).slot0 = s.slot0 := rfl
@[simp] theorem State.onBoot_slot1 (s : State) (f : Boot → Boot) : (s.onBoot f).slot1 = s.slot1 := rfl
@[simp] theorem State.onBoot_circ0 (s : State) (f : Boot → Boot) : (s.onBoot f).circ0 = s.circ0 := rfl
@[simp] theorem State.onBoot_circ1 (s : State) (f : Boot → Boot) : (s.onBoot f).circ1 = s.circ1 := rfl
@[simp] theorem State.onBoot_steer0 (s : State) (f : Boot → Boot) : (s.onBoot f).steer0 = s.steer0 := rfl
@[simp] theorem State.onBoot_steer1 (s : State) (f : Boot → Boot) : (s.onBoot f).steer1 = s.steer1 := rfl
@[simp] theorem State.onBoot_fold (s : State) (f : Boot → Boot) : (s.onBoot f).fold = s.fold := rfl
@[simp] theorem State.onBoot_commits (s : State) (f : Boot → Boot) : (s.onBoot f).commits = s.commits := rfl
@[simp] theorem State.onBoot_pair (s : State) (f : Boot → Boot) : (s.onBoot f).pair = s.pair := rfl
@[simp] theorem State.onBoot_limiter (s : State) (f : Boot → Boot) : (s.onBoot f).limiter = s.limiter := rfl
@[simp] theorem State.onBoot_padReset (s : State) (f : Boot → Boot) : (s.onBoot f).padReset = s.padReset := rfl
@[simp] theorem State.onBoot_chipReset (s : State) (f : Boot → Boot) : (s.onBoot f).chipReset = s.chipReset := rfl
@[simp] theorem State.onBoot_out (s : State) (f : Boot → Boot) : (s.onBoot f).out = s.out := rfl
@[simp] theorem State.onBoot_cores (s : State) (f : Boot → Boot) : (s.onBoot f).cores = s.cores := rfl
@[simp] theorem State.onBoot_pcie (s : State) (f : Boot → Boot) : (s.onBoot f).pcie = s.pcie := rfl
@[simp] theorem State.onBoot_lastTag (s : State) (f : Boot → Boot) : (s.onBoot f).lastTag = s.lastTag := rfl
@[simp] theorem State.onBoot_meters (s : State) (f : Boot → Boot) : (s.onBoot f).meters = s.meters := rfl
@[simp] theorem State.onBoot_fuse (s : State) (f : Boot → Boot) : (s.onBoot f).fuse = s.fuse := rfl
@[simp] theorem State.onBoot_recovery (s : State) (f : Boot → Boot) : (s.onBoot f).recovery = s.recovery := rfl
@[simp] theorem State.onBoot_power (s : State) (f : Boot → Boot) : (s.onBoot f).power = s.power := rfl
@[simp] theorem State.onBoot_muster (s : State) (f : Boot → Boot) : (s.onBoot f).muster = s.muster := rfl
@[simp] theorem State.onBoot_mgmt (s : State) (f : Boot → Boot) : (s.onBoot f).mgmt = s.mgmt := rfl
@[simp] theorem State.onBoot_flash (s : State) (f : Boot → Boot) : (s.onBoot f).flash = s.flash := rfl
@[simp] theorem State.onBoot_tray (s : State) (f : Boot → Boot) : (s.onBoot f).tray = s.tray := rfl
@[simp] theorem State.onBoot_beatNo (s : State) (f : Boot → Boot) : (s.onBoot f).beatNo = s.beatNo := rfl
@[simp] theorem State.onBoot_now (s : State) (f : Boot → Boot) : (s.onBoot f).now = s.now := rfl
@[simp] theorem State.onBoot_fresh (s : State) (f : Boot → Boot) : (s.onBoot f).fresh = s.fresh := rfl
@[simp] theorem State.onBoot_reg (s : State) (f : Boot → Boot) (q' : RegId) (a' b' : Nat) : (s.onBoot f).reg q' a' b' = s.reg q' a' b' := rfl
@[simp] theorem State.onBoot_fld (s : State) (f : Boot → Boot) (g' : Fld) (a' b' : Nat) : (s.onBoot f).fld g' a' b' = s.fld g' a' b' := rfl
@[simp] theorem State.onBoot_flag (s : State) (f : Boot → Boot) (g' : Fld) (a' b' : Nat) : (s.onBoot f).flag g' a' b' = s.flag g' a' b' := rfl
@[simp] theorem State.onBoot_tile (s : State) (f : Boot → Boot) (n' : Nat) : (s.onBoot f).tile n' = s.tile n' := rfl
@[simp] theorem State.onBoot_pad (s : State) (f : Boot → Boot) (q' : Nat) : (s.onBoot f).pad q' = s.pad q' := rfl
@[simp] theorem State.onBoot_link (s : State) (f : Boot → Boot) (p' : Nat) : (s.onBoot f).link p' = s.link p' := rfl
@[simp] theorem State.onBoot_bytes (s : State) (f : Boot → Boot) (a' n' : Nat) : (s.onBoot f).bytes a' n' = s.bytes a' n' := rfl

/-! ### `State.onMuster` -/

@[simp] theorem State.onMuster_pending (s : State) (f : Muster → Muster) : (s.onMuster f).pending = s.pending := rfl
@[simp] theorem State.onMuster_regs (s : State) (f : Muster → Muster) : (s.onMuster f).regs = s.regs := rfl
@[simp] theorem State.onMuster_mem (s : State) (f : Muster → Muster) : (s.onMuster f).mem = s.mem := rfl
@[simp] theorem State.onMuster_hbmUe (s : State) (f : Muster → Muster) : (s.onMuster f).hbmUe = s.hbmUe := rfl
@[simp] theorem State.onMuster_hbmCe (s : State) (f : Muster → Muster) : (s.onMuster f).hbmCe = s.hbmCe := rfl
@[simp] theorem State.onMuster_hbmOndie (s : State) (f : Muster → Muster) : (s.onMuster f).hbmOndie = s.hbmOndie := rfl
@[simp] theorem State.onMuster_reads (s : State) (f : Muster → Muster) : (s.onMuster f).reads = s.reads := rfl
@[simp] theorem State.onMuster_scrubAt (s : State) (f : Muster → Muster) : (s.onMuster f).scrubAt = s.scrubAt := rfl
@[simp] theorem State.onMuster_hbmCool (s : State) (f : Muster → Muster) : (s.onMuster f).hbmCool = s.hbmCool := rfl
@[simp] theorem State.onMuster_bankActs (s : State) (f : Muster → Muster) : (s.onMuster f).bankActs = s.bankActs := rfl
@[simp] theorem State.onMuster_tiles (s : State) (f : Muster → Muster) : (s.onMuster f).tiles = s.tiles := rfl
@[simp] theorem State.onMuster_pads (s : State) (f : Muster → Muster) : (s.onMuster f).pads = s.pads := rfl
@[simp] theorem State.onMuster_grants (s : State) (f : Muster → Muster) : (s.onMuster f).grants = s.grants := rfl
@[simp] theorem State.onMuster_lastPad (s : State) (f : Muster → Muster) : (s.onMuster f).lastPad = s.lastPad := rfl
@[simp] theorem State.onMuster_flagHold (s : State) (f : Muster → Muster) : (s.onMuster f).flagHold = s.flagHold := rfl
@[simp] theorem State.onMuster_gets (s : State) (f : Muster → Muster) : (s.onMuster f).gets = s.gets := rfl
@[simp] theorem State.onMuster_input (s : State) (f : Muster → Muster) : (s.onMuster f).input = s.input := rfl
@[simp] theorem State.onMuster_output (s : State) (f : Muster → Muster) : (s.onMuster f).output = s.output := rfl
@[simp] theorem State.onMuster_delivered (s : State) (f : Muster → Muster) : (s.onMuster f).delivered = s.delivered := rfl
@[simp] theorem State.onMuster_uc0 (s : State) (f : Muster → Muster) : (s.onMuster f).uc0 = s.uc0 := rfl
@[simp] theorem State.onMuster_uc1 (s : State) (f : Muster → Muster) : (s.onMuster f).uc1 = s.uc1 := rfl
@[simp] theorem State.onMuster_mc0 (s : State) (f : Muster → Muster) : (s.onMuster f).mc0 = s.mc0 := rfl
@[simp] theorem State.onMuster_mc1 (s : State) (f : Muster → Muster) : (s.onMuster f).mc1 = s.mc1 := rfl
@[simp] theorem State.onMuster_lanes (s : State) (f : Muster → Muster) : (s.onMuster f).lanes = s.lanes := rfl
@[simp] theorem State.onMuster_links (s : State) (f : Muster → Muster) : (s.onMuster f).links = s.links := rfl
@[simp] theorem State.onMuster_accepted (s : State) (f : Muster → Muster) : (s.onMuster f).accepted = s.accepted := rfl
@[simp] theorem State.onMuster_routed (s : State) (f : Muster → Muster) : (s.onMuster f).routed = s.routed := rfl
@[simp] theorem State.onMuster_beat (s : State) (f : Muster → Muster) : (s.onMuster f).beat = s.beat := rfl
@[simp] theorem State.onMuster_slot0 (s : State) (f : Muster → Muster) : (s.onMuster f).slot0 = s.slot0 := rfl
@[simp] theorem State.onMuster_slot1 (s : State) (f : Muster → Muster) : (s.onMuster f).slot1 = s.slot1 := rfl
@[simp] theorem State.onMuster_circ0 (s : State) (f : Muster → Muster) : (s.onMuster f).circ0 = s.circ0 := rfl
@[simp] theorem State.onMuster_circ1 (s : State) (f : Muster → Muster) : (s.onMuster f).circ1 = s.circ1 := rfl
@[simp] theorem State.onMuster_steer0 (s : State) (f : Muster → Muster) : (s.onMuster f).steer0 = s.steer0 := rfl
@[simp] theorem State.onMuster_steer1 (s : State) (f : Muster → Muster) : (s.onMuster f).steer1 = s.steer1 := rfl
@[simp] theorem State.onMuster_fold (s : State) (f : Muster → Muster) : (s.onMuster f).fold = s.fold := rfl
@[simp] theorem State.onMuster_commits (s : State) (f : Muster → Muster) : (s.onMuster f).commits = s.commits := rfl
@[simp] theorem State.onMuster_pair (s : State) (f : Muster → Muster) : (s.onMuster f).pair = s.pair := rfl
@[simp] theorem State.onMuster_limiter (s : State) (f : Muster → Muster) : (s.onMuster f).limiter = s.limiter := rfl
@[simp] theorem State.onMuster_padReset (s : State) (f : Muster → Muster) : (s.onMuster f).padReset = s.padReset := rfl
@[simp] theorem State.onMuster_chipReset (s : State) (f : Muster → Muster) : (s.onMuster f).chipReset = s.chipReset := rfl
@[simp] theorem State.onMuster_out (s : State) (f : Muster → Muster) : (s.onMuster f).out = s.out := rfl
@[simp] theorem State.onMuster_cores (s : State) (f : Muster → Muster) : (s.onMuster f).cores = s.cores := rfl
@[simp] theorem State.onMuster_pcie (s : State) (f : Muster → Muster) : (s.onMuster f).pcie = s.pcie := rfl
@[simp] theorem State.onMuster_lastTag (s : State) (f : Muster → Muster) : (s.onMuster f).lastTag = s.lastTag := rfl
@[simp] theorem State.onMuster_meters (s : State) (f : Muster → Muster) : (s.onMuster f).meters = s.meters := rfl
@[simp] theorem State.onMuster_fuse (s : State) (f : Muster → Muster) : (s.onMuster f).fuse = s.fuse := rfl
@[simp] theorem State.onMuster_recovery (s : State) (f : Muster → Muster) : (s.onMuster f).recovery = s.recovery := rfl
@[simp] theorem State.onMuster_power (s : State) (f : Muster → Muster) : (s.onMuster f).power = s.power := rfl
@[simp] theorem State.onMuster_boot (s : State) (f : Muster → Muster) : (s.onMuster f).boot = s.boot := rfl
@[simp] theorem State.onMuster_mgmt (s : State) (f : Muster → Muster) : (s.onMuster f).mgmt = s.mgmt := rfl
@[simp] theorem State.onMuster_flash (s : State) (f : Muster → Muster) : (s.onMuster f).flash = s.flash := rfl
@[simp] theorem State.onMuster_tray (s : State) (f : Muster → Muster) : (s.onMuster f).tray = s.tray := rfl
@[simp] theorem State.onMuster_beatNo (s : State) (f : Muster → Muster) : (s.onMuster f).beatNo = s.beatNo := rfl
@[simp] theorem State.onMuster_now (s : State) (f : Muster → Muster) : (s.onMuster f).now = s.now := rfl
@[simp] theorem State.onMuster_fresh (s : State) (f : Muster → Muster) : (s.onMuster f).fresh = s.fresh := rfl
@[simp] theorem State.onMuster_reg (s : State) (f : Muster → Muster) (q' : RegId) (a' b' : Nat) : (s.onMuster f).reg q' a' b' = s.reg q' a' b' := rfl
@[simp] theorem State.onMuster_fld (s : State) (f : Muster → Muster) (g' : Fld) (a' b' : Nat) : (s.onMuster f).fld g' a' b' = s.fld g' a' b' := rfl
@[simp] theorem State.onMuster_flag (s : State) (f : Muster → Muster) (g' : Fld) (a' b' : Nat) : (s.onMuster f).flag g' a' b' = s.flag g' a' b' := rfl
@[simp] theorem State.onMuster_tile (s : State) (f : Muster → Muster) (n' : Nat) : (s.onMuster f).tile n' = s.tile n' := rfl
@[simp] theorem State.onMuster_pad (s : State) (f : Muster → Muster) (q' : Nat) : (s.onMuster f).pad q' = s.pad q' := rfl
@[simp] theorem State.onMuster_link (s : State) (f : Muster → Muster) (p' : Nat) : (s.onMuster f).link p' = s.link p' := rfl
@[simp] theorem State.onMuster_bytes (s : State) (f : Muster → Muster) (a' n' : Nat) : (s.onMuster f).bytes a' n' = s.bytes a' n' := rfl

/-! ### `State.onMgmt` -/

@[simp] theorem State.onMgmt_pending (s : State) (f : Mgmt → Mgmt) : (s.onMgmt f).pending = s.pending := rfl
@[simp] theorem State.onMgmt_regs (s : State) (f : Mgmt → Mgmt) : (s.onMgmt f).regs = s.regs := rfl
@[simp] theorem State.onMgmt_mem (s : State) (f : Mgmt → Mgmt) : (s.onMgmt f).mem = s.mem := rfl
@[simp] theorem State.onMgmt_hbmUe (s : State) (f : Mgmt → Mgmt) : (s.onMgmt f).hbmUe = s.hbmUe := rfl
@[simp] theorem State.onMgmt_hbmCe (s : State) (f : Mgmt → Mgmt) : (s.onMgmt f).hbmCe = s.hbmCe := rfl
@[simp] theorem State.onMgmt_hbmOndie (s : State) (f : Mgmt → Mgmt) : (s.onMgmt f).hbmOndie = s.hbmOndie := rfl
@[simp] theorem State.onMgmt_reads (s : State) (f : Mgmt → Mgmt) : (s.onMgmt f).reads = s.reads := rfl
@[simp] theorem State.onMgmt_scrubAt (s : State) (f : Mgmt → Mgmt) : (s.onMgmt f).scrubAt = s.scrubAt := rfl
@[simp] theorem State.onMgmt_hbmCool (s : State) (f : Mgmt → Mgmt) : (s.onMgmt f).hbmCool = s.hbmCool := rfl
@[simp] theorem State.onMgmt_bankActs (s : State) (f : Mgmt → Mgmt) : (s.onMgmt f).bankActs = s.bankActs := rfl
@[simp] theorem State.onMgmt_tiles (s : State) (f : Mgmt → Mgmt) : (s.onMgmt f).tiles = s.tiles := rfl
@[simp] theorem State.onMgmt_pads (s : State) (f : Mgmt → Mgmt) : (s.onMgmt f).pads = s.pads := rfl
@[simp] theorem State.onMgmt_grants (s : State) (f : Mgmt → Mgmt) : (s.onMgmt f).grants = s.grants := rfl
@[simp] theorem State.onMgmt_lastPad (s : State) (f : Mgmt → Mgmt) : (s.onMgmt f).lastPad = s.lastPad := rfl
@[simp] theorem State.onMgmt_flagHold (s : State) (f : Mgmt → Mgmt) : (s.onMgmt f).flagHold = s.flagHold := rfl
@[simp] theorem State.onMgmt_gets (s : State) (f : Mgmt → Mgmt) : (s.onMgmt f).gets = s.gets := rfl
@[simp] theorem State.onMgmt_input (s : State) (f : Mgmt → Mgmt) : (s.onMgmt f).input = s.input := rfl
@[simp] theorem State.onMgmt_output (s : State) (f : Mgmt → Mgmt) : (s.onMgmt f).output = s.output := rfl
@[simp] theorem State.onMgmt_delivered (s : State) (f : Mgmt → Mgmt) : (s.onMgmt f).delivered = s.delivered := rfl
@[simp] theorem State.onMgmt_uc0 (s : State) (f : Mgmt → Mgmt) : (s.onMgmt f).uc0 = s.uc0 := rfl
@[simp] theorem State.onMgmt_uc1 (s : State) (f : Mgmt → Mgmt) : (s.onMgmt f).uc1 = s.uc1 := rfl
@[simp] theorem State.onMgmt_mc0 (s : State) (f : Mgmt → Mgmt) : (s.onMgmt f).mc0 = s.mc0 := rfl
@[simp] theorem State.onMgmt_mc1 (s : State) (f : Mgmt → Mgmt) : (s.onMgmt f).mc1 = s.mc1 := rfl
@[simp] theorem State.onMgmt_lanes (s : State) (f : Mgmt → Mgmt) : (s.onMgmt f).lanes = s.lanes := rfl
@[simp] theorem State.onMgmt_links (s : State) (f : Mgmt → Mgmt) : (s.onMgmt f).links = s.links := rfl
@[simp] theorem State.onMgmt_accepted (s : State) (f : Mgmt → Mgmt) : (s.onMgmt f).accepted = s.accepted := rfl
@[simp] theorem State.onMgmt_routed (s : State) (f : Mgmt → Mgmt) : (s.onMgmt f).routed = s.routed := rfl
@[simp] theorem State.onMgmt_beat (s : State) (f : Mgmt → Mgmt) : (s.onMgmt f).beat = s.beat := rfl
@[simp] theorem State.onMgmt_slot0 (s : State) (f : Mgmt → Mgmt) : (s.onMgmt f).slot0 = s.slot0 := rfl
@[simp] theorem State.onMgmt_slot1 (s : State) (f : Mgmt → Mgmt) : (s.onMgmt f).slot1 = s.slot1 := rfl
@[simp] theorem State.onMgmt_circ0 (s : State) (f : Mgmt → Mgmt) : (s.onMgmt f).circ0 = s.circ0 := rfl
@[simp] theorem State.onMgmt_circ1 (s : State) (f : Mgmt → Mgmt) : (s.onMgmt f).circ1 = s.circ1 := rfl
@[simp] theorem State.onMgmt_steer0 (s : State) (f : Mgmt → Mgmt) : (s.onMgmt f).steer0 = s.steer0 := rfl
@[simp] theorem State.onMgmt_steer1 (s : State) (f : Mgmt → Mgmt) : (s.onMgmt f).steer1 = s.steer1 := rfl
@[simp] theorem State.onMgmt_fold (s : State) (f : Mgmt → Mgmt) : (s.onMgmt f).fold = s.fold := rfl
@[simp] theorem State.onMgmt_commits (s : State) (f : Mgmt → Mgmt) : (s.onMgmt f).commits = s.commits := rfl
@[simp] theorem State.onMgmt_pair (s : State) (f : Mgmt → Mgmt) : (s.onMgmt f).pair = s.pair := rfl
@[simp] theorem State.onMgmt_limiter (s : State) (f : Mgmt → Mgmt) : (s.onMgmt f).limiter = s.limiter := rfl
@[simp] theorem State.onMgmt_padReset (s : State) (f : Mgmt → Mgmt) : (s.onMgmt f).padReset = s.padReset := rfl
@[simp] theorem State.onMgmt_chipReset (s : State) (f : Mgmt → Mgmt) : (s.onMgmt f).chipReset = s.chipReset := rfl
@[simp] theorem State.onMgmt_out (s : State) (f : Mgmt → Mgmt) : (s.onMgmt f).out = s.out := rfl
@[simp] theorem State.onMgmt_cores (s : State) (f : Mgmt → Mgmt) : (s.onMgmt f).cores = s.cores := rfl
@[simp] theorem State.onMgmt_pcie (s : State) (f : Mgmt → Mgmt) : (s.onMgmt f).pcie = s.pcie := rfl
@[simp] theorem State.onMgmt_lastTag (s : State) (f : Mgmt → Mgmt) : (s.onMgmt f).lastTag = s.lastTag := rfl
@[simp] theorem State.onMgmt_meters (s : State) (f : Mgmt → Mgmt) : (s.onMgmt f).meters = s.meters := rfl
@[simp] theorem State.onMgmt_fuse (s : State) (f : Mgmt → Mgmt) : (s.onMgmt f).fuse = s.fuse := rfl
@[simp] theorem State.onMgmt_recovery (s : State) (f : Mgmt → Mgmt) : (s.onMgmt f).recovery = s.recovery := rfl
@[simp] theorem State.onMgmt_power (s : State) (f : Mgmt → Mgmt) : (s.onMgmt f).power = s.power := rfl
@[simp] theorem State.onMgmt_boot (s : State) (f : Mgmt → Mgmt) : (s.onMgmt f).boot = s.boot := rfl
@[simp] theorem State.onMgmt_muster (s : State) (f : Mgmt → Mgmt) : (s.onMgmt f).muster = s.muster := rfl
@[simp] theorem State.onMgmt_flash (s : State) (f : Mgmt → Mgmt) : (s.onMgmt f).flash = s.flash := rfl
@[simp] theorem State.onMgmt_tray (s : State) (f : Mgmt → Mgmt) : (s.onMgmt f).tray = s.tray := rfl
@[simp] theorem State.onMgmt_beatNo (s : State) (f : Mgmt → Mgmt) : (s.onMgmt f).beatNo = s.beatNo := rfl
@[simp] theorem State.onMgmt_now (s : State) (f : Mgmt → Mgmt) : (s.onMgmt f).now = s.now := rfl
@[simp] theorem State.onMgmt_fresh (s : State) (f : Mgmt → Mgmt) : (s.onMgmt f).fresh = s.fresh := rfl
@[simp] theorem State.onMgmt_reg (s : State) (f : Mgmt → Mgmt) (q' : RegId) (a' b' : Nat) : (s.onMgmt f).reg q' a' b' = s.reg q' a' b' := rfl
@[simp] theorem State.onMgmt_fld (s : State) (f : Mgmt → Mgmt) (g' : Fld) (a' b' : Nat) : (s.onMgmt f).fld g' a' b' = s.fld g' a' b' := rfl
@[simp] theorem State.onMgmt_flag (s : State) (f : Mgmt → Mgmt) (g' : Fld) (a' b' : Nat) : (s.onMgmt f).flag g' a' b' = s.flag g' a' b' := rfl
@[simp] theorem State.onMgmt_tile (s : State) (f : Mgmt → Mgmt) (n' : Nat) : (s.onMgmt f).tile n' = s.tile n' := rfl
@[simp] theorem State.onMgmt_pad (s : State) (f : Mgmt → Mgmt) (q' : Nat) : (s.onMgmt f).pad q' = s.pad q' := rfl
@[simp] theorem State.onMgmt_link (s : State) (f : Mgmt → Mgmt) (p' : Nat) : (s.onMgmt f).link p' = s.link p' := rfl
@[simp] theorem State.onMgmt_bytes (s : State) (f : Mgmt → Mgmt) (a' n' : Nat) : (s.onMgmt f).bytes a' n' = s.bytes a' n' := rfl

/-! ### `State.onUpdate` -/

@[simp] theorem State.onUpdate_pending (s : State) (f : Update → Update) : (s.onUpdate f).pending = s.pending := rfl
@[simp] theorem State.onUpdate_regs (s : State) (f : Update → Update) : (s.onUpdate f).regs = s.regs := rfl
@[simp] theorem State.onUpdate_mem (s : State) (f : Update → Update) : (s.onUpdate f).mem = s.mem := rfl
@[simp] theorem State.onUpdate_hbmUe (s : State) (f : Update → Update) : (s.onUpdate f).hbmUe = s.hbmUe := rfl
@[simp] theorem State.onUpdate_hbmCe (s : State) (f : Update → Update) : (s.onUpdate f).hbmCe = s.hbmCe := rfl
@[simp] theorem State.onUpdate_hbmOndie (s : State) (f : Update → Update) : (s.onUpdate f).hbmOndie = s.hbmOndie := rfl
@[simp] theorem State.onUpdate_reads (s : State) (f : Update → Update) : (s.onUpdate f).reads = s.reads := rfl
@[simp] theorem State.onUpdate_scrubAt (s : State) (f : Update → Update) : (s.onUpdate f).scrubAt = s.scrubAt := rfl
@[simp] theorem State.onUpdate_hbmCool (s : State) (f : Update → Update) : (s.onUpdate f).hbmCool = s.hbmCool := rfl
@[simp] theorem State.onUpdate_bankActs (s : State) (f : Update → Update) : (s.onUpdate f).bankActs = s.bankActs := rfl
@[simp] theorem State.onUpdate_tiles (s : State) (f : Update → Update) : (s.onUpdate f).tiles = s.tiles := rfl
@[simp] theorem State.onUpdate_pads (s : State) (f : Update → Update) : (s.onUpdate f).pads = s.pads := rfl
@[simp] theorem State.onUpdate_grants (s : State) (f : Update → Update) : (s.onUpdate f).grants = s.grants := rfl
@[simp] theorem State.onUpdate_lastPad (s : State) (f : Update → Update) : (s.onUpdate f).lastPad = s.lastPad := rfl
@[simp] theorem State.onUpdate_flagHold (s : State) (f : Update → Update) : (s.onUpdate f).flagHold = s.flagHold := rfl
@[simp] theorem State.onUpdate_gets (s : State) (f : Update → Update) : (s.onUpdate f).gets = s.gets := rfl
@[simp] theorem State.onUpdate_input (s : State) (f : Update → Update) : (s.onUpdate f).input = s.input := rfl
@[simp] theorem State.onUpdate_output (s : State) (f : Update → Update) : (s.onUpdate f).output = s.output := rfl
@[simp] theorem State.onUpdate_delivered (s : State) (f : Update → Update) : (s.onUpdate f).delivered = s.delivered := rfl
@[simp] theorem State.onUpdate_uc0 (s : State) (f : Update → Update) : (s.onUpdate f).uc0 = s.uc0 := rfl
@[simp] theorem State.onUpdate_uc1 (s : State) (f : Update → Update) : (s.onUpdate f).uc1 = s.uc1 := rfl
@[simp] theorem State.onUpdate_mc0 (s : State) (f : Update → Update) : (s.onUpdate f).mc0 = s.mc0 := rfl
@[simp] theorem State.onUpdate_mc1 (s : State) (f : Update → Update) : (s.onUpdate f).mc1 = s.mc1 := rfl
@[simp] theorem State.onUpdate_lanes (s : State) (f : Update → Update) : (s.onUpdate f).lanes = s.lanes := rfl
@[simp] theorem State.onUpdate_links (s : State) (f : Update → Update) : (s.onUpdate f).links = s.links := rfl
@[simp] theorem State.onUpdate_accepted (s : State) (f : Update → Update) : (s.onUpdate f).accepted = s.accepted := rfl
@[simp] theorem State.onUpdate_routed (s : State) (f : Update → Update) : (s.onUpdate f).routed = s.routed := rfl
@[simp] theorem State.onUpdate_beat (s : State) (f : Update → Update) : (s.onUpdate f).beat = s.beat := rfl
@[simp] theorem State.onUpdate_slot0 (s : State) (f : Update → Update) : (s.onUpdate f).slot0 = s.slot0 := rfl
@[simp] theorem State.onUpdate_slot1 (s : State) (f : Update → Update) : (s.onUpdate f).slot1 = s.slot1 := rfl
@[simp] theorem State.onUpdate_circ0 (s : State) (f : Update → Update) : (s.onUpdate f).circ0 = s.circ0 := rfl
@[simp] theorem State.onUpdate_circ1 (s : State) (f : Update → Update) : (s.onUpdate f).circ1 = s.circ1 := rfl
@[simp] theorem State.onUpdate_steer0 (s : State) (f : Update → Update) : (s.onUpdate f).steer0 = s.steer0 := rfl
@[simp] theorem State.onUpdate_steer1 (s : State) (f : Update → Update) : (s.onUpdate f).steer1 = s.steer1 := rfl
@[simp] theorem State.onUpdate_fold (s : State) (f : Update → Update) : (s.onUpdate f).fold = s.fold := rfl
@[simp] theorem State.onUpdate_commits (s : State) (f : Update → Update) : (s.onUpdate f).commits = s.commits := rfl
@[simp] theorem State.onUpdate_pair (s : State) (f : Update → Update) : (s.onUpdate f).pair = s.pair := rfl
@[simp] theorem State.onUpdate_limiter (s : State) (f : Update → Update) : (s.onUpdate f).limiter = s.limiter := rfl
@[simp] theorem State.onUpdate_padReset (s : State) (f : Update → Update) : (s.onUpdate f).padReset = s.padReset := rfl
@[simp] theorem State.onUpdate_chipReset (s : State) (f : Update → Update) : (s.onUpdate f).chipReset = s.chipReset := rfl
@[simp] theorem State.onUpdate_out (s : State) (f : Update → Update) : (s.onUpdate f).out = s.out := rfl
@[simp] theorem State.onUpdate_cores (s : State) (f : Update → Update) : (s.onUpdate f).cores = s.cores := rfl
@[simp] theorem State.onUpdate_pcie (s : State) (f : Update → Update) : (s.onUpdate f).pcie = s.pcie := rfl
@[simp] theorem State.onUpdate_lastTag (s : State) (f : Update → Update) : (s.onUpdate f).lastTag = s.lastTag := rfl
@[simp] theorem State.onUpdate_meters (s : State) (f : Update → Update) : (s.onUpdate f).meters = s.meters := rfl
@[simp] theorem State.onUpdate_fuse (s : State) (f : Update → Update) : (s.onUpdate f).fuse = s.fuse := rfl
@[simp] theorem State.onUpdate_recovery (s : State) (f : Update → Update) : (s.onUpdate f).recovery = s.recovery := rfl
@[simp] theorem State.onUpdate_power (s : State) (f : Update → Update) : (s.onUpdate f).power = s.power := rfl
@[simp] theorem State.onUpdate_boot (s : State) (f : Update → Update) : (s.onUpdate f).boot = s.boot := rfl
@[simp] theorem State.onUpdate_muster (s : State) (f : Update → Update) : (s.onUpdate f).muster = s.muster := rfl
@[simp] theorem State.onUpdate_flash (s : State) (f : Update → Update) : (s.onUpdate f).flash = s.flash := rfl
@[simp] theorem State.onUpdate_tray (s : State) (f : Update → Update) : (s.onUpdate f).tray = s.tray := rfl
@[simp] theorem State.onUpdate_beatNo (s : State) (f : Update → Update) : (s.onUpdate f).beatNo = s.beatNo := rfl
@[simp] theorem State.onUpdate_now (s : State) (f : Update → Update) : (s.onUpdate f).now = s.now := rfl
@[simp] theorem State.onUpdate_fresh (s : State) (f : Update → Update) : (s.onUpdate f).fresh = s.fresh := rfl
@[simp] theorem State.onUpdate_reg (s : State) (f : Update → Update) (q' : RegId) (a' b' : Nat) : (s.onUpdate f).reg q' a' b' = s.reg q' a' b' := rfl
@[simp] theorem State.onUpdate_fld (s : State) (f : Update → Update) (g' : Fld) (a' b' : Nat) : (s.onUpdate f).fld g' a' b' = s.fld g' a' b' := rfl
@[simp] theorem State.onUpdate_flag (s : State) (f : Update → Update) (g' : Fld) (a' b' : Nat) : (s.onUpdate f).flag g' a' b' = s.flag g' a' b' := rfl
@[simp] theorem State.onUpdate_tile (s : State) (f : Update → Update) (n' : Nat) : (s.onUpdate f).tile n' = s.tile n' := rfl
@[simp] theorem State.onUpdate_pad (s : State) (f : Update → Update) (q' : Nat) : (s.onUpdate f).pad q' = s.pad q' := rfl
@[simp] theorem State.onUpdate_link (s : State) (f : Update → Update) (p' : Nat) : (s.onUpdate f).link p' = s.link p' := rfl
@[simp] theorem State.onUpdate_bytes (s : State) (f : Update → Update) (a' n' : Nat) : (s.onUpdate f).bytes a' n' = s.bytes a' n' := rfl

/-! ### `State.measure` -/

@[simp] theorem State.measure_pending (s : State) (k : Nat) (d : BitVec 512) : (s.measure k d).pending = s.pending := rfl
@[simp] theorem State.measure_regs (s : State) (k : Nat) (d : BitVec 512) : (s.measure k d).regs = s.regs := rfl
@[simp] theorem State.measure_mem (s : State) (k : Nat) (d : BitVec 512) : (s.measure k d).mem = s.mem := rfl
@[simp] theorem State.measure_hbmUe (s : State) (k : Nat) (d : BitVec 512) : (s.measure k d).hbmUe = s.hbmUe := rfl
@[simp] theorem State.measure_hbmCe (s : State) (k : Nat) (d : BitVec 512) : (s.measure k d).hbmCe = s.hbmCe := rfl
@[simp] theorem State.measure_hbmOndie (s : State) (k : Nat) (d : BitVec 512) : (s.measure k d).hbmOndie = s.hbmOndie := rfl
@[simp] theorem State.measure_reads (s : State) (k : Nat) (d : BitVec 512) : (s.measure k d).reads = s.reads := rfl
@[simp] theorem State.measure_scrubAt (s : State) (k : Nat) (d : BitVec 512) : (s.measure k d).scrubAt = s.scrubAt := rfl
@[simp] theorem State.measure_hbmCool (s : State) (k : Nat) (d : BitVec 512) : (s.measure k d).hbmCool = s.hbmCool := rfl
@[simp] theorem State.measure_bankActs (s : State) (k : Nat) (d : BitVec 512) : (s.measure k d).bankActs = s.bankActs := rfl
@[simp] theorem State.measure_tiles (s : State) (k : Nat) (d : BitVec 512) : (s.measure k d).tiles = s.tiles := rfl
@[simp] theorem State.measure_pads (s : State) (k : Nat) (d : BitVec 512) : (s.measure k d).pads = s.pads := rfl
@[simp] theorem State.measure_grants (s : State) (k : Nat) (d : BitVec 512) : (s.measure k d).grants = s.grants := rfl
@[simp] theorem State.measure_lastPad (s : State) (k : Nat) (d : BitVec 512) : (s.measure k d).lastPad = s.lastPad := rfl
@[simp] theorem State.measure_flagHold (s : State) (k : Nat) (d : BitVec 512) : (s.measure k d).flagHold = s.flagHold := rfl
@[simp] theorem State.measure_gets (s : State) (k : Nat) (d : BitVec 512) : (s.measure k d).gets = s.gets := rfl
@[simp] theorem State.measure_input (s : State) (k : Nat) (d : BitVec 512) : (s.measure k d).input = s.input := rfl
@[simp] theorem State.measure_output (s : State) (k : Nat) (d : BitVec 512) : (s.measure k d).output = s.output := rfl
@[simp] theorem State.measure_delivered (s : State) (k : Nat) (d : BitVec 512) : (s.measure k d).delivered = s.delivered := rfl
@[simp] theorem State.measure_uc0 (s : State) (k : Nat) (d : BitVec 512) : (s.measure k d).uc0 = s.uc0 := rfl
@[simp] theorem State.measure_uc1 (s : State) (k : Nat) (d : BitVec 512) : (s.measure k d).uc1 = s.uc1 := rfl
@[simp] theorem State.measure_mc0 (s : State) (k : Nat) (d : BitVec 512) : (s.measure k d).mc0 = s.mc0 := rfl
@[simp] theorem State.measure_mc1 (s : State) (k : Nat) (d : BitVec 512) : (s.measure k d).mc1 = s.mc1 := rfl
@[simp] theorem State.measure_lanes (s : State) (k : Nat) (d : BitVec 512) : (s.measure k d).lanes = s.lanes := rfl
@[simp] theorem State.measure_links (s : State) (k : Nat) (d : BitVec 512) : (s.measure k d).links = s.links := rfl
@[simp] theorem State.measure_accepted (s : State) (k : Nat) (d : BitVec 512) : (s.measure k d).accepted = s.accepted := rfl
@[simp] theorem State.measure_routed (s : State) (k : Nat) (d : BitVec 512) : (s.measure k d).routed = s.routed := rfl
@[simp] theorem State.measure_beat (s : State) (k : Nat) (d : BitVec 512) : (s.measure k d).beat = s.beat := rfl
@[simp] theorem State.measure_slot0 (s : State) (k : Nat) (d : BitVec 512) : (s.measure k d).slot0 = s.slot0 := rfl
@[simp] theorem State.measure_slot1 (s : State) (k : Nat) (d : BitVec 512) : (s.measure k d).slot1 = s.slot1 := rfl
@[simp] theorem State.measure_circ0 (s : State) (k : Nat) (d : BitVec 512) : (s.measure k d).circ0 = s.circ0 := rfl
@[simp] theorem State.measure_circ1 (s : State) (k : Nat) (d : BitVec 512) : (s.measure k d).circ1 = s.circ1 := rfl
@[simp] theorem State.measure_steer0 (s : State) (k : Nat) (d : BitVec 512) : (s.measure k d).steer0 = s.steer0 := rfl
@[simp] theorem State.measure_steer1 (s : State) (k : Nat) (d : BitVec 512) : (s.measure k d).steer1 = s.steer1 := rfl
@[simp] theorem State.measure_fold (s : State) (k : Nat) (d : BitVec 512) : (s.measure k d).fold = s.fold := rfl
@[simp] theorem State.measure_commits (s : State) (k : Nat) (d : BitVec 512) : (s.measure k d).commits = s.commits := rfl
@[simp] theorem State.measure_pair (s : State) (k : Nat) (d : BitVec 512) : (s.measure k d).pair = s.pair := rfl
@[simp] theorem State.measure_limiter (s : State) (k : Nat) (d : BitVec 512) : (s.measure k d).limiter = s.limiter := rfl
@[simp] theorem State.measure_padReset (s : State) (k : Nat) (d : BitVec 512) : (s.measure k d).padReset = s.padReset := rfl
@[simp] theorem State.measure_chipReset (s : State) (k : Nat) (d : BitVec 512) : (s.measure k d).chipReset = s.chipReset := rfl
@[simp] theorem State.measure_out (s : State) (k : Nat) (d : BitVec 512) : (s.measure k d).out = s.out := rfl
@[simp] theorem State.measure_cores (s : State) (k : Nat) (d : BitVec 512) : (s.measure k d).cores = s.cores := rfl
@[simp] theorem State.measure_pcie (s : State) (k : Nat) (d : BitVec 512) : (s.measure k d).pcie = s.pcie := rfl
@[simp] theorem State.measure_lastTag (s : State) (k : Nat) (d : BitVec 512) : (s.measure k d).lastTag = s.lastTag := rfl
@[simp] theorem State.measure_meters (s : State) (k : Nat) (d : BitVec 512) : (s.measure k d).meters = s.meters := rfl
@[simp] theorem State.measure_fuse (s : State) (k : Nat) (d : BitVec 512) : (s.measure k d).fuse = s.fuse := rfl
@[simp] theorem State.measure_recovery (s : State) (k : Nat) (d : BitVec 512) : (s.measure k d).recovery = s.recovery := rfl
@[simp] theorem State.measure_power (s : State) (k : Nat) (d : BitVec 512) : (s.measure k d).power = s.power := rfl
@[simp] theorem State.measure_boot (s : State) (k : Nat) (d : BitVec 512) : (s.measure k d).boot = s.boot := rfl
@[simp] theorem State.measure_muster (s : State) (k : Nat) (d : BitVec 512) : (s.measure k d).muster = s.muster := rfl
@[simp] theorem State.measure_flash (s : State) (k : Nat) (d : BitVec 512) : (s.measure k d).flash = s.flash := rfl
@[simp] theorem State.measure_tray (s : State) (k : Nat) (d : BitVec 512) : (s.measure k d).tray = s.tray := rfl
@[simp] theorem State.measure_beatNo (s : State) (k : Nat) (d : BitVec 512) : (s.measure k d).beatNo = s.beatNo := rfl
@[simp] theorem State.measure_now (s : State) (k : Nat) (d : BitVec 512) : (s.measure k d).now = s.now := rfl
@[simp] theorem State.measure_fresh (s : State) (k : Nat) (d : BitVec 512) : (s.measure k d).fresh = s.fresh := rfl
@[simp] theorem State.measure_reg (s : State) (k : Nat) (d : BitVec 512) (q' : RegId) (a' b' : Nat) : (s.measure k d).reg q' a' b' = s.reg q' a' b' := rfl
@[simp] theorem State.measure_fld (s : State) (k : Nat) (d : BitVec 512) (g' : Fld) (a' b' : Nat) : (s.measure k d).fld g' a' b' = s.fld g' a' b' := rfl
@[simp] theorem State.measure_flag (s : State) (k : Nat) (d : BitVec 512) (g' : Fld) (a' b' : Nat) : (s.measure k d).flag g' a' b' = s.flag g' a' b' := rfl
@[simp] theorem State.measure_tile (s : State) (k : Nat) (d : BitVec 512) (n' : Nat) : (s.measure k d).tile n' = s.tile n' := rfl
@[simp] theorem State.measure_pad (s : State) (k : Nat) (d : BitVec 512) (q' : Nat) : (s.measure k d).pad q' = s.pad q' := rfl
@[simp] theorem State.measure_link (s : State) (k : Nat) (d : BitVec 512) (p' : Nat) : (s.measure k d).link p' = s.link p' := rfl
@[simp] theorem State.measure_bytes (s : State) (k : Nat) (d : BitVec 512) (a' n' : Nat) : (s.measure k d).bytes a' n' = s.bytes a' n' := rfl

/-! ### `State.onTray` -/

@[simp] theorem State.onTray_pending (s : State) (f : Tray → Tray) : (s.onTray f).pending = s.pending := rfl
@[simp] theorem State.onTray_regs (s : State) (f : Tray → Tray) : (s.onTray f).regs = s.regs := rfl
@[simp] theorem State.onTray_mem (s : State) (f : Tray → Tray) : (s.onTray f).mem = s.mem := rfl
@[simp] theorem State.onTray_hbmUe (s : State) (f : Tray → Tray) : (s.onTray f).hbmUe = s.hbmUe := rfl
@[simp] theorem State.onTray_hbmCe (s : State) (f : Tray → Tray) : (s.onTray f).hbmCe = s.hbmCe := rfl
@[simp] theorem State.onTray_hbmOndie (s : State) (f : Tray → Tray) : (s.onTray f).hbmOndie = s.hbmOndie := rfl
@[simp] theorem State.onTray_reads (s : State) (f : Tray → Tray) : (s.onTray f).reads = s.reads := rfl
@[simp] theorem State.onTray_scrubAt (s : State) (f : Tray → Tray) : (s.onTray f).scrubAt = s.scrubAt := rfl
@[simp] theorem State.onTray_hbmCool (s : State) (f : Tray → Tray) : (s.onTray f).hbmCool = s.hbmCool := rfl
@[simp] theorem State.onTray_bankActs (s : State) (f : Tray → Tray) : (s.onTray f).bankActs = s.bankActs := rfl
@[simp] theorem State.onTray_tiles (s : State) (f : Tray → Tray) : (s.onTray f).tiles = s.tiles := rfl
@[simp] theorem State.onTray_pads (s : State) (f : Tray → Tray) : (s.onTray f).pads = s.pads := rfl
@[simp] theorem State.onTray_grants (s : State) (f : Tray → Tray) : (s.onTray f).grants = s.grants := rfl
@[simp] theorem State.onTray_lastPad (s : State) (f : Tray → Tray) : (s.onTray f).lastPad = s.lastPad := rfl
@[simp] theorem State.onTray_flagHold (s : State) (f : Tray → Tray) : (s.onTray f).flagHold = s.flagHold := rfl
@[simp] theorem State.onTray_gets (s : State) (f : Tray → Tray) : (s.onTray f).gets = s.gets := rfl
@[simp] theorem State.onTray_input (s : State) (f : Tray → Tray) : (s.onTray f).input = s.input := rfl
@[simp] theorem State.onTray_output (s : State) (f : Tray → Tray) : (s.onTray f).output = s.output := rfl
@[simp] theorem State.onTray_delivered (s : State) (f : Tray → Tray) : (s.onTray f).delivered = s.delivered := rfl
@[simp] theorem State.onTray_uc0 (s : State) (f : Tray → Tray) : (s.onTray f).uc0 = s.uc0 := rfl
@[simp] theorem State.onTray_uc1 (s : State) (f : Tray → Tray) : (s.onTray f).uc1 = s.uc1 := rfl
@[simp] theorem State.onTray_mc0 (s : State) (f : Tray → Tray) : (s.onTray f).mc0 = s.mc0 := rfl
@[simp] theorem State.onTray_mc1 (s : State) (f : Tray → Tray) : (s.onTray f).mc1 = s.mc1 := rfl
@[simp] theorem State.onTray_lanes (s : State) (f : Tray → Tray) : (s.onTray f).lanes = s.lanes := rfl
@[simp] theorem State.onTray_links (s : State) (f : Tray → Tray) : (s.onTray f).links = s.links := rfl
@[simp] theorem State.onTray_accepted (s : State) (f : Tray → Tray) : (s.onTray f).accepted = s.accepted := rfl
@[simp] theorem State.onTray_routed (s : State) (f : Tray → Tray) : (s.onTray f).routed = s.routed := rfl
@[simp] theorem State.onTray_beat (s : State) (f : Tray → Tray) : (s.onTray f).beat = s.beat := rfl
@[simp] theorem State.onTray_slot0 (s : State) (f : Tray → Tray) : (s.onTray f).slot0 = s.slot0 := rfl
@[simp] theorem State.onTray_slot1 (s : State) (f : Tray → Tray) : (s.onTray f).slot1 = s.slot1 := rfl
@[simp] theorem State.onTray_circ0 (s : State) (f : Tray → Tray) : (s.onTray f).circ0 = s.circ0 := rfl
@[simp] theorem State.onTray_circ1 (s : State) (f : Tray → Tray) : (s.onTray f).circ1 = s.circ1 := rfl
@[simp] theorem State.onTray_steer0 (s : State) (f : Tray → Tray) : (s.onTray f).steer0 = s.steer0 := rfl
@[simp] theorem State.onTray_steer1 (s : State) (f : Tray → Tray) : (s.onTray f).steer1 = s.steer1 := rfl
@[simp] theorem State.onTray_fold (s : State) (f : Tray → Tray) : (s.onTray f).fold = s.fold := rfl
@[simp] theorem State.onTray_commits (s : State) (f : Tray → Tray) : (s.onTray f).commits = s.commits := rfl
@[simp] theorem State.onTray_pair (s : State) (f : Tray → Tray) : (s.onTray f).pair = s.pair := rfl
@[simp] theorem State.onTray_limiter (s : State) (f : Tray → Tray) : (s.onTray f).limiter = s.limiter := rfl
@[simp] theorem State.onTray_padReset (s : State) (f : Tray → Tray) : (s.onTray f).padReset = s.padReset := rfl
@[simp] theorem State.onTray_chipReset (s : State) (f : Tray → Tray) : (s.onTray f).chipReset = s.chipReset := rfl
@[simp] theorem State.onTray_out (s : State) (f : Tray → Tray) : (s.onTray f).out = s.out := rfl
@[simp] theorem State.onTray_cores (s : State) (f : Tray → Tray) : (s.onTray f).cores = s.cores := rfl
@[simp] theorem State.onTray_pcie (s : State) (f : Tray → Tray) : (s.onTray f).pcie = s.pcie := rfl
@[simp] theorem State.onTray_lastTag (s : State) (f : Tray → Tray) : (s.onTray f).lastTag = s.lastTag := rfl
@[simp] theorem State.onTray_meters (s : State) (f : Tray → Tray) : (s.onTray f).meters = s.meters := rfl
@[simp] theorem State.onTray_fuse (s : State) (f : Tray → Tray) : (s.onTray f).fuse = s.fuse := rfl
@[simp] theorem State.onTray_recovery (s : State) (f : Tray → Tray) : (s.onTray f).recovery = s.recovery := rfl
@[simp] theorem State.onTray_power (s : State) (f : Tray → Tray) : (s.onTray f).power = s.power := rfl
@[simp] theorem State.onTray_boot (s : State) (f : Tray → Tray) : (s.onTray f).boot = s.boot := rfl
@[simp] theorem State.onTray_muster (s : State) (f : Tray → Tray) : (s.onTray f).muster = s.muster := rfl
@[simp] theorem State.onTray_mgmt (s : State) (f : Tray → Tray) : (s.onTray f).mgmt = s.mgmt := rfl
@[simp] theorem State.onTray_flash (s : State) (f : Tray → Tray) : (s.onTray f).flash = s.flash := rfl
@[simp] theorem State.onTray_beatNo (s : State) (f : Tray → Tray) : (s.onTray f).beatNo = s.beatNo := rfl
@[simp] theorem State.onTray_now (s : State) (f : Tray → Tray) : (s.onTray f).now = s.now := rfl
@[simp] theorem State.onTray_fresh (s : State) (f : Tray → Tray) : (s.onTray f).fresh = s.fresh := rfl
@[simp] theorem State.onTray_reg (s : State) (f : Tray → Tray) (q' : RegId) (a' b' : Nat) : (s.onTray f).reg q' a' b' = s.reg q' a' b' := rfl
@[simp] theorem State.onTray_fld (s : State) (f : Tray → Tray) (g' : Fld) (a' b' : Nat) : (s.onTray f).fld g' a' b' = s.fld g' a' b' := rfl
@[simp] theorem State.onTray_flag (s : State) (f : Tray → Tray) (g' : Fld) (a' b' : Nat) : (s.onTray f).flag g' a' b' = s.flag g' a' b' := rfl
@[simp] theorem State.onTray_tile (s : State) (f : Tray → Tray) (n' : Nat) : (s.onTray f).tile n' = s.tile n' := rfl
@[simp] theorem State.onTray_pad (s : State) (f : Tray → Tray) (q' : Nat) : (s.onTray f).pad q' = s.pad q' := rfl
@[simp] theorem State.onTray_link (s : State) (f : Tray → Tray) (p' : Nat) : (s.onTray f).link p' = s.link p' := rfl
@[simp] theorem State.onTray_bytes (s : State) (f : Tray → Tray) (a' n' : Nat) : (s.onTray f).bytes a' n' = s.bytes a' n' := rfl

end Sys2Proof.Machine
end

