-- ==== Sys2Proof/Tests/Slice0.lean ====
section
/-! SUPPORT. Tests: ill-formed commands are refused by the well-formedness check, single steps give what the spec says,
and for every statement a concrete state and operands meet its hypotheses, clause by clause. -/
namespace Sys2Proof.Tests
open Sys2Proof.Machine Sys2Proof.Safety
set_option maxRecDepth 100000
set_option exponentiation.threshold 3000

/-! ### Small states -/

/-- The state with a list of fields set. -/
def sets : List (Fld × Nat × Nat) → State → State
  | [], s => s
  | (f, i, v) :: l, s => sets l (s.setFld f i 0 v)

/-- A node in service: 1 GiB of HBM, the intake enabled, tiles 0 and 1 usable, and paddock 0 valid and running with
cluster 0, partition 1 and domains 0 to 15. -/
def base : State := sets [(MGT_CAP_MEMORY_hbm_gib, 0, 1), (HBM_ILV_CTRL_state, 0, 2), (HBM_ILV_CTRL_state, 1, 2),
  (GI_CTRL_enable, 0, 1), (FUS_FP_TILE_usable, 0, 1), (FUS_FP_TILE_usable, 1, 1), (GI_PAD_CFG_valid, 0, 1),
  (GI_PAD_CFG_clusters, 0, 1), (GI_PAD_CFG_partition, 0, 1), (GI_PAD_CFG_run, 0, 1), (GI_PAD_DOM_base, 0, 0),
  (GI_PAD_DOM_count, 0, 16), (GI_PAD_DOM_fh_quota, 0, 4)] State.reset

/-- A packet for partition 1 with the given type and body. -/
def pkt (type : Nat) (body : List Word64) : Packet :=
  { Packet.blank with type := type, partition := 1, length := unitsFor body.length, body := body }

/-- The base state with paddock 0's part of the intake given. -/
def padState (q : List QueuedGraph) (r : List IntakeRequest) : State := base.setPad 0 ⟨q, r, true, [], 0, 0⟩

/-- An instruction word with the fields of formats R and I. -/
def word (op f1 f2 f3 f4 low : Nat) : Nat := op <<< 58 + f1 <<< 49 + f2 <<< 44 + f3 <<< 39 + f4 <<< 34 + low

/-- A tile whose slot 0 is in RUN and whose instruction cache holds `w` at PC 0. -/
def running (w : Nat) : Tile :=
  { Tile.reset with
    slots := { Slot.empty with state := .run, desc := [7, 0] } :: List.replicate 31 Slot.empty
    icache := [⟨0, BitVec.ofNat 512 w, false⟩] }

/-- The base state with tile 0 given. -/
def on (x : Tile) : State := base.setTile 0 x

/-- The base state with tile 0 about to issue `w`. -/
def at0 (w : Nat) : State := on (running w)

/-- Tile 0 waiting at PC 0 with `w`. -/
def waits0 (k : WaitKind) (w : Nat) : Tile := { running w with wait := some ⟨k, w, [], false⟩ }

/-! ### Witnesses -/

/-- StepRunsFrontCommand has no hypothesis but an empty queue. -/
theorem test_witness_StepRunsFrontCommand : State.reset.pending = [] := by decide

/-- An intake request of `u` units with tag 9. -/
def ask (u part : Nat) : Packet := { pkt tINTAKE_REQ [BitVec.ofNat 64 (u + 9 <<< 16), 0] with partition := part }

/-- A waiting intake request of `u` units. -/
def queued (u : Nat) : IntakeRequest := ⟨ask u 1, u, 9⟩

theorem test_witness_IntakeAndPaddocks_requests :
    TakenUp (ask 3 1) base ∧ base.padOfPartition (ask 3 5).partition = none
      ∧ base.padOfPartition (ask 3 1).partition = some 0
      ∧ { base with padReset := [0] }.padResetting 0 = true
      ∧ State.reset.flag GI_CTRL_enable = false ∧ base.flag GI_CTRL_enable = true ∧ base.padResetting 0 = false
      ∧ bitsOf ((ask 2 1).word 2) 12 0 < 3 ∧ base.maxUnits < bitsOf ((ask 64 1).word 2) 12 0
      ∧ 3 ≤ bitsOf ((ask 3 1).word 2) 12 0 ∧ bitsOf ((ask 63 1).word 2) 12 0 ≤ base.maxUnits
      ∧ 1024 ≤ ((padState [] (List.replicate 1024 (queued 3))).pad 0).requests.length
      ∧ ((padState [] (List.replicate 1023 (queued 3))).pad 0).requests.length < 1024 := by
  unfold TakenUp; decide

/-- Paddock configuration 0x1000 clusters bit 0 and partition `part`, valid. -/
def cfg (part : Nat) : Word64 := BitVec.ofNat 64 (part + 1 <<< 12 + 1 <<< 30)

theorem test_witness_IntakeAndPaddocks_rest :
    ((padState [] [queued 4]).pad 0).requests = [queued 4] ∧ (padState [] [queued 4]).padResetting 0 = false
      ∧ (padState [] [queued 4]).occupancy 0 + (queued 4).units ≤ 4096
      ∧ 4096 < (padState [] [queued 4097]).occupancy 0 + (queued 4097).units
      ∧ { base with grants := [⟨3, 0, 1, 0, 4⟩] }.grants.find? (fun g : Grant => g.ticket == 3) = some ⟨3, 0, 1, 0, 4⟩
      ∧ (base.setFld GI_PAD_WATER_high_units 7 0 0).fld GI_PAD_WATER_high_units 7 ≤ base.occupancy 7
      ∧ (base.pad 7).satArmed = true
      ∧ base.padClash 7 (bitsOf (base.padCfgAfter 7 (cfg 2).toNat) 29 12) 2 = true
      ∧ bitsOf (base.padCfgAfter 7 (cfg 2).toNat) 30 30 = 1
      ∧ State.reset.padClash 7 (bitsOf (State.reset.padCfgAfter 7 (cfg 2).toNat) 29 12) 2 = false
      ∧ bitsOf (base.padCfgAfter 7 0) 30 30 = 0 ∧ base.flag GI_CTRL_lock = false
      ∧ (∃ r, r < 8 ∧ r ≠ 7 ∧ base.flag GI_PAD_CFG_valid r = true ∧ (1 : Nat) ≠ 0 ∧ base.fld GI_PAD_DOM_count r ≠ 0
          ∧ 15 < base.fld GI_PAD_DOM_base r + base.fld GI_PAD_DOM_count r ∧ base.fld GI_PAD_DOM_base r < 15 + 1)
      ∧ (∀ r, r < 8 → ¬ (r ≠ 7 ∧ base.flag GI_PAD_CFG_valid r = true ∧ (1008 : Nat) ≠ 0
          ∧ base.fld GI_PAD_DOM_count r ≠ 0 ∧ 16 < base.fld GI_PAD_DOM_base r + base.fld GI_PAD_DOM_count r
          ∧ base.fld GI_PAD_DOM_base r < 16 + 1008)) := by
  refine ⟨?_, ?_, ?_, ?_, ?_, ?_, ?_, ?_, ?_, ?_, ?_, ?_, ⟨0, ?_⟩, ?_⟩ <;> decide

/-- A graph packet with ticket 3 that carries one descriptor. -/
def graphPkt (desc : List Word64) : Packet :=
  { pkt tGRAPH ([BitVec.ofNat 64 (1 + 1 <<< 8 + 3 <<< 16), 0, 0, 0, 0, 0, 0, 0] ++ desc ++ List.replicate (16 - desc.length) 0) with
    vc := 7 }

/-- The base state with grant 3 for paddock 0. -/
def granted : State := { base with grants := [⟨3, 0, 1, 0, 3⟩] }

/-- A graph packet in the queue whose next descriptor is `d`. -/
def inQueue (d : List Word64) : QueuedGraph := ⟨graphPkt d, 1, false, 0, 0, 0, [d], 0, 3, 0, 0, 0⟩

/-- A descriptor of task 7 on tile 0 with entry 64, and one of task 0. -/
def goodDesc : List Word64 := [7, 64, 11, 12, 13, 14, 0, 0, 0, 0, 0, 0, 0, 0, 0, 0]
def badDesc : List Word64 := [0, 64, 11, 12, 13, 14, 0, 0, 0, 0, 0, 0, 0, 0, 0, 0]

/-- A slot with a state, a descriptor of priority `p`, and a stamp. -/
def slotOf (st : SlotState) (p stamp : Nat) : Slot :=
  { Slot.empty with state := st, desc := [BitVec.ofNat 64 (7 + p <<< 40), 64], stamp := stamp }

theorem test_witness_GraphsPlaceTasks :
    TakenUp (graphPkt goodDesc) granted ∧ vcAllowed tGRAPH (graphPkt goodDesc).vc = true ∧ vcAllowed tGRAPH 4 = false
      ∧ granted.padOfPartition (graphPkt goodDesc).partition = some 0
      ∧ granted.grantFor (graphPkt goodDesc) = some ⟨3, 0, 1, 0, 3⟩ ∧ granted.padResetting 0 = false
      ∧ granted.graphMalformed (graphPkt goodDesc) = false ∧ 1 + 2 * preCount (graphPkt goodDesc) ≤ 3
      ∧ granted.graphCause { graphPkt goodDesc with status := 1 } ≠ 0
      ∧ granted.grantFor { graphPkt goodDesc with status := 1 } = some ⟨3, 0, 1, 0, 3⟩
      ∧ (padState [inQueue goodDesc] []).nextPad = some 0
      ∧ ((padState [inQueue goodDesc] []).pad 0).queue = [inQueue goodDesc]
      ∧ (padState [inQueue goodDesc] []).descriptorCause 0 goodDesc = 0
      ∧ ((padState [inQueue goodDesc] []).tile (dTile goodDesc)).freeSlot = some 0
      ∧ (padState [inQueue badDesc] []).nextPad = some 0
      ∧ (padState [inQueue badDesc] []).descriptorCause 0 badDesc ≠ 0 := by
  unfold TakenUp; decide

theorem test_witness_GraphsPlaceTasks_start :
    let s := on { Tile.reset with slots := slotOf .ready 0 3 :: slotOf .ready 1 9 :: slotOf .ready 1 9 :: [] }
    s.parked = false ∧ s.seqIdle 0 = true ∧ s.padRun 0 = true
      ∧ bestSlot ((s.markReady 0).tile 0).slots = some (1, slotOf .ready 1 9) := by decide

/-- A TOKEN or CREDIT packet with one entry for task 7 of tile 0. -/
def tokenPkt (type index : Nat) (flagged : Bool) : Packet :=
  { pkt type [BitVec.ofNat 64 (5 + 1 <<< 32), BitVec.ofNat 64 (7 + index <<< 40 + 2 <<< 48), 0, 0] with
    flagged := flagged, domain := 3 }

/-- A TOKEN_NAK for tile 143 with a result. -/
def nakPkt (result : Nat) : Packet :=
  { pkt tTOKEN_NAK [BitVec.ofNat 64 (1 <<< 32 + result <<< 36), 7, 0, 0] with sequence := 143 }

theorem test_witness_TokensReachTasks :
    (∀ c ∈ [(tTOKEN, 7, false), (tCREDIT, 3, true)],
        TakenUp (tokenPkt c.1 c.2.1 false) (at0 0) ∧ TakenUp (tokenPkt c.1 c.2.1 true) (at0 0)
          ∧ (at0 0).entryResult (tokenPkt c.1 c.2.1 false) c.2.2 (BitVec.ofNat 64 (7 + c.2.1 <<< 40 + 2 <<< 48)) = 0)
      ∧ tokenEntries (tokenPkt tTOKEN 7 false) = [BitVec.ofNat 64 (7 + 7 <<< 40 + 2 <<< 48)]
      ∧ ((at0 0).tile 0).liveSlot 7 = some 0 ∧ (tokenPkt tTOKEN 0 true).flagged = true
      ∧ (at0 0).padOfPartition (tokenPkt tTOKEN 0 true).partition = some 0 ∧ (at0 0).padResetting 0 = false
      ∧ (at0 0).padOwns 0 (tokenPkt tTOKEN 0 true).domain = true ∧ (at0 0).flag GI_CD_err 3 = false
      ∧ (at0 0).reached 3 (expectOf (tokenPkt tTOKEN 0 true)) = false ∧ (at0 0).flagHold.length < 256
      ∧ ((at0 0).flagHold.filter fun h => h.pad == 0).length < (at0 0).fhQuota 0
      ∧ (∀ r ∈ [1, 2, 5], bitAt (nakPkt r).sequence 15 = false ∧ bitsOf (nakPkt r).sequence 7 0 < 144
          ∧ TakenUp (nakPkt r) base ∧ tokenEntries (nakPkt r) = [7] ∧ bitsOf ((nakPkt r).word 2) 39 36 = r)
      ∧ (base.tile 143).refused = [] ∧ (base.tile 143).tokSent = [] := by
  unfold TakenUp; decide

/-- The entry that `nakPkt` refuses, as tile 143 keeps it once sent, and a refusal of it that waits or was sent again. -/
def nakked : TokenEntry := tokenEntry (nakPkt 1).src (nakPkt 1) false 7
def again (waiting : Bool) : RefusedToken := ⟨nakked, 1, waiting, 0, 0, 1⟩

theorem test_witness_TokensReachTasks_later :
    ((on { Tile.reset with refused := [again true] }).tile 0).refused[0]? = some (again true)
      ∧ (again true).waiting = true ∧ (again true).token.expect < 2 ^ 32 ∧ base.paired = false ∧ base.pairStalls = false
      ∧ bitAt (nakPkt 1).operation 0 = false ∧ ([⟨nakked, 3, 4, 0⟩] : List SentToken)[0]? = some ⟨nakked, 3, 4, 0⟩
      ∧ [again false][0]? = some (again false) ∧ (again false).waiting = false ∧ (again false).token = nakked
      ∧ 0 < ((on { Tile.reset with etb := [⟨7, false, 0, 1, false⟩] }).tile 0).etb.length := by decide

theorem test_witness_TileCommandsTakeEffect :
    (at0 0).cmdReaches 0 = true ∧ (((at0 0).tile 0).slot 0).state = .run ∧ (at0 0).flag TL_FAULT_valid 0 = false
      ∧ ((at0 0).setFld TL_FAULT_valid 0 0 1).flag TL_FAULT_valid 0 = true
      ∧ (((on { Tile.reset with slots := List.replicate 32 (slotOf .wait 0 0) }).tile 0).slot 31).state = .wait
      ∧ (((on { Tile.reset with slots := [slotOf .abort 0 0, slotOf .retire 0 0] }).tile 0).slot 0).state = .abort
      ∧ (((on { Tile.reset with slots := [slotOf .abort 0 0, slotOf .retire 0 0] }).tile 0).slot 1).state = .retire
      ∧ ((at0 0).tile 0).icOp = false ∧ ((at0 0).tile 0).dcOp = false
      ∧ (on { running 0 with dcOp := true }).cmdReaches 0 = true ∧ ((on { running 0 with dcOp := true }).tile 0).dcOp = true
      ∧ ((on { running 0 with icOp := true }).tile 0).icOp = true
      ∧ 9 ∈ ((on { running 0 with spadRewrite := [9] }).tile 0).spadRewrite
      ∧ Engine.matrix ∈ ((on { running 0 with inReset := [.matrix] }).tile 0).inReset ∧ base.chipReset = false
      ∧ (∀ q, q ∈ ([0] : List Nat) → q ∉ base.padReset) ∧ base.padOfTile 0 = some 0 ∧ base.staysHeld 0 = false := by
  decide

-- Words of the scalar families, written from the encoding tables of R147 and R148.
def wAdd : Nat := word 0x01 3 1 2 0 0
def wAddI : Nat := word 0x02 3 1 0 0 5
def wSel : Nat := word 0x01 3 1 2 0 0
def wLi : Nat := word 0x03 3 0 0 0 77
def wPred : Nat := word 0x04 1 2 3 0 0
def wBr (cond : Nat) : Nat := word 0x08 1 2 0 0 (cond <<< 40 + 8)
def wJ : Nat := word 0x09 5 0 0 0 8
def wJr : Nat := word 0x0A 5 6 0 0 64

theorem test_witness_ScalarInstructions :
    (iOp wAdd = 0x01 ∧ aluLegal .add wAdd = true) ∧ (iOp wAddI = 0x02 ∧ aluLegal .add wAddI = true)
      ∧ Issues 0 wAdd (aluUses .add wAdd) (at0 wAdd) ∧ Issues 0 wAddI (aluUses .add wAddI) (at0 wAddI)
      ∧ aluLegal (.cmpP .lt) wAdd = true ∧ Issues 0 wAdd (aluUses (.cmpP .lt) wAdd) (at0 wAdd)
      ∧ aluLegal (.sel 1) wSel = true ∧ Issues 0 wSel (aluUses (.sel 1) wSel) (at0 wSel)
      ∧ iOp wLi = 0x03 ∧ Issues 0 wLi ⟨[iF1 wLi], []⟩ (at0 wLi)
      ∧ iOp wPred = 0x04 ∧ predLegal .and wPred = true ∧ Issues 0 wPred (predUses .and wPred) (at0 wPred) := by
  unfold Issues; decide

theorem test_witness_ScalarInstructions_branches :
    (64#40).toNat < base.hbmCap
      ∧ (iOp (wBr 0) = 0x08 ∧ iCond (wBr 0) < 6 ∧ Issues 0 (wBr 0) ⟨[iF1 (wBr 0), iF2 (wBr 0)], []⟩ (at0 (wBr 0))
          ∧ (((at0 (wBr 0)).tile 0).pc.toNat : Int) + iOff40 (wBr 0) * 8 = (64#40).toNat)
      ∧ (iOp (wBr 7) = 0x08 ∧ iCond (wBr 7) < 8 ∧ ¬ iCond (wBr 7) < 6 ∧ iF1 (wBr 7) < 8
          ∧ Issues 0 (wBr 7) ⟨[], [iF1 (wBr 7)]⟩ (at0 (wBr 7)))
      ∧ (iOp wJ = 0x09 ∧ iF2 wJ = 0 ∧ iCond wJ = 0 ∧ Issues 0 wJ ⟨[iF1 wJ], []⟩ (at0 wJ)
          ∧ (((at0 wJ).tile 0).pc.toNat : Int) + iOff40 wJ * 8 = (64#40).toNat)
      ∧ (iOp wJr = 0x0A ∧ Issues 0 wJr ⟨[iF1 wJr, iF2 wJr], []⟩ (at0 wJr)
          ∧ signedOf 64 (((at0 wJr).tile 0).gr (iF2 wJr)) + signedOf 64 (iImm36 wJr) = (64#40).toNat)
      ∧ (Issues 0 (wJr + 1) ⟨[iF1 (wJr + 1), iF2 (wJr + 1)], []⟩ (at0 (wJr + 1))
          ∧ jrTarget ((at0 (wJr + 1)).tile 0) (wJr + 1) % 8 ≠ 0 ∧ ((at0 (wJr + 1)).tile 0).sLevel = false) := by
  unfold Issues; decide

theorem test_witness_ScalarInstructions_files : TileOk Tile.reset ∧ { Tile.reset with sLevel := true }.sLevel = true := by
  unfold TileOk; decide

/-- A word of format M: opcode, rd, ra, size code, and displacement. -/
def wMem (op sz disp : Nat) : Nat := word op 3 1 0 0 (sz <<< 41 + disp)

/-- A tile with g1 set to an address. -/
def g1 (a : Nat) (x : Tile) : Tile := { x with g := [0, BitVec.ofNat 64 a] ++ List.replicate 30 0 }

/-- A scratchpad address of tile 0 on node 0, at offset 0x5FFFF8, the last eight bytes. -/
def spadTop : Nat := 2 ^ 46 + 0x5FFFF8

/-- A buffered store of eight bytes. -/
def buffered (a : Nat) : BufStore := ⟨a, 8, 0x1122, 0⟩

theorem test_witness_StoresReachMemory :
    let w := wMem 0x11 3 0
    iOp w = 0x11 ∧ memLegal w = true
      ∧ Issues 0 w ⟨[iF1 w, iF2 w], []⟩ (on (g1 spadTop (running w)))
      ∧ (on (g1 spadTop (running w))).target 0 (memAddr (g1 spadTop (running w)) w) 8 8 true = .spad 0x5FFFF8
      ∧ (on (g1 64 (running w))).target 0 (memAddr (g1 64 (running w)) w) 8 8 true = .hbm 64
      ∧ (on (g1 65 (running w))).target 0 (memAddr (g1 65 (running w)) w) 8 8 true = .fault 0x04
      ∧ (on (g1 (2 ^ 30) (running w))).target 0 (memAddr (g1 (2 ^ 30) (running w)) w) 8 8 true = .fault 0x03
      ∧ (∃ off, (on { g1 (2 ^ 47 + RegId.TL_FAULT.offset 0 0) (running w) with sLevel := true }).target 0
          (2 ^ 47 + RegId.TL_FAULT.offset 0 0) 8 8 true = .reg off)
      ∧ 8 ≤ ((on { g1 64 (running w) with stores := List.replicate 8 (buffered 0) }).tile 0).stores.length
      ∧ ((on { running w with stores := [buffered 64] }).tileHeld 0 = false
        ∧ (on { running w with stores := [buffered 64] }).parked = false)
      ∧ (buffered 64).target = .hbm 64 ∧ (buffered spadTop).target = .spad 0x5FFFF8
      ∧ (buffered spadTop).addr % 8 = 0 ∧ Safety.Inv (on { running w with stores := [buffered 64] }) := by
  unfold Issues Safety.Inv MemoryOk TileOk
  refine ⟨?_, ?_, ?_, ?_, ?_, ?_, ?_, ⟨RegId.TL_FAULT.offset 0 0, ?_⟩, ?_, ?_, ?_, ?_, ?_, ?_⟩ <;> decide

/-- A state whose pseudo-channel `c` has given its four buffers to tile 1. -/
def noBuffer (c : Nat) (s : State) : State :=
  { (s.setTile 1 { running 0 with wait := some ⟨.load, wMem 0x10 3 0, [], false⟩ }).setFld HBM_RRB_CTRL_max_per_pc 0 0 4 with
    reads := List.replicate 4 (HbmRead.mk 1 c) }

theorem test_witness_LoadsAndCaches :
    let w := wMem 0x10 3 0
    let x := g1 64 (running w)
    iOp w = 0x10 ∧ memLegal w = true ∧ Issues 0 w ⟨[iF1 w, iF2 w], []⟩ (on x)
      ∧ (on (g1 spadTop x)).target 0 (memAddr (g1 spadTop x) w) 8 8 true = .spad 0x5FFFF8
      ∧ (on x).target 0 (memAddr x w) 8 8 true = .hbm 64 ∧ allBuffered (hbmKey 64) 8 x.stores = false
      ∧ x.dFind (64 / 64) = none
      ∧ (on { x with wait := some ⟨.load, w, [], false⟩ }).waiting 0 = some ⟨.load, w, [], false⟩ ∧ x.wb = []
      ∧ (on { x with wait := some ⟨.load, w, [], false⟩ }).readWaits 0 = false
      ∧ { ((on { x with wait := some ⟨.load, w, [], false⟩ }).setTile 1 { x with wait := some ⟨.load, w, [], false⟩ }).setFld
            HBM_RRB_CTRL_max_per_pc 0 0 4 with reads := List.replicate 4 (HbmRead.mk 1 0) ++ [HbmRead.mk 0 0] }.readWaits 0 = true
      ∧ (on { running 0 with icache := [] }).fetchMisses 0 = true ∧ base.hbmOn = true ∧ base.hbmUe = []
      ∧ (on { running 0 with icache := [] }).bufferFits 0 64 = true
      ∧ (noBuffer 0 (on { running 0 with icache := [] })).fetchMisses 0 = true
      ∧ (noBuffer 0 (on { running 0 with icache := [] })).bufferFits 0 64 = false
      ∧ (on { x with wb := [⟨0, 0, 1, 0, 1, 5, false, false⟩] }).tile 0 = { x with wb := [⟨0, 0, 1, 0, 1, 5, false, false⟩] }
      ∧ (⟨0, 0, 1, 0, 1, 5, false, false⟩ : DLine).ue = false ∧ memWf base.mem = true := by
  unfold Issues; decide

theorem test_witness_AtomicAccesses :
    let w := wMem 0x12 3 0
    let a := word 0x14 3 1 4 5 (8 <<< 22)
    let r := wMem 0x13 3 0
    iOp w = 0x12 ∧ ldaLegal w = true ∧ Issues 0 w ⟨[iF1 w, iF2 w], []⟩ (on (g1 64 (running w)))
      ∧ (on (g1 64 (running w))).target 0 (memAddr (g1 64 (running w)) w) 8 8 false = .hbm 64
      ∧ iOp a = 0x14 ∧ bitsOf a 21 0 = 0 ∧ iFnR a % 8 ≠ 7 ∧ iFnR a < 16
      ∧ Issues 0 a ⟨[iF1 a, iF2 a, iF3 a, iF4 a], []⟩ (on (g1 64 (running a)))
      ∧ (on (g1 64 (running a))).target 0 64 8 8 false = .hbm 64
      ∧ (on (g1 spadTop (running a))).target 0 spadTop 8 8 false = .spad 0x5FFFF8
      ∧ iOp r = 0x13 ∧ ldaLegal r = true ∧ Issues 0 r ⟨[iF1 r, iF2 r], []⟩ (on (g1 64 { running r with stores := [buffered 0] }))
      ∧ (g1 64 { running r with stores := [buffered 0] }).relReady [] = false
      ∧ (on (waits0 .str r)).waiting 0 = some ⟨.str, r, [], false⟩ ∧ (waits0 .str r).relReady [] = true
      ∧ (waits0 .amo a).wait = some ⟨.amo, a, [], false⟩ ∧ (waits0 .amo a).stores = [] ∧ (waits0 .lda w).wait = some ⟨.lda, w, [], false⟩
      ∧ (on (waits0 .amo a)).targetFits (.hbm 64) 8 = true ∧ (on (waits0 .lda w)).targetFits (.hbm 64) 8 = true
      ∧ (waits0 .amo a).dLine 1 = [] ∧ (on (waits0 .amo a)).tileHeld 0 = false ∧ (on (waits0 .amo a)).parked = false := by
  unfold Issues; decide

theorem test_witness_WaitsBeginAndEnd :
    let f := word 0x34 3 1 4 5 0
    let e := word 0x34 3 1 4 5 (1 <<< 28 + 1)
    let c := word 0x34 3 1 4 5 (4 <<< 28)
    let c1 := { running c with g := [0, 0, 0, 0, 5, 1] ++ List.replicate 26 0 }
    let cw := { running c with g := [0, 0, 0, 0, 5, 9] ++ List.replicate 26 0, wait := some ⟨.cwait, c, [], false⟩ }
    iOp f = 0x34 ∧ iFnS f = 0 ∧ Issues 0 f ⟨[], []⟩ (at0 f) ∧ iFnS e = 1 ∧ Issues 0 e ⟨[], []⟩ (at0 e)
      ∧ (on (waits0 .fence f)).waiting 0 = some ⟨.fence, f, [], false⟩ ∧ (waits0 .fence f).stores = []
      ∧ { waits0 .fence f with stores := [buffered 0] }.stores ≠ []
      ∧ (on (waits0 .ewait e)).waiting 0 = some ⟨.ewait, e, [], false⟩ ∧ (waits0 .ewait e).ewaitDone (iImmS e) = true
      ∧ { waits0 .ewait e with vecq := [⟨.fadd, 0, 0, 0, 0, 0, false⟩] }.ewaitDone (iImmS e) = false
      ∧ iFnS c = 4 ∧ Issues 0 c ⟨[iF1 c, iF2 c, iF3 c, iF4 c], []⟩ (at0 c)
      ∧ (at0 c).tileOwns 0 0 = true ∧ (running c).gr (iF4 c) ≠ 1 ∧ c1.gr (iF4 c) = 1
      ∧ Issues 0 c ⟨[iF1 c, iF2 c, iF3 c, iF4 c], []⟩ (on c1)
      ∧ ((at0 c).setFld GI_PAD_DOM_count 0 0 0).tileOwns 0 0 = false ∧ (running c).sLevel = false
      ∧ (on (waits0 .cwait c)).waiting 0 = some ⟨.cwait, c, [], false⟩
      ∧ ((on (waits0 .cwait c)).reached 0 0 || (on (waits0 .cwait c)).flag GI_CD_err 0) = true
      ∧ (on cw).waiting 0 = some ⟨.cwait, c, [], false⟩ ∧ ((on cw).reached 0 5 || (on cw).flag GI_CD_err 0) = false
      ∧ cw.gr (iF3 c) = 5 ∧ cw.gr (iF4 c) ≠ 0 := by
  unfold Issues; decide

theorem test_witness_ReleasesAndTaskEnds :
    let r := word 0x34 0 1 2 0 (2 <<< 28 + 4)
    let a := word 0x34 0 1 2 0 (3 <<< 28 + 4)
    let d := word 0x3C 0 0 0 0 0
    let t := word 0x3C 0 0 0 0 (1 <<< 28)
    iOp r = 0x34 ∧ iFnS r = 2 ∧ iImmS r % 8 < 5 ∧ Issues 0 r ⟨[iF2 r, iF3 r], []⟩ (at0 r)
      ∧ iFnS a = 3 ∧ iImmS a % 8 < 5 ∧ Issues 0 a ⟨[iF2 a, iF3 a], []⟩ (at0 a)
      ∧ (on (waits0 .rel r)).waiting 0 = some ⟨.rel, r, [], false⟩ ∧ (waits0 .rel r).stores = [] ∧ (waits0 .rel r).vecq = []
      ∧ (waits0 .rel r).wb = [] ∧ (waits0 .rel r).puts = [] ∧ (on (waits0 .rel r)).linesIn 0 0 0 = []
      ∧ (on (waits0 .acq a)).waiting 0 = some ⟨.acq, a, [], false⟩
      ∧ iOp d = 0x3C ∧ iFnS d = 0 ∧ Issues 0 d ⟨[], []⟩ (at0 d) ∧ iFnS t = 1 ∧ Issues 0 t ⟨[], []⟩ (at0 t)
      ∧ (running d).sLevel = false
      ∧ (∀ b ∈ [true, false], (on (waits0 (.taskEnd b) d)).waiting 0 = some ⟨.taskEnd b, d, [], false⟩
          ∧ (waits0 (.taskEnd b) d).taskDone = true)
      ∧ (waits0 (.taskEnd false) d).runSlot = some 0 ∧ dPersistent ((waits0 (.taskEnd false) d).slot 0).desc = false
      ∧ (let x := { waits0 (.taskEnd false) d with
            slots := [{ Slot.empty with state := .run, desc := [BitVec.ofNat 64 (7 + 1 <<< 43), 0] }] };
          (on x).waiting 0 = some ⟨.taskEnd false, d, [], false⟩ ∧ x.runSlot = some 0 ∧ x.taskDone = true
            ∧ dPersistent (x.slot 0).desc = true) := by
  unfold Issues; decide

/-- Tile 0 at S level about to issue `w`. -/
def sLevel (w : Nat) : Tile := { running w with sLevel := true }

/-- A system word with function `fn` and immediate `imm`. -/
def wSys (fn imm : Nat) : Nat := word 0x3C 3 1 0 0 (fn <<< 28 + imm)

theorem test_witness_PrivilegeAndControlRegisters :
    let evec := fun (x : Tile) => (on x).setFld TL_SEQ_EVEC_evec 0 0 64
    iOp (wSys 3 9) = 0x3C ∧ iFnS (wSys 3 9) = 3 ∧ Issues 0 (wSys 3 9) ⟨[], []⟩ (evec (running (wSys 3 9)))
      ∧ (evec (running (wSys 3 9))).fld TL_SEQ_EVEC_evec 0 ≠ 0 ∧ ((evec (running (wSys 3 9))).tile 0).sLevel = false
      ∧ iFnS (wSys 4 0) = 4 ∧ Issues 0 (wSys 4 0) ⟨[], []⟩ (on (sLevel (wSys 4 0)))
      ∧ Issues 0 (wSys 4 0) ⟨[], []⟩ (at0 (wSys 4 0))
      ∧ (∀ i ∈ [0x000, 0x003, 0x100, 0x104], iFnS (wSys 6 i) = 6
          ∧ Issues 0 (wSys 6 i) ⟨[iF1 (wSys 6 i)], []⟩ (on (sLevel (wSys 6 i)))
          ∧ Issues 0 (wSys 6 i) ⟨[iF1 (wSys 6 i)], []⟩ (at0 (wSys 6 i))
          ∧ ((at0 (wSys 6 i)).csrRead 0 (iImmS (wSys 6 i) % 4096)).isSome = true)
      ∧ csrUser 0x001 = true ∧ csrUser 0x100 = false
      ∧ (∀ i ∈ [0x100, 0x103, 0x001], iFnS (wSys 7 i) = 7 ∧ iImmS (wSys 7 i) % 4096 = i
          ∧ Issues 0 (wSys 7 i) ⟨[iF2 (wSys 7 i)], []⟩ (on (sLevel (wSys 7 i))))
      ∧ iFnS (wSys 2 0) = 2 ∧ Issues 0 (wSys 2 0) ⟨[], []⟩ (at0 (wSys 2 0)) := by
  unfold Issues; decide

theorem test_witness_PrivilegeAndControlRegisters_rest :
    let t := word 0x38 3 0 0 0 8
    let s := sets [(TIC_ENABLE_enable, 0, 2 ^ 17), (TL_LMON_STAT_alarm, 0, 1), (TL_SEQ_EVEC_evec, 0, 64)]
      (on (waits0 .fence 0))
    iOp t = 0x38 ∧ iFnS t = 0 ∧ iImmS t % 16 < 9 ∧ Issues 0 t ⟨[iF1 t], []⟩ (at0 t)
      ∧ Issues 0 t ⟨[iF1 t], []⟩ (on (sLevel t)) ∧ (at0 t).tallyUser 0 = false
      ∧ ((at0 t).setFld GI_PAD_CFG_tally_user 0 0 1).tallyUser 0 = true
      ∧ illegalWord 0 = true ∧ (at0 0).seqActive 0 = true ∧ (running 0).fetch 0 = some 0 ∧ (running 0).sLevel = false
      ∧ s.tileHeld 0 = false ∧ s.parked = false ∧ s.ticAny 0 = true ∧ (s.tile 0).ie = true ∧ (s.tile 0).sLevel = false
      ∧ s.fld TL_SEQ_EVEC_evec 0 ≠ 0 ∧ interruptible (s.tile 0).wait = true := by
  unfold Issues; decide

/-- A matrix instruction word: sub-operation and ctl. -/
def wMat (sub ctl f1 f2 f3 f4 : Nat) : Nat := word 0x28 f1 f2 f3 f4 (sub <<< 31 + ctl)

/-- A queued matrix command of plane `p`. -/
def mat (k : MatKind) (ctl r3 : Nat) : MatCmd := ⟨k, ctl, 0, 64, r3, 0, 0, 0⟩

theorem test_witness_MatrixEngine :
    (∀ c ∈ [(MatKind.mclr, 0, wMat 0 0 0 0 0 0, mat .mclr 0 0), (.macc, 1, wMat 1 0x11 1 2 3 0, mat .macc 0x11 1),
          (.mdrn, 2, wMat 2 1 1 2 3 0, mat .mdrn 1 0), (.mldp, 3, wMat 3 0 1 0 0 0, mat .mldp 0 0)],
        iOp c.2.2.1 = 0x28 ∧ iSubE c.2.2.1 = c.2.1 ∧ matReserved c.2.1 c.2.2.1 = false
          ∧ Issues 0 c.2.2.1 ⟨[iF1 c.2.2.1, iF2 c.2.2.1, iF3 c.2.2.1, iF4 c.2.2.1], []⟩ (at0 c.2.2.1)
          ∧ matFault c.2.2.1 c.2.2.2 = none ∧ (running c.2.2.1).matq.length < 16)
      ∧ matFault (wMat 1 0x11 1 2 3 0) (mat .macc 0x11 0) = some (2, 0)
      ∧ matFault (wMat 3 0 1 0 0 0) { mat .mldp 0 0 with r1 := 1 } = some (4, 1)
      ∧ 16 ≤ { running 0 with matq := List.replicate 16 (mat .mclr 0 0) }.matq.length
      ∧ (let w := wMat 4 0x300 3 0 0 0
         iSubE w = 4 ∧ matReserved 4 w = false ∧ Issues 0 w ⟨[iF1 w], []⟩ (at0 w) ∧ iF2 w = 0) := by
  unfold Issues; decide

theorem test_witness_MatrixEngine_done :
    (∀ c ∈ [mat .mclr 0x300 0, mat .macc 0x11 1, mat .mldp 0 0, mat .mdrn 1 0],
        let s := on { Tile.reset with matq := [c] }
        s.chipReset = false ∧ s.gateOpen 0 = true ∧ Engine.matrix ∉ (s.tile 0).inReset ∧ memWf s.mem = true
          ∧ (s.tile 0).matq[0]? = some c ∧ (s.tile 0).matq.take 0 = [] ∧ (s.tile 0).spadUe = [])
      ∧ mcMx (mat .mdrn 1 0).ctl = false ∧ TileOk Tile.reset := by
  unfold TileOk; decide

/-- A vector instruction word. -/
def wVec (op fmt fn : Nat) : Nat := word op 2 3 4 0 (fmt <<< 27 + fn <<< 13)

theorem test_witness_VectorEngine :
    (∀ c ∈ [(VecOp.fadd, wVec 0x20 1 0), (.iadd, wVec 0x20 0 0x100), (.fcmp .lt false, wVec 0x20 1 0),
          (.conv 1 0 false, wVec 0x21 0 0), (.permute, wVec 0x22 1 0xFF)],
        vecGroup c.1 c.2 = true ∧ vecFnLegal c.2 = true ∧ iF1 c.2 < 8 ∧ Issues 0 c.2 (vecUses c.1 c.2) (at0 c.2)
          ∧ vecFmtOk c.1 c.2 = true ∧ (running c.2).vecq.length < 32)
      ∧ vecFmtOk .fadd (wVec 0x20 5 0) = false ∧ Issues 0 (wVec 0x20 5 0) (vecUses .fadd (wVec 0x20 5 0)) (at0 (wVec 0x20 5 0))
      ∧ 32 ≤ { running 0 with vecq := List.replicate 32 ⟨.fadd, 0, 0, 0, 0, 0, false⟩ }.vecq.length
      ∧ (∀ op ∈ [0x18, 0x19],
          let w := word op 2 1 0 0 0
          iSz w < 2 ∧ iSubM w = 0 ∧ Issues 0 w ⟨[iF2 w, iSubM w], []⟩ (on (g1 (2 ^ 46) (running w)))
            ∧ (on (g1 (2 ^ 46) (running w))).vecFault 0 w (2 ^ 46) 0 = none
            ∧ (on (g1 1 (running w))).vecFault 0 w 1 0 = some (4, 1)) := by
  unfold Issues; decide

theorem test_witness_VectorEngine_done :
    (∀ op ∈ [VecOp.iadd, .ixor, .vld, .vst],
        let c : VecCmd := ⟨op, word 0x18 2 3 0 0 0, 2 ^ 46, 0, 0, 0, false⟩
        let s := on { Tile.reset with vecq := [c] }
        s.chipReset = false ∧ s.gateOpen 0 = true ∧ Engine.vector ∉ (s.tile 0).inReset ∧ (s.tile 0).vecq = [c]
          ∧ targetOf c.x = .spad 0 ∧ iSz c.word = 0 ∧ (s.tile 0).spadUe = [] ∧ s.vecFits 0 c = true) := by decide

/-- A DMA command that has not started. -/
def dma (kind : DmaKind) (r1 r2 r3 r4 : Nat) : DmaCmd :=
  ⟨kind, r1, r2, r3, r4, 0, 0, false, 0, 0, 0, 0, 0, false, 0, 0, 0, .toRequest, 0, 0, 0⟩

/-- Tile 0 with one channel's queue given. -/
def chan0 (c : DmaCmd) : Tile := { Tile.reset with dma := { DmaChan.empty with queue := [c] } :: List.replicate 3 DmaChan.empty }

theorem test_witness_DmaCommandsStart :
    (∀ c ∈ [(0, DmaKind.copy, 0, 64, 128, 64), (1, .copy2d, 0, 64, 128, 64 + 1 <<< 32), (2, .fill, 0, 0, 64, 16),
          (3, .graphSend, 0, 0, 5, 1), (4, .flaggedWrite, 0, 0, 128, 7)],
        let w := word 0x2C 1 2 3 0 (c.1 <<< 31)
        let m := dma c.2.1 c.2.2.2.1 c.2.2.2.2.1 c.2.2.2.2.2 0
        iOp w = 0x2C ∧ iSubE w = c.1 ∧ bitsOf (iCtl w) 30 25 = 0
          ∧ Issues 0 w ⟨[iF1 w, iF2 w, iF3 w, iF4 w], []⟩ (at0 w)
          ∧ (c.2.1 = .flaggedWrite ∨ (at0 w).dmaIllegal m w = false)
          ∧ (at0 w).dmaDomainBad 0 m = false ∧ ((running w).chan 3).occupied < 16)
      ∧ dmaAddrFault (dma .copy 64 128 64 0) = none ∧ dmaAddrFault (dma .copy 1 128 64 0) = some (4, 1)
      ∧ base.dmaIllegal (dma .graphSend 64 5 0 0) (word 0x2C 1 2 3 0 0) = true
      ∧ base.dmaDomainBad 0 { dma .copy 64 128 64 0 with ackEn := true, ackDom := 16 } = true
      ∧ 16 ≤ { DmaChan.empty with queue := List.replicate 16 (dma .copy 0 0 0 0) }.occupied := by
  unfold Issues; decide

theorem test_witness_DmaCommandsStart_heads :
    (∀ c ∈ [(dma .copy 0 (2 ^ 46) 64 0, 0, true), (dma .copy 0 (2 ^ 46) 0 0, 0, false), (dma .graphSend 0 5 1 0, 0, true),
          (dma .copy 0 (2 ^ 30) 64 0, 4, true)],
        let s := on (chan0 c.1)
        s.dmaRuns 0 = true ∧ ((s.tile 0).chan 0).queue = [c.1] ∧ c.1.started = false ∧ s.dmaStartCause c.1 = c.2.1
          ∧ (c.2.2 = true ↔ c.1.kind = .graphSend ∨ c.1.kind = .flaggedWrite ∨ (c.1.rows.1 ≠ 0 ∧ c.1.rows.2.1 ≠ 0)))
      ∧ TileOk (chan0 (dma .copy 0 0 0 0)) := by
  unfold TileOk; decide

/-- A flagged write and a GET_REQ that wait to be sent again. -/
def waitingFlag : SentFlag := ⟨0, 0, 0, pkt tFLAGGED_WRITE [], 1, true, false⟩
def waitingGet : DmaAwait := ⟨0, 0, 0, pkt tGET_REQ [], 16, 1, true, false⟩

theorem test_witness_DmaPackets :
    (∀ c ∈ [dma .fill 7 (2 ^ 46) 48 0, dma .copy (5 <<< 48) (2 ^ 46) 48 0, dma .copy (2 ^ 46) 64 48 0,
          dma .copy2d (2 ^ 46) 64 (48 + 1 <<< 32) 0, dma .flaggedWrite 0 (5 <<< 48) 7 0, dma .graphSend 0 5 120 0,
          { dma .graphSend 0 5 1 0 with phase := .granted, ticket := 9 }],
        let d := { c with started := true }
        let s := on (chan0 d)
        s.dmaRuns 0 = true ∧ s.dmaTurn 0 = some 0 ∧ ((s.tile 0).chan 0).queue = [d] ∧ s.paired = false
          ∧ s.pairStalls = false ∧ s.tagsInUse.length < 65536 ∧ (s.tile 0).spadUe = [] ∧ TileOk (s.tile 0))
      ∧ base.dmaIsGet 0 (dma .copy (5 <<< 48) (2 ^ 46) 48 0) = true ∧ base.dmaIsGet 0 (dma .copy (2 ^ 46) 64 48 0) = false
      ∧ (base.dmaSource 0 0 (2 ^ 46) 48).1 = 0
      ∧ (let c := { DmaChan.empty with flags := [waitingFlag] }
         c.retrying = some 0 ∧ c.flags[0]? = some waitingFlag ∧ waitingFlag.waiting = true
          ∧ (on { Tile.reset with dma := [c] }).dmaMaySend 0 0 1 = true
          ∧ { on { Tile.reset with dma := [c] } with input := [⟨tilePort 0, pkt tCOMPLETION [], 0, 0, false, false, false⟩] }.dmaMaySend
              0 0 1 = true
          ∧ { on { Tile.reset with dma := [c] } with
                input := [⟨tilePort 0, { pkt tFLAGGED_WRITE [] with vc := 1 }, 0, 0, false, false, false⟩] }.dmaMaySend 0 0 1 = false)
      ∧ (let c := { DmaChan.empty with awaits := [waitingGet] }
         c.retrying = none ∧ lfind (fun a : DmaAwait => a.waiting && !a.gone && c.mayResend a) c.awaits = some 0
          ∧ c.awaits[0]? = some waitingGet ∧ (on { Tile.reset with dma := [c] }).dmaMaySend 0 0 0 = true) := by
  unfold TileOk; decide

/-- The base state as a paired node of rank 100 with partner 8, arbiter 4 and a pairing role. -/
def paired (role : Nat) : State :=
  sets [(RTR_PAIR_CTRL_enable, 0, 1), (RTR_PAIR_CTRL_rank_id, 0, 100), (RTR_PAIR_CTRL_role, 0, role),
    (RTR_PAIR_CTRL_partner, 0, 8), (RTR_PAIR_CTRL_arbiter, 0, 4), (RTR_PAIR_HOLD_size_mib, 0, 16)] base

theorem test_witness_GraphAndTokenSends :
    (∀ r ∈ [0, 1, 2, 4],
        let p := { pkt tINTAKE_GRANT [BitVec.ofNat 64 (9 <<< 16 + 77 <<< 32 + r <<< 48), 0] with src := 5 }
        let c := { dma .graphSend 0 5 1 0 with started := true, phase := .requested, tag := 9 }
        let s := on (chan0 c)
        let b := on { chan0 c with dma := [{ DmaChan.empty with queue := [c], flags := [waitingFlag] }] }
        TakenUp p s ∧ s.grantee (bitsOf (p.word 2) 31 16) p.src = some (0, 0)
          ∧ ((s.tile 0).chan 0).queue = [c] ∧ bitsOf (p.word 2) 51 48 = r ∧ ((s.tile 0).chan 0).blocked = false
          ∧ b.grantee (bitsOf (p.word 2) 31 16) p.src = some (0, 0)
          ∧ (let g := { c with phase := .granted, ticket := 77 }
             ((s.take p).onTile 0 fun x => x.setHead 0 g).dmaTurn 0 = some 0
              ∧ ((b.take p).onTile 0 fun x => x.setHead 0 g).dmaTurn 0 ≠ some 0 ∧ bitsOf (p.word 2) 47 32 = 77)
          ∧ (s.tile 0).spadUe = [] ∧ s.dmaRuns 0 = true ∧ TileOk (s.tile 0))
      ∧ (let c := { dma .graphSend 0 5 120 0 with started := true, phase := .retryWait, tag := 65535 }
         c.kind = .graphSend ∧ c.phase = .retryWait ∧ ((chan0 c).chan 0).blocked = false ∧ c.r3 ≤ 120 ∧ c.tag < 65536
          ∧ (on (chan0 c)).dmaRuns 0 = true ∧ (on (chan0 c)).paired = false ∧ (on (chan0 c)).dmaMaySend 0 0 0 = true) := by
  unfold TakenUp TileOk; decide

theorem test_witness_GraphAndTokenSends_tok :
    let w := word 0x30 1 27 3 0 5
    let x := { running w with g := List.replicate 32 (BitVec.ofNat 64 (1 + 1 <<< 48)) }
    let y := { x with g := lset x.g 1 5 }
    iOp w = 0x30 ∧ iSubE w = 0 ∧ bitsOf (iCtl w) 30 15 = 0
      ∧ Issues 0 w ⟨[iF1 w, iF3 w] ++ (List.range (bitsOf (iCtl w) 2 0)).map fun i => iF2 w + i, []⟩ (on y)
      ∧ bitsOf (iCtl w) 2 0 = 5 ∧ iF2 w + 5 ≤ 32
      ∧ tokIllegal 5 (bitsOf (iCtl w) 3 3) (bitsOf (iCtl w) 4 4) (bitsOf (iCtl w) 14 5) (y.gr (iF1 w))
          ((List.range 5).map fun i => y.gr (iF2 w + i)) = false
      ∧ y.tokq.length < 64 ∧ 64 ≤ { y with tokq := List.replicate 64 ⟨Packet.blank, 0, 0⟩ }.tokq.length
      ∧ (on y).tileHeld 0 = false ∧ (on y).parked = false
      ∧ tokIllegal 5 (bitsOf (iCtl w) 3 3) (bitsOf (iCtl w) 4 4) (bitsOf (iCtl w) 14 5) (y.gr (iF1 w)) [0] = true
      ∧ (on y).canEnter (tilePort 0) 0 = true ∧ (on y).pairStalls = false
      ∧ { on y with input := [⟨tilePort 0, pkt tTOKEN [], 0, 0, false, false, false⟩] }.canEnter (tilePort 0) 0 = false
      ∧ { paired 2 with pair := { Pair.empty with stalled := [⟨1, 12, pkt tWRITE [], 0⟩] } }.pairStalls = true := by
  unfold Issues; decide

/-- A window of paddock 0 over the first 4 KiB, read and write. -/
def windowed (s : State) : State :=
  sets [(RTR_WIN_BASE_valid, 63, 1), (RTR_WIN_BASE_rd, 63, 1), (RTR_WIN_BASE_wr, 63, 1), (RTR_WIN_LIM_limit, 63, 4096)] s

/-- A data packet that writes 16 bytes at own-node address `a` with an expected value. -/
def data (type a dom expect : Nat) : Packet :=
  { pkt type [BitVec.ofNat 64 a, BitVec.ofNat 64 (expect <<< 32), 0x1122, 0x3344] with domain := dom }

theorem test_witness_DataPackets :
    (∀ ty ∈ [tWRITE, tGET_DATA], ∀ a ∈ [4080, spadTop - 8],
        (windowed base).receiveCheck (data ty a 15 0) (data ty a 15 0).ownAddr 16 true [15] = 0
          ∧ (data ty a 15 0).payloadBytes.length = 16 ∧ TakenUp (data ty a 15 0) (windowed base)
          ∧ (data ty a 15 0).status = 0 ∧ ((windowed base).tile (pcSrcTile (data ty a 15 0).control)).puts = [])
      ∧ (windowed base).receiveCheck (data tWRITE 4096 0 0) 4096 16 true [0] = 8
      ∧ { base with chipReset := true }.receiveCheck (data tWRITE 0 0 0) 0 16 true [0] = 3
      ∧ (data tWRITE 0 0 0).status ≠ 3 ∧ { data tWRITE 0 0 0 with status := 3 }.status = 3
      ∧ TakenUp (data tFLAGGED_WRITE 0 3 1) (windowed base) ∧ (windowed base).padOfPartition 1 = some 0
      ∧ (windowed base).hbmOn = true ∧ (windowed base).hbmUe = [] ∧ memWf (windowed base).mem = true
      ∧ (windowed base).reached 3 (pcExt (data tFLAGGED_WRITE 0 3 0).control) = true
      ∧ (windowed base).reached 3 (pcExt (data tFLAGGED_WRITE 0 3 1).control) = false
      ∧ (windowed base).flag GI_CD_err 3 = false ∧ ((windowed base).setFld GI_CD_err 3 0 1).flag GI_CD_err 3 = true
      ∧ sigDom (data tFLAGGED_WRITE 0 3 0) = none
      ∧ { windowed base with flagHold := [⟨data tFLAGGED_WRITE 0 3 0, 0⟩] }.eligible ⟨data tFLAGGED_WRITE 0 3 0, 0⟩ = true
      ∧ base.eligible ⟨data tFLAGGED_WRITE 0 3 1, 0⟩ = false ∧ base.eligible ⟨tokenPkt tTOKEN 0 true, 0⟩ = false
      ∧ (base.setFld GI_CD_count 3 0 5).eligible ⟨tokenPkt tTOKEN 0 true, 0⟩ = true
      ∧ (base.setFld GI_FH_CTRL_hold_timeout_ms 0 0 9).fld GI_FH_CTRL_hold_timeout_ms ≠ 0 := by
  unfold TakenUp; decide

/-- A GET_REQ for 16 bytes at HBM offset 4080, to be returned to node 5. -/
def getReq : Packet := { pkt tGET_REQ [4080, BitVec.ofNat 64 (5 <<< 48), 16, 0] with src := 5 }

theorem test_witness_GetsAndCompletions :
    TakenUp getReq (windowed base) ∧ getLength getReq = 16
      ∧ (windowed base).receiveCheck getReq (bitsOf (getReq.word 2) 47 0) 16 false [] = 0
      ∧ (windowed base).gets.length < 512 ∧ 512 ≤ { base with gets := List.replicate 512 ⟨getReq, 0, 0⟩ }.gets.length
      ∧ gaSpace (bitsOf (getReq.word 2) 47 0 + 0) = 0 ∧ base.readFits (bitsOf (getReq.word 2) 47 0) 16 = true
      ∧ (noBuffer 31 base).readFits (bitsOf (getReq.word 2) 47 0) 16 = false
      ∧ min (getLength getReq - 0) (base.packetBytes - (getReq.word 3 + 0) % 2 ^ 64 % base.packetBytes) % 16 = 0
      ∧ (let c := { pkt tCOMPLETION [BitVec.ofNat 64 (143 + 3 <<< 8 + 1 <<< 21), 0] with src := 5 }
         let k := BitVec.ofNat 64 (143 + 3 <<< 8 + 1 <<< 21)
         let f : SentFlag := ⟨0, 0, 0, { pkt tFLAGGED_WRITE [0, k] with dst := 5 }, 0, false, false⟩
         TakenUp c base ∧ pcSrcTile (c.word 2) = 143 ∧ pcNeedCpl (c.word 2) = true ∧ ((base.tile 143).chan 3).flags = []
          ∧ (base.tile 143).puts = [] ∧ f.gone = false ∧ { c with status := 2 }.status = 2
          ∧ (∀ st ∈ [0, 2], lfind (fun f : SentFlag => answers { c with status := st } f.packet
                && echoes (c.word 2) f.packet.control && !f.waiting) [f] = some 0)
          ∧ (∀ e ∈ [0, 1],
              let w := BitVec.ofNat 64 (143 + 3 <<< 8 + e <<< 20 + 1 <<< 21 + 15 <<< 10)
              let o : OutPut := ⟨0, 3, { pkt tWRITE [0, w] with dst := 5 }, false⟩
              lfind (fun o : OutPut => o.chan == 3 && answers c o.packet && echoes w.toNat o.packet.control) [o] = some 0
                ∧ echoes (c.word 2) o.packet.control = false
                ∧ pcAckEn o.packet.control = (e == 1) ∧ base.partitionOwns o.packet.partition (pcAckDom o.packet.control) = true)) := by
  unfold TakenUp; decide

/-- A management request from the own node. -/
def mgmt (off size op : Nat) : Packet :=
  { pkt tMGMT_REQ [BitVec.ofNat 64 (2 <<< 46 + off), 0, BitVec.ofNat 64 size, 0] with operation := op }

theorem test_witness_RegisterAccesses :
    RegId.GI_CTRL.desc.fields ≠ [] ∧ zeroLow .GI_CTRL = false ∧ base.pcie.d3hot = false
      ∧ { base with pcie := ⟨true, false, false⟩ }.pcie.d3hot = true
      ∧ accessFits 4 8 = false ∧ accessFits (RegId.GI_EVT.offset 0 0) 8 = true ∧ accessFits (RegId.GI_EVT.offset 0 0 + 4) 4 = true
      ∧ base.decodeReg (RegId.GI_EVT.offset 0 0) = some (.GI_EVT, 0, 0)
      ∧ base.decodeReg (RegId.TL_EVT.offset 1 0) = some (.TL_EVT, 1, 0)
      ∧ base.decodeReg 0x3FFFFF8 = none ∧ base.blockHeld .TL_EVT 1 = false
      ∧ (base.setTile 1 { Tile.reset with inReset := [.vector] }).blockHeld .TL_EVT 1 = true
      ∧ malformed ((mgmt (RegId.GI_EVT.offset 0 0) 8 1).word 2) = false ∧ gaSpace ((mgmt 0 8 1).word 2) = 2
      ∧ gaReg ((mgmt (RegId.TL_EVT.offset 1 0) 8 1).word 2) = RegId.TL_EVT.offset 1 0 ∧ (mgmt 0 8 1).word 4 % 16 = 8
      ∧ base.isOwn (mgmt 0 8 0).src = true ∧ base.isOwn 9 = false ∧ (9 : Nat) ≠ base.fld RTR_HEFT_CTRL_fm_node
      ∧ (mgmt 0 8 1).operation ≤ 1 ∧ (mgmt 0 8 0).operation = 0 := by  decide

/-- The base state with all twelve stacks fused on and in service. -/
def stacked : State :=
  (List.range 12).foldl (fun s k => sets [(FUS_FP_UNIT_fused_on, k, 1), (HBM_STAT_in_service, k, 1), (HBM_SCRUB_enable, k, 1)] s)
    (sets [(HBM_ILV_CTRL_length, 0, 12)] base)

theorem test_witness_HbmAndInterleave :
    stacked.chipReset = false ∧ (stacked.setFld HBM_ILV_CTRL_state 1 0 1).fld HBM_ILV_CTRL_state 1 = 1
      ∧ stacked.stackFused 11 = true ∧ stacked.flag HBM_SCRUB_enable 11 = true ∧ stacked.fld PWR_STAT_state ≠ 2
      ∧ stacked.flag HBM_STAT_in_service 11 = true ∧ stacked.openReads = []
      ∧ (noBuffer 0 stacked).bufferFree (11 * 32 + 31) = true ∧ (noBuffer 0 stacked).bufferFree 0 = false
      ∧ stacked.granuleAt [0] 0 (scrubLocal 0 0) = some 0 ∧ stacked.granuleAt [] 0 (scrubLocal 0 0) = none
      ∧ stacked.bankActs = [] ∧ agetD [(11 * 4096 + 4095, 2 ^ 16)] (11 * 4096 + 4095) 0 = 2 ^ 16
      ∧ stacked.flag HBM_STAT_trained 11 = false ∧ stacked.flag HBM_STAT_train_fail 11 = false
      ∧ (95 : Nat) < 96 ∧ stacked.fld HBM_TEMP_rate 11 ≤ 1 ∧ (agetD stacked.hbmCool 11 (0, 0)).1 + 1 < 100
      ∧ (∀ j, j < 12 → j ≠ 11 → ((List.range 11).foldl (fun s k => s.setFld HBM_STAT_trained k 0 1) stacked).flag
          HBM_STAT_trained j = true) := by decide

/-- A bank with 65,536 activates has reached its threshold, whatever the stack's own is, and a bank with none has not. -/
theorem test_witness_HbmAndInterleave_rfm (k : Nat) :
    (Config.rfmThreshold k).toNat + 1 ≤ 2 ^ 16 ∧ 0 < (Config.rfmThreshold k).toNat + 1
      ∧ 0 < (Config.rfmMaximum k).toNat + 1 :=
  ⟨(Config.rfmThreshold k).isLt, Nat.succ_pos _, Nat.succ_pos _⟩

/-- The base state with port `k` in a training state. -/
def trainAt (k ts : Nat) : State :=
  (base.setFld FUS_FP_UNIT_fused_on (portUnit k) 0 1).setFld RTR_LINK_STAT_tstate k 0 ts

/-- A port in CONFIRM with the lanes of one half, or of both, ready at both ends. -/
def confirmed (lanes : List Nat) : State :=
  lanes.foldl (fun s n => { s.setFld LN_STAT_lock n 0 1 with
    lanes := aset s.lanes n { Lane.reset with ready := true, farReady := true } }) (trainAt 0 tsConfirm)

theorem test_witness_PortsTrain :
    (trainAt 7 tsOff).flag RTR_LINK_CTRL_lock 7 = false ∧ (trainAt 7 tsOff).tstate 7 = tsOff
      ∧ (trainAt 7 tsOff).fld RTR_LINK_STAT_pstate 7 ≠ 3 ∧ (trainAt 7 tsOff).portFree 7 = true
      ∧ ((trainAt 7 tsDetect).setFld RTR_PORT_CABLE_present 7 0 1).tstate 7 = tsDetect
      ∧ ((trainAt 7 tsDetect).setFld RTR_PORT_CABLE_present 7 0 1).flag RTR_PORT_CABLE_present 7 = true
      ∧ 4 ≤ popCount 8 0xAA ∧ (trainAt 7 tsDetect).mapIsPermutation 7 = true
      ∧ ((trainAt 7 tsDetect).setFld RTR_LINK_MAP_map 7 0 0).mapIsPermutation 7 = false
      ∧ (trainAt 7 tsLock).tstate 7 = tsLock ∧ (trainAt 7 tsAlign).tstate 7 = tsAlign
      ∧ ((trainAt 7 tsAlign).link 7).dormantExit = false ∧ (trainAt 7 tsEq).tstate 7 = tsEq
      ∧ (confirmed [0, 1, 2, 3, 4, 5, 6, 7]).tstate 0 = tsConfirm ∧ ((confirmed []).link 0).dormantExit = false
      ∧ (confirmed [0, 1, 2, 3, 4, 5, 6, 7]).halfReady 0 0 = true ∧ (confirmed [0, 1, 2, 3, 4, 5, 6, 7]).halfReady 0 1 = true
      ∧ (confirmed [0, 1, 2, 3]).halfReady 0 0 = true ∧ (confirmed [0, 1, 2, 3]).halfReady 0 1 = false
      ∧ (confirmed [0, 1, 2, 3]).flag RTR_LINK_CTRL_allow_x4 0 = true
      ∧ (confirmed [4, 5, 6, 7]).halfReady 0 0 = false ∧ (confirmed [4, 5, 6, 7]).halfReady 0 1 = true
      ∧ ((confirmed [0, 1, 2, 3]).setFld RTR_LINK_CTRL_allow_x4 0 0 0).flag RTR_LINK_CTRL_allow_x4 0 = false := by decide

theorem test_witness_PortsTrain_firmware :
    let s := trainAt 7 tsDetect
    let c := confirmed [0, 1, 2, 3, 4, 5, 6, 7]
    let w := { c with mgmt := { c.mgmt with
      laneFw := [(0, 3)], update := { Update.none with training := some 0, queue := [(3, 1)] } } }
    s.mgmt.laneDue.contains 7 = true ∧ (s.setFld FWU_SLOT_in_use 2 0 1).flag FWU_SLOT_in_use 2 0 = true
      ∧ { s with mgmt := { s.mgmt with laneDue := [] } }.mgmt.laneDue.contains 7 = false ∧ c.mgmt.update.training = none
      ∧ w.mgmt.update.training = some 0 ∧ w.mgmt.update.ports = [] ∧ w.mgmt.update.queue = [(3, 1)]
      ∧ aget w.mgmt.laneFw 0 = some 3 ∧ w.fuse.svn < 3 := by decide

/-- What a lane brings that receives a control block, data blocks, and nothing else. -/
def frameRun (ws : List Word64) : RxRun :=
  ⟨(ws.take 1).map (fun w => (controlBlock w, false)) ++ (ws.drop 1).map fun w => (dataBlock w, false), ⟨0, 0⟩⟩

theorem test_witness_LanesTrainAndFail :
    (∀ ts ∈ [tsAlign, tsConfirm], tsAlign ≤ (trainAt 7 ts).tstate (63 / 8) ∧ (trainAt 7 ts).tstate (63 / 8) < tsActive)
      ∧ (frameRun [0xA3, 0, 0, 0]).frame false = some [0xA3, 0, 0, 0]
      ∧ (frameRun [0xA3, 0, BitVec.ofNat 64 (1 + 1 <<< 14 + 3 <<< 15), 0]).frame true
          = some [0xA3, 0, BitVec.ofNat 64 (1 + 1 <<< 14 + 3 <<< 15), 0]
      ∧ (frameRun [0xA1, 0, 0, 0]).frame false = none ∧ (trainAt 7 tsAlign).txOf 63 = 63
      ∧ bitsOf (lbWord [0xA3, 0, BitVec.ofNat 64 (1 + 1 <<< 14 + 3 <<< 15), 0] 2) 3 0 ≠ ((trainAt 7 tsAlign).lane 63).ackSeq
      ∧ bitsOf (lbWord [0xA3, 0, 0, 0] 2) 3 0 = ((trainAt 7 tsAlign).lane 63).ackSeq
      ∧ bitsOf (lbWord [0xA3, 0, BitVec.ofNat 64 (1 + 1 <<< 14 + 3 <<< 15), 0] 2) 17 15 ≤ 3
      ∧ ([0, -8, 112, -8, 0] : List Int).length = 5 ∧ tapSum [0, -8, 112, -8, 0] ≤ 128
      ∧ (∀ i, i < 5 → (tapLimits i).1 ≤ lget [0, -8, 112, -8, 0] i 0 ∧ lget [0, -8, 112, -8, 0] i 0 ≤ (tapLimits i).2)
      ∧ tsEq ≤ (trainAt 7 tsActive).tstate (63 / 8) ∧ (trainAt 7 tsActive).tstate (63 / 8) < tsFailed
      ∧ min 255 20 < ((trainAt 7 tsActive).setFld LN_CTRL_fom_warn 63 0 30).fld LN_CTRL_fom_warn 63
      ∧ (trainAt 7 tsActive).flag LN_STAT_warn 63 = false := by decide +kernel

theorem test_witness_LanesTrainAndFail_fail :
    let s := trainAt 7 tsActive
    let f := s.setFld LN_STAT_failed 63 0 1
    let g := s.setFld LN_STAT_failed 56 0 1
    s.tstate (63 / 8) = tsActive ∧ s.flag LN_STAT_failed 63 = false ∧ (s.link 7).degAsked = none
      ∧ (s.link 7).retrainAsked = false ∧ { LinkPort.reset with retrainAsked := true }.retrainAsked = true
      ∧ s.flag LN_STAT_in_use 56 = false ∧ s.fld RTR_LINK_STAT_pstate 7 ≠ 2
      ∧ ((s.setFld LN_STAT_in_use 56 0 1).setFld LN_STAT_lock 56 0 1).flag LN_STAT_in_use 56 = true
      ∧ (s.setFld LN_STAT_lock 56 0 1).flag LN_STAT_lock 56 = true ∧ 56 / 8 = 7
      ∧ (s.setFld RTR_LINK_STAT_pstate 7 0 2).fld RTR_LINK_STAT_pstate 7 = 2
      ∧ (s.link 7).degNext = none ∧ s.mapIsPermutation 7 = true ∧ s.flag RTR_LINK_STAT_width_x4 7 = false
      ∧ s.flag RTR_LINK_CTRL_allow_x4 7 = true ∧ (s.setFld LN_FOM_fom 63 0 95).fld LN_FOM_fom 63 < 96
      ∧ f.halfUsable 7 0 = true ∧ g.halfUsable 7 0 = false ∧ g.halfUsable 7 1 = true
      ∧ (g.setFld LN_STAT_failed 63 0 1).halfUsable 7 1 = false
      ∧ (s.setFld RTR_LINK_STAT_width_x4 7 0 1).flag RTR_LINK_STAT_width_x4 7 = true
      ∧ (s.setFld RTR_LINK_CTRL_allow_x4 7 0 0).flag RTR_LINK_CTRL_allow_x4 7 = false := by decide

/-- A data link block with sequence `seq` and acknowledgement `ack` that holds the words `ws`. -/
def dataLink (control : Nat) (ws : List Word64) (seq ack : Nat) : List Word64 :=
  linkBlock ((BitVec.ofNat 64 control :: ws) ++ List.replicate (30 - ws.length) 0) seq ack

/-- A link block as eight lanes receive it, and as they do where the first block of lane 0 has a wrong header. -/
def arrives (ws : List Word64) : List RxLane :=
  (List.range 8).map fun l => (stripe 8 l ws).map fun w => (dataBlock w, false)
def arrivesBad (ws : List Word64) : List RxLane :=
  (List.range 8).map fun l => (stripe 8 l ws).map fun w => (⟨if l = 0 then 0 else 1, w⟩, false)

/-- Port 7 ACTIVE with a link layer. -/
def port7 (x : LinkPort) : State := { trainAt 7 tsActive with links := [(7, x)] }

/-- A packet of one unit, and the control word of the data block that holds it. -/
def unitPkt : Packet := { pkt tCOMPLETION [] with vc := 1 }
def unitControl : Nat := 1 <<< 2 + 1 <<< 17 + 1 <<< 20

theorem test_witness_LinkBlocks_received :
    let s := port7 LinkPort.reset
    s.linkUp 7 = true ∧ (s.activeLanes 7).length = 8
      ∧ (∀ ws ∈ [dataLink unitControl (packetWords unitPkt) 0 0, dataLink 0 [] 0 0, dataLink 0 [] 5 0],
          blockPasses (s.flag RTR_LINK_STAT_reach 7) 8 (arrives ws) = true ∧ lbKind (rxWords (arrives ws)) = 0
            ∧ blockPasses (s.flag RTR_LINK_STAT_reach 7) 8 (arrivesBad ws) = false ∧ lbKind (rxWords (arrivesBad ws)) = 0
            ∧ ∃ r ∈ arrivesBad ws, ∃ b ∈ r, b.1.kind = .data)
      ∧ (∀ r ∈ List.replicate 8 [(idleBlock, false)], ∀ b ∈ r, b.1.kind ≠ .data)
      ∧ lbSeq (rxWords (arrives (dataLink 0 [] 0 0))) = (s.link 7).expect
      ∧ lbSeq (rxWords (arrives (dataLink 0 [] 5 0))) ≠ (s.link 7).expect ∧ (s.link 7).waiting = false
      ∧ (s.link 7).replay = []
      ∧ (lbAck (rxWords (arrives (dataLink 0 [] 0 0))) + 65536 - 0) % 65536
          ≤ (s.fld RTR_LINK_REPLAY_next_seq 7 + 65536 - 0) % 65536 ∧ s.mapIsPermutation 7 = true := by decide +kernel

theorem test_witness_LinkBlocks_packet :
    let ws := rxWords (arrives (dataLink unitControl (packetWords unitPkt) 0 0))
    0 < lbUnits ws ∧ packetOfWords ((ws.drop 1).take (2 * lbUnits ws)) = some unitPkt
      ∧ bitsOf (lbWord ws 1) 45 32 = lbUnits ws ∧ lbStart ws 0 = true
      ∧ (∀ u, u < lbUnits ws → 0 < u → lbStart ws u = false) ∧ (port7 LinkPort.reset).input = []
      ∧ (port7 LinkPort.reset).output = [] := by decide +kernel

/-- A stored block of a circuit or of none, and a packet of one unit that waits at port 7. -/
def stored (seq : Nat) (circuit : Option (Nat × Nat)) : StoredBlock := ⟨seq, dataLink 0 [] seq 0, 0, circuit⟩
def unitOut (p : Packet) : OutPacket := ⟨7, p, 0, 13, p.vc, p.vc, 1, 0, false⟩

theorem test_witness_LinkBlocks_sent :
    let r := port7 { LinkPort.reset with replay := [stored 4 none, stored 5 (some (0, 0))], resendAt := some 4 }
    let q := { (port7 LinkPort.reset).setFld RTR_HEFT_FAR1_state 7 0 2 with output := [unitOut unitPkt] }
    let n := port7 LinkPort.reset
    r.linkUp 7 = true ∧ r.fld RTR_LINK_STAT_pstate 7 < 2 ∧ (r.link 7).slotKey = r.beatNo * 256 + r.slotNow
      ∧ lfind (fun c : StoredBlock => c.seq == 4) (r.link 7).replay = some 0 ∧ (r.link 7).resendAt = some 4
      ∧ (r.link 7).slotCircuit = none ∧ (r.link 7).storedCircuit 4 ≠ some (0, circPartition (r.circuit 0))
      ∧ (r.link 7).storedCircuit 5 = some (0, circPartition (r.circuit 0))
      ∧ (q.link 7).resendAt = none ∧ (q.link 7).replay.length < 4096 ∧ (q.link 7).slotCircuit = none
      ∧ (q.link 7).slotKey = q.beatNo * 256 + q.slotNow
      ∧ (q.pickVc 7).map (fun r => (r.1, r.2.1)) = some (1, [unitOut unitPkt])
      ∧ (n.pickVc 7).map (·.1) = none ∧ (∀ u ∈ (n.link 7).owed, u = 0)
      ∧ (∃ v, v < 8 ∧ 0 < lget { LinkPort.reset with owed := List.replicate 8 2 }.owed v 0)
      ∧ n.fld RTR_LINK_STAT_pstate 7 = 0 ∧ (n.setFld RTR_LINK_STAT_pstate 7 0 1).fld RTR_LINK_STAT_pstate 7 = 1
      ∧ (∃ b ∈ (r.link 7).replay, b.seq = 4) ∧ (r.link 7).resendSeq ≠ 4 ∧ 1 < r.fld RTR_LINK_CTRL_resend_limit 7
      ∧ (r.link 7).replay.head?.map (·.seq) = some 4
      ∧ ((port7 { LinkPort.reset with waiting := true }).link 7).waiting = true
      ∧ (List.replicate 31 (0 : Word64)).length = 31 ∧ lbKind (linkBlock (List.replicate 31 0) 0 0) ≠ 3 := by
  decide +kernel

/-- A packet of circuit 0 that waits at port 7 in a slot that the circuit claims. -/
theorem test_witness_LinkBlocks_claimed :
    let p := { unitPkt with vc := 4, dst := 5 }
    let q := { (port7 { LinkPort.reset with slotCircuit := some 0 }).setFld RTR_HEFT_FAR1_state 7 0 2 with
      output := [unitOut p], circ0 := [(0, BitVec.ofNat 64 (7 + 1 <<< 4 + 1 <<< 16))] }
    q.linkUp 7 = true ∧ (q.link 7).slotKey = q.beatNo * 256 + q.slotNow ∧ (q.link 7).slotCircuit = some 0
      ∧ (q.link 7).resendAt = none ∧ q.circuitQueue 7 0 = [unitOut p] ∧ q.readyBlock 7 4 [unitOut p] = true := by
  decide +kernel

theorem test_witness_LinkControlTakesEffect :
    let s := port7 LinkPort.reset
    let asked := port7 { LinkPort.reset with pwrAsked := some 3 }
    let busy := port7 { LinkPort.reset with replay := [stored 0 none] }
    s.tstate 7 = tsActive ∧ s.mapIsPermutation 7 = true ∧ (s.link 7).degrading = false
      ∧ (s.linkIdle 7 && !s.claimsAny 7) = true ∧ (busy.linkIdle 7 && !busy.claimsAny 7) = false
      ∧ (s.link 7).pwrAsked = none ∧ (asked.link 7).pwrAsked = some 3 ∧ (asked.link 7).retrainAsked = false
      ∧ (∀ h, h < 2 → s.halfUsable 7 h = true
          ∧ ((s.setFld LN_STAT_failed 56 0 1).setFld LN_STAT_failed 63 0 1).halfUsable 7 h = false
          ∧ ((port7 { LinkPort.reset with degAsked := some h }).link 7).degAsked = some h
          ∧ ((port7 { LinkPort.reset with degNext := some h }).link 7).degNext = some h)
      ∧ (s.setFld RTR_LINK_PWR_target 7 0 1).fld RTR_LINK_PWR_target 7 = 1 ∧ s.fld RTR_LINK_STAT_pstate 7 = 0
      ∧ (s.link 7).pwrNext = none ∧ (s.setFld RTR_LINK_STAT_pstate 7 0 2).fld RTR_LINK_STAT_pstate 7 = 2
      ∧ (∀ u, u < 4 → ((port7 { LinkPort.reset with pwrNext := some u }).link 7).pwrNext = some u)
      ∧ (port7 { LinkPort.reset with retrainAsked := true }).fld RTR_LINK_PWR_target 7 = 0
      ∧ ((port7 { LinkPort.reset with retrainAsked := true }).link 7).retrainAsked = true
      ∧ (frameRun [0xA3, 0, 0, 0]).frame (s.flag RTR_LINK_STAT_reach 7) = some [0xA3, 0, 0, 0]
      ∧ (⟨4, []⟩ : RxFillers).adjust ≤ 4 ∧ 4 < (⟨5, []⟩ : RxFillers).adjust ∧ (s.setFld LN_STAT_in_use 56 0 1).flag LN_STAT_in_use 56 = true
      ∧ (s.link 7).degNext = none ∧ s.flag RTR_PORT_CABLE_present 7 = !true
      ∧ (s.setFld RTR_PORT_CABLE_present 7 0 1).flag RTR_PORT_CABLE_present 7 = !false := by decide +kernel

/-- The base state with a node ID, ports 6 and 7 ACTIVE and AGREED, and destination 5 routed to port 7, alternate 6. -/
def routed : State :=
  { sets [(RTR_NODE_ID_id, 0, 3), (RTR_NODE_ID_valid, 0, 1), (RTR_LINK_STAT_tstate, 6, tsActive),
      (RTR_LINK_STAT_tstate, 7, tsActive), (RTR_HEFT_FAR1_state, 6, 2), (RTR_HEFT_FAR1_state, 7, 2)] base with
    uc0 := [(5, 0x67), (9, 0x100)], mc0 := [(0, 0xC0)], slot0 := [(7 * 256, BitVec.ofNat 64 (1 <<< 12 + 1 <<< 24))],
    circ0 := [(0, BitVec.ofNat 64 (7 + 1 <<< 4 + 1 <<< 16))] }

/-- A WRITE to node `dst` on a virtual channel. -/
def toNode (dst vc : Nat) : Packet := { pkt tWRITE [0, 0, 0, 0] with dst := dst, vc := vc }

theorem test_witness_LookupAndDirectedPackets :
    base.flag RTR_NODE_ID_valid = false ∧ routed.flag RTR_NODE_ID_valid = true
      ∧ (toNode 3 2).dst = routed.node ∧ { toNode 3 2 with mcast := true }.mcast = true ∧ routed.isOwn 5 = false
      ∧ ucMcast (routed.ucEntry 9) = true ∧ ucMcast (routed.ucEntry 5) = false ∧ ucPrimary (routed.ucEntry 5) = 7
      ∧ ucAlternate (routed.ucEntry 5) = 6 ∧ routed.down 7 = false ∧ base.down 7 = true
      ∧ ((toNode 5 2).vc = 2 ∧ (toNode 5 2).type = tWRITE) ∧ (toNode 5 1).vc ≠ 2
      ∧ routed.takesWhole 7 3 = true ∧ routed.takesWhole 6 3 = true ∧ routed.freeCredit 6 2 ≤ routed.freeCredit 7 2
      ∧ (let c := routed.setFld RTR_VC_CREDIT_credit 7 2 0
         c.takesWhole 7 3 = false ∧ c.takesWhole 6 3 = true
          ∧ (c.setFld RTR_VC_CREDIT_credit 6 2 0).takesWhole 6 3 = false)
      ∧ (routed.setFld RTR_VC_CREDIT_credit 6 2 0).takesWhole 6 3 = false
      ∧ (let c := routed.setFld RTR_VC_CREDIT_credit 7 2 100
         c.takesWhole 7 3 = true ∧ c.freeCredit 7 2 < c.freeCredit 6 2)
      ∧ circValid (routed.circuit 1) = false ∧ (toNode 5 4).circuitId = 0 ∧ circValid (routed.circuit 0) = true
      ∧ circPartition (routed.circuit 0) = (toNode 5 4).partition ∧ circOut (routed.circuit 0) < 8
      ∧ routed.down (circOut (routed.circuit 0)) = false ∧ routed.claimsFor (circOut (routed.circuit 0)) 0 = true
      ∧ (toNode 5 2).body.length + 2 = 2 * (toNode 5 2).length := by decide

/-- A directed request or response: hops, index, origin, path, back path, and register address. -/
def directed (hops idx origin : Nat) : Packet :=
  pkt tHEFT [BitVec.ofNat 64 (1 + hops <<< 3 + idx <<< 8 + origin <<< 13), 7, 0, 0x3E00000000000,
    BitVec.ofNat 64 (RegId.GI_EVT.offset 0 0), 0]

theorem test_witness_LookupAndDirectedPackets_directed :
    (routed.setFld RTR_PORT_ROLE_role 6 0 1).fld RTR_PORT_ROLE_role 6 ≠ 7 ∧ routed.agreed 6 = true ∧ routed.fld RTR_LINK_STAT_pstate 6 ≠ 2
      ∧ dqIdx (directed 1 0 0) < dqHops (directed 1 0 0) ∧ dqPath (directed 1 0 0) 0 ≠ 6
      ∧ routed.agreed (dqPath (directed 1 0 0) 0) = true ∧ routed.fld RTR_LINK_STAT_pstate (dqPath (directed 1 0 0) 0) ≠ 2
      ∧ dqIdx (directed 1 1 9) = dqHops (directed 1 1 9) ∧ dqOrigin (directed 1 1 9) ≠ routed.fld RTR_HEFT_CTRL_fm_node
      ∧ dqOrigin (directed 1 1 0) = routed.fld RTR_HEFT_CTRL_fm_node ∧ dqWrite (directed 1 1 0) = false
      ∧ accessFits (gaReg ((directed 1 1 0).word 6)) 8 = true
      ∧ routed.decodeReg (gaReg ((directed 1 1 0).word 6)) = some (.GI_EVT, 0, 0) ∧ routed.blockHeld .GI_EVT 0 = false
      ∧ (let p := pkt tHEFT [2, 0, BitVec.ofNat 64 (7 <<< 32), 0, 0, 0]
         routed.agreed (dqBack p (dqIdx p)) = true ∧ routed.fld RTR_LINK_STAT_pstate (dqBack p (dqIdx p)) ≠ 2) := by decide

/-- The routed state with one packet at an input port. -/
def entering (port : Nat) (p : Packet) (held limited early : Bool) : InPacket := ⟨port, p, p.vc, p.length, held, limited, early⟩
def inPort (port : Nat) (p : Packet) (held limited : Bool) : State := { routed with input := [entering port p held limited false] }

theorem test_witness_PacketsRouted :
    (inPort 13 (toNode 3 2) false false).headOf 13 2 = some 0
      ∧ routed.oversize { toNode 3 2 with length := 16383 } = true ∧ routed.oversize (toNode 3 2) = false
      ∧ vcAllowed (toNode 3 0).type (toNode 3 0).vc = false ∧ vcAllowed (toNode 3 2).type (toNode 3 2).vc = true
      ∧ (toNode 3 2).type ≠ tBELL ∧ (toNode 3 2).type ≠ tHEFT ∧ limiterApplies (entering 13 (toNode 3 2) false false false) = false
      ∧ routed.fld RTR_HEFT_FAR1_state 7 = 2
      ∧ base.routeAct 13 (toNode 3 2) = .hold ∧ routed.routeAct 13 (toNode 3 2) = .deliver
      ∧ routed.paired = false ∧ routed.refused28 13 (toNode 3 2) = false
      ∧ routed.routeAct 13 (toNode 5 2) = .send 7 2 ∧ routed.fld RTR_LINK_STAT_pstate 7 ≠ 2
      ∧ routed.routeAct 13 (toNode 9 2) = .replicate 0xC0 ∧ bitAt 0xC0 8 = false
      ∧ (∀ q, q < 8 → routed.fld RTR_LINK_STAT_pstate q ≠ 2)
      ∧ routed.routeAct 13 { toNode 5 4 with partition := 2 } = .refuse
      ∧ (entering 13 (toNode 3 2) false false false).headHere = true ∧ (entering 7 (toNode 3 2) false false true).early = true
      ∧ 3 ≤ (routed.setFld RTR_HEFT_FAR1_state 7 0 3).fld RTR_HEFT_FAR1_state 7
      ∧ { routed.setFld RTR_HEFT_FAR1_state 7 0 3 with input := [entering 7 (toNode 3 2) false false true] }.headOf 7 2 = some 0
      ∧ (∀ t ∈ [tHEFT, tBELL], vcAllowed t 6 = true ∧ routed.oversize { toNode 0 6 with type := t } = false)
      ∧ (let p := toNode 5 7
         let s := { routed with limiter := [⟨0, 5, 10000, 0, 0, false, 0⟩] }
         limiterApplies (entering 13 p false false false) = true ∧ vcAllowed p.type p.vc = true
          ∧ s.limiter.find? (fun l => l.dst == 5) = some ⟨0, 5, 10000, 0, 0, false, 0⟩
          ∧ s.bucketNow ⟨0, 5, 10000, 0, 0, false, 0⟩ < min 16384 (16 * p.length)) := by decide

theorem test_witness_PacketsRouted_more :
    ((List.range 8).filter fun q => bitAt 0xC0 q && !routed.down q) = [6, 7]
      ∧ ((List.range 8).filter fun q => bitAt 0x100 q && !routed.down q) = [] ∧ bitAt 0x100 8 = true
      ∧ { routed with mc0 := [(0, 0x1C0)] }.routeAct 13 (toNode 9 2) = .replicate 0x1C0 ∧ bitAt 0x1C0 8 = true
      ∧ { routed with mc0 := [(0, 0x100)] }.routeAct 13 (toNode 9 2) = .replicate 0x100
      ∧ { routed with mc0 := [] }.routeAct 13 (toNode 9 2) = .replicate 0 ∧ bitAt 0 8 = false
      ∧ (routed.setFld RTR_LINK_STAT_pstate 7 0 2).fld RTR_LINK_STAT_pstate 7 = 2
      ∧ (routed.setFld RTR_LINK_STAT_pstate 7 0 2).routeAct 13 { toNode 5 1 with type := tCOMPLETION } = .send 7 1
      ∧ vcAllowed tCOMPLETION 1 = true
      ∧ routed.tstate 7 = tsActive ∧ routed.mapIsPermutation 7 = true
      ∧ (let o : OutPacket := ⟨7, toNode 5 4, 1, 6, 4, 4, 3, 9, false⟩
         let s := { routed with output := [o], slot0 := [] }
         lfind (fun e : InPacket => e.port == 6 && e.packet.vc == 4 && e.held) s.input = none
          ∧ s.output.find? (fun o => o.inPort == 6 && o.inVc == 4 && s.stranded o) = some o) := by decide

theorem test_witness_PacketsRouted_waits :
    let s := { inPort 13 (toNode 5 7) false true with limiter := [⟨0, 5, 10000, 16384, 0, false, 0⟩] }
    lfind (fun e : InPacket => e.port == 13 && e.packet.vc == 2) (inPort 13 (toNode 3 2) true false).input = some 0
      ∧ lfind (fun e : InPacket => e.limited && e.packet.dst == 5) s.input = some 0
      ∧ s.limiter.find? (fun l => l.dst == 5) = some ⟨0, 5, 10000, 16384, 0, false, 0⟩
      ∧ s.limiter.find? (fun l => l.number == 0) = some ⟨0, 5, 10000, 16384, 0, false, 0⟩
      ∧ s.routeAct 13 (toNode 5 7) = .send 7 7 ∧ s.fld RTR_LINK_STAT_pstate 7 ≠ 2
      ∧ (⟨0, 5, 10000, 16384, 0, true, 0⟩ : LimiterEntry).marked = true := by decide

theorem test_witness_RoutingTablesAndNodeId :
    routed.flag RTR_TBL_IDX_bank = false ∧ (routed.setFld RTR_TBL_IDX_bank 0 0 1).flag RTR_TBL_IDX_bank = true
      ∧ routed.flag RTR_TBL_IDX_auto_inc = false ∧ (routed.setFld RTR_TBL_IDX_auto_inc 0 0 1).flag RTR_TBL_IDX_auto_inc = true
      ∧ (inPort 13 (toNode 3 7) true false).vcOcc 13 7 < 2 ^ 18 := by decide

/-- A hello with a serial, a port, a role and a position. -/
def helloPkt (port role pos : Nat) : Packet :=
  pkt tHEFT [BitVec.ofNat 64 (port <<< 3 + role <<< 6 + pos <<< 10), 42, 0, 0]

theorem test_witness_HeftDiscovery :
    let s := sets [(RTR_HEFT_CTRL_enable, 0, 1)] routed
    s.sendsHello 6 = true ∧ (s.link 6).helloDone = false ∧ s.fld RTR_LINK_STAT_pstate 6 ≠ 2
      ∧ bitsOf ((helloPkt 7 8 0).word 2) 2 0 = 0
      ∧ (∃ a, aget { s with accepted := [(7, (41, 7))] }.accepted 7 = some a ∧ a ≠ (42, 7))
      ∧ aget s.accepted 7 = none ∧ s.flag RTR_HEFT_CTRL_auto_accept = false
      ∧ (s.setFld RTR_PORT_ROLE_role 7 0 0).fld RTR_PORT_ROLE_role 7 = 0 ∧ s.fld RTR_PORT_ROLE_role 7 ≠ 0
      ∧ bitsOf ((helloPkt 7 8 0).word 2) 9 6 = farRole (s.fld RTR_PORT_ROLE_role 7)
      ∧ bitsOf ((helloPkt 7 1 0).word 2) 9 6 ≠ farRole (s.fld RTR_PORT_ROLE_role 7)
      ∧ (s.setFld RTR_HEFT_FAR1_state 7 0 4).fld RTR_HEFT_FAR1_state 7 = 4
      ∧ (s.setFld RTR_HEFT_CTRL_self 0 0 1).flag RTR_HEFT_CTRL_self = true ∧ s.fld RTR_NODE_ID_source ≠ 3
      ∧ (∀ j, j < 8 → base.fld RTR_HEFT_FAR1_state j ≠ 2)
      ∧ (let b := s.setFld RTR_PORT_ROLE_role 6 0 1
         b.selfWaitOver = true ∧ (b.setFld RTR_NODE_ID_source 0 0 3).fld RTR_NODE_ID_source = 3
          ∧ base.selfWaitOver = true ∧ b.fld RTR_HEFT_FAR1_state 6 = 2 ∧ b.fld RTR_HEFT_FAR1_far_pos 6 ≠ expectedPos 1 (b.fld RTR_NODE_ID_pos)) := by
  refine ⟨?_, ?_, ?_, ?_, ⟨(41, 7), ?_⟩, ?_, ?_, ?_, ?_, ?_, ?_, ?_, ?_, ?_, ?_, ?_⟩ <;> decide

/-- A bell with a time, flags and hops. -/
def bellPkt (t : Nat) (sync : Nat) (hops : Nat) : Packet :=
  { pkt tBELL [4, 7, BitVec.ofNat 64 t, BitVec.ofNat 64 (8000 + hops <<< 16 + sync <<< 40), 0, 0] with vc := 6 }

theorem test_witness_BeatsAndBells :
    let s := { sets [(BT_PERIOD_next_ns, 0, 9000), (RTR_TBL_CTRL_armed, 0, 1), (BT_FLIP_armed, 0, 1)] routed with
      beat := { BeatTimer.reset with periodBeat := 1, rtrFlip := 1, slotFlip := 1, cloneBeat := 1 }
      pair := { Pair.empty with cloneArmed := true } }
    s.fld BT_PERIOD_next_ns ≠ 0 ∧ s.beat.periodBeat ≤ s.beatNo + 1 ∧ base.fld BT_PERIOD_next_ns = 0
      ∧ s.flag RTR_TBL_CTRL_armed = true ∧ s.beat.rtrFlip ≤ s.beatNo + 1 ∧ s.synced = false
      ∧ base.flag RTR_TBL_CTRL_armed = false ∧ s.flag BT_FLIP_armed = true ∧ s.beat.slotFlip ≤ s.beatNo + 1
      ∧ base.flag BT_FLIP_armed = false ∧ s.pair.cloneArmed = true ∧ s.beat.cloneBeat ≤ s.beatNo + 1
      ∧ base.pair.cloneArmed = false ∧ base.beatNo + 1 < 2 ^ 64 ∧ base.beatStart base.beatNo < 2 ^ 64
      ∧ (∀ k, k < 8 → base.fld RTR_LINK_STAT_pstate k ≠ 2) := by decide

theorem test_witness_BeatsAndBells_bells :
    let s := sets [(BT_CTRL_parent, 0, 7)] routed
    let delay : Int := s.fld RTR_LINK_STAT_rtt 7 * 100 / 2 + signedOf 16 (s.fld BT_TRIM_trim_ps 7)
    (s.flag BT_CTRL_master = false ∧ (7 : Nat) = s.fld BT_CTRL_parent ∧ bitsOf ((bellPkt 0 1 63).word 5) 23 16 < 64
        ∧ s.fld RTR_HEFT_FAR1_state 7 = 2)
      ∧ (64 ≤ bitsOf ((bellPkt 0 1 64).word 5) 23 16) ∧ (6 : Nat) ≠ s.fld BT_CTRL_parent
      ∧ s.flag BT_STAT_adopted = false ∧ 0 ≤ ((bellPkt 0 1 0).word 4 : Int) * 100 + delay - s.beat.t * 100
      ∧ (s.setFld BT_STAT_adopted 0 0 1).flag BT_STAT_adopted = true
      ∧ ((bellPkt 0 1 0).word 4 : Int) * 100 + delay - s.beat.t * 100 ≤ 10000
      ∧ bitAt ((bellPkt 0 1 0).word 5) 40 = true ∧ bitAt ((bellPkt 0 0 0).word 5) 40 = false
      ∧ 3 ≤ { BeatTimer.reset with good := 3 }.good
      ∧ 10000 < ((bellPkt 101 1 0).word 4 : Int) * 100 + delay - s.beat.t * 100
      ∧ s.flag RTR_NODE_ID_valid = true ∧ base.flag RTR_NODE_ID_valid = false ∧ (bellPkt 0 1 0).status ≠ 3
      ∧ s.gridDiffers 4 7 8000 = true ∧ { s with beat := { s.beat with nb := 4, tb := 7 } }.gridDiffers 4 7 8000 = false
      ∧ (s.setFld BT_STAT_sync 0 0 1).flag BT_STAT_sync = true := by decide

theorem test_witness_BeatTables :
    (base.setFld BT_CTRL_master 0 0 1).flag BT_CTRL_master = true ∧ base.flag BT_CTRL_master = false
      ∧ (base.setFld BT_FLIP_copy_busy 0 0 1).flag BT_FLIP_copy_busy = true ∧ base.flag BT_FLIP_copy_busy = false
      ∧ base.flag BT_TBL_IDX_bank = false ∧ (base.setFld BT_TBL_IDX_bank 0 0 1).flag BT_TBL_IDX_bank = true
      ∧ base.flag BT_TBL_IDX_auto_inc = false ∧ base.btSel ≠ none
      ∧ (base.setFld BT_TBL_IDX_auto_inc 0 0 1).flag BT_TBL_IDX_auto_inc = true := by decide

/-- An EPOCH packet: kind, rank, epoch, holder, keys, argument. -/
def epoch (src kind rank ep holder : Nat) (keys : List Nat) (arg : Nat) : Packet :=
  { pkt tEPOCH ([BitVec.ofNat 64 (kind + rank <<< 4 + ep <<< 20 + holder <<< 36 + keys.length <<< 52), BitVec.ofNat 64 arg]
      ++ keys.map (BitVec.ofNat 64)) with src := src }

/-- A held packet with a key. -/
def held (key : Nat) : PairHeld := ⟨key, 12, toNode 5 2, 0⟩

theorem test_witness_PairSendsAndClones :
    base.paired = false ∧ isRankType tMGMT_REQ = false
      ∧ { paired 2 with pair := { Pair.empty with stalled := [held 1] } }.pairStalls = true
      ∧ isJoined { toNode 5 1 with type := tGET_REQ } false = true ∧ isRankType tGET_REQ = true ∧ (paired 2).paired = true ∧ isRankType (toNode 5 2).type = true
      ∧ (paired 2).isOwn (toNode 5 2).dst = false
      ∧ ((paired 2).setFld RTR_PAIR_LEASE_stale 0 0 1).flag RTR_PAIR_LEASE_stale = true
      ∧ (paired 2).flag RTR_PAIR_LEASE_stale = false ∧ (paired 2).fld RTR_PAIR_CTRL_role = 2
      ∧ (paired 2).ledgerFull (toNode 5 2).sized.length = false
      ∧ ((paired 2).setFld RTR_PAIR_HOLD_size_mib 0 0 0).ledgerFull (toNode 5 2).sized.length = true
      ∧ isJoined (toNode 5 2) false = false ∧ lfind (fun n : Nat × Nat => n.1 == 77) [(77, 0)] = some 0
      ∧ lfind (fun n : Nat × Nat => n.1 == 77) (paired 2).pair.notes = none
      ∧ (paired 1).fld RTR_PAIR_CTRL_role = 1 ∧ (paired 1).flag RTR_PAIR_LEASE_fenced = false
      ∧ (paired 1).flag RTR_PAIR_LEASE_solo = false
      ∧ ((paired 1).setFld RTR_PAIR_LEASE_solo 0 0 1).flag RTR_PAIR_LEASE_solo = true
      ∧ (base.setFld RTR_PAIR_CLONE_busy 0 0 1).flag RTR_PAIR_CLONE_busy = true ∧ base.pairRole ≠ 1 ∧ (paired 1).pairRole = 1
      ∧ memWf [(3, 4)] = true := by decide

theorem test_witness_PairSendsAndClones_source :
    let s := (paired 1).setFld RTR_PAIR_CLONE_busy 0 0 1
    s.flag RTR_PAIR_CLONE_busy = true ∧ s.pairRole = 1 ∧ s.quiesced = true
      ∧ (s.setTile 0 (running 0)).pairRole = 1 ∧ (s.setTile 0 (running 0)).quiesced = false := by decide +kernel

theorem test_witness_NotesAndAcks :
    let s := paired 2
    let n := epoch 8 4 100 0 0 [77] 0
    let a := epoch 8 6 100 0 0 [] 0
    let j := epoch 8 5 100 0 0 [77] 0
    let o : PairOut := ⟨77, 12, toNode 5 2, some 0, true, true, 0⟩
    base.fromPartner n = false ∧ s.fromPartner n = true ∧ epKind n = 4 ∧ epKeys n = [77] ∧ s.pair.stalled = []
      ∧ seqLe (epArg n % 65536) 0 = true ∧ seqLe (epArg n % 65536) s.pair.ackSeq = false
      ∧ epArg n % 65536 = (s.pair.ackSeq + 1) % 65536 ∧ s.pair.got = []
      ∧ lfind (fun h : PairHeld => h.key == 77) [held 77] = some 0
      ∧ lfind (fun h : PairHeld => h.key == 77) s.pair.hold = none ∧ s.noteFull = false
      ∧ (s.setFld RTR_PAIR_HOLD_size_mib 0 0 0).noteFull = true ∧ n.status ≠ 3
      ∧ epKind a = 6 ∧ s.flag RTR_PAIR_LEASE_solo = false ∧ s.flag RTR_PAIR_LEASE_fenced = false
      ∧ s.flag RTR_PAIR_LEASE_stale = false
      ∧ (s.setFld RTR_PAIR_LEASE_fenced 0 0 1).flag RTR_PAIR_LEASE_fenced = true
      ∧ epKind j = 5 ∧ epKeys j = [77] ∧ lfind (fun o : PairOut => o.key == 77 && o.needJoin) s.pair.out = none
      ∧ o.key = 77 ∧ o.needJoin = true ∧ o.acked = true ∧ epKind (epoch 8 8 100 0 0 [] 0) = 8
      ∧ [{ o with acked := false }].find? (fun o => o.seq == some 0 && !o.acked) = some { o with acked := false } := by
  decide

theorem test_witness_LeasesAndFailOver :
    let g := epoch 4 1 100 1 0 [] 50
    let b := epoch 4 3 100 32767 9 [] 0
    let r := sets [(RTR_RANK_TBL_valid, 1023, 1), (RTR_RANK_TBL_rank, 1023, 100), (RTR_PAIR_LEASE_valid, 0, 1)]
      (paired 1)
    (paired 1).fromArbiter (epoch 8 1 100 1 0 [] 50) = false ∧ (paired 2).fromArbiter g = true ∧ (paired 2).paired = true
      ∧ epKind g = 1 ∧ (paired 2).flag RTR_PAIR_LEASE_stale = false
      ∧ epochNewer (epEpoch g) ((paired 2).fld RTR_PAIR_LEASE_epoch) = true
      ∧ (paired 2).fld RTR_PAIR_CTRL_role = 2 ∧ (paired 1).fld RTR_PAIR_CTRL_role = 1
      ∧ r.fromArbiter b = true ∧ epKind b = 3 ∧ r.rankEntry (epRank b) = some 1023
      ∧ epochNewer (epEpoch b) (r.fld RTR_RANK_TBL_epoch 1023) = true
      ∧ (sets [(RTR_RANK_TBL_valid, 0, 1), (RTR_RANK_TBL_rank, 0, 100), (RTR_PAIR_CTRL_arbiter, 0, 4)] base).rankEntry 100 = some 0
      ∧ base.paired = false ∧ epRank b = r.rank ∧ epHolder b ≠ r.node ∧ r.holdsLease = true ∧ r.flag RTR_PAIR_LEASE_valid = true
      ∧ r.flag RTR_PAIR_LEASE_stale = false
      ∧ r.pairRole = 1 ∧ (r.setFld RTR_PAIR_LEASE_epoch 0 0 1).fld RTR_PAIR_LEASE_epoch ≠ 0
      ∧ (paired 2).pairRole = 2 ∧ [held 1] ≠ [] ∧ r.flag RTR_PAIR_LEASE_solo = false
      ∧ (⟨1, 12, toNode 5 2, some 0, false, false, 0⟩ : PairOut).seq.isSome = true
      ∧ r.flag RTR_PAIR_LEASE_fenced = false ∧ [(1, 1)] ≠ ([] : List (Nat × Nat)) := by decide

/-- Entry 511 as a member of an all-reduce of 16 bytes of FP32 with up node 9 and one child, node 10, in a state. -/
def member (st : Nat) : State :=
  sets [(FLD_CTRL_enable, 0, 1), (FLD_COLL_CFG_partition, 511, 1), (FLD_COLL_CFG_fmt, 511, 1),
    (FLD_COLL_CFG_out_fmt, 511, 1), (FLD_COLL_TREE_up, 511, 9), (FLD_COLL_TREE_n_children, 511, 1),
    (FLD_COLL_LEN_length, 511, 16), (FLD_COLL_LEN_trig_dom, 511, 1), (FLD_COLL_LEN_done_dom, 511, 2),
    (FLD_COLL_TRIG_trig_inc, 511, 1), (FLD_COLL_TREE_n_ranks_m1, 511, 2), (FLD_COLL_STAT_state, 511, st),
    (FUS_FP_UNIT_usable, foldUnit 3, 1)]
    ((windowed base).setReg .FLD_COLL_KIDS0 511 0 10)

theorem test_witness_CollectivesSetUpAndEnd :
    let s := member fsReady
    let c := { member fsFree with commits := [511] }
    let r := { member fsRunning with fold := [(511, { FoldEntry.empty with done := [(0, 0)], released := true })] }
    s.fDone 511 < 1024 ∧ (member fsFree).fstate 511 = fsFree ∧ (member fsRefused).fstate 511 = fsRefused
      ∧ 511 ∉ s.commits ∧ s.commits = [] ∧ r.commits = [] ∧ 511 ∈ c.commits ∧ c.commits.head? = some 511 ∧ c.flag FLD_CTRL_enable = true ∧ (c.fCheck 511).1 = 0
      ∧ ((c.setFld FLD_COLL_CFG_depth 511 0 1).fCheck 511).1 ≠ 0
      ∧ s.fRunning 511 = false ∧ s.fld FLD_STORE_free_kib + s.fld FLD_COLL_STAT_claimed_kib 511 < 2 ^ 15
      ∧ r.fRunning 511 = true ∧ (r.foldE 511).aborted ≠ some (r.fInstance 511)
      ∧ s.fstate 511 = fsReady ∧ (s.fInstance 511 + 1) % 2 ^ 32 % 65536 ∉ (s.foldE 511).faults
      ∧ (s.fInstance 511 + 1) % 2 ^ 32 % 65536 ∈ { FoldEntry.empty with faults := [1] }.faults
      ∧ s.reached (s.fld FLD_COLL_LEN_trig_dom 511) (s.fld FLD_COLL_TRIG_next_expect 511) = true
      ∧ s.fOp 511 ≠ 6 ∧ s.fRoot 511 = false ∧ 0 < s.fDue 511 ∧ s.flag FLD_COLL_STAT_endpoint 511 = false ∧ r.foldComplete 511 = true
      ∧ (let a := sets [(FLD_COLL_CFG_op, 511, 1), (FLD_COLL_CFG_eager, 511, 1)] r
         a.fRunning 511 = true ∧ a.fEager 511 = true ∧ a.fOp 511 = 1 ∧ a.fChunks 511 = 1
          ∧ (a.placeChunk 511 0 0).2.2 ≠ 0 ∧ (a.foldE 511).done = [(0, 0)]) := by decide +kernel

/-- A chunk with its check word, and one without. -/
def chunk : FoldChunk := ⟨0, 0, List.replicate 16 5, crc32c (List.replicate 16 5), 0, false⟩
def badChunk : FoldChunk := { chunk with crc := 0 }

/-- A FOLD_DATA packet of kind `k` from node `src` with a check word. -/
def foldPkt (src k crc : Nat) : Packet :=
  { pkt tFOLD_DATA ([BitVec.ofNat 64 (k <<< 54), BitVec.ofNat 64 crc] ++ List.replicate 2 0x0505050505050505) with src := src }

theorem test_witness_ChunksMoveAlongTheTree :
    let s := { member fsRunning with fold := [(511, { FoldEntry.empty with flows := [(0, ⟨1, 0, [chunk], [chunk]⟩), (1, ⟨1, 0, [], [badChunk]⟩)] })] }
    s.fCommitted 511 = true ∧ s.paired = false ∧ s.fTarget 511 0 = true ∧ (s.flow 511 0).credit ≠ 0
      ∧ (s.flow 511 0).ready = [chunk] ∧ (s.flow 511 0).kept = [chunk] ∧ chunk.tries < s.fld FLD_CTRL_resend_max
      ∧ s.foldUnits = true ∧ base.foldUnits = false ∧ s.kindOf 511 0 ≠ 1 ∧ chunk.good = true ∧ TakenUp (foldPkt 10 0 0) s ∧ s.foldClosed 1 = false
      ∧ ((s.foldE 511).late.find? fun l => l.dest == 0) = none ∧ s.kindOf 511 1 = 1 ∧ badChunk.good = false
      ∧ (s.flow 511 1).kept = [badChunk] ∧ badChunk.tries < s.fld FLD_CTRL_resend_max
      ∧ ([⟨4, 0, chunk⟩] : List LateChunk).find? (fun l => l.dest == 0) = some ⟨4, 0, chunk⟩
      ∧ (foldPkt 10 0 0).status = 0
      ∧ s.foldEntryOf 1 (fdColl (foldPkt 10 0 0)) = some 511 ∧ fdInstance (foldPkt 10 0 0) = s.fInstance 511 % 65536
      ∧ s.kindFits 511 (foldPkt 10 0 0) = true ∧ s.fRunning 511 = true ∧ s.fRoot 511 = false
      ∧ fdKind (foldPkt 10 0 0) = 0 ∧ s.fOp 511 ≤ 1 ∧ 0 < s.fDue 511 ∧ (s.foldE 511).done = []
      ∧ (⟨0, 0, (bytesOfWords ((foldPkt 10 0 chunk.crc).body.drop 2)).take (s.chunkBytesDue 511 0 0),
          fdCrc (foldPkt 10 0 chunk.crc), 0, false⟩ : FoldChunk).good = true
      ∧ (⟨0, 0, (bytesOfWords ((foldPkt 10 0 0).body.drop 2)).take (s.chunkBytesDue 511 0 0), 0, 0, false⟩ : FoldChunk).good = false
      ∧ (s.foldE 511).partials = [] ∧ (s.foldE 511).next ≤ fdChunk (foldPkt 10 0 0) := by
  unfold TakenUp; decide +kernel

theorem test_witness_ChunksMoveAlongTheTree_result :
    let s := (member fsRunning).setFld FLD_COLL_CFG_eager 511 0 1
    let p := { foldPkt 9 1 0 with body := [BitVec.ofNat 64 (1 <<< 54), BitVec.ofNat 64 chunk.crc] ++ List.replicate 2 0x0505050505050505 }
    fdKind p = 1 ∧ s.fEager 511 = true ∧ s.kindFits 511 p = true
      ∧ (⟨0, 0, (bytesOfWords (p.body.drop 2)).take (s.chunkBytesDue 511 0 1), fdCrc p, 0, false⟩ : FoldChunk).good = true
      ∧ TakenUp p s ∧ p.status = 0 ∧ s.hbmOn = true
      ∧ (s.foldE 511).done = [] ∧ memWf s.mem = true
      ∧ gaSpace (bitsOf (s.reg .FLD_COLL_DST 511) 47 0 + (s.placeChunk 511 0 0).1) = 0 ∧ s.hbmUe = []
      ∧ (s.combineChunk 511 0 []).isSome = false
      ∧ ({ s with fold := [(511, { FoldEntry.empty with partials := [(0, chunk)] })] }.combineChunk 511 0 []).isSome = true := by
  unfold TakenUp; decide +kernel

/-- A FOLD_CTRL packet of a message from node `src`. -/
def foldCtrl (src msg arg : Nat) : Packet := { pkt tFOLD_CTRL [BitVec.ofNat 64 (msg <<< 32), BitVec.ofNat 64 arg] with src := src }

theorem test_witness_FoldMessages :
    let s := { member fsRunning with fold := [(511, { FoldEntry.empty with flows := [(0, ⟨1, 0, [], [chunk]⟩)] })] }
    s.staleFor (foldCtrl 9 1 0) = false ∧ (member fsFree).ctrlEntry (foldCtrl 9 1 0) fmCredit = none
      ∧ { s with chipReset := true }.foldClosed 1 = true
      ∧ s.ctrlEntry (foldCtrl 9 fmCredit 1) fmCredit = some (511, 0) ∧ (s.foldE 511).owed = [] ∧ s.fUp 511 = 9
      ∧ (let a := { member fsRunning with fold := [(511, { FoldEntry.empty with flows := [(1, ⟨0, 0, [], [chunk]⟩)], owed := [(9, 0, 0)] })] }
         a.ctrlEntry (foldCtrl 10 fmCredit 1) fmCredit = some (511, 1) ∧ (a.foldE 511).owed = [(9, 0, 0)] ∧ a.fKids 511 = 1
          ∧ (a.flow 511 1).ready = [] ∧ (a.flow 511 1).kept.length ≤ (foldCtrl 10 fmCredit 1).word 3 % 2 ^ 32)
      ∧ s.ctrlEntry (foldCtrl 9 fmResend 0) fmResend = some (511, 0)
      ∧ (s.flow 511 0).kept.find? (fun c => c.chunk == (foldCtrl 9 fmResend 0).word 3 % 2 ^ 22) = some chunk
      ∧ chunk.tries < s.fld FLD_CTRL_resend_max ∧ s.kindOf 511 0 ≠ 1 ∧ s.paired = false
      ∧ s.ctrlEntry (foldCtrl 10 fmConfirm 0) fmConfirm = some (511, 1) ∧ s.fEager 511 = false
      ∧ (s.foldE 511).confirms = [] ∧ (s.foldE 511).done.length < s.fDue 511
      ∧ s.ctrlEntry (foldCtrl 9 fmRelease 0) fmRelease = some (511, 0) ∧ isTreeOp (s.fOp 511) = true
      ∧ s.fRunning 511 = true ∧ s.foldClosed 1 = false ∧ fcMsg (foldCtrl 10 fmFault 0) = fmFault
      ∧ s.foldEntryOf 1 0 = some 511 ∧ (s.fNeighbours 511).contains 10 = true ∧ (s.foldE 511).faults = []
      ∧ (member fsReady).ctrlEntry (foldCtrl 9 fmAbort 0) fmAbort = some (511, 0) ∧ (member fsReady).fRunning 511 = false
      ∧ (foldCtrl 9 1 0).status ≠ 3 ∧ s.ctrlEntry (foldCtrl 9 fmAbort 0) fmAbort = some (511, 0) ∧ (s.foldE 511).aborted = none
      ∧ s.flag GI_CD_err (s.fDone 511) = false ∧ s.flag FLD_FAULT_LOG_valid = false := by decide +kernel

/-- Tile 0 with slot 0 in a state. -/
def slot0 (st : SlotState) : Tile := { Tile.reset with slots := slotOf st 0 0 :: List.replicate 31 Slot.empty }

/-- A state with the watch actions set and the time far past every window. -/
def watched (act : Nat) (x : Tile) : State :=
  { sets [(MGT_WATCH_ACT_ctx, 0, act), (MGT_WATCH_ACT_eng, 0, act), (MGT_WATCH_ACT_part, 0, act), (MGT_WATCH_ACT_chip, 0, act)] (on x)
    with now := 10 ^ 12 }

/-- A state with one running reset. -/
def resetting (level unit : Nat) (s : State) : State :=
  { s with recovery := { s.recovery with running := [⟨level, unit, 0, 0⟩] } }

theorem test_witness_WatchAndDumps_watch :
    { watched 1 (slot0 .run) with power := { Power.reset with parked := true } }.parked = true
      ∧ (watched 0 (slot0 .run)).watchAct 4 = 0 ∧ (watched 1 (slot0 .free)).expects (.slot 0 0) = false
      ∧ (watched 1 (slot0 .run)).parked = false ∧ (watched 1 (slot0 .run)).watchAct 1 = 1
      ∧ (∀ w ∈ [WatchUnit.slot 0 0, .paddock 0, .heartbeat 34],
          (watched 1 (slot0 .run)).expects w = true ∧ (watched 1 (slot0 .run)).watchAct w.level = 1
            ∧ (watched 1 (slot0 .run)).watchStart w + (watched 1 (slot0 .run)).watchWindow w.level ≤ (watched 1 (slot0 .run)).now)
      ∧ (watched 1 { slot0 .run with tokq := [⟨Packet.blank, 0, 0⟩] }).expects (.engine 0 7) = true
      ∧ (((watched 1 (slot0 .run)).tile 0).slot 0).state = .run
      ∧ (watched 2 (slot0 .ready)).expects (.slot 0 0) = true ∧ (watched 2 (slot0 .ready)).watchAct 1 ≠ 0
      ∧ (((watched 2 (slot0 .ready)).tile 0).slot 0).state = .ready
      ∧ (watched 2 (slot0 .run)).watchAct 1 = 2 ∧ (watched 2 (slot0 .run)).covers 1 0 = false
      ∧ ((watched 2 (slot0 .run)).tile 0).slots.length = 32 ∧ base.recovery.winAt.length = 4
      ∧ ((resetting 3 0 (watched 3 Tile.reset)).runningReset 3 0).isSome = true ∧ (watched 3 Tile.reset).watchAct 3 = 3
      ∧ (∀ j ∈ (resetting 3 0 base).recovery.waiting ++ (resetting 3 0 base).recovery.running, j.level < 4)
      ∧ (base.setFld FWU_DUMP_CTRL_enable 0 0 0).flag FWU_DUMP_CTRL_enable = false ∧ base.recovery.dumping = none
      ∧ base.padOfTile 0 = some 0 := by decide

theorem test_witness_WatchAndDumps_dumps :
    let s := sets [(FWU_DUMP_CTRL_enable, 0, 1), (FWU_DUMP_STAT_held, 0, 1), (FWU_DUMP_CTRL_to_flash, 0, 1)] base
    let d : DumpJob := ⟨0, 0, [], 0, 0, []⟩
    let r := { base with recovery := { Recovery.reset with dumping := some d } }
    s.recovery.dumping = none ∧ s.flag FWU_DUMP_CTRL_enable = true ∧ s.dumpHeld = true
      ∧ (base.setFld FWU_DUMP_CTRL_enable 0 0 1).dumpHeld = false ∧ r.recovery.dumping = some d
      ∧ (∀ m ∈ d.missed, m.1 ≠ unitOf 0) ∧ r.recovery.waiting = [] ∧ s.flag FWU_DUMP_CTRL_to_flash = true
      ∧ s.fld FWU_DUMP_PTR_offset + 8 < 2 ^ 23 := by decide

theorem test_witness_ResetRequests :
    (resetting 4 0 base).covers 4 0 = true ∧ base.tileUsable 1 = true ∧ base.covers 1 (1 * 32 + 31) = false
      ∧ (base.tile 1).slots.length = 32
      ∧ (∀ st ∈ [SlotState.run, .wait, .ready], (((on (slot0 st)).tile 0).slot 0).state = st)
      ∧ base.covers 2 (1 * 8 + 1) = false ∧ base.flag GI_PAD_CFG_valid 0 = true ∧ base.covers 3 0 = false
      ∧ base.covers 4 0 = false ∧ base.covers 5 0 = false ∧ memWf base.mem = true := by decide

/-- A PEER_STATE packet: source, kind, level and node. -/
def peer (src kind level node : Nat) : Packet :=
  { pkt tPEER_STATE [BitVec.ofNat 64 (kind + level <<< 3 + node <<< 18), 0] with src := src }

theorem test_witness_ResetsEndAndNotices :
    (∀ e ∈ [Engine.sequencer, .dma], e ∈ ((on { Tile.reset with inReset := [.sequencer, .matrix, .vector, .dma] }).tile 0).inReset)
      ∧ base.chipReset = false ∧ base.tileUsable 0 = true ∧ base.padOfTile 0 = some 0 ∧ 0 ∉ base.padReset
      ∧ (resetting 3 7 base).runningReset 3 7 = some ⟨3, 7, 0, 0⟩
      ∧ { base with recovery := { Recovery.reset with pcWaits := true } }.recovery.pcWaits = true
      ∧ { base with recovery := { Recovery.reset with pcSent := true } }.recovery.pcSent = true
      ∧ base.mgmt.update.proving = none
      ∧ (∀ k ∈ [3, 4], psKind (peer 0 k 0 9) = k ∧ psNode (peer 0 k 0 9) ≠ routed.node
          ∧ (peer 0 k 0 9).src = routed.fld RTR_HEFT_CTRL_fm_node ∧ (peer 6 k 0 9).src ≠ routed.fld RTR_HEFT_CTRL_fm_node
          ∧ psNode (peer 0 k 0 3) = routed.node ∧ psNode (peer 0 k 0 9) < 2 ^ 16 ∧ psLevel (peer 0 k 0 9) ≠ 3) := by decide

/-- A state at a step of the boot. -/
def booting (n : Nat) : State := { base with boot := { Boot.reset with step := n } }

theorem test_witness_BootStepsRun :
    { base with boot := { Boot.reset with recovery := true } }.boot.recovery = true
      ∧ { base with tray := { Tray.on with good := false } }.tray.good = false
      ∧ (∀ n ∈ [1, 2, 3, 4, 5, 6, 7, 8, 10], (booting n).boot.recovery = false ∧ (booting n).tray.good = true
          ∧ (booting n).boot.step = n)
      ∧ (booting 2).bootSlot 1 = none ∧ (booting 3).siSelect.2.2 = 0
      ∧ ((booting 4).setFld FUS_SI_STAT_source 0 0 3).fld FUS_SI_STAT_source = 3 ∧ (booting 4).settingsSlot = none
      ∧ (booting 5).trainingEnded = true ∧ ((booting 5).setFld FUS_FP_UNIT_fused_on 0 0 1).trainingEnded = false
      ∧ (∀ p ∈ (booting 7).boot.ports, p < 8) ∧ (booting 6).chipReset = false ∧ (booting 6).boot.enable = []
      ∧ (∀ n ∈ [3, 6, 8], { booting n with chipReset := true }.chipReset = true ∧ (booting n).recovery.reload = none
          ∧ { booting n with chipReset := true }.trainingEnded = true ∧ (booting n).boot.enable = []) := by decide

theorem test_witness_UnitsGoOffAndOn :
    let c := { base.setFld FUS_STAT_kat_done 0 0 1 with chipReset := true }
    base.flag FUS_STAT_kat_done = false ∧ c.chipReset = true ∧ c.flag FUS_STAT_kat_done = true
      ∧ c.recovery.pcSent = false ∧ c.recovery.pcWaits = false ∧ c.flag MGT_RST_STAT_stuck = false
      ∧ (base.setFld FUS_FP_TILE_fused_on 143 0 1).flag FUS_FP_TILE_fused_on 143 = true
      ∧ (base.setFld FUS_FP_UNIT_fused_on (portUnit 7) 0 1).flag FUS_FP_UNIT_fused_on (portUnit 7) = true
      ∧ (base.setFld FUS_FP_UNIT_fused_on (foldUnit 3) 0 1).flag FUS_FP_UNIT_fused_on (foldUnit 3) = true
      ∧ (resetting 4 0 base).covers 4 0 = true ∧ base.covers 4 0 = false
      ∧ (base.setFld FWU_DUMP_CTRL_enable 0 0 0).flag FWU_DUMP_CTRL_enable = false ∧ base.recovery.dumping = none
      ∧ base.siSelect.2.2 = 0 := by decide

/-- Receive entry 7 armed for session 5 of node 9 with two blocks at HBM offset 0. -/
def mustered : State := sets [(FUS_MUSTER_RX_CFG_valid, 7, 1), (FUS_MUSTER_RX_CFG_session, 7, 5),
  (FUS_MUSTER_RX_CFG_originator, 7, 9), (FUS_MUSTER_RX_CFG_total_m1, 7, 1)] (windowed base)

/-- A MUSTER packet of node 9, session 5: kind, index, check word and payload. -/
def muster (kind index crc : Nat) (ws : List Word64) : Packet :=
  { pkt tMUSTER ([BitVec.ofNat 64 (5 + kind <<< 16 + index <<< 20), BitVec.ofNat 64 crc] ++ ws) with src := 9 }

theorem test_witness_MusterReceives :
    let p := muster 0 0 (crc32c (bytesOfWords [1, 2])) [1, 2]
    p.status ≠ 3 ∧ { p with status := 3 }.status = 3 ∧ mustered.rxEntry p = some 7 ∧ (windowed base).rxEntry p = none ∧ muCrc p = crc32c (muPayload p)
      ∧ (muPayload p).length ≤ 4096 ∧ muIndex p < mustered.fld FUS_MUSTER_RX_CFG_total_m1 7 + 1
      ∧ mustered.flag FUS_MUSTER_RX_STAT_closed 7 = false ∧ mustered.hbmOn = true ∧ mustered.chipReset = false
      ∧ mustered.rxWindow p 0 16 = true ∧ muCrc (muster 0 0 0 [1, 2]) ≠ crc32c (muPayload (muster 0 0 0 [1, 2]))
      ∧ mustered.gotBlocks 7 = [] ∧ 0 ∈ { mustered with muster := { Muster.reset with got := [(7, [0])] } }.gotBlocks 7
      ∧ mustered.fld FUS_MUSTER_RX_BASE_base 7 = 0 ∧ mustered.hbmUe = [] ∧ mustered.fld FUS_MUSTER_RX_CFG_total_m1 7 < 32768
      ∧ mustered.flag FUS_MUSTER_RX_STAT_complete 7 = false
      ∧ (mustered.setFld FUS_MUSTER_RX_STAT_complete 7 0 1).flag FUS_MUSTER_RX_STAT_complete 7 = true
      ∧ (mustered.setFld FUS_MUSTER_RX_CFG_kind 7 0 1).flag FUS_MUSTER_RX_CFG_kind 7 = true := by decide +kernel

/-- A muster session that waits for its receivers. -/
def sending (missing : List (Nat × List Nat)) (unanswered : List Nat) : State :=
  { base.setFld FUS_MUSTER_TX_CFG_session 0 0 5 with muster := { Muster.reset with tx := some ⟨missing, unanswered, unanswered⟩ } }

theorem test_witness_MusterSends :
    let p := muster 1 0 (crc32c (bytesOfWords [1, 2])) [1, 2]
    (base.setFld FUS_MUSTER_TX_STAT_busy 0 0 1).flag FUS_MUSTER_TX_STAT_busy = true ∧ base.flag FUS_MUSTER_TX_STAT_busy = false
      ∧ (base.setFld FUS_MUSTER_TX_LIST_count 0 0 1).receivers.1 = [0] ∧ base.receivers.1 = []
      ∧ (base.setFld FUS_SI_STAT_source 0 0 3).fld FUS_SI_STAT_source = 3 ∧ base.fld FUS_SI_STAT_source ≠ 3 ∧ base.muster.tx = none
      ∧ (sending [(9, [0])] [9, 8]).muster.tx = some ⟨[(9, [0])], [9, 8], [9, 8]⟩
      ∧ muSession p = (sending [(9, [0])] [9, 8]).fld FUS_MUSTER_TX_CFG_session ∧ p.src ∈ [9, 8]
      ∧ muCrc p = crc32c (muPayload p) ∧ (8 : Nat) ≠ p.src ∧ p.src ∉ [8]
      ∧ muSession p ≠ base.fld FUS_MUSTER_TX_CFG_session ∧ 7 ∉ [9, 8]
      ∧ (sending [(9, [])] [9]).muster.tx = some ⟨[(9, [])], [9], [9]⟩
      ∧ ([(9, [])] : List (Nat × List Nat)).all (fun e => e.2.isEmpty) = true
      ∧ [(9, [0])].all (fun e => e.2.isEmpty) = false ∧ base.fld FUS_MUSTER_TX_STAT_round < 3
      ∧ 3 ≤ (base.setFld FUS_MUSTER_TX_STAT_round 0 0 3).fld FUS_MUSTER_TX_STAT_round := by decide +kernel

theorem test_witness_LoopsAndTemperatures :
    let w := { on (slot0 .wait) with power := { Power.reset with former := [(0, 100)] } }
    let f := (on (waits0 .cwait 0)).setFld PWR_CTRL_mode 0 0 2
    base.tileUsable 0 = true ∧ (w.tile 0).idleWait = true ∧ w.parked = false ∧ aget base.power.former 0 = none
      ∧ (w.setFld PWR_CTRL_mode 0 0 2).fld PWR_CTRL_mode = 2 ∧ ((at0 0).tile 0).idleWait = false
      ∧ ((at0 0).tile 0).longWait = false ∧ aget w.power.former 0 = some 100
      ∧ { base with power := { Power.reset with parked := true } }.parked = true
      ∧ f.fld PWR_CTRL_mode = 2 ∧ (f.tile 0).longWait = true ∧ base.fld PWR_CTRL_mode ≠ 2
      ∧ ((f.onTile 0 Tile.dwell).tile 0).dwelt = true ∧ ((at0 0).tile 0).dwelt = false
      ∧ { base with power := { Power.reset with burst := true } }.power.burst = true
      ∧ (aget base.power.former 0).getD (base.fld PWR_TILE_f_now 0) = base.fld PWR_TILE_f_now 0
      ∧ readingOk 150 = true ∧ readingOk (-20) = true ∧ readingOk 151 = false ∧ (base.spot 143).suspect = false := by decide

theorem test_witness_ParkAndFastThrottle :
    let s := sets [(PWR_STAT_ft_n, 0, 1), (PWR_FT_CFG_hold_park_ms, 0, 5)] base
    let p := { base with power := { Power.reset with parked := true } }
    s.flag PWR_STAT_ft_n = true ∧ s.fld PWR_FT_CFG_hold_park_ms ≠ 0 ∧ s.tray.good = true ∧ base.flag PWR_STAT_ft_n = false
      ∧ { base with power := { Power.reset with burst := true } }.power.burst = true
      ∧ base.parked = false ∧ p.parked = true ∧ p.fld PWR_STAT_park_reasons = 0 ∧ p.tray.releasing = false
      ∧ (p.setFld PWR_STAT_park_reasons 0 0 16).fld PWR_STAT_park_reasons ≠ 0
      ∧ 450 < min p.capW (p.fld PWR_COOL_flow_limit_w) ∧ s.brakeW < min s.capW (s.fld PWR_COOL_flow_limit_w) := by decide

theorem test_witness_LimitsAndModes :
    base.power.burst = false ∧ { base with power := { Power.reset with burst := true } }.power.burst = true
      ∧ base.power.limited < 128 ∧ base.power.pace < 65536
      ∧ (base.setFld FUS_FP_TILE_fused_on 143 0 1).flag FUS_FP_TILE_fused_on 143 = true
      ∧ base.fld FUS_FP_TILE_fmax_now 143 - 17 < 120 := by decide

theorem test_witness_InterruptControllers_tile :
    let s := sets [(TIC_ENABLE_enable, 143, 2 ^ 17), (TL_LMON_STAT_alarm, 143, 1)] base
    (base.setTile 143 { Tile.reset with inReset := [.dma] }).tileInReset 143 = true ∧ s.tileInReset 143 = false
      ∧ s.ticPend 143 63 = false ∧ s.ticPend 143 17 = true := by decide

/-- Source 0 pending at priority 9. -/
def sourced : State :=
  sets [(MGT_EVT_BADACC_valid, 0, 1), (CIC_SRC_enable, 0, 1), (CIC_SRC_prio, 0, 9), (CIC_CTRL_enable, 0, 1)] base

/-- The same with the source sent to the host. -/
def toHost : State := { sourced.setFld CIC_SRC_host 0 0 1 with pcie := ⟨true, true, false⟩ }

/-- Core 3 in service of source 700. -/
def serving : State := { sourced.setFld CIC_INSVC_bits 10 0 (2 ^ 60) with
  cores := [MgtCore.reset, MgtCore.reset, MgtCore.reset, { MgtCore.reset with insvc := [(700, 5)] }] }

theorem test_witness_InterruptControllers_chip :
    sourced.cores.length = 4 ∧ sourced.cicCandidate 0 0 = true ∧ (serving.core 3).insvc.length < 8
      ∧ sourced.mgmt.update.proving = none
      ∧ sourced.flag CIC_CTRL_enable = true ∧ base.flag CIC_CTRL_enable = false ∧ base.cicInsvc 1023 = false
      ∧ serving.cicInsvc 700 = true ∧ serving.onCore 700 = true
      ∧ (sourced.setFld CIC_INSVC_bits 15 0 (2 ^ 63)).cicInsvc 1023 = true ∧ sourced.onCore 1023 = false
      ∧ toHost.cicPresentable 0 = true ∧ toHost.flag CIC_SRC_host 0 = true ∧ toHost.pcie.msixEnable = true
      ∧ (toHost.setFld CIC_MSIX_DATA_mask 0 0 0).vectorMasked 0 = false ∧ toHost.vectorMasked 0 = true := by decide

/-- The best source of a core, in the state of the witness above. -/
theorem test_witness_InterruptControllers_best :
    sourced.cicBest 0 = some 0 ∧ base.cicBest 3 = none := by decide +kernel

/-- A tag record of eight words. -/
def tag : List Word64 := [1, 2, 3, 4, 5, 6, 7, 8]

theorem test_witness_TallyTagsMonitors :
    let s := sets [(TL_TAG_CTRL_enable, 0, 1), (GI_PAD_TAG_enable, 0, 1), (GI_PAD_TAG_pages, 0, 1),
      (TL_TALLY_CNT_count, 0, 2 ^ 48 - 1), (TL_LMON_CFG_enable, 143, 1), (TL_LMON_CFG_src, 143, 2)] (windowed (at0 0))
    let q := s.setTile 0 { running 0 with tagQueue := [tag, tag] }
    s.fld TL_TALLY_CFG_mode 0 0 = 0 ∧ s.flag TL_TALLY_CFG_filt 0 0 = false ∧ s.fld TL_TALLY_CNT_count 0 0 + 0 < 2 ^ 48
      ∧ (s.meter 0).left = 0 ∧ (s.onMeter 0 fun m => { m with left := 5 }).meter 0 ≠ s.meter 0
      ∧ 2 ^ 48 ≤ s.fld TL_TALLY_CNT_count 0 0 + 1 ∧ base.seqActive 0 = false ∧ base.flag TL_TAG_CTRL_enable 0 = false
      ∧ s.seqActive 0 = true ∧ s.flag TL_TAG_CTRL_enable 0 = true ∧ (s.tile 0).fetch (s.tile 0).pc.toNat = some 0
      ∧ (s.tile 0).tagQueue.length < 2 ∧ 2 ≤ (q.tile 0).tagQueue.length ∧ base.nextTag = none ∧ q.nextTag = some 0
      ∧ (q.tile 0).tagQueue = [tag, tag] ∧ q.padOfTile 0 = some 0 ∧ base.flag GI_PAD_TAG_enable 0 = false
      ∧ q.flag GI_PAD_TAG_enable 0 = true ∧ q.fld GI_PAD_TAG_pages 0 ≠ 0
      ∧ (q.fld GI_PAD_TAGPTR_wr 0 + 2 ^ 24 - q.fld GI_PAD_TAGPTR_rd 0) % 2 ^ 24 ≠ 64 * q.fld GI_PAD_TAG_pages 0 % 2 ^ 24
      ∧ q.hbmOn = true ∧ (q.setFld HBM_ILV_CTRL_state 0 0 0).hbmOn = false
      ∧ q.windowOk 0 (q.fld GI_PAD_TAG_base 0 * 4096) (q.fld GI_PAD_TAG_pages 0 * 4096) true = true
      ∧ q.fld GI_PAD_TAG_base 0 * 4096 + q.fld GI_PAD_TAG_pages 0 * 4096 ≤ 2 ^ 40 ∧ tag.length = 8 ∧ memWf q.mem = true
      ∧ (Monitor.tile 143).valid = true ∧ bitAt (s.reg .TL_LMON_CFG 143) 26 = true ∧ bitAt (base.reg .TL_LMON_CFG 143) 26 = false
      ∧ s.monValue (.tile 143) 77 = some 0 := by decide

/-- The base state with management firmware up. -/
def up : State := { base with boot := { Boot.reset with step := 11 }, mgmt := { Mgmt.reset with i3c := (9, 10) } }

/-- A message of the vendor's type with an unknown command. -/
def vendorMsg : List Byte := [0x7E] ++ bytesOf 2 Config.vendorId.toNat ++ [0x55, 0, 0]

/-- Its vendor ID reads back. -/
theorem vendorMsg_vendor : ofBytes (slice vendorMsg 1 2) = Config.vendorId.toNat := by
  have h : Config.vendorId.toNat < 65536 := Config.vendorId.isLt
  show ofBytes (bytesOf 2 Config.vendorId.toNat) = _
  simp only [bytesOf, ofBytes, BitVec.toNat_ofNat]
  omega

theorem test_witness_ManagementBuses :
    let p := { up with mgmt := { up.mgmt with part := [(1, 8, 3, [0x7E])] } }
    let q := { up with mgmt := { up.mgmt with inbox := List.replicate 8 (1, 8, 3, []) } }
    let control : List Byte := [0, 0x80, 2]
    let pldm : List Byte := [1, 0x80, 5, 0x1B]
    base.serves 1 = false ∧ up.serves 1 = true ∧ up.serves 0 = true ∧ mctpLimit 1 < (List.replicate 65 (0 : Byte)).length
      ∧ up.mgmt.part.find? (partIs 1 8 3) = none ∧ (List.replicate 64 (0 : Byte)).length ≤ mctpLimit 1
      ∧ ((up.mgmt.part ++ up.mgmt.inbox).filter fun e => e.1 == 1 && e.2.1 == 8).length < 8
      ∧ 8 ≤ ((q.mgmt.part ++ q.mgmt.inbox).filter fun e => e.1 == 1 && e.2.1 == 8).length ∧ q.serves 1 = true
      ∧ p.mgmt.part.find? (partIs 1 8 3) = some (1, 8, 3, [0x7E]) ∧ (lget control 0 0).toNat = 0
      ∧ 128 ≤ (lget control 1 0).toNat ∧ (lget control 2 0).toNat ∈ [0x01, 0x02, 0x04, 0x05, 0x06]
      ∧ (lget ([0, 0x80, 3] : List Byte) 2 0).toNat ∉ [0x01, 0x02, 0x04, 0x05, 0x06]
      ∧ (lget pldm 0 0).toNat = 1 ∧ (lget pldm 2 0).toNat % 64 = 5
      ∧ (lget pldm 3 0).toNat ∈ [0x01, 0x02, 0x10, 0x13, 0x14, 0x1A, 0x1B, 0x1C, 0x1D]
      ∧ (lget ([1, 0x80, 0, 4] : List Byte) 2 0).toNat % 64 = 0 ∧ (lget ([1, 0x80, 3] : List Byte) 2 0).toNat % 64 = 3
      ∧ (lget ([1, 0] : List Byte) 1 0).toNat < 128 ∧ bodyLength 0x03 = some (7 - 6)
      ∧ 2 ≤ (lget ([5] : List Byte) 0 0).toNat % 128 ∧ up.boot.recovery = false
      ∧ { base with tray := { Tray.on with good := false, mate := 0 } }.auxOn = false ∧ base.auxOn = true
      ∧ base.tray.good = true ∧ { base with tray := { Tray.on with good := false } }.tray.good = false := by decide

theorem test_witness_ManagementBuses_unknown :
    6 ≤ vendorMsg.length ∧ (lget vendorMsg 0 0).toNat = 0x7E ∧ ofBytes (slice vendorMsg 1 2) = Config.vendorId.toNat
      ∧ bitAt (lget vendorMsg 4 0).toNat 0 = false ∧ bodyLength (lget vendorMsg 3 0).toNat = none :=
  ⟨by decide, rfl, vendorMsg_vendor, by decide, by decide⟩

theorem test_witness_HalducCommands :
    let busy := { up with mgmt := { up.mgmt with signing := [⟨1, 0, 0, []⟩] } }
    up.serves 1 = true ∧ up.serves 0 = true ∧ up.boot.recovery = false
      ∧ { base with boot := { Boot.reset with recovery := true } }.boot.recovery = true
      ∧ { base with boot := { Boot.reset with recovery := true } }.serves 0 = true ∧ busy.serves 1 = true
      ∧ (∃ j ∈ busy.mgmt.signing, j.binding = 1) ∧ up.mgmt.signing = [] ∧ (up.setFld FWU_SLOT_in_use 2 1 1).slotInUse 3 = some 1
      ∧ (up.setFld FUS_SI_STAT_source 0 0 2).fld FUS_SI_STAT_source = 1 + 1 ∧ isSetting 6 = true ∧ isSetting 7 = false
      ∧ isSetting 0 = false ∧ up.flash.settings.length = 2 ∧ (List.replicate 32 (0 : Byte)).length = 32 := by decide

/-- An update by requester 0 on I3C, in the given state of FWU_STAT. -/
def updating (state : Nat) (u : Update) : State :=
  { up.setFld FWU_STAT_state 0 0 state with mgmt := { up.mgmt with update := { u with agent := some (1, 0) } } }

/-- An update of component 2 with a container of one block of one byte announced. -/
def upd : Update := { Update.none with component := 2, mts := 512, size := 145 }

/-- A container header whose payload is `n` bytes in `k` blocks. -/
def header (n k : Nat) : List Byte := bytesOf 8 0 ++ bytesOf 8 (n + k <<< 32) ++ List.replicate 112 0

/-- A container of one block of one byte, with the block's check value given. -/
def oneBlock (crc : Nat) : List Byte := header 1 1 ++ ([7] : List Byte) ++ bytesOf 16 (1 <<< 32 + crc <<< 64)

/-- Its bytes are the whole first block. -/
theorem test_witness_FirmwareTransfers_data :
    let x := oneBlock (crc32c [7])
    let y := oneBlock 0
    fwPieceAt 0 + blockSize x 0 ≤ x.length ∧ 0 < fwBlocks x ∧ fwPieceOk x 0 = true ∧ fwBlocks x = 0 + 1
      ∧ upd.size ≤ x.length ∧ fwPieceAt 0 + blockSize y 0 ≤ y.length ∧ 0 < fwBlocks y ∧ fwPieceOk y 0 = false
      ∧ (upd.bytes ++ x.take upd.want.2) = x ∧ (upd.bytes ++ y.take upd.want.2) = y
      ∧ (header 1 1).length < upd.size ∧ ¬ (fwPieceAt 0 + blockSize (header 1 1) 0 ≤ (header 1 1).length) := by
  decide +kernel

theorem test_witness_FirmwareTransfers :
    let asked := { up with mgmt := { up.mgmt with inbox := [(0, 7, 0, []), (1, 8, 0, [])] } }
    base.serves 1 = false ∧ up.serves 1 = true ∧ up.fuse.variant = 0x0C ∧ asked.asker 1 = (1, 8) ∧ asked.asker 0 = (0, 7)
      ∧ { up with fuse := { up.fuse with variant := 8 } }.fuse.variant = 0x08
      ∧ (up.setFld FWU_SLOT_in_use 1 1 1).slotInUse 2 = some 1 ∧ up.mgmt.update.agent = none ∧ up.updState = 0
      ∧ (updating 1 upd).mgmt.update.agent = some (1, 0) ∧ (updating 1 upd).holds ((updating 1 upd).asker 1) = true
      ∧ (updating 1 upd).holds ((updating 1 upd).asker 0) = false ∧ (updating 1 upd).serves 1 = true
      ∧ (updating 1 upd).updState = 1 ∧ (updating 5 upd).updState = 5 ∧ up.mayUpdate (10, 1) = true ∧ up.mayUpdate (3, 4) = true
      ∧ up.mayUpdate (10, 5) = false ∧ up.mayUpdate (10, 4) = false ∧ (updating 2 upd).mgmt.update.agent ≠ none
      ∧ (updating 5 { upd with applied := [(2, 1)] }).mgmt.update.applied = [(2, 1)]
      ∧ 1 ≤ (updating 2 upd).mgmt.update.component ∧ (updating 2 upd).mgmt.update.component ≤ 4
      ∧ (updating 2 upd).transferring = true ∧ (updating 5 upd).transferring = false ∧ (145 : Nat) ≤ slotBytes 2 ∧ up.flash.fw.length = 6 ∧ up.flash.actNo.length = 6
      ∧ up.flash.si.length = 2 ∧ (updating 2 upd).updState = 2 ∧ (updating 2 upd).mgmtUp = true
      ∧ (updating 2 upd).mgmt.update.redo = none ∧ (updating 2 upd).mgmt.update.tries < 2
      ∧ (updating 2 { upd with tries := 2 }).mgmt.update.tries = 2 ∧ (updating 6 upd).updState = 6
      ∧ (updating 2 upd).fld FWU_STAT_blocks_done = 0 ∧ (updating 3 upd).updState = 3 ∧ (updating 4 upd).updState = 4
      ∧ (updating 4 upd).mgmt.update.slot < 2 := by decide

/-- VERIFY_DONE of an erased container fails; fwContainer_good below is a container that passes.
-/
theorem test_witness_FirmwareTransfers_verify : (updating 3 upd).fuse.fwCause 2 (updating 3 upd).seqInUse [] ≠ 0 := by decide

/-- An activation that runs: microcode from slot 1 with paddock 0's run to restore. -/
def loadingUp (loading : Bool) : State :=
  updating 6 { upd with queue := [(2, 1)], loading := loading, runs := [0] }

theorem test_witness_ComponentsActivate :
    let p := updating 6 { upd with proving := some 1 }
    let a := updating 6 { upd with advance := some 127 }
    (updating 5 { upd with applied := [(4, 1)] }).mgmt.update.applied = [(4, 1)]
      ∧ (updating 5 { upd with applied := [(1, 0)] }).mgmt.update.applied = [(1, 0)]
      ∧ (updating 5 { upd with applied := [(2, 1)] }).mgmt.update.applied = [(2, 1)]
      ∧ (updating 5 upd).holds ((updating 5 upd).asker 1) = true ∧ (updating 5 upd).serves 1 = true
      ∧ { updating 5 upd with boot := { Boot.reset with recovery := true } }.mgmtUp = true
      ∧ (updating 5 { upd with applied := [(3, 1)] }).slotGood 3 1 = false ∧ (loadingUp false).slotGood 2 1 = false
      ∧ p.slotGood 1 0 = false ∧ (updating 5 upd).updState = 5 ∧ (updating 5 upd).boot.recovery = false
      ∧ (updating 4 upd).updState ≠ 5 ∧ up.activating 2 = none ∧ (loadingUp false).activating 2 = some 1
      ∧ (loadingUp false).mgmt.update.loading = false ∧ (loadingUp true).mgmt.update.loading = true
      ∧ (loadingUp false).chipReset = false ∧ (loadingUp false).tilesQuiet = true
      ∧ (loadingUp false).mgmt.update.queue = [(2, 1)] ∧ (∀ x ∈ (loadingUp true).mgmt.update.runs, x < 8)
      ∧ (loadingUp true).tileUsable 0 = true ∧ ([0] : List Nat).contains 0 = true ∧ ([0] : List Nat).contains 1 = false
      ∧ up.mgmt.update.proving = none ∧ p.mgmt.update.proving = some 1 ∧ up.mgmt.update.advance = none
      ∧ a.mgmt.update.advance = some 127 ∧ up.mgmt.meas.length = 8 := by decide

theorem test_witness_MainPower :
    let t (mate : Nat) := { base with tray := { Tray.on with mate := mate, good := false, switch := false, pwrEn := false } }
    let r := { base with tray := { Tray.on with good := false, ramping := true } }
    let e := { base with tray := { Tray.on with releasing := true } }
    base.tray.live = true ∧ (t 4).tray.live = false ∧ ((t 1).tray.mate + 1 < 4) ∧ 4 ≤ (t 4).tray.mate
      ∧ (1 ≤ (t 3).tray.mate ∧ (t 3).tray.mate < 4) ∧ (2 = (t 1).tray.mate + 1)
      ∧ (3 = (t 2).tray.mate + 1) ∧ (4 = (t 3).tray.mate + 1) ∧ (t 2).tray.mate < 3 ∧ 3 ≤ (t 3).tray.mate
      ∧ r.tray.ramping = true ∧ base.tray.ramping = false ∧ r.tray.pos < 64 ∧ (t 4).tray.good = false
      ∧ (t 4).tray.ramping = false ∧ base.tray.good = true ∧ base.tray.releasing = false ∧ e.tray.releasing = true
      ∧ base.tileUsable 0 = true ∧ (base.setFld FUS_STAT_fuses_loaded 0 0 1).flag FUS_STAT_fuses_loaded = true
      ∧ (base.setFld FUS_FP_TILE_fused_on 143 0 1).flag FUS_FP_TILE_fused_on 143 = true
      ∧ (base.setFld RTR_NODE_ID_valid 0 0 1).flag RTR_NODE_ID_valid = true := by decide

/-- The hypotheses on main power, the PCI Express function and the flash: WatchAndDumps, RegisterAccesses, LinkControlTakesEffect (the
cable pins), LoopsAndTemperatures, ParkAndFastThrottle, LimitsAndModes and MainPower. -/
theorem test_witness_power_and_flash :
    let off := { base with tray := { Tray.on with good := false } }
    let u := updating 3 { upd with slot := 1 }
    let f := base.flash.writeRecord 5 []
    base.tray.good = true ∧ off.tray.good = false ∧ base.pcie.d3hot = false
      ∧ { base with pcie := ⟨true, false, false⟩ }.pcie.d3hot = true ∧ base.fld FWU_DUMP_PTR_offset + 8 < 2 ^ 23
      ∧ base.flash.record.length = 2 ∧ f.record.length = 2 ∧ f.activeHalf = some 0 ∧ f.last = some (.half 0)
      ∧ u.transferring = true ∧ u.mgmt.update.component ≠ 4 ∧ base.transferring = false ∧ base.flash.last = none
      ∧ base.mgmt.update.advance = none := by decide

/-- EveryStepKeepsInv: reset meets the invariant (ResetHolds states it), and a step from it answers a next state. -/
theorem test_witness_EveryStepKeepsInv : ∃ t, step State.reset = .next t := ⟨_, rfl⟩

theorem test_witness_RegistersDecode :
    let s := { base with fuse := { base.fuse with tilesOff := [], stacksOff := [], portsOff := [] } }
    s.fuse.tilesOff = [] ∧ s.fuse.stacksOff = [] ∧ s.fuse.portsOff = [] ∧ 143 < RegId.TL_STATUS.desc.n1
      ∧ s.decodeReg (RegId.TL_STATUS.offset 143 0) = some (.TL_STATUS, 143, 0) := by decide

theorem test_witness_EoiEndsService :
    serving.cores.length = 4 ∧ (serving.core 3).insvc.length ≤ 8
      ∧ lfind (fun e : Nat × Nat => e.1 == 700) (serving.core 3).insvc = some 0
      ∧ lfind (fun e : Nat × Nat => e.1 == 701) (serving.core 3).insvc = none
      ∧ ldel (serving.core 3).insvc 0 = [] := by decide

theorem test_witness_MonitorAlarm :
    let s := sets [(MGT_LMON_CFG_enable, 15, 1), (MGT_LMON_CFG_src, 15, 3), (MGT_LMON_ALARM_alarm_en, 15, 1),
      (MGT_LMON_ALARM_alarm_thr, 15, 7)] base
    (Monitor.fabric 15).valid = true ∧ bitAt (s.reg .MGT_LMON_CFG 15) 26 = true ∧ s.monValue (.fabric 15) 8 = some 8
      ∧ bitAt (s.reg .MGT_LMON_ALARM 15) 32 = true ∧ bitsOf (s.reg .MGT_LMON_ALARM 15) 31 0 < 8
      ∧ ¬ (bitsOf (s.reg .MGT_LMON_ALARM 15) 31 0 < 7) := by decide

/-- CapsClamp has no hypothesis but the variants and the two sides of 600 W. -/
theorem test_witness_CapsClamp :
    base.fuse.variant = 0x0C ∧ { base with fuse := { base.fuse with variant := 8 } }.fuse.variant = 0x08
      ∧ (59 : Nat) < 60 ∧ (60 : Nat) ≤ 60 := by decide


/-! ### An interleave table that passes the check (HbmAndInterleave) -/

/-- A part of a table that does not list a key. -/
theorem aget_skip {α : Type} {l r : Assoc α} {k : Nat} (h : ∀ e ∈ l, e.1 ≠ k) : aget (l ++ r) k = aget r k := by
  induction l with
  | nil => rfl
  | cons e t ih =>
    have : e.1 ≠ k := h e (by simp)
    simp [aget, this, ih fun x hx => h x (by simp [hx])]

/-- A part of a table that lists a key. -/
theorem aget_row {l : List Nat} {f : Nat → Word64} {r : Assoc Word64} {b i : Nat} (h : i ∈ l) :
    aget (l.map (fun i => (b + 8 * i, f i)) ++ r) (b + 8 * i) = some (f i) := by
  induction l with
  | nil => simp at h
  | cons j t ih =>
    by_cases e : j = i
    · simp [aget, e]
    · have : i ∈ t := by simpa [Ne.symm e] using h
      have : b + 8 * j ≠ b + 8 * i := by omega
      simp only [List.map_cons, List.cons_append, aget, this, if_false]
      exact ih ‹_›

theorem allDistinct_of_nodup {l : List (Nat × Nat)} (h : l.Nodup) : allDistinct l = true := by
  induction l with
  | nil => rfl
  | cons a t ih => rw [List.nodup_cons] at h; simp [allDistinct, h.1, ih h.2]

/-- Entry `i` of a table that fills twelve stacks slot by slot. -/
def ilvWord (i : Nat) : Word64 := BitVec.ofNat 64 (i % 12 + (i / 12) <<< 4)

/-- The state with such a table of 3,072 entries for both dies. -/
def ilvHead : Assoc Word64 := ((List.range 12).foldl (fun s k => s.setFld FUS_FP_UNIT_fused_on k 0 1)
    ((State.reset.setFld HBM_ILV_CTRL_length 0 0 3072).setFld HBM_ILV_CTRL_length 1 0 3072)).regs

def ilvRows (die : Nat) : Assoc Word64 := (List.range 3072).map fun i => (0x808000 + 0x60000 * die + 8 * i, ilvWord i)

def ilvDone : State := { State.reset with regs := ilvHead ++ (ilvRows 0 ++ (ilvRows 1 ++ [])) }

theorem ilvHead_keys : ∀ e ∈ ilvHead, e.1 < 0x808000 ∨ (0x860000 ≤ e.1 ∧ e.1 < 0x868000) ∨ 0x880000 ≤ e.1 := by decide

theorem ilvRows_keys (die : Nat) : ∀ e ∈ ilvRows die, ∃ j, j < 3072 ∧ e.1 = 0x808000 + 0x60000 * die + 8 * j := by
  intro e he
  simp only [ilvRows, List.mem_map, List.mem_range] at he
  obtain ⟨j, hj, rfl⟩ := he
  exact ⟨j, hj, rfl⟩

theorem ilvRows_get (die i : Nat) (r : Assoc Word64) (h : i < 3072) :
    aget (ilvRows die ++ r) (0x808000 + 0x60000 * die + 8 * i) = some (ilvWord i) := by
  simp only [ilvRows]
  exact aget_row (List.mem_range.2 h)

theorem ilvDone_regs : ilvDone.regs = ilvHead ++ (ilvRows 0 ++ (ilvRows 1 ++ [])) := rfl

theorem ilvEnt_offset (die i : Nat) : RegId.HBM_ILV_ENT.offset die i = 0x808000 + 0x60000 * die + 8 * i := by
  show 0x808000 + die * 0x60000 + i * 0x8 = _
  omega

theorem ilvDone_get (die i : Nat) (hd : die < 2) (hi : i < 3072) :
    aget ilvDone.regs (0x808000 + 0x60000 * die + 8 * i) = some (ilvWord i) := by
  rw [ilvDone_regs, aget_skip fun e he => by have := ilvHead_keys e he; omega]
  rcases (by omega : die = 0 ∨ die = 1) with h | h
  · rw [h]; exact ilvRows_get 0 i _ hi
  · rw [h, aget_skip fun e he => by obtain ⟨j, hj, e⟩ := ilvRows_keys 0 e he; omega]
    exact ilvRows_get 1 i _ hi

theorem entry_of_get {s : State} {die i k : Nat} (h : aget s.regs k = some (ilvWord i))
    (e : RegId.HBM_ILV_ENT.offset die i = k) (hi : i < 3072) : s.ilvEntry die i = (i % 12, i / 12) := by
  have hr : s.reg .HBM_ILV_ENT die i = i % 12 + (i / 12) <<< 4 := by
    simp only [State.reg, e, h, ilvWord, BitVec.toNat_ofNat, Nat.shiftLeft_eq]
    omega
  simp only [State.ilvEntry, State.fld, HBM_ILV_ENT_stack, HBM_ILV_ENT_slot, hr, bitsOf, Nat.shiftLeft_eq, Nat.shiftRight_eq_div_pow]
  refine Prod.ext ?_ ?_ <;> simp <;> omega

theorem ilvDone_entry (die i : Nat) (hd : die < 2) (hi : i < 3072) : ilvDone.ilvEntry die i = (i % 12, i / 12) :=
  entry_of_get (ilvDone_get die i hd hi) (ilvEnt_offset die i) hi

/-- The check of an interleave copy passes this table. -/
theorem test_witness_HbmAndInterleave_good : ilvDone.ilvCheck 0 = 0 := by
  have c : ilvDone.fld HBM_ILV_CTRL_mode 0 = 0 ∧ ilvDone.fld HBM_ILV_CTRL_length 0 = 3072 ∧ ilvDone.fld HBM_ILV_CTRL_mode 1 = 0
      ∧ ilvDone.fld HBM_ILV_CTRL_length 1 = 3072 ∧ ilvDone.stackCount = 12 ∧ ilvDone.fuse.ilvLength = 3072
      ∧ ∀ k, k < 12 → ilvDone.stackGood k = true := by decide +kernel
  obtain ⟨c1, c2, c3, c4, c5, c6, c7⟩ := c
  have hes : ((ilvInUse 0 3072).map fun e => ilvDone.ilvEntry 0 e.2) = (List.range 3072).map fun i => (i % 12, i / 12) := by
    simp only [ilvInUse, if_true, List.map_map]
    exact List.map_congr_left fun i hi => ilvDone_entry 0 i (by omega) (List.mem_range.1 hi)
  have mem : ∀ e ∈ ilvInUse 0 3072, e.1 = none ∧ e.2 < 3072 := by
    intro e he
    simp only [ilvInUse, if_true, List.mem_map, List.mem_range] at he
    obtain ⟨i, hi, rfl⟩ := he
    exact ⟨rfl, hi⟩
  have v : ((ilvInUse 0 3072).any fun e => ilvDone.ilvEntry 0 e.2 != ilvDone.ilvEntry 1 e.2) = false := by
    rw [List.any_eq_false]
    intro e he
    simp [ilvDone_entry 0 e.2 (by omega) (mem e he).2, ilvDone_entry 1 e.2 (by omega) (mem e he).2]
  have d : allDistinct ((List.range 3072).map fun i => (i % 12, i / 12)) = true := by
    refine allDistinct_of_nodup (List.pairwise_map.2 (List.nodup_range.imp ?_))
    intro i j h g
    simp only [Prod.mk.injEq] at g
    omega
  have w : ((List.range 3072).map fun i => (i % 12, i / 12)).any (fun e => decide (256 ≤ e.2)) = false
      ∧ (List.range 12).any (fun k => ilvDone.stackFused k
          && (((List.range 3072).map fun i => (i % 12, i / 12)).filter fun e => e.1 == k).length != 256) = false := by
    decide +kernel
  simp only [State.ilvCheck, c1, c2, c3, c4, c5, c6, v, hes, d, w.1, w.2, Nat.reduceDiv, Nat.reduceSub]
  simp
  intro x i h
  obtain ⟨rfl, hi⟩ := mem _ h
  rw [ilvDone_entry 0 i (by omega) hi]
  exact ⟨c7 _ (Nat.mod_lt _ (by omega)), rfl⟩


/-! ### An image and a container that pass their checks wherever their signatures verify -/

/-- Parts of a list are those of its front, where the front is long enough. -/
theorem slice_front {p r : List Byte} {i n : Nat} (h : i + n ≤ p.length) : slice (p ++ r) i n = slice p i n := by
  simp only [slice]
  rw [List.drop_append_of_le_length (by omega), List.take_append_of_le_length (by simp; omega)]

theorem slice_second {p q r : List Byte} {i n : Nat} (h : i = p.length) (g : n = q.length) : slice (p ++ (q ++ r)) i n = q := by
  subst h g; simp [slice]

theorem slice_third {p q r : List Byte} {i n : Nat} (h : i = p.length + q.length) : slice (p ++ (q ++ r)) i n = r.take n := by
  subst h; rw [← List.append_assoc, slice, List.drop_left' (by simp)]

theorem wordAt_front {p r : List Byte} {i : Nat} (h : 8 * i + 8 ≤ p.length) : wordAt (p ++ r) i = wordAt p i := by
  have := slice_front (r := r) h
  simp only [slice] at this
  simp [wordAt, this]

theorem bytesOf_length (n v : Nat) : (bytesOf n v).length = n := by
  induction n generalizing v with
  | zero => rfl
  | succ n ih => simp [bytesOf, ih]

/-- A run of zero bytes. -/
def zeros (n : Nat) : List Byte := List.replicate n 0

theorem zeros_length (n : Nat) : (zeros n).length = n := List.length_replicate ..

theorem zeros_take {n m : Nat} (h : n ≤ m) : (zeros m).take n = zeros n := by
  rw [zeros, List.take_replicate, Nat.min_eq_left h, zeros]

/-- A fuse record whose key slot 0 holds the digest of a public key of zeros. -/
def keyed : FuseRecord := { FuseRecord.part with keys := [Config.sha3 (zeros 2592)] }

/-- The header and blocks of a structure image with the three elements it needs, each empty. -/
def siFront : List Byte :=
  let a := bytesOf 8 (0x53494D47 + 1 <<< 32 + 3 <<< 48) ++ bytesOf 8 (1 + 4816 <<< 32) ++ bytesOf 8 7
  a ++ bytesOf 8 (crc32c (a ++ List.replicate 32 0)) ++ List.replicate 32 0
    ++ [2, 6, 7].flatMap fun t => bytesOf 8 t ++ bytesOf 8 (crc32c [])

/-- The digest and the place of the signature of an image or container with the given front. -/
def sealed (front : List Byte) : List Byte := digestBytes (Config.sha3 front) ++ zeros 4640

theorem siFront_facts : siFront.length = 112 ∧ siMagic siFront = 0x53494D47 ∧ siVersion siFront = 1
    ∧ siHcrc siFront = crc32c (slice siFront 0 24 ++ slice siFront 32 32) ∧ siLength siFront = 4816 ∧ siCount siFront = 3
    ∧ siBlocks 3 (siFront.drop 64) = some ([(2, []), (6, []), (7, [])], 48) ∧ siKey siFront = 0
    ∧ bitAt (siVariants siFront) FuseRecord.part.variantBit = true ∧ siSvn siFront = FuseRecord.part.svn
    ∧ siTypesOk [2, 6, 7] = true := by decide +kernel

/-- A structure image that passes R409 wherever its signature verifies. -/
theorem siImage_good (h : Config.signatureValid 0 (digestBytes (Config.sha3 siFront)) (zeros 4627) = true) :
    keyed.siCause (siFront ++ sealed siFront) = 0 := by
  obtain ⟨len, f1, f2, f3, f4, f5, f6, f7, f8, f9, f10⟩ := siFront_facts
  have w : ∀ i, i < 14 → wordAt (siFront ++ sealed siFront) i = wordAt siFront i := fun i hi => wordAt_front (by omega)
  have d64 : (digestBytes (Config.sha3 siFront)).length = 64 := bytesOf_length ..
  have hr : siRead (siFront ++ sealed siFront) = some ([(2, []), (6, []), (7, [])], 48) := by
    have e1 : siCount (siFront ++ sealed siFront) = 3 := by rw [← f5]; simp [siCount, w]
    have e2 : siLength (siFront ++ sealed siFront) = 4816 := by rw [← f4]; simp [siLength, w]
    rw [siRead, e1, e2]
    have : (siFront ++ sealed siFront).take (4816 - siTail) = siFront := by
      rw [show 4816 - siTail = siFront.length from by rw [len]; rfl]; simp
    rw [this, f6]
  have hd : siDigest (siFront ++ sealed siFront) = digestBytes (Config.sha3 siFront) := by
    rw [siDigest, hr]; exact slice_second len.symm d64.symm
  have ht : (siFront ++ sealed siFront).take (64 + 48) = siFront := by
    rw [show 64 + 48 = siFront.length from len.symm]; simp
  have hs : slice (siFront ++ sealed siFront) (128 + 48) 4627 = zeros 4627 := by
    rw [sealed, slice_third (by rw [len, d64])]; exact zeros_take (by decide)
  have k1 : siMagic (siFront ++ sealed siFront) = 0x53494D47 := by rw [← f1]; simp [siMagic, w]
  have k2 : siVersion (siFront ++ sealed siFront) = 1 := by rw [← f2]; simp [siVersion, w]
  have k3 : siHcrc (siFront ++ sealed siFront)
      = crc32c (slice (siFront ++ sealed siFront) 0 24 ++ slice (siFront ++ sealed siFront) 32 32) := by
    rw [slice_front (by omega), slice_front (by omega), ← f3]; simp [siHcrc, w]
  have k4 : siLength (siFront ++ sealed siFront) = 4816 := by rw [← f4]; simp [siLength, w]
  have k5 : siKey (siFront ++ sealed siFront) = 0 := by rw [← f7]; simp [siKey, w]
  have k6 : siVariants (siFront ++ sealed siFront) = siVariants siFront := by simp [siVariants, w]
  have k7 : siSvn (siFront ++ sealed siFront) = siSvn siFront := by simp [siSvn, w]
  have g1 : keyed.keyGood 0 = true := by simp [keyed, FuseRecord.keyGood, FuseRecord.part]; decide
  have g3 : keyed.variantBit = FuseRecord.part.variantBit := rfl
  have g4 : keyed.svn = FuseRecord.part.svn := rfl
  simp only [FuseRecord.siCause, k1, k2, ← k3, k4, hr, hd, ht, hs, k5, k6, k7, f8, f9, g1, g3, g4, h]
  simp [f10]

/-- The header of a firmware container of component `c` without payload. -/
def fwFront (c : Nat) : List Byte :=
  let a := bytesOf 8 (0x4657434E + 1 <<< 32 + c <<< 48) ++ bytesOf 8 (7 <<< 58) ++ bytesOf 8 0
  a ++ bytesOf 8 (crc32c (a ++ List.replicate 96 0)) ++ List.replicate 96 0

/-- The container: digest, signature and the public key. -/
def fwContainer (c : Nat) : List Byte := fwFront c ++ (sealed (fwFront c) ++ zeros 2592)

theorem fwFront_facts (n : Nat) (h : n = 1 ∨ n = 2) : let f := fwFront n
    f.length = 128 ∧ fwMagic f = 0x4657434E ∧ fwFormat f = 1
      ∧ fwHcrc f = crc32c (slice f 0 24 ++ slice f 32 96) ∧ fwComponent f = n ∧ fwPayload f = 0
      ∧ fwBlocks f = 0 ∧ fwKey f = 0 ∧ bitAt (fwVariants f) FuseRecord.part.variantBit = true
      ∧ fwSvn f = 0 := by
  rcases h with rfl | rfl <;> decide +kernel

theorem fwCause_zero {n : Nat} {seq : Option Nat} {b c : List Byte} (hn : n ≠ 4)
    (k : fwMagic b = 0x4657434E ∧ fwFormat b = 1 ∧ fwHcrc b = crc32c (slice b 0 24 ++ slice b 32 96) ∧ fwComponent b = n
      ∧ fwPayload b = 0 ∧ fwBlocks b = 0 ∧ fwKey b = 0)
    (k8 : bitAt (fwVariants b) FuseRecord.part.variantBit = true) (k9 : fwSvn b = 0)
    (hd : fwDigest b = digestBytes (Config.sha3 c)) (ht : b.take 128 = c) (kb : fwBody b = 128)
    (hs : slice b (128 + 64) 4627 = zeros 4627) (hk : slice b (128 + 4704) 2592 = zeros 2592)
    (h : Config.signatureValid 0 (digestBytes (Config.sha3 c)) (zeros 4627) = true) :
    keyed.fwCause n seq b = 0 := by
  obtain ⟨k1, k2, k3, k4, k5, k6, k7⟩ := k
  have g1 : keyed.keyGood 0 = true := by simp [keyed, FuseRecord.keyGood, FuseRecord.part]; decide
  have g2 : lget keyed.keys 0 0 = Config.sha3 (zeros 2592) := rfl
  have g3 : keyed.variantBit = FuseRecord.part.variantBit := rfl
  have g4 : keyed.svn = 0 := rfl
  simp only [FuseRecord.fwCause, k1, k2, ← k3, k4, k5, k6, k7, k8, k9, kb, hd, ht, hs, hk, g1, g2, g3, g4, h]
  simp [hn]

/-- A container that passes R499 wherever its signature verifies, so that it is verified, applied, booted and activated. -/
theorem fwContainer_good (n : Nat) (hn : n = 1 ∨ n = 2) (seq : Option Nat)
    (h : Config.signatureValid 0 (digestBytes (Config.sha3 (fwFront n))) (zeros 4627) = true) :
    keyed.fwCause n seq (fwContainer n) = 0 := by
  obtain ⟨len, f1, f2, f3, f4, f5, f6, f7, f8, f9⟩ := fwFront_facts n hn
  have w : ∀ i, i < 16 → wordAt (fwContainer n) i = wordAt (fwFront n) i := fun i hi => wordAt_front (by omega)
  have d64 : (digestBytes (Config.sha3 (fwFront n))).length = 64 := bytesOf_length ..
  have k1 : fwMagic (fwContainer n) = 0x4657434E := by rw [← f1]; simp [fwMagic, w]
  have k2 : fwFormat (fwContainer n) = 1 := by rw [← f2]; simp [fwFormat, w]
  have k3 : fwHcrc (fwContainer n) = crc32c (slice (fwContainer n) 0 24 ++ slice (fwContainer n) 32 96) := by
    rw [fwContainer, slice_front (by omega), slice_front (by omega), ← f3, ← fwContainer]; simp [fwHcrc, w]
  have k4 : fwComponent (fwContainer n) = n := by refine Eq.trans ?_ f4; simp [fwComponent, w]
  have k5 : fwPayload (fwContainer n) = 0 := by rw [← f5]; simp [fwPayload, w]
  have k6 : fwBlocks (fwContainer n) = 0 := by rw [← f6]; simp [fwBlocks, w]
  have k7 : fwKey (fwContainer n) = 0 := by rw [← f7]; simp [fwKey, w]
  have k8 : fwVariants (fwContainer n) = fwVariants (fwFront n) := by simp [fwVariants, w]
  have k9 : fwSvn (fwContainer n) = 0 := by rw [← f9]; simp [fwSvn, w]
  have kb : fwBody (fwContainer n) = 128 := by simp [fwBody, k5, k6]
  have e : (fwContainer n) = (fwFront n) ++ (digestBytes (Config.sha3 (fwFront n)) ++ (zeros 4640 ++ zeros 2592)) := by
    simp only [fwContainer, sealed, List.append_assoc]
  have hd : fwDigest (fwContainer n) = digestBytes (Config.sha3 (fwFront n)) := by
    rw [fwDigest, kb, e]; exact slice_second len.symm d64.symm
  have ht : (fwContainer n).take 128 = (fwFront n) := by rw [fwContainer, ← len]; simp
  have hs : slice (fwContainer n) (128 + 64) 4627 = zeros 4627 := by
    rw [e, slice_third (by rw [len, d64]), List.take_append_of_le_length (by rw [zeros_length]; decide)]
    exact zeros_take (by decide)
  have hk : slice (fwContainer n) (128 + 4704) 2592 = zeros 2592 := by
    rw [fwContainer, slice_third (by rw [len, sealed, List.length_append, d64, zeros_length])]
    exact zeros_take (by decide)
  generalize fwContainer n = b at *
  generalize fwFront n = c at *
  exact fwCause_zero (by omega) ⟨k1, k2, k3, k4, k5, k6, k7⟩ (by rw [k8, f8]) k9 hd ht kb hs hk h

/-- A module that holds this image and container, the container activated. -/
def flashed : State := { State.reset with
  fuse := keyed
  flash := { Flash.erased with
    si := [header 4816 1 ++ ((siFront ++ sealed siFront) ++ []), []]
    fw := [fwContainer 1, [], fwContainer 2, [], [], []]
    actNo := [1, 0, 0, 0, 0, 0] } }

/-- Where the signature verifies, the boot takes management firmware from slot A (BootStepsRun). -/
theorem test_witness_BootStepsRun_slot
    (h : Config.signatureValid 0 (digestBytes (Config.sha3 (fwFront 1))) (zeros 4627) = true) : flashed.bootSlot 1 = some 0 := by
  have g : flashed.bootable 1 0 = true := by
    have : flashed.fuse.fwCause 1 none (flashed.fwSlot 1 0) = 0 := fwContainer_good 1 (.inl rfl) none h
    simp [State.bootable, State.slotGood, this]; decide
  have a : ¬ flashed.fwActNo 1 0 < flashed.fwActNo 1 1 := by decide
  simp only [State.bootSlot, a, if_false, g, if_true]

/-- Where the signatures verify, slots A hold containers that an activation of management firmware and of microcode takes
(ComponentsActivate). -/
theorem test_witness_ComponentsActivate_slot (n : Nat) (hn : n = 1 ∨ n = 2)
    (h : Config.signatureValid 0 (digestBytes (Config.sha3 (fwFront n))) (zeros 4627) = true) :
    let s := { updating 5 { upd with applied := [(n, 0)] } with fuse := flashed.fuse, flash := flashed.flash }
    s.slotGood n 0 = true ∧ s.holds (s.asker 1) = true ∧ s.serves 1 = true ∧ s.updState = 5 := by
  have : keyed.fwCause n none (flashed.fwSlot n 0) = 0 := by
    rcases hn with rfl | rfl
    · exact fwContainer_good 1 (.inl rfl) none h
    · exact fwContainer_good 2 (.inr rfl) none h
  refine ⟨by simp only [State.slotGood]; exact beq_of_eq this, ?_⟩
  rcases hn with rfl | rfl <;> decide

/-- The image in slot A. -/
theorem flashed_image : flashed.siCopy 0 = siFront ++ sealed siFront := by
  have l : (header 4816 1).length = 128 ∧ fwBlocks (header 4816 1) = 1 ∧ fwPayload (header 4816 1) = 4816 := by decide +kernel
  have m : (siFront ++ sealed siFront).length = 4816 := by
    rw [List.length_append, siFront_facts.1, sealed, List.length_append, zeros_length]
    exact congrArg (fun x => 112 + (x + 4640)) (bytesOf_length 64 _)
  have e : flashed.siContainer 0 = header 4816 1 ++ ((siFront ++ sealed siFront) ++ []) := rfl
  have w : ∀ r, wordAt (header 4816 1 ++ r) 1 = wordAt (header 4816 1) 1 := fun r => wordAt_front (by omega)
  have k1 : ∀ r, fwBlocks (header 4816 1 ++ r) = 1 := fun r => by rw [fwBlocks, w]; exact l.2.1
  have k2 : ∀ r, fwPayload (header 4816 1 ++ r) = 4816 := fun r => by rw [fwPayload, w]; exact l.2.2
  rw [State.siCopy, e, fwPayloadBytes, k1]
  simp only [List.range_one, List.flatMap_cons, List.flatMap_nil, List.append_nil, fwPiece, k2]
  have := slice_second (r := []) (p := header 4816 1) (q := siFront ++ sealed siFront) (i := fwPieceAt 0) (n := 4816)
    (by rw [l.1]; rfl) m.symm
  simpa using this

/-- Where the signature verifies, copy A of the structure image is selected (BootStepsRun, UnitsGoOffAndOn). -/
theorem test_witness_BootStepsRun_image
    (h : Config.signatureValid 0 (digestBytes (Config.sha3 siFront)) (zeros 4627) = true) : flashed.siSelect.2.2 = 1 := by
  have a : flashed.fuse.siCause (flashed.siCopy 0) = 0 := by rw [flashed_image]; exact siImage_good h
  have b : flashed.fuse.siCause (flashed.siCopy 1) = 1 := rfl
  simp [State.siSelect, a, b]

/-! ### Well-formedness: for each check of each constructor an ill-formed term, which the check refuses -/

/-- An empty clone image. -/
def img : CloneImage := ⟨[], [], [], [], [], []⟩

/-- The part of a clone that belongs to a tile. -/
def tilePart (tile : Nat) : CloneTile :=
  ⟨tile, List.replicate 4 Plane.zero, List.replicate 32 0, List.replicate 8 0, List.replicate 32 Slot.empty, []⟩

theorem test_ill_formed_1 : ([
    .registerWrite (2 ^ 26) 8 (some 0), .registerWrite 0 6 none, .mgmtReq { pkt tMGMT_REQ [0, 0] with epoch := 65536 },
    .mgmtReq (pkt tMGMT_RESP [0, 0]), .intakeReq { pkt tINTAKE_REQ [0, 0] with epoch := 65536 },
    .intakeReq (pkt tMGMT_RESP [0, 0]), .intakeGrant 8, .graph { pkt tGRAPH [0, 0] with epoch := 65536 },
    .graph (pkt tMGMT_RESP [0, 0]), .taskSelect 144, .token { pkt tTOKEN [0, 0] with epoch := 65536 },
    .token (pkt tMGMT_RESP [0, 0]), .credit { pkt tCREDIT [0, 0] with epoch := 65536 },
    .credit (pkt tMGMT_RESP [0, 0]), .tokenNak ⟨{ pkt tTOKEN_NAK [0, 0] with epoch := 65536 }, []⟩,
    .tokenNak ⟨pkt tMGMT_RESP [0, 0], []⟩, .tokenResend 144 0, .earlyTokenExpiry 144 0, .intakeSaturated 8,
    .giPadCfgWrite 8 0, .giPadDomWrite 8 0, .tlCmdAbort 144 0, .tlCmdAbort 0 32, .slotCleared 144 0,
    .slotCleared 0 32, .tlCmdIcacheInv 144, .tlCmdDcacheFlush 144, .cacheOpDone 144, .spadCeRewrite 144 0,
    .alu 144 .add, .li 144, .predicate 144 .and, .br 144, .j 144, .jr 144, .ld 144, .st 144,
    .storePerformed 144, .loadMissFill 144, .lda 144, .ldaDone 144, .str 144, .amo 144, .amoDone 144,
    .vld 144, .vst 144, .varith 144 .fadd, .vconv 144 .fadd, .vreduce 144 .fadd, .vectorCmdDone 144,
    .mclr 144, .macc 144, .mdrn 144, .mldp 144, .matrixCmdDone 144 0, .mstat 144, .dmaCopy 144,
    .dmaCopy2d 144, .dmaFill 144, .graphSend 144, .flaggedWriteCmd 144, .dmaCmdStart 144 0, .dmaCmdStart 0 4,
    .dmaPacketSend 144 0, .dmaPacketSend 0 4,
    .intakeGrantReceive { pkt tINTAKE_GRANT [0, 0] with epoch := 65536 },
    .intakeGrantReceive (pkt tMGMT_RESP [0, 0]), .graphSendRetry 144 0, .graphSendRetry 0 4, .dmaRetry 144 0,
    .dmaRetry 0 4, .tok 144, .tokenQueueSend 144, .fence 144] : List Instr).all (fun i => !i.wf) = true := by decide

theorem test_ill_formed_2 : ([
    .fenceDone 144, .ewait 144, .ewaitDone 144, .rel 144, .relDone 144, .acq 144, .acqDone 144, .cwait 144,
    .cwaitDone 144, .cwaitTimeout 144, .trd 144, .tend 144, .tret 144, .taskEndDone 144, .icinv 144,
    .syscall 144, .rti 144, .csrr 144, .csrw 144, .illegal 144, .interruptEntry 144,
    .write { pkt tWRITE [0, 0] with epoch := 65536 }, .write (pkt tMGMT_RESP [0, 0]),
    .flaggedWrite { pkt tFLAGGED_WRITE [0, 0] with epoch := 65536 }, .flaggedWrite (pkt tMGMT_RESP [0, 0]),
    .giCdZero 1024, .getReq { pkt tGET_REQ [0, 0] with epoch := 65536 }, .getReq (pkt tMGMT_RESP [0, 0]),
    .getData { pkt tGET_DATA [0, 0] with epoch := 65536 }, .getData (pkt tMGMT_RESP [0, 0]),
    .completion { pkt tCOMPLETION [0, 0] with epoch := 65536 }, .completion (pkt tMGMT_RESP [0, 0]),
    .ilvCommit 2, .ilvCheckDone 2, .patrolScrub 12 0, .hbmTempRead 12 0, .rfmIssue 12 0,
    .hbmTrainingDone 12 0 false, .linkEnable 8 0, .linkLock 8 0, .linkAlign 8 0 0, .linkEq 8 0,
    .linkConfirm 8 0, .linkActive 8, .trainingTimeout 8, .trainingFrame 64 ⟨[], ⟨0, 0⟩⟩ 0, .fomMeasure 64 0,
    .fillerGroup 8 ⟨0, []⟩, .linkBlockReceive 8 [] [], .resend 8 0, .resendRepeat 8, .ackTimeout 8, .pwrReq 8 0,
    .pwrAck 8 0, .pwrNak 8 0, .degrade 8 0, .degradeAck 8 0, .retrain 8, .linkControlRepeat 8,
    .degradeTimeout 8, .blockLockLoss 64, .fomHoldExpiry 64, .laneForceFail 64, .linkRetrainCmd 8,
    .quietIdle 8] : List Instr).all (fun i => !i.wf) = true := by decide

theorem test_ill_formed_3 : ([
    .wakePattern 8, .lnClrMin 64, .portPresentChange 8 false, .packetRoute 14 0, .packetRoute 0 8,
    .linkBlockSend 8, .unroutableTimeout 14 0, .unroutableTimeout 0 8, .vcClrMax 14 0, .vcClrMax 0 8,
    .bell 8 (pkt tBELL [0, 0]), .bell 0 { pkt tBELL [0, 0] with epoch := 65536 },
    .bell 0 (pkt tMGMT_RESP [0, 0]), .foldCommit 512, .foldCommitChecked 512, .foldRelease 512,
    .foldAbort 512, .foldInstanceStart 512, .foldChunkSend 512 0,
    .foldData { pkt tFOLD_DATA [0, 0] with epoch := 65536 }, .foldData (pkt tMGMT_RESP [0, 0]),
    .foldCredit { pkt tFOLD_CTRL [0, 0] with epoch := 65536 }, .foldCredit (pkt tMGMT_RESP [0, 0]),
    .foldResend { pkt tFOLD_CTRL [0, 0] with epoch := 65536 }, .foldResend (pkt tMGMT_RESP [0, 0]),
    .foldConfirm { pkt tFOLD_CTRL [0, 0] with epoch := 65536 }, .foldConfirm (pkt tMGMT_RESP [0, 0]),
    .foldReleaseMsg { pkt tFOLD_CTRL [0, 0] with epoch := 65536 }, .foldReleaseMsg (pkt tMGMT_RESP [0, 0]),
    .foldFault { pkt tFOLD_CTRL [0, 0] with epoch := 65536 }, .foldFault (pkt tMGMT_RESP [0, 0]),
    .foldAbortMsg { pkt tFOLD_CTRL [0, 0] with epoch := 65536 }, .foldAbortMsg (pkt tMGMT_RESP [0, 0]),
    .foldChunkTimeout 512 0, .foldInstanceDone 512, .helloRepeat 8, .hello 8 (pkt tHEFT [0, 0]),
    .hello 0 { pkt tHEFT [0, 0] with epoch := 65536 }, .hello 0 (pkt tMGMT_RESP [0, 0]), .heftAccept 8,
    .portRoleApply 8 0, .directedRequest 8 (pkt tHEFT [0, 0]),
    .directedRequest 0 { pkt tHEFT [0, 0] with epoch := 65536 }, .directedRequest 0 (pkt tMGMT_RESP [0, 0]),
    .directedResponse 8 (pkt tHEFT [0, 0]), .directedResponse 0 { pkt tHEFT [0, 0] with epoch := 65536 },
    .directedResponse 0 (pkt tMGMT_RESP [0, 0]), .grant { pkt tEPOCH [0, 0] with epoch := 65536 },
    .grant (pkt tMGMT_RESP [0, 0]), .bump { pkt tEPOCH [0, 0] with epoch := 65536 },
    .bump (pkt tMGMT_RESP [0, 0]), .note { pkt tEPOCH [0, 0] with epoch := 65536 },
    .note (pkt tMGMT_RESP [0, 0]), .join { pkt tEPOCH [0, 0] with epoch := 65536 },
    .join (pkt tMGMT_RESP [0, 0]), .ack { pkt tEPOCH [0, 0] with epoch := 65536 },
    .ack (pkt tMGMT_RESP [0, 0]), .lost { pkt tEPOCH [0, 0] with epoch := 65536 },
    .lost (pkt tMGMT_RESP [0, 0]), .watchExpiry (.slot 144 0), .watchExpiry (.slot 0 32),
    .watchExpiry (.engine 144 0), .watchExpiry (.engine 0 8), .watchExpiry (.paddock 8),
    .watchExpiry (.heartbeat 35), .partitionResetDone 8,
    .peerState { pkt tPEER_STATE [0, 0] with epoch := 65536 }, .peerState (pkt tMGMT_RESP [0, 0]),
    .bootStepDone [143, 144], .musterRxArm 8 0, .musterData { pkt tMUSTER [0, 0] with epoch := 65536 } [],
    .musterData (pkt tMGMT_RESP [0, 0]) [], .musterPoll { pkt tMUSTER [0, 0] with epoch := 65536 },
    .musterPoll (pkt tMGMT_RESP [0, 0]), .musterReport { pkt tMUSTER [0, 0] with epoch := 65536 },
    .musterReport (pkt tMGMT_RESP [0, 0]), .musterClose { pkt tMUSTER [0, 0] with epoch := 65536 },
    .musterClose (pkt tMGMT_RESP [0, 0]), .ageingCheck 144 0, .droopTrip 144, .followDwellExpiry 144,
    .ticAck 144 0, .ticAck 0 64, .ticEoi 144 0, .ticEoi 0 64, .cicDeliver 4 0 (false, false), .cicEoi 4 0,
    .cicEoi 0 1024, .cicHostEoi 1024, .msixSend 1024, .holdoffExpiry (.tile 144 0),
    .holdoffExpiry (.tile 0 16), .holdoffExpiry (.chip 32), .tallyOverflow 144 0 0,
    .tagSample 144 false [] 0 0, .lmonSample (.tile 144) 0, .lmonSample (.hbm 12) 0,
    .lmonSample (.fabric 16) 0, .lmonClear (.tile 144), .lmonClear (.hbm 12), .lmonClear (.fabric 16),
    .mctpPacket 2 0 0 false false [], .setEndpointId 2 0] : List Instr).all (fun i => !i.wf) = true := by decide

theorem test_ill_formed_4 : ([
    .getEndpointId 2, .getMctpVersionSupport 2, .getMessageTypeSupport 2, .getVendorDefinedMessageSupport 2,
    .getIdentity 2 0, .setCap 2 0 0, .park 2 0 0, .coolant 2 0 0 0, .getSetting 2 0 0,
    .setSetting 2 0 0 0 false, .getCert 2 0 0 0, .attest 2 0 [] 0, .queryDeviceIdentifiers 2,
    .getFirmwareParameters 2, .requestUpdate 2 0, .passComponentTable 2 (0, 0), .updateComponent 2 (0, 0) 0,
    .activateFirmware 2, .getStatus 2, .cancelUpdateComponent 2, .cancelUpdate 2,
    .microcodeBroadcastDone [143, 144], .connectorMate 5 0 false, .engineResetDone 144 .matrix, .heartbeat 35,
    .watchWindowWrite 0 0, .holdoffUsWrite (.tile 144 0) 0, .holdoffUsWrite (.tile 0 16) 0,
    .holdoffUsWrite (.chip 32) 0, .linkPwrTargetWrite 8 0 0, .writeBackDone 144] : List Instr).all (fun i => !i.wf) = true := by decide

theorem test_well_formed_1 : ([
    .registerWrite 0 8 (some 0), .registerWrite 0 8 none, .mgmtReq (pkt tMGMT_REQ [0, 0]), .intakeReq (pkt tINTAKE_REQ [0, 0]),
    .intakeGrant 0, .graph (pkt tGRAPH [0, 0]), .taskSelect 0, .token (pkt tTOKEN [0, 0]),
    .credit (pkt tCREDIT [0, 0]), .tokenNak ⟨pkt tTOKEN_NAK [0, 0], []⟩, .tokenResend 0 0, .earlyTokenExpiry 0 0,
    .intakeSaturated 0, .giPadCfgWrite 0 0, .giPadDomWrite 0 0, .tlCmdAbort 0 0, .slotCleared 0 0,
    .tlCmdIcacheInv 0, .tlCmdDcacheFlush 0, .cacheOpDone 0, .spadCeRewrite 0 0, .alu 0 .add, .li 0,
    .predicate 0 .and, .br 0, .j 0, .jr 0, .ld 0, .st 0, .storePerformed 0, .loadMissFill 0, .lda 0,
    .ldaDone 0, .str 0, .amo 0, .amoDone 0, .vld 0, .vst 0, .varith 0 .fadd, .vconv 0 .fadd, .vreduce 0 .fadd,
    .vectorCmdDone 0, .mclr 0, .macc 0, .mdrn 0, .mldp 0, .matrixCmdDone 0 0, .mstat 0, .dmaCopy 0,
    .dmaCopy2d 0, .dmaFill 0, .graphSend 0, .flaggedWriteCmd 0, .dmaCmdStart 0 0, .dmaPacketSend 0 0,
    .intakeGrantReceive (pkt tINTAKE_GRANT [0, 0]), .graphSendRetry 0 0, .dmaRetry 0 0, .tok 0,
    .tokenQueueSend 0, .fence 0, .fenceDone 0, .ewait 0, .ewaitDone 0, .rel 0, .relDone 0, .acq 0, .acqDone 0,
    .cwait 0, .cwaitDone 0, .cwaitTimeout 0, .trd 0, .tend 0, .tret 0, .taskEndDone 0, .icinv 0, .syscall 0,
    .rti 0, .csrr 0, .csrw 0, .illegal 0, .interruptEntry 0, .write (pkt tWRITE [0, 0]),
    .flaggedWrite (pkt tFLAGGED_WRITE [0, 0]), .giCdZero 0, .getReq (pkt tGET_REQ [0, 0]),
    .getData (pkt tGET_DATA [0, 0]), .completion (pkt tCOMPLETION [0, 0]), .ilvCommit 0, .ilvCheckDone 0,
    .patrolScrub 0 0] : List Instr).all (fun i => i.wf) = true := by
  decide

theorem test_well_formed_2 : ([
    .hbmTempRead 0 0, .rfmIssue 0 0, .hbmTrainingDone 0 0 false, .linkEnable 0 0, .linkLock 0 0,
    .linkAlign 0 0 0, .linkEq 0 0, .linkConfirm 0 0, .linkActive 0, .trainingTimeout 0, .trainingFrame 0 ⟨[], ⟨0, 0⟩⟩ 0,
    .fomMeasure 0 0, .fillerGroup 0 ⟨0, []⟩, .linkBlockReceive 0 [] [], .resend 0 0, .resendRepeat 0, .ackTimeout 0,
    .pwrReq 0 0, .pwrAck 0 0, .pwrNak 0 0, .degrade 0 0, .degradeAck 0 0, .retrain 0, .linkControlRepeat 0,
    .degradeTimeout 0, .blockLockLoss 0, .fomHoldExpiry 0, .laneForceFail 0, .linkRetrainCmd 0, .quietIdle 0,
    .wakePattern 0, .lnClrMin 0, .portPresentChange 0 false, .packetRoute 0 0, .linkBlockSend 0,
    .unroutableTimeout 0 0, .vcClrMax 0 0, .bell 0 (pkt tBELL [0, 0]), .foldCommit 0, .foldCommitChecked 0,
    .foldRelease 0, .foldAbort 0, .foldInstanceStart 0, .foldChunkSend 0 0, .foldData (pkt tFOLD_DATA [0, 0]),
    .foldCredit (pkt tFOLD_CTRL [0, 0]), .foldResend (pkt tFOLD_CTRL [0, 0]),
    .foldConfirm (pkt tFOLD_CTRL [0, 0]), .foldReleaseMsg (pkt tFOLD_CTRL [0, 0]),
    .foldFault (pkt tFOLD_CTRL [0, 0]), .foldAbortMsg (pkt tFOLD_CTRL [0, 0]), .foldChunkTimeout 0 0,
    .foldInstanceDone 0, .helloRepeat 0, .hello 0 (pkt tHEFT [0, 0]), .heftAccept 0, .portRoleApply 0 0,
    .directedRequest 0 (pkt tHEFT [0, 0]), .directedResponse 0 (pkt tHEFT [0, 0]), .grant (pkt tEPOCH [0, 0]),
    .bump (pkt tEPOCH [0, 0]), .note (pkt tEPOCH [0, 0]), .join (pkt tEPOCH [0, 0]), .ack (pkt tEPOCH [0, 0]),
    .lost (pkt tEPOCH [0, 0]), .watchExpiry (.paddock 0), .partitionResetDone 0,
    .peerState (pkt tPEER_STATE [0, 0]), .bootStepDone [], .musterRxArm 0 0,
    .musterData (pkt tMUSTER [0, 0]) [], .musterPoll (pkt tMUSTER [0, 0]), .musterReport (pkt tMUSTER [0, 0]),
    .musterClose (pkt tMUSTER [0, 0]), .ageingCheck 0 0, .droopTrip 0, .followDwellExpiry 0, .ticAck 0 0,
    .ticEoi 0 0, .cicDeliver 0 0 (false, false), .cicEoi 0 0, .cicHostEoi 0, .msixSend 0, .holdoffExpiry (.chip 0),
    .tallyOverflow 0 0 0, .tagSample 0 false [] 0 0, .lmonSample (.fabric 0) 0, .lmonClear (.fabric 0),
    .mctpPacket 0 0 0 false false [], .setEndpointId 0 0] : List Instr).all (fun i => i.wf) = true := by
  decide

theorem test_well_formed_3 : ([
    .getEndpointId 0, .getMctpVersionSupport 0, .getMessageTypeSupport 0, .getVendorDefinedMessageSupport 0,
    .getIdentity 0 0, .setCap 0 0 0, .park 0 0 0, .coolant 0 0 0 0, .getSetting 0 0 0,
    .setSetting 0 0 0 0 false, .getCert 0 0 0 0, .attest 0 0 [] 0, .queryDeviceIdentifiers 0,
    .getFirmwareParameters 0, .requestUpdate 0 0, .passComponentTable 0 (0, 0), .updateComponent 0 (0, 0) 0,
    .activateFirmware 0, .getStatus 0, .cancelUpdateComponent 0, .cancelUpdate 0, .microcodeBroadcastDone [],
    .connectorMate 1 0 false, .engineResetDone 0 .matrix, .heartbeat 0, .watchWindowWrite 1 0,
    .holdoffUsWrite (.chip 0) 0, .linkPwrTargetWrite 0 0 0, .writeBackDone 0] : List Instr).all (fun i => i.wf) = true := by
  decide

theorem test_ill_formed_clone : ([.cloneDone { img with tiles := [tilePart 144] },
    .cloneDone { img with tiles := [{ tilePart 0 with planes := [] }] },
    .cloneDone { img with tiles := [{ tilePart 0 with v := [] }] }, .cloneDone { img with tiles := [{ tilePart 0 with p := [] }] },
    .cloneDone { img with tiles := [{ tilePart 0 with slots := [] }] }] : List Instr).all (fun i => !i.wf) = true
      ∧ (Instr.cloneDone { img with tiles := [tilePart 143] }).wf = true := by decide

/-- A packet with one field beyond its width each, a length that is not its body's, and an odd number of body words. -/
theorem test_ill_formed_packet :
    let p := pkt tWRITE [0, 0]
    ([{ p with dst := 65536 }, { p with src := 65536 }, { p with length := 16384 }, { p with vc := 8 }, { p with type := 32 },
      { p with status := 4 }, { p with sequence := 65536 }, { p with epoch := 65536 }, { p with partition := 4096 },
      { p with domain := 1024 }, { p with operation := 64 }, { p with length := 9 }, pkt tWRITE [0, 0, 0]] : List Packet).all
        (fun q => !q.wf) = true ∧ p.wf = true := by decide

/-! ### Single effects, with the numbers of the spec's worked examples -/

/-- The state that a command answers. -/
def after (c : Instr) (s : State) : State :=
  match exec c s with
  | .next t => t
  | _ => s

/-- 00_scope.md, a scratchpad address. -/
theorem test_global_address : gaNode 0x0A43494000100040 = 0x0A43 ∧ gaSpace 0x0A43494000100040 = 1
    ∧ gaTile 0x0A43494000100040 = 37 ∧ gaSpad 0x0A43494000100040 = 0x100040 ∧ 0x0A43 = 2 * 1024 + 18 * 32 + 3 := by decide

/-- 04_arithmetic.md, a K-split sum drained three ways: the sum of two WA96 values and its BF16 conversions. -/
theorem test_wa96_sum :
    let x := wa96Add (wa96Read (0x00000000000004D290000000 + 0x60 <<< 96))
      (wa96Read (0xFFFFFFFFFFFFFFEEE0000000 + 0x60 <<< 96)) 96
    x = ⟨0x00000000000004C170000000, 0⟩ ∧ (convertNum 3 0 false 0 (cellNum x 96) false).bits = 0x4498
      ∧ (convertNum 3 1 false 0 (cellNum x 96) false).bits = 0x4498
      ∧ (convertNum 3 4 false 0xE0000000 (cellNum x 96) false).bits = 0x4499
      ∧ (convertNum 3 4 false 0x60000000 (cellNum x 96) false).bits = 0x4498
      ∧ (convertNum 3 4 false 0xD2000000 (cellNum x 96) false).bits = 0x4499
      ∧ (convertNum 3 4 false 0xD1FFFFFF (cellNum x 96) false).bits = 0x4498 := by decide +kernel

/-- 04_arithmetic.md, the window anchor: each flag of a plane at anchor 64, and two of the rows at 66. -/
theorem test_window_anchor :
    addAddend Cell.zero (.fin true 9 (-2)) 64 = cellOfInt (-(9 * 2 ^ 62)) 0
      ∧ addAddend Cell.zero (.fin false (129 * 129) (-74)) 64 = cellOfInt 16 1
      ∧ addAddend Cell.zero (.fin false 15 29) 64 = cellOfInt (2 ^ 95 - 1) 2
      ∧ (addAddend Cell.zero (.fin false (129 * 129) (-74)) 66).flags = 1
      ∧ addAddend Cell.zero (.fin false 15 29) 66 = cellOfInt (15 * 2 ^ 91) 0 := by decide +kernel

/-- 05_tile_isa.md, one exact product: the fields of the MACC word. -/
theorem test_macc_word :
    let w := 0xA014B60080018044
    iOp w = 0x28 ∧ iPr w = 0 ∧ iF1 w = 10 ∧ iF2 w = 11 ∧ iF3 w = 12 ∧ iF4 w = 0 ∧ iSubE w = 1 ∧ mcAnchor (iCtl w) = 0x60
      ∧ mcPlane (iCtl w) = 0 ∧ mcFmtA (iCtl w) = 4 ∧ mcFmtB (iCtl w) = 4 := by decide

/-- 07_hbm.md, one address on a PQ-4810: entry, stack and local offset. -/
theorem test_interleave_example :
    let order := [0, 6, 1, 7, 2, 8, 4, 9, 5, 11]
    let s := sets [(HBM_ILV_CTRL_length, 0, 3840), (HBM_ILV_ENT_stack, 0, 0)]
      (((order.foldl (fun s k => s.setFld FUS_FP_UNIT_fused_on k 0 1) State.reset).setFld HBM_ILV_ENT_stack 0 103
        (order.getD (103 % 10) 0)).setFld HBM_ILV_ENT_slot 0 103 (103 / 10))
    s.ilvIndex 0x1234567890 = (103, 4971) ∧ s.stackOf 0x1234567890 = 7 ∧ s.stackLocal 0x1234567890 = 0x1D208A890
      ∧ bitsOf (s.stackLocal 0x1234567890) 11 7 = 17 := by decide

/-- 06_memory_model.md, a transfer announced by a flagged write: 40 KiB that start 0x800 past a packet boundary are 11
packets, the first and the last of 2 KiB. -/
theorem test_packet_split :
    let size := fun off => min (0xA000 - off) (4096 - (0x1800 + off) % 4096)
    let offs := (List.range 11).map fun i => if i = 0 then 0 else 0x800 + (i - 1) * 0x1000
    offs.map size = [0x800, 0x1000, 0x1000, 0x1000, 0x1000, 0x1000, 0x1000, 0x1000, 0x1000, 0x1000, 0x800]
      ∧ (dma .copy 0 0 0xA000 0).progress 0x800 1 = some { dma .copy 0 0 0xA000 0 with off := 0x800, seq := 1 }
      ∧ ({ dma .copy 0 0 0xA000 0 with off := 0x9800, seq := 10 }).progress 0x800 1 = none := by decide

/-- 09_router.md, a throttled stream: three marked windows, and the windows without marks near the full rate. -/
theorem test_throttled_stream :
    let at_ := fun (r : Nat) (m : Bool) => { base with limiter := [⟨0, 9, r, 0, 0, m, 0⟩] }
    let rate := fun (r : Nat) (m : Bool) => (after (.raddleWindow 0) (at_ r m)).limiter.map (fun (e : LimiterEntry) => e.rate)
    rate 10000 true = [8750] ∧ rate 8750 true = [7656] ∧ rate 7656 true = [6699] ∧ rate 6699 false = [6799]
      ∧ rate 9999 false = [10000] := by decide

/-- 12_topology.md, self-heft of node 0x0A43: the expected neighbours and the ID. -/
theorem test_self_heft :
    let s := sets [(RTR_NODE_ID_pos, 0, 43), (RTR_HEFT_CTRL_by, 0, 4)] base
    [1, 2, 3, 4, 5, 6].map (fun r => expectedPos r 43) = [59, 27, 47, 39, 40, 42] ∧ s.selfHeftId = 0x0A43 := by decide

/-- 16_power_thermal.md: 1.35 L/min at 30 °C derates 3,200 W to 2,400 W. -/
theorem test_coolant_derating : flowLimit 3200 135 300 = 2400 ∧ flowLimit 3200 200 300 = 3200 := by decide

/-- 17_interrupts_tally.md, link events: source 144 at priority 0x30 is delivered at 0x8000_2400. -/
theorem test_link_interrupt :
    let s := sets [(CIC_CTRL_enable, 0, 1), (CIC_CTRL_split, 0, 4), (CIC_VBASE_vbase, 1, 0x8000), (CIC_SRC_prio, 144, 0x30),
      (CIC_SRC_enable, 144, 1), (CIC_SRC_core, 144, 1), (RTR_LINK_EVT_fom_warn, 2, 1)] base
    s.cicCandidate 1 144 = true ∧ s.cicGroup 144 = 3 := by decide

/-- 18_management_firmware.md: a container of 12 blocks, and where block 5 starts. -/
theorem test_container_size :
    let b := header 786432 12
    fwLength b = 794048 ∧ fwPieceAt 5 = 327888 ∧ blockSize b 5 = 65552 := by decide +kernel

/-- 02_task_graphs.md, bounds: 32 GB/s give a bound of 8,192 ns, 2 GB/s one of 131,072 ns. -/
theorem test_bound_ns :
    let s := fun bytes => base.setPad 0 ⟨[], [], true, [(0, bytes)], 0, 0⟩
    (s (32000 * 1024)).padRate 0 = 32000 + 8192 <<< 32 ∧ (s (2000 * 1024)).padRate 0 = 2000 + 131072 <<< 32 := by decide

/-- 14_recovery.md, a hung compute die: the chip level's default window and action. -/
theorem test_watch_defaults : State.reset.fld MGT_WATCH_WIN1_chip_us = 10000 ∧ State.reset.fld MGT_WATCH_ACT_chip = 3
    ∧ State.reset.flag FWU_DUMP_CTRL_to_flash = true := by decide

end Sys2Proof.Tests
end

section
/-! SUPPORT. The registers that resets spare, and that every other register operation of a reset keeps them. -/
namespace Sys2Proof.Machine
open Sys2Proof.Safety

/-! ### Registers that a reset spares -/

/-- The offsets of the router's windows and of the configurations of the eight paddocks: which tiles and ranges of HBM
a reset of a paddock reaches. -/
def mapped (o : Nat) : Bool :=
  (decide (0x3f1000 ≤ o) && decide (o < 0x3f2000)) || (decide (0x701000 ≤ o) && decide (o ≤ 0x701700) && o % 0x100 == 0)

theorem mapped_iff (o : Nat) : mapped o = true ↔
    (0x3f1000 ≤ o ∧ o < 0x3f2000) ∨ (0x701000 ≤ o ∧ o ≤ 0x701700 ∧ o % 0x100 = 0) := by
  simp [mapped, and_assoc]

/-- With them the log of resets. -/
def lasting (o : Nat) : Bool := o == RegId.offset .MGT_RST_LOG 0 0 || mapped o

/-- With them the pair's configuration and lease, which only the loss of the copy changes (R373). -/
def spared (o : Nat) : Bool := lasting o || (decide (0x3f2000 ≤ o) && decide (o < 0x3f2038))

theorem spared_iff (o : Nat) : spared o = true ↔
    o = 0x2028 ∨ (0x3f1000 ≤ o ∧ o < 0x3f2038) ∨ (0x701000 ≤ o ∧ o ≤ 0x701700 ∧ o % 0x100 = 0) := by
  simp only [spared, lasting, Bool.or_eq_true, Bool.and_eq_true, beq_iff_eq, decide_eq_true_eq, mapped_iff]
  simp only [RegId.offset, RegId.desc]
  omega

theorem lasting_of_mapped (o : Nat) (h : mapped o = true) : lasting o = true := by simp [lasting, h]

theorem spared_of_lasting (o : Nat) (h : lasting o = true) : spared o = true := by simp [spared, h]

theorem mapped_padCfg (p : Nat) (h : p < 8) : mapped (RegId.offset .GI_PAD_CFG p 0) = true := by
  rw [mapped_iff]; simp only [RegId.offset, RegId.desc]; omega

theorem mapped_winBase (w : Nat) (h : w < 64) : mapped (RegId.offset .RTR_WIN_BASE w 0) = true := by
  rw [mapped_iff]; simp only [RegId.offset, RegId.desc]; omega

theorem mapped_winLim (w : Nat) (h : w < 64) : mapped (RegId.offset .RTR_WIN_LIM w 0) = true := by
  rw [mapped_iff]; simp only [RegId.offset, RegId.desc]; omega

/-- The registers of stacks and tiles are not spared. -/
theorem not_spared_of_ge (o : Nat) (h : 0x800000 ≤ o) : spared o = false := by
  rw [Bool.eq_false_iff, ne_eq, spared_iff]; omega

/-- No register of the fold engine is spared. -/
theorem not_spared_fold (o : Nat) (h : 0x500000 ≤ o) (k : o < 0x600000) : spared o = false := by
  rw [Bool.eq_false_iff, ne_eq, spared_iff]; omega

/-- The registers at the offsets of `P` hold what they held. -/
def KeptAt (P : Nat → Bool) (s t : State) : Prop :=
  t.fuse = s.fuse ∧ ∀ o, P o = true → aget t.regs o = aget s.regs o

/-- The registers that a reset spares hold what they held. -/
abbrev SparedKept (s t : State) : Prop := KeptAt spared s t

section
variable {P Q : Nat → Bool} {s t u : State}

theorem KeptAt.refl (s : State) : KeptAt P s s := ⟨rfl, fun _ _ => rfl⟩

theorem KeptAt.of_eq (hf : t.fuse = s.fuse) (h : t.regs = s.regs) : KeptAt P s t := ⟨hf, fun _ _ => by rw [h]⟩

theorem KeptAt.trans (h : KeptAt P s t) (k : KeptAt P t u) : KeptAt P s u :=
  ⟨k.1.trans h.1, fun o ho => (k.2 o ho).trans (h.2 o ho)⟩

theorem KeptAt.mono (h : KeptAt P s t) (hq : ∀ o, Q o = true → P o = true) : KeptAt Q s t :=
  ⟨h.1, fun o ho => h.2 o (hq o ho)⟩

theorem KeptAt.lasting (h : SparedKept s t) : KeptAt lasting s t := h.mono spared_of_lasting

theorem KeptAt.mapped (h : KeptAt Machine.lasting s t) : KeptAt mapped s t := h.mono lasting_of_mapped

theorem KeptAt.reg (h : KeptAt P s t) (r : RegId) (i j : Nat) (ho : P (r.offset i j) = true) :
    t.reg r i j = s.reg r i j := by
  obtain ⟨hf, hr⟩ := h
  simp only [State.reg, hr _ ho, hf]

theorem KeptAt.fld (h : KeptAt P s t) (f : Fld) (i j : Nat) (ho : P (f.reg.offset i j) = true) :
    t.fld f i j = s.fld f i j := by
  simp only [State.fld, h.reg f.reg i j ho]

theorem KeptAt.flag (h : KeptAt P s t) (f : Fld) (i j : Nat) (ho : P (f.reg.offset i j) = true) :
    t.flag f i j = s.flag f i j := by
  simp only [State.flag, h.fld f i j ho]

/-- A store at another offset. -/
theorem KeptAt.setReg (s : State) (r : RegId) (i j v : Nat) (h : P (r.offset i j) = false) :
    KeptAt P s (s.setReg r i j v) :=
  ⟨rfl, fun o ho => aget_aset_other _ _ _ _ fun e => by rw [e, ho] at h; exact Bool.noConfusion h⟩

theorem KeptAt.setFld (s : State) (f : Fld) (i j v : Nat) (h : P (f.reg.offset i j) = false) :
    KeptAt P s (s.setFld f i j v) := KeptAt.setReg s f.reg i j _ h

theorem KeptAt.of_regsKept {l : List Nat} (hf : t.fuse = s.fuse) (h : RegsKept l s t) (hl : ∀ o ∈ l, P o = false) :
    KeptAt P s t :=
  ⟨hf, fun o ho => h.1 o fun hm => by rw [hl o hm] at ho; exact Bool.noConfusion ho⟩

end

/-- A table whose entries are changed without their keys. -/
theorem aget_mapKeyed {α : Type} (f : Nat × α → Nat × α) (hf : ∀ e, (f e).1 = e.1) (t : Assoc α) (k : Nat)
    (h : ∀ v, f (k, v) = (k, v)) : aget (t.map f) k = aget t k := by
  induction t with
  | nil => rfl
  | cons e t ih =>
    obtain ⟨j, v⟩ := e
    have hj : f (j, v) = (j, (f (j, v)).2) := Prod.ext (hf (j, v)) rfl
    rw [List.map_cons, hj]
    by_cases c : j = k
    · subst c; simp [aget, h]
    · simp [aget, c, ih]

theorem locateIn_mem (o : Nat) (l : List RegId) (r : RegId) (i j : Nat) (h : locateIn o l = some (r, i, j)) : r ∈ l := by
  induction l with
  | nil => simp [locateIn] at h
  | cons a l ih =>
    simp only [locateIn] at h
    split at h
    · simp only [Option.some.injEq, Prod.mk.injEq] at h
      simp [h.1]
    · exact List.mem_cons_of_mem _ (ih h)

/-- The registers that a partition or chip reset gives their reset values (R13, R70, R102). -/
def resettable (r : RegId) : Bool :=
  r.ofTile || r.ofHbm || [.GI_PAD_OCC, .GI_PAD_RATE, .GI_PAD_COUNT, .GI_PAD_REFUSE, .GI_PAD_TAGPTR, .GI_CD].contains r

/-- A register at an offset that a reset spares is none that it resets. -/
theorem resettable_of_spared (o : Nat) (h : spared o = true) (r : RegId) (i j : Nat)
    (hr : locateIn o (regsOfOffset o) = some (r, i, j)) : resettable r = false := by
  have mgt : ∀ r ∈ regsOfMgt, resettable r = false := by decide
  have rtr : ∀ r ∈ regsOfRtr, resettable r = false := by decide
  have cfg : ∀ p, p < 8 → (locateIn (0x701000 + 0x100 * p) regsOfGi).map (·.1) = some .GI_PAD_CFG := by decide
  rcases (spared_iff o).mp h with rfl | ⟨h1, h2⟩ | ⟨h1, h2, h3⟩
  · exact mgt r (locateIn_mem _ _ _ _ _ hr)
  · have e : regsOfOffset o = regsOfRtr := by
      unfold regsOfOffset
      rw [if_neg (by omega), if_neg (by omega), if_neg (by omega), if_pos (by omega)]
    exact rtr r (locateIn_mem _ _ _ _ _ (e ▸ hr))
  · have e : regsOfOffset o = regsOfGi := by
      unfold regsOfOffset
      rw [if_neg (by omega), if_neg (by omega), if_neg (by omega), if_neg (by omega), if_neg (by omega),
        if_neg (by omega), if_neg (by omega), if_pos (by omega)]
    have c := cfg ((o - 0x701000) / 0x100) (by omega)
    rw [show 0x701000 + 0x100 * ((o - 0x701000) / 0x100) = o by omega, ← e, hr] at c
    simp only [Option.map_some, Option.some.injEq] at c
    subst c; decide

/-- A reset of registers spares what it does not reach. -/
theorem SparedKept.resetRegs (s : State) (level : Nat) (reached : RegId → Nat → Bool)
    (h : ∀ r i, reached r i = true → resettable r = true) : SparedKept s (s.resetRegs level reached) := by
  refine ⟨rfl, fun o ho => aget_mapKeyed _ (fun e => ?_) _ _ fun v => ?_⟩
  · repeat' split
    all_goals rfl
  · dsimp only
    split
    next r i j hr =>
      have n := resettable_of_spared o ho r i j hr
      rw [if_neg fun c => by rw [h r i c] at n; exact Bool.noConfusion n]
    next => rfl

end Sys2Proof.Machine
end

section
/-! SUPPORT. What the packets of a reset change, and what the loss of a copy and the flush of a paddock leave. -/
namespace Sys2Proof.Machine
open Sys2Proof.Safety

/-! ### Packets that a reset sends -/

/-- A standby that has lost its copy keeps no packet back (R373), and another node never does (R361). -/
def Mute (s : State) : Prop :=
  s.paired = true → s.fld RTR_PAIR_CTRL_role = 2 → s.flag RTR_PAIR_LEASE_stale = true

/-- Packets went out and the fold engine's entries changed, with registers that no reset spares. -/
def Answers (s t : State) : Prop :=
  t = { s with regs := t.regs, input := t.input, pair := t.pair, fold := t.fold, fresh := t.fresh } ∧ SparedKept s t

theorem Answers.refl (s : State) : Answers s s := ⟨rfl, KeptAt.refl s⟩

theorem Answers.trans {s t u : State} (h : Answers s t) (k : Answers t u) : Answers s u := by
  obtain ⟨h1, h2⟩ := h
  obtain ⟨k1, k2⟩ := k
  refine ⟨?_, h2.trans k2⟩
  rw [h1] at k1
  exact k1

theorem SparedKept.mute {s t : State} (h : SparedKept s t) (hm : Mute s) : Mute t := by
  intro hp hr
  rw [State.paired, h.flag RTR_PAIR_CTRL_enable 0 0 (by decide)] at hp
  rw [h.fld RTR_PAIR_CTRL_role 0 0 (by decide)] at hr
  rw [h.flag RTR_PAIR_LEASE_stale 0 0 (by decide)]
  exact hm hp hr

theorem Mute.of_eq {s t : State} (hm : Mute s) (hf : t.fuse = s.fuse) (h : t.regs = s.regs) : Mute t :=
  SparedKept.mute (KeptAt.of_eq hf h) hm

theorem Answers.mute {s t : State} (h : Answers s t) (hm : Mute s) : Mute t := h.2.mute hm

/-- A register written that no reset spares. -/
theorem Answers.setFld (s : State) (f : Fld) (i j v : Nat) (h : spared (f.reg.offset i j) = false) :
    Answers s (s.setFld f i j v) := ⟨rfl, KeptAt.setFld s f i j v h⟩

theorem Answers.of_sentFrom {s t : State} (h : SentFrom s t) : Answers s t := by
  obtain ⟨h1, h2⟩ := h
  exact ⟨by rw [h1], KeptAt.of_regsKept (by rw [h1]) h2 (by decide)⟩

theorem Answers.foldl {α : Type} (f : State → α → State) (l : List α)
    (h : ∀ s, Mute s → ∀ a ∈ l, Answers s (f s a)) (s : State) (hm : Mute s) : Answers s (l.foldl f s) := by
  induction l generalizing s with
  | nil => exact Answers.refl s
  | cons a l ih =>
    have ha := h s hm a (by simp)
    exact ha.trans (ih (fun s hs b hb => h s hs b (by simp [hb])) _ (ha.mute hm))

theorem Answers.sendKeyed (s : State) (port key : Nat) (p : Packet) (a b : Bool) (hm : Mute s) :
    Answers s (s.sendKeyed port key p a b) := by
  by_cases hr : s.fld RTR_PAIR_CTRL_role = 2
  · unfold State.sendKeyed
    split
    next => exact ⟨rfl, KeptAt.of_eq rfl rfl⟩
    next c =>
      have hp : s.paired = true := by simp_all
      rw [if_pos (hm hp hr)]
      exact Answers.refl s
  · exact Answers.of_sentFrom (sendKeyed_frame s port key p a b hr)

theorem Answers.respond (s : State) (port : Nat) (q : Packet) (i : Nat) (p : Packet) (hm : Mute s) :
    Answers s (s.respond port q i p) := Answers.sendKeyed s port _ p false false hm

theorem Answers.answerRequest (s : State) (h : Packet) (tag result : Nat) (hm : Mute s) :
    Answers s (s.answerRequest h tag result) := Answers.respond s _ _ _ _ hm

theorem Answers.finishGraph (s : State) (e : QueuedGraph) (hm : Mute s) : Answers s (s.finishGraph e) := by
  unfold State.finishGraph State.sendAck
  split
  · dsimp only
    split
    · exact Answers.refl s
    · exact Answers.respond s _ _ _ _ hm
  · exact Answers.refl s

theorem Answers.answerDiscard (s : State) (p : Packet) (cause : Nat) (hm : Mute s) :
    Answers s (s.answerDiscard p cause) := by
  unfold State.answerDiscard
  split
  · exact Answers.respond s _ _ _ _ hm
  · split
    · exact Answers.respond s _ _ _ _ hm
    · exact (Answers.respond s _ _ _ _ hm).trans ⟨rfl, KeptAt.of_eq rfl rfl⟩

theorem Answers.answerDiscards (cause : Nat) (l : List HeldFlag) (s : State) (hm : Mute s) :
    Answers s (s.answerDiscards cause l) := by
  induction l generalizing s with
  | nil => exact Answers.refl s
  | cons h l ih =>
    have h1 : Answers s (s.eventBit GI_CD_EVT_fh_discard h.pad) := Answers.setFld s _ 0 0 _ (by decide)
    have h2 := h1.trans (Answers.answerDiscard _ h.packet cause (h1.mute hm))
    exact h2.trans (ih _ (h2.mute hm))

/-- Held packets discarded leave the flag-hold buffer, and their senders are answered (R205). -/
theorem Answers.discardHeld (s : State) (q : HeldFlag → Bool) (cause : Nat) (hm : Mute s) :
    Answers { s with flagHold := s.flagHold.filter fun h => !q h } (s.discardHeld q cause) :=
  Answers.answerDiscards cause _ _ hm

theorem Answers.tellNeighbours (s : State) (e : Nat) (but : Option Nat) (inst msg cause arg : Nat) (hm : Mute s) :
    Answers s (s.tellNeighbours e but inst msg cause arg) :=
  Answers.foldl _ _ (fun s hs _ _ => Answers.sendKeyed s _ _ _ _ _ hs) s hm

theorem Answers.onFold (s : State) (e : Nat) (f : FoldEntry → FoldEntry) : Answers s (s.onFold e f) :=
  ⟨rfl, KeptAt.of_eq rfl rfl⟩

theorem not_spared_collStat (e : Nat) (he : e < 512) : spared (RegId.offset .FLD_COLL_STAT e 0) = false := by
  apply not_spared_fold <;> (simp only [RegId.offset, RegId.desc]; omega)

theorem not_spared_collTrig (e : Nat) (he : e < 512) : spared (RegId.offset .FLD_COLL_TRIG e 0) = false := by
  apply not_spared_fold <;> (simp only [RegId.offset, RegId.desc]; omega)

/-- A collective-table entry that a reset reaches (R327). -/
theorem Answers.resetEntry (s : State) (e : Nat) (he : e < 512) (hm : Mute s) : Answers s (s.resetEntry e) := by
  have ended : Answers s (if s.fRunning e then
      (s.tellNeighbours e none (s.fInstance e) fmAbort 4 0).endInstance e |>.event FLD_EVT_abort else s) := by
    split
    · exact ((Answers.tellNeighbours s e _ _ _ _ _ hm).trans
        (Answers.setFld _ FLD_COLL_STAT_state e 0 _ (not_spared_collStat e he))).trans
        ((Answers.onFold _ e _).trans (Answers.setFld _ FLD_EVT_abort 0 0 1 (by decide)))
    · exact Answers.refl s
  exact (ended.trans (Answers.onFold _ e _)).trans
    ((Answers.setFld _ FLD_COLL_STAT_instance e 0 0 (not_spared_collStat e he)).trans
      (Answers.setFld _ FLD_COLL_TRIG_next_expect e 0 _ (not_spared_collTrig e he)))

theorem mem_of_mem_foldr_dedup (l : List Nat) (e : Nat)
    (h : e ∈ l.foldr (fun e l => if l.contains e then l else e :: l) []) : e ∈ l := by
  induction l with
  | nil => exact h
  | cons a l ih =>
    rw [List.foldr_cons] at h
    split at h
    · exact List.mem_cons_of_mem _ (ih h)
    · rcases List.mem_cons.mp h with rfl | h
      · exact List.mem_cons_self
      · exact List.mem_cons_of_mem _ (ih h)

/-- The entries that a reset reaches are those of the collective table (R306). -/
theorem entriesOf_lt (s : State) (q : Option Nat) (e : Nat) (h : e ∈ s.entriesOf q) : e < 512 := by
  unfold State.entriesOf at h
  obtain ⟨r, -, hr⟩ := List.mem_filterMap.mp (mem_of_mem_foldr_dedup _ _ (List.mem_filter.mp h).1)
  split at hr
  next c =>
    simp only [Bool.and_eq_true, decide_eq_true_eq] at c
    simp only [Option.some.injEq] at hr
    omega
  next => exact absurd hr (by simp)

theorem Answers.resetEntries (s : State) (q : Option Nat) (hm : Mute s) :
    Answers s ((s.entriesOf q).foldl (fun s e => s.resetEntry e) s) :=
  Answers.foldl _ _ (fun s hs e he => Answers.resetEntry s e (entriesOf_lt _ q e he) hs) s hm

/-! ### The loss of a copy, and the paddocks' queues -/

/-- The loss of a node's copy (R373) writes the lease and the pair's events, and tells the pair. -/
theorem loseCopy_frame (s : State) (arg : Nat) :
    s.loseCopy arg = { s with regs := (s.loseCopy arg).regs, input := (s.loseCopy arg).input }
      ∧ KeptAt lasting s (s.loseCopy arg) := by
  unfold State.loseCopy
  split
  · exact ⟨rfl, KeptAt.refl s⟩
  · have lost := (KeptAt.setFld (P := lasting) s RTR_PAIR_LEASE_stale 0 0 1 (by decide)).trans
      ((KeptAt.setFld _ RTR_PAIR_LEASE_valid 0 0 0 (by decide)).trans
        (KeptAt.setFld _ RTR_PAIR_EVT_stale 0 0 1 (by decide)))
    exact ⟨rfl, (lost.trans (KeptAt.setFld _ RTR_PAIR_LEASE_epoch 0 0 0 (by decide))).trans (KeptAt.of_eq rfl rfl)⟩

theorem mute_loseCopy (s : State) (arg : Nat) : Mute (s.loseCopy arg) := by
  unfold State.loseCopy
  split
  next h =>
    intro hp hr
    simp [State.pairRole, hp, hr] at h
  next =>
    intro _ _
    have stale : ((s.put RTR_PAIR_LEASE_stale 1).put RTR_PAIR_LEASE_valid 0).fld RTR_PAIR_LEASE_stale = 1 := by
      rw [fld_put_beside _ RTR_PAIR_LEASE_valid RTR_PAIR_LEASE_stale _ (by decide) (by decide) rfl (by decide),
        fld_put_same _ _ _ (by decide)]
      rfl
    have kept : ((((s.put RTR_PAIR_LEASE_stale 1).put RTR_PAIR_LEASE_valid 0).event RTR_PAIR_EVT_stale).put
        RTR_PAIR_LEASE_epoch 0).fld RTR_PAIR_LEASE_stale = 1 := by
      rw [fld_put_beside _ RTR_PAIR_LEASE_epoch RTR_PAIR_LEASE_stale _ (by decide) (by decide) rfl (by decide)]
      exact (fld_put_other _ RTR_PAIR_EVT_stale _ 0 0 1 (by decide)).trans stale
    exact beq_iff_eq.mpr kept

theorem resettable_of_ofPad (s : State) (p : Nat) (r : RegId) (i : Nat) (h : s.ofPad p r i = true) :
    resettable r = true := by
  unfold State.ofPad at h
  split at h
  iterate 6 · rfl
  · exact Bool.noConfusion h

/-- A paddock's state after a flush, before its counters are reset and its saturated event rearmed: packets have answered
what stood in its queues. -/
theorem flushPad_answers (s : State) (p : Nat) (hm : Mute s) :
    ∃ u, Answers { (s.setPad p { s.pad p with queue := [], requests := [], retired := [] }) with
        grants := s.grants.filter fun g => g.pad != p } u
      ∧ s.flushPad p = (u.resetRegs 3 (u.ofPad p)).rearm p := by
  refine ⟨_, ?_, rfl⟩
  have granted := Answers.foldl (fun s r => s.answerRequest r.header r.tag 3) (s.pad p).requests
    (fun s hs _ _ => Answers.answerRequest s _ _ _ hs)
    { (s.setPad p { s.pad p with queue := [], requests := [], retired := [] }) with
        grants := s.grants.filter fun g => g.pad != p }
    (hm.of_eq rfl rfl)
  have finished := granted.trans (Answers.foldl (fun s e => s.finishGraph (e.refuseRest e.rest.length)) (s.pad p).queue
    (fun s hs _ _ => Answers.finishGraph s _ hs) _ (granted.mute (hm.of_eq rfl rfl)))
  split
  · exact finished.trans (Answers.setFld _ GI_EVT_refused 0 0 _ (by decide))
  · exact finished

theorem rearm_frame (s : State) (p : Nat) :
    s.rearm p = { s with pads := (s.rearm p).pads } ∧ ((s.rearm p).pad p).queue = (s.pad p).queue
      ∧ ((s.rearm p).pad p).requests = (s.pad p).requests := by
  unfold State.rearm
  split
  · refine ⟨rfl, ?_, ?_⟩ <;> simp [State.pad, State.setPad]
  · exact ⟨rfl, rfl, rfl⟩

/-- A paddock flushed (R70): its queue, its requests and its grants are gone. -/
theorem flushPad_frame (s : State) (p : Nat) (hm : Mute s) :
    Answers { s with pads := (s.flushPad p).pads, grants := s.grants.filter fun g => g.pad != p } (s.flushPad p)
      ∧ ((s.flushPad p).pad p).queue = [] ∧ ((s.flushPad p).pad p).requests = [] := by
  obtain ⟨u, ⟨hu, ku⟩, e⟩ := flushPad_answers s p hm
  obtain ⟨hr, hq, hr'⟩ := rearm_frame (u.resetRegs 3 (u.ofPad p)) p
  have pads : u.pads = aset s.pads p { s.pad p with queue := [], requests := [], retired := [] } := by rw [hu]; rfl
  have kept : SparedKept s (s.flushPad p) := by
    rw [e, hr]
    exact (KeptAt.trans (t := u) ku (SparedKept.resetRegs u 3 _ (resettable_of_ofPad u p))).trans
      (KeptAt.of_eq rfl rfl)
  refine ⟨⟨?_, kept⟩, ?_, ?_⟩
  · rw [e, hr]
    simp only [State.resetRegs]
    rw [hu]
    rfl
  · rw [e, hq]
    simp [State.pad, State.resetRegs, pads]
  · rw [e, hr']
    simp [State.pad, State.resetRegs, pads]

/-- What paddocks that are flushed change: their queues, requests and grants, beside the answers that go out. -/
def Flushes (s t : State) : Prop :=
  t = { s with
      regs := t.regs, input := t.input, pair := t.pair, fold := t.fold, fresh := t.fresh, pads := t.pads
      grants := t.grants }
    ∧ SparedKept s t

theorem Flushes.trans {s t u : State} (h : Flushes s t) (k : Flushes t u) : Flushes s u := by
  obtain ⟨h1, h2⟩ := h
  obtain ⟨k1, k2⟩ := k
  refine ⟨?_, h2.trans k2⟩
  rw [h1] at k1
  exact k1

theorem Flushes.flushPad (s : State) (p : Nat) (hm : Mute s) : Flushes s (s.flushPad p) := by
  obtain ⟨⟨h, k⟩, -⟩ := flushPad_frame s p hm
  exact ⟨by rw [h], k⟩

theorem Flushes.flushPads (l : List Nat) (s : State) (hm : Mute s) :
    Flushes s (l.foldl (fun s p => s.flushPad p) s) := by
  induction l generalizing s with
  | nil => exact ⟨rfl, KeptAt.refl s⟩
  | cons p l ih =>
    have h := Flushes.flushPad s p hm
    exact h.trans (ih _ (h.2.mute hm))

end Sys2Proof.Machine
end

section
/-! SUPPORT. What the reset of tiles and the zeroing of HBM change, and which bytes they zero. -/
namespace Sys2Proof.Machine
open Sys2Proof.Safety

/-! ### Memory that a reset zeroes -/

/-- A memory whose bytes at the addresses of `P` are zero and whose other bytes are those of another one. -/
def ZeroedIn (P : Nat → Prop) (m m' : List Host.Cell) : Prop :=
  ∀ a, (P a → memByte m' a = 0) ∧ (¬P a → memByte m' a = memByte m a)

theorem ZeroedIn.refl (m : List Host.Cell) : ZeroedIn (fun _ => False) m m := fun _ => ⟨False.elim, fun _ => rfl⟩

theorem ZeroedIn.trans {P Q : Nat → Prop} {m m' m'' : List Host.Cell} (h : ZeroedIn P m m') (k : ZeroedIn Q m' m'') :
    ZeroedIn (fun a => P a ∨ Q a) m m'' := by
  intro a
  by_cases hq : Q a
  · exact ⟨fun _ => (k a).1 hq, fun n => absurd (Or.inr hq) n⟩
  · exact ⟨fun hp => ((k a).2 hq).trans ((h a).1 (hp.resolve_right hq)),
      fun n => ((k a).2 hq).trans ((h a).2 fun hp => n (.inl hp))⟩

theorem ZeroedIn.congr {P Q : Nat → Prop} {m m' : List Host.Cell} (h : ZeroedIn P m m') (e : ∀ a, Q a ↔ P a) :
    ZeroedIn Q m m' := fun a => ⟨fun q => (h a).1 ((e a).mp q), fun n => (h a).2 fun p => n ((e a).mpr p)⟩

/-- A range zeroed. -/
theorem zeroedIn_memZero (m : List Host.Cell) (lo hi : Nat) :
    ZeroedIn (fun a => lo ≤ a ∧ a < hi) m (memZero m lo hi) := by
  intro a
  induction m with
  | nil => exact ⟨fun _ => rfl, fun _ => rfl⟩
  | cons c m ih =>
    obtain ⟨j, v⟩ := c
    obtain ⟨inside, outside⟩ := ih
    by_cases hj : lo ≤ j ∧ j < hi
    · have e : memZero ((j, v) :: m) lo hi = memZero m lo hi := by simp [memZero, hj]
      rw [e]
      refine ⟨inside, fun n => (outside n).trans ?_⟩
      have ne : j ≠ a := fun e => n (e ▸ hj)
      simp [memByte, ne]
    · have e : memZero ((j, v) :: m) lo hi = (j, v) :: memZero m lo hi := by
        simp only [memZero, List.filter_cons]
        rw [if_pos (by simp only [Bool.not_eq_true', Bool.and_eq_false_iff, decide_eq_false_iff_not]; omega)]
      rw [e]
      by_cases ne : j = a
      · subst ne
        exact ⟨fun h => absurd h hj, fun _ => by simp [memByte]⟩
      · simpa [memByte, ne] using And.intro inside outside

/-- A tile as a partition or deeper reset leaves it: no task, no early token, its sequencer held. -/
def Tile.Emptied (x : Tile) : Prop :=
  x.slots = Tile.reset.slots ∧ x.etb = [] ∧ Engine.sequencer ∈ x.inReset

theorem emptied_inFullReset (x : Tile) (now : Nat) : (x.inFullReset now).Emptied :=
  ⟨rfl, rfl, List.mem_cons_self⟩

theorem tile_resetTile_same (s : State) (n : Nat) : ((s.resetTile n).tile n).Emptied := by
  have e : (s.resetTile n).tile n = (s.tile n).inFullReset s.now := tile_setTile_same s n _
  rw [e]
  exact emptied_inFullReset _ _

theorem tile_resetTile_other (s : State) (n m : Nat) (h : m ≠ n) : (s.resetTile n).tile m = s.tile m :=
  tile_setTile_other s n m _ h

/-- Whether an address lies in the scratchpad of one of a list of tiles. -/
def InSpads (ts : List Nat) (a : Nat) : Prop := ∃ m ∈ ts, spadKey m 0 ≤ a ∧ a < spadKey m 0 + spadSize

/-- What tiles that are taken into a reset change: tiles, their measures and memory. -/
def TilesCleared (s t : State) : Prop := t = { s with tiles := t.tiles, mem := t.mem, meters := t.meters }

theorem TilesCleared.trans {s t u : State} (h : TilesCleared s t) (k : TilesCleared t u) : TilesCleared s u := by
  unfold TilesCleared at *
  rw [h] at k
  exact k

theorem TilesCleared.resetTiles (ts : List Nat) (s : State) :
    TilesCleared s (ts.foldl (fun s t => s.resetTile t) s) := by
  induction ts generalizing s with
  | nil => rfl
  | cons n ts ih => exact TilesCleared.trans (t := s.resetTile n) rfl (ih _)

theorem tile_resetTiles_other (ts : List Nat) (s : State) (m : Nat) (h : m ∉ ts) :
    (ts.foldl (fun s t => s.resetTile t) s).tile m = s.tile m := by
  induction ts generalizing s with
  | nil => rfl
  | cons n ts ih =>
    obtain ⟨hn, hts⟩ : m ≠ n ∧ m ∉ ts := by simpa using h
    exact (ih _ hts).trans (tile_resetTile_other s n m hn)

theorem tile_resetTiles (ts : List Nat) (s : State) (m : Nat) (h : m ∈ ts) :
    ((ts.foldl (fun s t => s.resetTile t) s).tile m).Emptied := by
  induction ts generalizing s with
  | nil => exact absurd h (by simp)
  | cons n ts ih =>
    by_cases hm : m ∈ ts
    · exact ih _ hm
    · obtain rfl : m = n := (List.mem_cons.mp h).resolve_right hm
      rw [List.foldl_cons, tile_resetTiles_other ts _ m hm]
      exact tile_resetTile_same s m

theorem zeroedIn_resetTiles (ts : List Nat) (s : State) :
    ZeroedIn (InSpads ts) s.mem (ts.foldl (fun s t => s.resetTile t) s).mem := by
  induction ts generalizing s with
  | nil => exact (ZeroedIn.refl _).congr fun a => by simp [InSpads]
  | cons n ts ih =>
    have one : ZeroedIn _ s.mem (s.resetTile n).mem := zeroedIn_memZero _ _ _
    exact (one.trans (ih _)).congr fun a => by simp [InSpads]

/-- What ranges of HBM that are zeroed change: memory, its errors and the list of regions that are pending. -/
def HbmCleared (s t : State) : Prop :=
  t = { s with
      mem := t.mem, hbmUe := t.hbmUe, hbmCe := t.hbmCe, hbmOndie := t.hbmOndie
      recovery := { s.recovery with zero := t.recovery.zero } }

theorem HbmCleared.trans {s t u : State} (h : HbmCleared s t) (k : HbmCleared t u) : HbmCleared s u := by
  unfold HbmCleared at *
  rw [h] at k
  exact k

theorem HbmCleared.zeroHbm (s : State) (r : Nat × Nat) : HbmCleared s (s.zeroHbm r) := by
  unfold State.zeroHbm
  dsimp only
  split <;> rfl

theorem HbmCleared.zeroHbms (rs : List (Nat × Nat)) (s : State) :
    HbmCleared s (rs.foldl (fun s r => s.zeroHbm r) s) := by
  induction rs generalizing s with
  | nil => rfl
  | cons r rs ih => exact (HbmCleared.zeroHbm s r).trans (ih _)

theorem mem_zeroHbm (s : State) (r : Nat × Nat) : (s.zeroHbm r).mem = memZero s.mem r.1 r.2 := by
  simp only [State.zeroHbm]
  split
  · rw [State.onRec_mem]
  · rfl

/-- Whether a number lies in one of a list of ranges. -/
def InRanges (rs : List (Nat × Nat)) (a : Nat) : Prop := ∃ r ∈ rs, r.1 ≤ a ∧ a < r.2

theorem zeroedIn_zeroHbms (rs : List (Nat × Nat)) (s : State) :
    ZeroedIn (InRanges rs) s.mem (rs.foldl (fun s r => s.zeroHbm r) s).mem := by
  induction rs generalizing s with
  | nil => exact (ZeroedIn.refl _).congr fun a => by simp [InRanges]
  | cons r rs ih =>
    have one : ZeroedIn _ s.mem (s.zeroHbm r).mem := mem_zeroHbm s r ▸ zeroedIn_memZero _ _ _
    exact (one.trans (ih _)).congr fun a => by simp [InRanges]

theorem inRanges_rangeMinus (o r : Nat × Nat) (a : Nat) :
    InRanges (rangeMinus o r) a ↔ (r.1 ≤ a ∧ a < r.2) ∧ ¬(o.1 ≤ a ∧ a < o.2) := by
  simp only [InRanges, rangeMinus, List.mem_filter, List.mem_cons, List.not_mem_nil, or_false, decide_eq_true_eq]
  constructor
  · rintro ⟨q, ⟨rfl | rfl, h⟩, h1, h2⟩ <;> simp only [] at h h1 h2 <;> omega
  · rintro ⟨h1, h2⟩
    by_cases c : a < o.1
    · exact ⟨_, ⟨.inl rfl, by dsimp only; omega⟩, by dsimp only; omega⟩
    · exact ⟨_, ⟨.inr rfl, by dsimp only; omega⟩, by dsimp only; omega⟩

/-- The numbers in ranges without other ranges. -/
theorem inRanges_rangesMinus (rs os : List (Nat × Nat)) (a : Nat) :
    InRanges (rangesMinus rs os) a ↔ InRanges rs a ∧ ¬InRanges os a := by
  induction os generalizing rs with
  | nil => simp [rangesMinus, InRanges]
  | cons o os ih =>
    rw [rangesMinus, ih]
    have cons : InRanges (o :: os) a ↔ (o.1 ≤ a ∧ a < o.2) ∨ InRanges os a := by simp [InRanges]
    rw [cons]
    by_cases ho : o.1 < o.2
    · have step : InRanges (rs.flatMap (rangeMinus o)) a ↔ InRanges rs a ∧ ¬(o.1 ≤ a ∧ a < o.2) := by
        have one := fun r => inRanges_rangeMinus o r a
        simp only [InRanges, List.mem_flatMap] at one ⊢
        constructor
        · rintro ⟨q, ⟨r, hr, hq⟩, h⟩
          exact ⟨⟨r, hr, ((one r).mp ⟨q, hq, h⟩).1⟩, ((one r).mp ⟨q, hq, h⟩).2⟩
        · rintro ⟨⟨r, hr, h⟩, hn⟩
          obtain ⟨q, hq, h'⟩ := (one r).mpr ⟨h, hn⟩
          exact ⟨q, ⟨r, hr, hq⟩, h'⟩
      rw [if_pos ho, step, not_or, and_assoc]
    · rw [if_neg ho]
      have outside : ¬(o.1 ≤ a ∧ a < o.2) := by omega
      rw [or_iff_right outside]

/-- What a partition reset of a paddock zeroes in HBM: what a window of its own holds, and no window of another paddock
(R387). -/
theorem inRanges_zeroRanges (s : State) (q a : Nat) :
    InRanges (s.zeroRanges q) a ↔ (∃ w ∈ s.windowsOf q, s.inWindow w a = true)
      ∧ ¬∃ w, w < 64 ∧ s.flag RTR_WIN_BASE_valid w = true ∧ s.fld RTR_WIN_BASE_paddock w ≠ q ∧ s.inWindow w a = true := by
  have inw : ∀ w, s.inWindow w a = true ↔ (s.windowRange w).1 ≤ a ∧ a < (s.windowRange w).2 := fun w => by
    simp [State.inWindow, State.windowRange]
  rw [State.zeroRanges, inRanges_rangesMinus]
  simp only [inw]
  refine and_congr ?_ (not_congr ?_)
  · simp only [InRanges, List.mem_filter, List.mem_map, decide_eq_true_eq]
    constructor
    · rintro ⟨_, ⟨⟨w, hw, rfl⟩, -⟩, h⟩
      exact ⟨w, hw, h⟩
    · rintro ⟨w, hw, h⟩
      exact ⟨_, ⟨⟨w, hw, rfl⟩, by omega⟩, h⟩
  · simp only [InRanges, List.mem_map, List.mem_filter, List.mem_range, Bool.and_eq_true, bne_iff_ne]
    constructor
    · rintro ⟨_, ⟨w, ⟨hw, hv, hq⟩, rfl⟩, h⟩
      exact ⟨w, hw, hv, hq, h⟩
    · rintro ⟨w, hw, hv, hq, h⟩
      exact ⟨_, ⟨w, ⟨hw, hv, hq⟩, rfl⟩, h⟩

/-! ### What windows and paddock configurations decide -/

theorem KeptAt.padOfTile {s t : State} (h : KeptAt Machine.mapped s t) (n : Nat) : t.padOfTile n = s.padOfTile n := by
  unfold State.padOfTile firstPad
  rw [← List.head?_filter, ← List.head?_filter]
  refine congrArg List.head? (List.filter_congr fun p hp => ?_)
  have hp := List.mem_range.mp hp
  rw [h.flag GI_PAD_CFG_valid p 0 (mapped_padCfg p hp), h.fld GI_PAD_CFG_clusters p 0 (mapped_padCfg p hp)]

theorem KeptAt.tilesOf {s t : State} (h : KeptAt Machine.mapped s t) (q : Nat) : t.tilesOf q = s.tilesOf q := by
  unfold State.tilesOf
  exact List.filter_congr fun n _ => by rw [h.padOfTile]

theorem KeptAt.windowRange {s t : State} (h : KeptAt Machine.mapped s t) (w : Nat) (hw : w < 64) :
    t.windowRange w = s.windowRange w := by
  simp only [State.windowRange, h.fld RTR_WIN_BASE_base w 0 (mapped_winBase w hw),
    h.fld RTR_WIN_LIM_limit w 0 (mapped_winLim w hw)]

/-- Windows chosen by whether they are valid and by their paddock. -/
theorem KeptAt.filterWindows {s t : State} (h : KeptAt Machine.mapped s t) (f : Nat → Bool) :
    ((List.range 64).filter fun w => t.flag RTR_WIN_BASE_valid w && f (t.fld RTR_WIN_BASE_paddock w))
      = (List.range 64).filter fun w => s.flag RTR_WIN_BASE_valid w && f (s.fld RTR_WIN_BASE_paddock w) := by
  refine List.filter_congr fun w hw => ?_
  have hs := mapped_winBase w (List.mem_range.mp hw)
  rw [h.flag RTR_WIN_BASE_valid w 0 hs, h.fld RTR_WIN_BASE_paddock w 0 hs]

theorem KeptAt.mapWindows {s t : State} (h : KeptAt Machine.mapped s t) (l : List Nat) (hl : ∀ w ∈ l, w < 64) :
    l.map t.windowRange = l.map s.windowRange :=
  List.map_congr_left fun w hw => h.windowRange w (hl w hw)

theorem KeptAt.zeroRanges {s t : State} (h : KeptAt Machine.mapped s t) (q : Nat) : t.zeroRanges q = s.zeroRanges q := by
  have lt : ∀ f : Nat → Bool, ∀ w ∈ (List.range 64).filter f, w < 64 := fun f w hw =>
    List.mem_range.mp (List.mem_filter.mp hw).1
  have own : t.windowsOf q = s.windowsOf q := h.filterWindows fun p => p == q
  have others := h.filterWindows fun p => p != q
  simp only [State.zeroRanges, own, others, h.mapWindows (s.windowsOf q) (lt _), h.mapWindows _ (lt _)]

end Sys2Proof.Machine
end

section
/-! SUPPORT. What a partition reset and a chip reset do (R386, R387). -/
namespace Sys2Proof.Machine
open Sys2Proof.Safety

/-! ### Partition and chip resets -/

/-- The record of a reset that starts, and the loss of the copy that goes with it (R373, R401). -/
theorem beginReset_loseCopy (s : State) (level unit arg : Nat) :
    (s.beginReset level unit).loseCopy arg = { s with
        regs := ((s.beginReset level unit).loseCopy arg).regs
        input := ((s.beginReset level unit).loseCopy arg).input
        recovery := { s.recovery with running := s.recovery.running ++ [⟨level, unit, s.beatNo, s.beat.t⟩] } }
      ∧ KeptAt lasting s ((s.beginReset level unit).loseCopy arg) := by
  have began : KeptAt lasting s (s.beginReset level unit) :=
    KeptAt.trans (t := { s with recovery := (s.beginReset level unit).recovery }) (KeptAt.of_eq rfl rfl)
      (KeptAt.setFld _ MGT_RST_STAT_active 0 0 _ (by decide))
  obtain ⟨frame, kept⟩ := loseCopy_frame (s.beginReset level unit) arg
  refine ⟨?_, began.trans kept⟩
  rw [frame]
  rfl

/-- A reset in its list of running resets is found there. -/
theorem runningReset_isSome (s : State) (level unit : Nat) (j : ResetJob) (hj : j ∈ s.recovery.running)
    (hl : j.level = level) (hu : j.unit = unit) : (s.runningReset level unit).isSome = true :=
  List.find?_isSome.mpr ⟨j, hj, by simp [hl, hu]⟩

/-- What a partition reset of paddock `q` has done before it reaches the paddock's tiles (R70, R386). -/
structure PaddockStopped (q : Nat) (s t : State) : Prop where
  mem : t.mem = s.mem
  tiles : t.tiles = s.tiles
  running : t.recovery.running = s.recovery.running ++ [⟨3, q, s.beatNo, s.beat.t⟩]
  kept : KeptAt lasting s t
  padReset : q ∈ t.padReset
  queue : (t.pad q).queue = []
  requests : (t.pad q).requests = []
  grants : ∀ g ∈ t.grants, g.pad ≠ q
  flagHold : ∀ h ∈ t.flagHold, h.pad ≠ q

/-- Held packets are discarded, and the fold engine's entries that a reset reaches end (R205, R327). -/
theorem Answers.discardAndEnd (s : State) (q : HeldFlag → Bool) (p : Option Nat) (hm : Mute s) :
    Answers { s with flagHold := s.flagHold.filter fun h => !q h }
      (((s.discardHeld q 3).entriesOf p).foldl (fun s e => s.resetEntry e) (s.discardHeld q 3)) := by
  have discarded := Answers.discardHeld s q 3 hm
  exact discarded.trans (Answers.resetEntries _ p (discarded.mute (hm.of_eq rfl rfl)))

/-- A partition reset stops its paddock, then clears its tiles, their registers and its HBM. -/
theorem startPartition_stops (s : State) (q : Nat) :
    ∃ t, PaddockStopped q s t ∧ ∃ u, u = ((t.tilesOf q).foldl (fun s t => s.resetTile t) t).resetRegs 3
        (fun r i => r.ofTile && (t.tilesOf q).contains i)
      ∧ s.startPartition q = (u.zeroRanges q).foldl (fun s r => s.zeroHbm r) u := by
  obtain ⟨frame, kept⟩ := beginReset_loseCopy s 3 q 1
  have mute := mute_loseCopy (s.beginReset 3 q) 1
  generalize hs1 : (s.beginReset 3 q).loseCopy 1 = s1 at frame kept mute
  have ended := Answers.discardAndEnd { s1 with
    padReset := if s1.padReset.contains q then s1.padReset else s1.padReset ++ [q] } (fun h => h.pad == q) (some q)
    (mute.of_eq rfl rfl)
  generalize hs2 : List.foldl (fun s e => State.resetEntry s e) _ _ = s2 at ended
  obtain ⟨⟨flushed, keptF⟩, noQueue, noRequest⟩ := flushPad_frame s2 q (ended.mute (mute.of_eq rfl rfl))
  obtain ⟨endFrame, keptE⟩ := ended
  refine ⟨s2.flushPad q, ⟨?_, ?_, ?_, ?_, ?_, noQueue, noRequest, ?_, ?_⟩, _, rfl, by subst hs2 hs1; rfl⟩
  · rw [flushed, endFrame, frame]
  · rw [flushed, endFrame, frame]
  · rw [flushed, endFrame, frame]
  · exact kept.trans (KeptAt.lasting (KeptAt.trans (KeptAt.trans (KeptAt.of_eq rfl rfl) keptE)
      (KeptAt.trans (KeptAt.of_eq rfl rfl) keptF)))
  · rw [flushed, endFrame]
    dsimp only
    split
    next h => exact List.contains_iff_mem.mp h
    next => simp
  · rw [flushed]
    intro g hg
    simpa using (List.mem_filter.mp hg).2
  · rw [flushed, endFrame]
    intro h hh
    simpa using (List.mem_filter.mp hh).2

theorem resettable_of_ofTile (r : RegId) (h : r.ofTile = true) : resettable r = true := by simp [resettable, h]

/-- The bytes that a partition reset of paddock `q` zeroes (R387): the scratchpads of its tiles, and what its windows hold
beside those of other paddocks. -/
def PartitionZeroes (s : State) (q a : Nat) : Prop :=
  (∃ m, m < 144 ∧ s.padOfTile m = some q ∧ spadKey m 0 ≤ a ∧ a < spadKey m 0 + spadSize)
    ∨ ((∃ w ∈ s.windowsOf q, s.inWindow w a = true)
        ∧ ¬ ∃ w, w < 64 ∧ s.flag RTR_WIN_BASE_valid w = true ∧ s.fld RTR_WIN_BASE_paddock w ≠ q
            ∧ s.inWindow w a = true)

theorem mem_tilesOf (s : State) (q m : Nat) : m ∈ s.tilesOf q ↔ m < 144 ∧ s.padOfTile m = some q := by
  simp [State.tilesOf]

/-- What a partition reset does (R386, R387). -/
structure PartitionReset (q : Nat) (s t : State) : Prop where
  padReset : q ∈ t.padReset
  queue : (t.pad q).queue = []
  requests : (t.pad q).requests = []
  grants : ∀ g ∈ t.grants, g.pad ≠ q
  flagHold : ∀ h ∈ t.flagHold, h.pad ≠ q
  running : t.recovery.running = s.recovery.running ++ [⟨3, q, s.beatNo, s.beat.t⟩]
  tilesIn : ∀ m, m < 144 → s.padOfTile m = some q → (t.tile m).Emptied
  tilesOut : ∀ m, s.padOfTile m ≠ some q → t.tile m = s.tile m
  mem : ZeroedIn (PartitionZeroes s q) s.mem t.mem

theorem startPartition_spec (s : State) (q : Nat) : PartitionReset q s (s.startPartition q) := by
  obtain ⟨t, stop, u, hu, e⟩ := startPartition_stops s q
  have ts : t.tilesOf q = s.tilesOf q := stop.kept.mapped.tilesOf q
  rw [ts] at hu
  have cleared := TilesCleared.resetTiles (s.tilesOf q) t
  have spads := zeroedIn_resetTiles (s.tilesOf q) t
  have emptied := tile_resetTiles (s.tilesOf q) t
  have others := tile_resetTiles_other (s.tilesOf q) t
  generalize (s.tilesOf q).foldl (fun s t => s.resetTile t) t = v at hu cleared spads emptied others
  have keptU : KeptAt mapped s u := by
    rw [hu]
    exact (stop.kept.mapped.trans (t := t) (KeptAt.of_eq (by rw [cleared]) (by rw [cleared]))).trans
      (SparedKept.resetRegs v 3 _ fun r i h => resettable_of_ofTile r (by simp_all)).lasting.mapped
  have frameU : u = { v with regs := u.regs } := by rw [hu]; rfl
  have frame := HbmCleared.zeroHbms (u.zeroRanges q) u
  have hbm := zeroedIn_zeroHbms (u.zeroRanges q) u
  rw [← e] at frame hbm
  generalize s.startPartition q = w at frame hbm
  have tile : ∀ m, w.tile m = v.tile m := fun m => tile_of_tiles (by rw [frame, frameU]) m
  have pad : w.pad q = t.pad q := by simp only [State.pad]; rw [frame, frameU, cleared]
  refine ⟨?_, pad ▸ stop.queue, pad ▸ stop.requests, ?_, ?_, ?_, fun m hm hp => ?_, fun m hp => ?_, ?_⟩
  · rw [frame, frameU, cleared]; exact stop.padReset
  · rw [frame, frameU, cleared]; exact stop.grants
  · rw [frame, frameU, cleared]; exact stop.flagHold
  · rw [frame, frameU, cleared]; exact stop.running
  · rw [tile]
    exact emptied m ((mem_tilesOf s q m).mpr ⟨hm, hp⟩)
  · rw [tile, others m fun h => hp ((mem_tilesOf s q m).mp h).2]
    exact tile_of_tiles stop.tiles m
  · have mem : u.mem = v.mem := by rw [frameU]
    rw [mem] at hbm
    rw [stop.mem] at spads
    refine (spads.trans hbm).congr fun a => ?_
    rw [PartitionZeroes, keptU.zeroRanges, inRanges_zeroRanges]
    simp only [InSpads, mem_tilesOf, and_assoc]

/-- What a chip reset has done before it reaches the tiles (R70, R386). -/
structure NodeStopped (s t : State) : Prop where
  kept : KeptAt lasting s t
  padReset : t.padReset = []
  chipReset : t.chipReset = true
  flagHold : t.flagHold = []

/-- A chip reset stops the node's paddocks, then clears tiles, registers and memory. -/
theorem startChip_stops (s : State) :
    ∃ t, NodeStopped s t ∧ ∃ u v, u = (List.range 144).foldl (fun s t => s.resetTile t) t
      ∧ v = u.resetRegs 4 (fun r _ => r.ofTile || r.ofHbm || r == .GI_CD)
      ∧ s.startChip = ((({ v with
          mem := [], hbmUe := [], hbmCe := [], hbmOndie := [], reads := [], hbmCool := [], bankActs := [], gets := []
          muster := { v.muster with got := [] } } : State).onRec fun x => { x with zero := [] }).put
            MGT_CAP_ID_valid 0).put FUS_STAT_kat_done 0 := by
  obtain ⟨frame, kept⟩ := beginReset_loseCopy s 4 0 2
  have mute := mute_loseCopy (s.beginReset 4 0) 2
  generalize hs1 : (s.beginReset 4 0).loseCopy 2 = s1 at frame kept mute
  have unlocked : ∃ s2, SparedKept s1 s2 ∧ s2.padReset = [] ∧ s2.chipReset = true
      ∧ s2 = (if ({ s1 with chipReset := true, padReset := [] } : State).recovery.reload.isSome then
          (({ s1 with chipReset := true, padReset := [] } : State).put GI_CTRL_lock 0).put RTR_CTRL_lock 0
        else { s1 with chipReset := true, padReset := [] }) := by
    refine ⟨_, ?_, ?_, ?_, rfl⟩
    · split
      · exact (KeptAt.of_eq rfl rfl).trans ((KeptAt.setFld { s1 with chipReset := true, padReset := [] }
          GI_CTRL_lock 0 0 0 (by decide)).trans (KeptAt.setFld _ RTR_CTRL_lock 0 0 0 (by decide)))
      · exact KeptAt.of_eq rfl rfl
    · split <;> rfl
    · split <;> rfl
  obtain ⟨s2, kept2, noPad, chip, hs2⟩ := unlocked
  have ended := Answers.discardAndEnd s2 (fun _ => true) none (kept2.mute mute)
  generalize hs3 : List.foldl (fun s e => State.resetEntry s e) _ _ = s3 at ended
  obtain ⟨flushed, keptF⟩ := Flushes.flushPads (List.range 8) s3 (ended.mute ((kept2.mute mute).of_eq rfl rfl))
  obtain ⟨endFrame, keptE⟩ := ended
  refine ⟨(List.range 8).foldl (fun s p => s.flushPad p) s3, ⟨?_, ?_, ?_, ?_⟩, _, _, rfl, rfl,
    by subst hs3 hs2 hs1; rfl⟩
  · exact kept.trans (KeptAt.lasting (kept2.trans (KeptAt.trans (KeptAt.trans (KeptAt.of_eq rfl rfl) keptE) keptF)))
  · rw [flushed, endFrame, noPad]
  · rw [flushed, endFrame, chip]
  · rw [flushed, endFrame]
    simp

/-- What a chip reset does (R386, R387). -/
structure ChipReset (s t : State) : Prop where
  kept : KeptAt lasting s t
  chipReset : t.chipReset = true
  padReset : t.padReset = []
  mem : t.mem = []
  hbmUe : t.hbmUe = []
  gets : t.gets = []
  flagHold : t.flagHold = []
  tableInvalid : t.flag MGT_CAP_ID_valid = false
  tiles : ∀ m, m < 144 → (t.tile m).Emptied

theorem startChip_spec (s : State) : ChipReset s s.startChip := by
  obtain ⟨t, stop, u, v, hu, hv, e⟩ := startChip_stops s
  have cleared := TilesCleared.resetTiles (List.range 144) t
  have emptied := tile_resetTiles (List.range 144) t
  rw [← hu] at cleared emptied
  have frameV : v = { u with regs := v.regs } := by rw [hv]; rfl
  have keptV : KeptAt lasting s v := by
    have reset := SparedKept.resetRegs u 4 (fun r _ => r.ofTile || r.ofHbm || r == .GI_CD) fun r _ h => by
      simp only [resettable, Bool.or_eq_true, beq_iff_eq] at h ⊢
      rcases h with h | rfl
      · exact .inl h
      · exact .inr (by decide)
    rw [← hv] at reset
    exact (stop.kept.trans (KeptAt.of_eq (by rw [cleared]) (by rw [cleared]))).trans reset.lasting
  refine ⟨?_, ?_, ?_, ?_, ?_, ?_, ?_, ?_, fun m hm => ?_⟩
  · rw [e]
    exact keptV.trans ((KeptAt.of_eq rfl rfl).trans ((KeptAt.setFld _ MGT_CAP_ID_valid 0 0 0 (by decide)).trans
      (KeptAt.setFld _ FUS_STAT_kat_done 0 0 0 (by decide))))
  · rw [e]; simp only [State.put_chipReset, State.onRec_chipReset]; rw [frameV, cleared]; exact stop.chipReset
  · rw [e]; simp only [State.put_padReset, State.onRec_padReset]; rw [frameV, cleared]; exact stop.padReset
  · rw [e]; rfl
  · rw [e]; rfl
  · rw [e]; rfl
  · rw [e]; simp only [State.put_flagHold, State.onRec_flagHold]; rw [frameV, cleared]; exact stop.flagHold
  · rw [e, State.flag, fld_put_other _ FUS_STAT_kat_done MGT_CAP_ID_valid 0 0 0 (by decide),
      fld_put_same _ _ _ (by decide)]
    rfl
  · have tile : s.startChip.tile m = u.tile m := by
      rw [e]
      exact tile_of_tiles (by rw [frameV]; rfl) m
    rw [tile]
    exact emptied m (List.mem_range.mpr hm)

end Sys2Proof.Machine
end

section
/-! SUPPORT. The log of resets, requests that are not absorbed, context aborts and engine resets (R102, R384, R385). -/
namespace Sys2Proof.Machine
open Sys2Proof.Safety

/-! ### The log of resets -/

/-- The fields of MGT_RST_LOG, but those of absorbed requests, read the same. -/
def LogKept (s t : State) : Prop :=
  ∀ f : Fld, f.reg = .MGT_RST_LOG → f.ok = true → f.hi < 7 ∨ 10 < f.lo → t.fld f = s.fld f

theorem LogKept.trans {s t u : State} (h : LogKept s t) (k : LogKept t u) : LogKept s u :=
  fun f hr ho hb => (k f hr ho hb).trans (h f hr ho hb)

theorem LogKept.of_kept {P : Nat → Bool} {s t : State} (h : KeptAt P s t) (hp : P (RegId.offset .MGT_RST_LOG 0 0) = true) :
    LogKept s t := fun f hr _ _ => h.fld f 0 0 (hr ▸ hp)

theorem LogKept.absorb (s : State) (level : Nat) : LogKept s (s.absorb level) := by
  intro f hr ho hb
  have first := fld_put_beside s MGT_RST_LOG_absorbed f 1 (by decide) ho (hr ▸ rfl)
    (by simp only [MGT_RST_LOG_absorbed]; omega)
  have second := fld_put_beside (s.put MGT_RST_LOG_absorbed 1) MGT_RST_LOG_absorbed_level f level (by decide) ho (hr ▸ rfl)
    (by simp only [MGT_RST_LOG_absorbed_level]; omega)
  exact second.trans first

/-- A field of the log of resets after a reset was entered (R401). -/
theorem fld_logReset (s : State) (f : Fld) (hr : f.reg = .MGT_RST_LOG) (ho : f.ok = true)
    (level cause tile slot pad unit : Nat) :
    (s.logReset level cause tile slot pad unit).fld f
      = bitsOf (level + cause <<< 3 + (tile % 256) <<< 11 + (slot % 32) <<< 19 + (pad % 8) <<< 24 + (unit % 16) <<< 27
          + (s.beatNo % 2 ^ 24) <<< 32 + 1 <<< 63) f.hi f.lo := by
  rw [State.fld, State.logReset, hr, reg_setReg_same, bitsOf_mod_64 _ _ _ (Fld.ok_spec ho).2]

section
variable (s : State) (level cause tile slot pad unit : Nat)

theorem logReset_level (hl : level < 8) : (s.logReset level cause tile slot pad unit).fld MGT_RST_LOG_level = level := by
  rw [fld_logReset _ _ rfl (by decide)]
  simp only [bitsOf, MGT_RST_LOG_level, Nat.shiftLeft_eq, Nat.shiftRight_eq_div_pow]
  omega

theorem logReset_cause (hl : level < 8) (hc : cause < 16) :
    (s.logReset level cause tile slot pad unit).fld MGT_RST_LOG_cause = cause := by
  rw [fld_logReset _ _ rfl (by decide)]
  simp only [bitsOf, MGT_RST_LOG_cause, Nat.shiftLeft_eq, Nat.shiftRight_eq_div_pow]
  omega

theorem logReset_tile (hl : level < 8) (hc : cause < 16) (ht : tile < 256) :
    (s.logReset level cause tile slot pad unit).fld MGT_RST_LOG_tile = tile := by
  rw [fld_logReset _ _ rfl (by decide)]
  simp only [bitsOf, MGT_RST_LOG_tile, Nat.shiftLeft_eq, Nat.shiftRight_eq_div_pow]
  omega

theorem logReset_slot (hl : level < 8) (hc : cause < 16) (hs : slot < 32) :
    (s.logReset level cause tile slot pad unit).fld MGT_RST_LOG_slot = slot := by
  rw [fld_logReset _ _ rfl (by decide)]
  simp only [bitsOf, MGT_RST_LOG_slot, Nat.shiftLeft_eq, Nat.shiftRight_eq_div_pow]
  omega

theorem logReset_valid (hl : level < 8) (hc : cause < 16) :
    (s.logReset level cause tile slot pad unit).flag MGT_RST_LOG_valid = true := by
  rw [State.flag, fld_logReset _ _ rfl (by decide), beq_iff_eq]
  simp only [bitsOf, MGT_RST_LOG_valid, Nat.shiftLeft_eq, Nat.shiftRight_eq_div_pow]
  omega

end

theorem logUnit_eq (s : State) (level unit cause : Nat) :
    ∃ tile slot pad engine, s.logUnit level unit cause = s.logReset level cause tile slot pad engine := by
  unfold State.logUnit
  split <;> exact ⟨_, _, _, _, rfl⟩

/-- A request that the log shows: its level, its cause and that the entry is valid. -/
def LogShows (level : Nat) (t : State) : Prop :=
  t.fld MGT_RST_LOG_level = level ∧ t.fld MGT_RST_LOG_cause = 4 ∧ t.flag MGT_RST_LOG_valid = true

theorem LogKept.shows {s t : State} (h : LogKept s t) {level : Nat} (k : LogShows level s) : LogShows level t := by
  obtain ⟨k1, k2, k3⟩ := k
  refine ⟨?_, ?_, ?_⟩
  · rw [h _ rfl (by decide) (by decide)]; exact k1
  · rw [h _ rfl (by decide) (by decide)]; exact k2
  · rw [State.flag, h _ rfl (by decide) (by decide)]; exact k3

theorem logUnit_shows (s : State) (level unit : Nat) (hl : level < 8) : LogShows level (s.logUnit level unit 4) := by
  obtain ⟨a, b, c, d, e⟩ := logUnit_eq s level unit 4
  rw [e]
  exact ⟨logReset_level s _ _ _ _ _ _ hl, logReset_cause s _ _ _ _ _ _ hl (by omega),
    logReset_valid s _ _ _ _ _ _ hl (by omega)⟩

/-! ### Requests that are not absorbed -/

/-- A reset of a level and unit is entered in the log; nothing else has changed but the registers of resets, the recovery
state and the notice to the fabric manager. -/
structure Entered (level unit : Nat) (s t : State) : Prop where
  frame : t = { s with regs := t.regs, recovery := t.recovery, input := t.input }
  kept : KeptAt mapped s t
  log : LogKept (s.logUnit level unit 4) t

section
variable {level unit : Nat} {s t u : State}

/-- A further change of the same kind that leaves the log's entry. -/
theorem Entered.and (h : Entered level unit s t)
    (hf : u = { t with regs := u.regs, recovery := u.recovery, input := u.input })
    (hk : KeptAt mapped t u) (hl : LogKept t u) : Entered level unit s u := by
  obtain ⟨frame, kept, log⟩ := h
  refine ⟨?_, kept.trans hk, log.trans hl⟩
  rw [frame] at hf
  exact hf

theorem Entered.onRec (h : Entered level unit s t) (f : Recovery → Recovery) : Entered level unit s (t.onRec f) :=
  h.and rfl (KeptAt.of_eq rfl rfl) fun _ _ _ _ => rfl

theorem Entered.absorb (h : Entered level unit s t) (n : Nat) : Entered level unit s (t.absorb n) :=
  h.and rfl ((KeptAt.setFld t MGT_RST_LOG_absorbed 0 0 1 (by decide)).trans
    (KeptAt.setFld _ MGT_RST_LOG_absorbed_level 0 0 n (by decide))) (LogKept.absorb t n)

/-- A reset is counted, and the fabric manager is told of it (R389, R401). -/
theorem Entered.notify (h : Entered level unit s t) (kind n part beat time : Nat) :
    Entered level unit s ((t.wrapCount MGT_RST_STAT_resets).sendPeerState kind n part beat time) :=
  h.and rfl ((KeptAt.setFld t MGT_RST_STAT_resets 0 0 _ (by decide)).trans (KeptAt.of_eq rfl rfl))
    (LogKept.of_kept ((KeptAt.setFld (P := lasting) t MGT_RST_STAT_resets 0 0 _ (by decide)).trans (KeptAt.of_eq rfl rfl))
      (by decide))

end

theorem entered_logUnit (s : State) (level unit : Nat) : Entered level unit s (s.logUnit level unit 4) := by
  refine ⟨?_, ?_, fun _ _ _ _ => rfl⟩ <;> obtain ⟨a, b, c, d, e⟩ := logUnit_eq s level unit 4 <;> rw [e]
  · rfl
  · exact KeptAt.setReg s .MGT_RST_LOG 0 0 _ (by decide)

theorem logUnit_onRec (s : State) (f : Recovery → Recovery) (level unit cause : Nat) :
    (s.onRec f).logUnit level unit cause = (s.logUnit level unit cause).onRec f := by
  unfold State.logUnit
  split <;> rfl

/-- A request that nothing covers is entered in the log, and without a dump its reset starts at once (R16, R385). -/
theorem requestReset_starts (s : State) (level unit : Nat) (h : s.covers level unit = false) :
    ∃ t, Entered level unit s t ∧ s.requestReset level unit 4 true = (t.startReset level unit).settleActive := by
  have logged : Entered level unit s
      ((if level = 4 then s.onRec fun x => { x with retried := false } else s).logUnit level unit 4) := by
    split
    · rw [logUnit_onRec]
      exact (entered_logUnit s level unit).onRec _
    · exact entered_logUnit s level unit
  unfold State.requestReset
  rw [if_neg (by simp [h])]
  dsimp only
  generalize (if level = 4 then s.onRec fun x => { x with retried := false } else s).logUnit level unit 4 = t at logged ⊢
  have taken : ∀ (f : Recovery → Recovery) (old : List ResetJob),
      Entered level unit s (if old.isEmpty then t.onRec f else (t.onRec f).absorb (deepest old)) := fun f old => by
    split
    · exact logged.onRec f
    · exact (logged.onRec f).absorb _
  split
  · exact ⟨_, taken _ _, rfl⟩
  · exact ⟨_, (taken _ _).notify _ _ _ _ _, rfl⟩

/-! ### Context aborts and engine resets -/

/-- Nothing changes but tile `n` and registers that a reset spares not. -/
structure TileStopped (n : Nat) (s t : State) : Prop where
  frame : t = { s with regs := t.regs, tiles := t.tiles }
  kept : SparedKept s t
  others : TilesKept n s t

theorem TileStopped.trans {n : Nat} {s t u : State} (h : TileStopped n s t) (k : TileStopped n t u) :
    TileStopped n s u := by
  obtain ⟨h1, h2, h3⟩ := h
  obtain ⟨k1, k2, k3⟩ := k
  refine ⟨?_, h2.trans k2, fun m hm => (k3 m hm).trans (h3 m hm)⟩
  rw [h1] at k1
  exact k1

theorem TileStopped.refl (n : Nat) (s : State) : TileStopped n s s := ⟨rfl, KeptAt.refl s, fun _ _ => rfl⟩

theorem TileStopped.setTile (s : State) (n : Nat) (x : Tile) : TileStopped n s (s.setTile n x) :=
  ⟨rfl, KeptAt.of_eq rfl rfl, fun m hm => tile_setTile_other s n m x hm⟩

theorem TileStopped.setReg (s : State) (n : Nat) (r : RegId) (i j v : Nat) (h : spared (r.offset i j) = false) :
    TileStopped n s (s.setReg r i j v) := ⟨rfl, KeptAt.setReg s r i j v h, fun _ _ => rfl⟩

theorem TileStopped.markReady (s : State) (n : Nat) : TileStopped n s (s.markReady n) := by
  unfold State.markReady
  split
  · exact TileStopped.setTile s n _
  · exact TileStopped.refl n s

/-- The ready logic changes the slots of its tile alone. -/
theorem tile_markReady (s : State) (n : Nat) :
    (s.markReady n).tile n = { s.tile n with slots := ((s.markReady n).tile n).slots } := by
  unfold State.markReady
  split
  · simp only [State.onTile, tile_setTile_same]
  · rfl

/-- The ready logic leaves a slot that does not wait. -/
theorem slot_markReady (s : State) (n k : Nat) (h : ((s.tile n).slot k).state ≠ .wait) :
    ((s.markReady n).tile n).slot k = (s.tile n).slot k := by
  unfold State.markReady
  split
  · simp only [State.onTile, tile_setTile_same, Tile.slot, lget, List.getElem?_map] at h ⊢
    cases hk : (s.tile n).slots[k]? with
    | none => rfl
    | some sl =>
      have ne : ¬sl.state = .wait := by simpa [hk] using h
      simp [ne]
  · rfl

theorem TileStopped.recordFault (s : State) (n cause : Nat) (level precise : Bool) (slot unit task pc addr : Nat) :
    TileStopped n s (s.recordFault n cause level precise slot unit task pc addr) := by
  have record : ∀ r ∈ [RegId.TL_FAULT, .TL_FAULT_PC, .TL_FAULT_ADDR], spared (r.offset n 0) = false := by
    intro r hr
    apply not_spared_of_ge
    simp only [List.mem_cons, List.not_mem_nil, or_false] at hr
    rcases hr with rfl | rfl | rfl <;> (simp only [RegId.offset, RegId.desc]; omega)
  unfold State.recordFault
  split
  · exact TileStopped.setReg s n .TL_FAULT n 0 _ (record _ (by simp))
  · exact ((TileStopped.setReg s n .TL_FAULT n 0 _ (record _ (by simp))).trans
      (TileStopped.setReg _ n .TL_FAULT_PC n 0 _ (record _ (by simp)))).trans
        (TileStopped.setReg _ n .TL_FAULT_ADDR n 0 _ (record _ (by simp)))

theorem TileStopped.abortSlot (s : State) (n k : Nat) : TileStopped n s (s.abortSlot n k) := by
  unfold State.abortSlot
  dsimp only
  split
  · exact (TileStopped.setTile s n _).trans (TileStopped.markReady _ n)
  · exact TileStopped.setTile s n _

/-- An aborted slot is in ABORT (R58). -/
theorem slot_abortSlot (s : State) (n k : Nat) (hk : k < (s.tile n).slots.length) :
    (((s.abortSlot n k).tile n).slot k).state = .abort := by
  have kept : ∀ x : Tile, x.slots = (s.tile n).slots → ∀ sl : Slot, ((x.setSlot k sl).slot k) = sl := fun x hx sl =>
    slot_setSlot_same x k sl (hx ▸ hk)
  unfold State.abortSlot
  dsimp only
  split
  · rw [slot_markReady] <;> simp only [State.onTile, tile_setTile_same] <;> rw [kept _ (by split <;> rfl)]
    simp
  · simp only [State.onTile, tile_setTile_same]
    rw [kept ((s.tile n).dropCommands k) rfl]

theorem TileStopped.contextAbort (s : State) (n k : Nat) : TileStopped n s (s.contextAbort n k) := by
  unfold State.contextAbort
  dsimp only
  split
  · exact (TileStopped.recordFault ..).trans (TileStopped.abortSlot ..)
  · exact (TileStopped.recordFault ..).trans (TileStopped.abortSlot ..)
  · exact (TileStopped.recordFault ..).trans (TileStopped.abortSlot ..)
  · exact TileStopped.refl n s

theorem tile_recordFault (s : State) (n cause : Nat) (level precise : Bool) (slot unit task pc addr m : Nat) :
    (s.recordFault n cause level precise slot unit task pc addr).tile m = s.tile m := by
  unfold State.recordFault
  split <;> rfl

/-- A context abort of a slot in RUN, WAIT or READY leaves it in ABORT (R58, R102). -/
theorem slot_contextAbort (s : State) (n k : Nat) (hk : k < (s.tile n).slots.length)
    (h : ((s.tile n).slot k).state = .run ∨ ((s.tile n).slot k).state = .wait ∨ ((s.tile n).slot k).state = .ready) :
    (((s.contextAbort n k).tile n).slot k).state = .abort := by
  have aborted : ∀ cause level precise slot unit task pc addr,
      ((((s.recordFault n cause level precise slot unit task pc addr).abortSlot n k).tile n).slot k).state = .abort :=
    fun _ _ _ _ _ _ _ _ => slot_abortSlot _ n k (by rw [tile_recordFault]; exact hk)
  unfold State.contextAbort
  rcases h with h | h | h <;> simp only [h] <;> exact aborted ..

theorem TileStopped.engineHold (s : State) (n : Nat) (e : Engine) : TileStopped n s (s.engineHold n e) :=
  (TileStopped.setTile s n _).trans (TileStopped.setTile _ n _)

theorem mem_inReset_engineHold (s : State) (n : Nat) (e : Engine) : e ∈ ((s.engineHold n e).tile n).inReset := by
  simp only [State.engineHold, State.onTile, tile_setTile_same]
  split
  next h => exact List.contains_iff_mem.mp h
  next => simp

/-- An abort leaves the engines of its tile as they are held. -/
theorem inReset_abortSlot (s : State) (n k : Nat) :
    ((s.abortSlot n k).tile n).inReset = (s.tile n).inReset := by
  unfold State.abortSlot
  dsimp only
  split
  · rw [tile_markReady]
    simp only [State.onTile, tile_setTile_same]
    rfl
  · simp only [State.onTile, tile_setTile_same]
    rfl

/-- An engine reset holds its engine and clears it, whatever becomes of the task in RUN (R71, R102). -/
theorem engineReset_matrix (s : State) (n : Nat) :
    TileStopped n s (s.engineReset n .matrix)
      ∧ ∃ x : Tile, Engine.matrix ∈ x.inReset ∧ (s.engineReset n .matrix).tile n = x.clearEngine .matrix := by
  have hold := TileStopped.engineHold s n .matrix
  have held := mem_inReset_engineHold s n .matrix
  unfold State.engineReset
  dsimp only
  rw [if_neg (by decide)]
  generalize s.engineHold n .matrix = t at hold held ⊢
  split
  next k _ =>
    exact ⟨(hold.trans (TileStopped.abortSlot t n k)).trans (TileStopped.setTile _ n _),
      _, inReset_abortSlot t n k ▸ held, tile_setTile_same _ n _⟩
  next => exact ⟨hold.trans (TileStopped.setTile t n _), _, held, tile_setTile_same _ n _⟩

end Sys2Proof.Machine
end

section
/-! Requested resets (O39), and the end of an engine reset (O40). -/
namespace Sys2Proof.Machine
open Sys2Proof.Safety

/-! ### Requested resets -/

/-- Bringing MGT_RST_STAT.active up to date keeps the registers that a reset spares. -/
theorem kept_settleActive (s : State) : SparedKept s s.settleActive :=
  KeptAt.setFld s MGT_RST_STAT_active 0 0 _ (by decide)

theorem settleActive_frame (s : State) : s.settleActive = { s with regs := s.settleActive.regs } := rfl

/-- A reset that began, with MGT_RST_STAT brought up to date. -/
theorem beginReset_frame (s : State) (level unit : Nat) :
    s.beginReset level unit = { s with
      regs := (s.beginReset level unit).regs
      recovery := { s.recovery with running := s.recovery.running ++ [⟨level, unit, s.beatNo, s.beat.t⟩] } } := rfl

theorem kept_beginReset (s : State) (level unit : Nat) : SparedKept s (s.beginReset level unit) :=
  KeptAt.trans (t := { s with recovery := (s.beginReset level unit).recovery }) (KeptAt.of_eq rfl rfl)
    (kept_settleActive _)

theorem Entered.shows {level unit : Nat} {s t u : State} (h : Entered level unit s t) (hl : level < 8)
    (k : KeptAt lasting t u) : LogShows level u :=
  (h.log.trans (LogKept.of_kept k (by decide))).shows (logUnit_shows s level unit hl)

/-- A request that a deeper or equal reset covers only marks the log (R16, R385). -/
theorem requestReset_absorbed (s : State) (level unit cause : Nat) (noDump : Bool) (h : s.covers level unit = true) :
    s.requestReset level unit cause noDump = s.absorb level := by
  unfold State.requestReset
  rw [if_pos h]

theorem absorb_spec (s : State) (level : Nat) (hl : level < 8) :
    OnlyRegs [RegId.MGT_RST_LOG.offset 0 0] s (s.absorb level) ∧ (s.absorb level).flag MGT_RST_LOG_absorbed = true
      ∧ (s.absorb level).fld MGT_RST_LOG_absorbed_level = level := by
  refine ⟨⟨rfl, RegsKept.trans (RegsKept.put s MGT_RST_LOG_absorbed 1 List.mem_cons_self)
    (RegsKept.put _ MGT_RST_LOG_absorbed_level level List.mem_cons_self)⟩, ?_, ?_⟩
  · rw [State.flag, State.absorb, fld_put_beside _ MGT_RST_LOG_absorbed_level MGT_RST_LOG_absorbed _ (by decide)
      (by decide) rfl (by decide), fld_put_same _ _ _ (by decide)]
    rfl
  · rw [State.absorb, fld_put_same _ _ _ (by decide)]
    exact Nat.mod_eq_of_lt hl

/-- A requested context reset aborts its slot (R71, R102, R384). -/
theorem request_context (s : State) (n k : Nat) (hn : n < 144) (hk : k < 32) (hc : s.covers 1 (n * 32 + k) = false)
    (hs : (s.tile n).slots.length = 32)
    (hst : ((s.tile n).slot k).state = .run ∨ ((s.tile n).slot k).state = .wait ∨ ((s.tile n).slot k).state = .ready) :
    let t := s.requestReset 1 (n * 32 + k) 4 true
    t.mem = s.mem ∧ TilesKept n s t ∧ ((t.tile n).slot k).state = .abort ∧ LogShows 1 t
      ∧ t.fld MGT_RST_LOG_tile = n ∧ t.fld MGT_RST_LOG_slot = k := by
  have hnk : (n * 32 + k) / 32 = n ∧ (n * 32 + k) % 32 = k := by omega
  obtain ⟨t, entered, e⟩ := requestReset_starts s 1 (n * 32 + k) hc
  have tiles : t.tiles = s.tiles := by rw [entered.frame]
  have stop := TileStopped.contextAbort t n k
  have aborted := slot_contextAbort t n k (by rw [tile_of_tiles tiles, hs]; exact hk)
    (by rw [tile_of_tiles tiles]; exact hst)
  have start : t.startReset 1 (n * 32 + k) = (t.contextAbort n k).beginReset 1 (n * 32 + k) := by
    simp only [State.startReset, hnk, aborted, if_true]
  rw [start] at e
  have kept : KeptAt lasting t (s.requestReset 1 (n * 32 + k) 4 true) := by
    rw [e]
    exact KeptAt.lasting (stop.kept.trans ((kept_beginReset _ _ _).trans (kept_settleActive _)))
  have log := entered.log.trans (LogKept.of_kept kept (by decide))
  have tile : ∀ m, (s.requestReset 1 (n * 32 + k) 4 true).tile m = (t.contextAbort n k).tile m := fun m => by
    rw [e]
    exact tile_of_tiles rfl m
  refine ⟨?_, fun m hm => ?_, ?_, entered.shows (by omega) kept, ?_, ?_⟩
  · rw [e, settleActive_frame, beginReset_frame, stop.frame, entered.frame]
  · rw [tile, stop.others m hm, tile_of_tiles tiles]
  · rw [tile, aborted]
  · rw [log _ rfl (by decide) (by decide), State.logUnit, hnk.1]
    exact logReset_tile _ _ _ _ _ _ _ (by omega) (by omega) (by omega)
  · rw [log _ rfl (by decide) (by decide), State.logUnit, hnk.2]
    exact logReset_slot _ _ _ _ _ _ _ (by omega) (by omega) hk

/-- A requested reset of a matrix engine empties and holds it (R102, R384). -/
theorem request_matrix (s : State) (n : Nat) (hc : s.covers 2 (n * 8 + 1) = false) :
    let t := s.requestReset 2 (n * 8 + 1) 4 true
    t.mem = s.mem ∧ TilesKept n s t ∧ Engine.matrix ∈ (t.tile n).inReset ∧ (t.tile n).matq = []
      ∧ (t.tile n).planes = List.replicate 4 Plane.zero ∧ LogShows 2 t
      ∧ (t.runningReset 2 (n * 8 + 1)).isSome = true := by
  have hn : (n * 8 + 1) / 8 = n ∧ (n * 8 + 1) % 8 = 1 := by omega
  obtain ⟨t, entered, e⟩ := requestReset_starts s 2 (n * 8 + 1) hc
  obtain ⟨stop, x, held, cleared⟩ := engineReset_matrix t n
  have start : t.startReset 2 (n * 8 + 1) = (t.engineReset n .matrix).beginReset 2 (n * 8 + 1) := by
    simp only [State.startReset, hn]
  rw [start] at e
  have tile : ∀ m, (s.requestReset 2 (n * 8 + 1) 4 true).tile m = (t.engineReset n .matrix).tile m := fun m => by
    rw [e]
    exact tile_of_tiles rfl m
  refine ⟨?_, fun m hm => ?_, ?_, ?_, ?_, entered.shows (by omega) ?_, ?_⟩
  · rw [e, settleActive_frame, beginReset_frame, stop.frame, entered.frame]
  · rw [tile, stop.others m hm]
    exact tile_of_tiles (by rw [entered.frame]) m
  · rw [tile, cleared]; exact held
  · rw [tile, cleared]; rfl
  · rw [tile, cleared]; rfl
  · rw [e]
    exact KeptAt.lasting (stop.kept.trans ((kept_beginReset _ _ _).trans (kept_settleActive _)))
  · rw [e]
    exact runningReset_isSome _ _ _ ⟨2, n * 8 + 1, _, _⟩ (List.mem_append_right _ (List.mem_singleton.mpr rfl)) rfl rfl

/-- A requested partition reset (R386, R387): its window map and paddocks are those of the state it is asked in. -/
theorem request_partition (s : State) (q : Nat) (hc : s.covers 3 q = false) :
    let t := s.requestReset 3 q 4 true
    q ∈ t.padReset ∧ (t.pad q).queue = [] ∧ (t.pad q).requests = [] ∧ (∀ g ∈ t.grants, g.pad ≠ q)
      ∧ (∀ h ∈ t.flagHold, h.pad ≠ q) ∧ (t.runningReset 3 q).isSome = true
      ∧ (∀ m, m < 144 → s.padOfTile m = some q → (t.tile m).Emptied)
      ∧ (∀ m, s.padOfTile m ≠ some q → t.tile m = s.tile m) ∧ ZeroedIn (PartitionZeroes s q) s.mem t.mem := by
  obtain ⟨t, entered, e⟩ := requestReset_starts s 3 q hc
  have reset := startPartition_spec t q
  have pad := entered.kept.padOfTile
  have zeroes : ∀ a, PartitionZeroes s q a ↔ PartitionZeroes t q a := fun a => by
    simp only [PartitionZeroes, pad, ← inRanges_zeroRanges, entered.kept.zeroRanges]
  have start : t.startReset 3 q = t.startPartition q := rfl
  rw [start] at e
  simp only [e]
  refine ⟨reset.padReset, reset.queue, reset.requests, reset.grants, reset.flagHold, ?_, fun m hm hp => ?_,
    fun m hp => ?_, ?_⟩
  · exact runningReset_isSome _ _ _ ⟨3, q, _, _⟩
      (reset.running ▸ List.mem_append_right _ (List.mem_singleton.mpr rfl)) rfl rfl
  · exact reset.tilesIn m hm (pad m ▸ hp)
  · exact (reset.tilesOut m (pad m ▸ hp)).trans (tile_of_tiles (by rw [entered.frame]) m)
  · have mem : t.mem = s.mem := by rw [entered.frame]
    exact mem ▸ reset.mem.congr zeroes

/-- A requested chip reset (R386, R387). -/
theorem request_chip (s : State) (hc : s.covers 4 0 = false) :
    let t := s.requestReset 4 0 4 true
    t.chipReset = true ∧ t.padReset = [] ∧ t.mem = [] ∧ t.hbmUe = [] ∧ t.gets = [] ∧ t.flagHold = [] ∧ LogShows 4 t
      ∧ t.flag MGT_CAP_ID_valid = false ∧ ∀ m, m < 144 → (t.tile m).slots = Tile.reset.slots := by
  obtain ⟨t, entered, e⟩ := requestReset_starts s 4 0 hc
  have reset := startChip_spec t
  have start : t.startReset 4 0 = t.startChip := rfl
  rw [start] at e
  refine ⟨?_, ?_, ?_, ?_, ?_, ?_, entered.shows (by omega) ?_, ?_, fun m hm => ?_⟩ <;>
    rw [e] <;> generalize t.startChip = v at reset ⊢
  · exact reset.chipReset
  · exact reset.padReset
  · exact reset.mem
  · exact reset.hbmUe
  · exact reset.gets
  · exact reset.flagHold
  · exact reset.kept.trans (kept_settleActive _).lasting
  · rw [State.flag, State.settleActive, fld_put_other _ MGT_RST_STAT_active MGT_CAP_ID_valid 0 0 _ (by decide)]
    exact reset.tableInvalid
  · exact (reset.tiles m hm).1

/-- A requested power cycle waits for its dump (R397), and changes no memory and no tile. -/
theorem request_powerCycle (s : State) (hc : s.covers 5 0 = false) :
    let t := s.requestReset 5 0 4 true
    t.recovery.pcWaits = true ∧ LogShows 5 t ∧ t.mem = s.mem ∧ t.tiles = s.tiles := by
  obtain ⟨t, entered, e⟩ := requestReset_starts s 5 0 hc
  have start : t.startReset 5 0
      = (t.onRec fun x => { x with pcWaits := true, mustDrain := t.dumpHeld }).beginReset 5 0 := rfl
  rw [start] at e
  refine ⟨?_, entered.shows (by omega) ?_, ?_, ?_⟩ <;> rw [e]
  · rfl
  · exact KeptAt.lasting (KeptAt.trans (KeptAt.of_eq rfl rfl) ((kept_beginReset _ _ _).trans (kept_settleActive _)))
  · rw [settleActive_frame, beginReset_frame, entered.frame]; rfl
  · rw [settleActive_frame, beginReset_frame, entered.frame]; rfl

/-- A reset request completes with what its write of MGT_RST_REQ does (R384). -/
theorem completes_resetRequest {s : State} {P : State → Prop} (level n k u q : Nat) (t : State)
    (e : s.writeResetReq level n k u q true = t) (h : P t) :
    Completes (.resetRequest level n k u q true) s P := ⟨t, by rw [← e]; rfl, h⟩

/-- Settles O39: each request is either absorbed or entered in the log and started, and each level's reset is followed
through the operations that it consists of (log entries 61 and 62 are the model's choices in them). A standby that has lost
its copy keeps no packet back (R373), so memory changes only where it is zeroed. -/
theorem resetRequests : Obligations.ResetRequests := by
  unfold Obligations.ResetRequests
  intro s
  refine ⟨fun hc n k u q => ?_, fun n k u q hn hk hc hs hst => ?_, fun n k q hn hc => ?_, fun n k u q hq hv hc => ?_,
    fun hc n k u q => ?_, fun hc n k u q => ?_⟩
  · exact completes_resetRequest 4 n k u q _ (requestReset_absorbed s 4 0 4 true hc) (absorb_spec s 4 (by omega))
  · have lt : n < 144 := by simp_all [State.tileUsable]
    refine completes_resetRequest 1 n k u q (s.requestReset 1 (n * 32 + k) 4 true)
      (by simp [State.writeResetReq, hn, hk]) ?_
    exact request_context s n k lt hk hc hs hst
  · refine completes_resetRequest 2 n k 1 q (s.requestReset 2 (n * 8 + 1) 4 true) (by simp [State.writeResetReq, hn]) ?_
    exact request_matrix s n hc
  · refine completes_resetRequest 3 n k u q (s.requestReset 3 q 4 true) (by simp [State.writeResetReq, hq, hv]) ?_
    obtain ⟨h1, h2, h3, h4, h5, h6, h7, h8, h9⟩ := request_partition s q hc
    exact ⟨h1, h2, h3, h4, h5, h6, h7, fun m _ => h8 m, fun _ => h9⟩
  · exact completes_resetRequest 4 n k u q _ rfl (request_chip s hc)
  · exact completes_resetRequest 5 n k u q _ rfl (request_powerCycle s hc)

/-! ### The end of an engine reset -/

/-- Tile 0 is usable and its sequencer in reset at 100 ps; its slot 0 has waited since time 0 and needs no token. -/
def waitingInReset : State :=
  ({ State.reset with now := 1 }.setFld FUS_FP_TILE_usable 0 0 1).setTile 0
    { Tile.reset with inReset := [.sequencer], slots := [{ Slot.empty with state := .wait }] }

/-- The end of the engine reset makes the slot READY and starts its watch timer anew (R67, R378). -/
theorem engineResetDone_waitingInReset :
    Completes (.engineResetDone 0 .sequencer) waitingInReset fun t =>
      ((t.tile 0).slot 0).state = .ready ∧ ((t.tile 0).slot 0).since = 1 :=
  ⟨_, rfl, by decide, by decide⟩

/-- Refutes O40: a slot that becomes READY at the end of its tile's reset takes the present time as `since`, the start of its
watch timer, where the statement lets only its state and stamp change. -/
theorem not_resetsEndAndNotices : ¬ Obligations.ResetsEndAndNotices := by
  unfold Obligations.ResetsEndAndNotices
  rintro ⟨ends, -⟩
  obtain ⟨engine, -⟩ := ends waitingInReset
  obtain ⟨t, ht, -, -, -, slots⟩ := engine 0 .sequencer (by decide) (by decide) (by decide) (by decide)
    fun q _ => by simp [waitingInReset, State.reset]
  obtain ⟨u, hu, state, since⟩ := engineResetDone_waitingInReset
  obtain rfl : t = u := by rw [ht] at hu; injection hu
  rcases slots 0 with same | ⟨-, -, c, moved⟩
  · rw [same] at state
    exact absurd state (by decide)
  · rw [moved] at since
    have before : ((waitingInReset.tile 0).slot 0).since = 0 := by decide
    exact absurd (before.symm.trans since) (by decide)

end Sys2Proof.Machine
end

section
/-! SUPPORT. The sequencer's instructions: one that issues acts, one that retires advances, and one that faults aborts its
task (R143, R177 to R180). -/
namespace Sys2Proof.Machine
open Sys2Proof.Safety

/-! ### Issue and retirement -/

/-- A word that issues and that the instruction's class takes has the effect of its instruction (R143). -/
theorem issue_of_issues {n w : Nat} {u : Uses} {s : State} (h : Issues n w u s) (accepts legal : Nat → Bool)
    (uses : Nat → Uses) (act : State → Nat → State) (ha : accepts w = true) (hl : legal w = true) (hu : uses w = u) :
    s.issue n accepts legal uses act = act s w := by
  obtain ⟨active, inside, fetched, idle, guarded⟩ := h
  unfold State.issue
  simp only [active, Nat.not_le.mpr inside, fetched, ha, hl, hu, idle, guarded, Bool.not_true, Bool.false_eq_true, if_false]

/-- A tile replaced, and an event of it counted. -/
theorem onlyTile_tally_setTile (s : State) (n : Nat) (x : Tile) (ev v : Nat) :
    OnlyTile n (tallyOffs n) s ((s.setTile n x).tally n ev v) ∧ ((s.setTile n x).tally n ev v).tile n = x := by
  obtain ⟨frame, kept⟩ := tally_frame (s.setTile n x) n ev v
  refine ⟨⟨by rw [frame]; rfl, RegsKept.trans (RegsKept.of_eq rfl rfl) kept, fun m hm => ?_⟩, ?_⟩
  · rw [tile_tally, tile_setTile_other s n m x hm]
  · rw [tile_tally, tile_setTile_same]

/-- An instruction that retires leaves its result in the tile, the PC 8 further. -/
theorem retired_retire (s : State) (n : Nat) (f : Tile → Tile) : Retired n (f (s.tile n)) s (s.retire n f) :=
  onlyTile_tally_setTile s n ((f (s.tile n)).advance) 0x001 1

/-! ### Faults and aborts -/

/-- The offsets of a tile's fault record. -/
def faultOffs (n : Nat) : List Nat := [RegId.TL_FAULT.offset n 0, RegId.TL_FAULT_PC.offset n 0, RegId.TL_FAULT_ADDR.offset n 0]

/-- A fault record changes the registers of the record alone. -/
theorem recordFault_frame (s : State) (n cause : Nat) (level precise : Bool) (slot unit task pc addr : Nat) :
    OnlyRegs (faultOffs n) s (s.recordFault n cause level precise slot unit task pc addr) := by
  unfold State.recordFault
  split
  · exact ⟨rfl, RegsKept.event s TL_FAULT_more n (by simp [faultOffs, TL_FAULT_more])⟩
  · exact ⟨rfl, RegsKept.trans (RegsKept.setReg s .TL_FAULT n 0 _ (by simp [faultOffs]))
      (RegsKept.trans (RegsKept.setReg _ .TL_FAULT_PC n 0 _ (by simp [faultOffs]))
        (RegsKept.setReg _ .TL_FAULT_ADDR n 0 _ (by simp [faultOffs])))⟩

/-- The first fault record since TL_FAULT.valid was cleared shows its cause, its level, whether it is precise, and its PC
(R180, R183). -/
theorem recordFault_first (s : State) (n cause : Nat) (level precise : Bool) (slot unit task pc addr : Nat)
    (hc : cause < 32) (hv : s.flag TL_FAULT_valid n = false) :
    let t := s.recordFault n cause level precise slot unit task pc addr
    t.fld TL_FAULT_cause n = cause ∧ t.flag TL_FAULT_precise n = precise ∧ t.flag TL_FAULT_level n = level
      ∧ t.fld TL_FAULT_PC_pc n = pc % 2 ^ 40 := by
  have apart : RegId.TL_FAULT_ADDR.offset n 0 ≠ RegId.TL_FAULT.offset n 0
      ∧ RegId.TL_FAULT_PC.offset n 0 ≠ RegId.TL_FAULT.offset n 0
      ∧ RegId.TL_FAULT_ADDR.offset n 0 ≠ RegId.TL_FAULT_PC.offset n 0 := by
    refine ⟨?_, ?_, ?_⟩ <;> simp only [RegId.offset, RegId.desc] <;> omega
  obtain ⟨addrRecord, pcRecord, addrPc⟩ := apart
  have record : ∀ f : Fld, f.reg = .TL_FAULT → f.ok = true →
      (s.recordFault n cause level precise slot unit task pc addr).fld f n
        = bitsOf (cause + natOfBool level <<< 5 + natOfBool precise <<< 6 + 1 <<< 7
            + bitsOf (s.reg .TL_FAULT n) 8 8 <<< 8 + slot <<< 9 + unit <<< 16 + task <<< 32) f.hi f.lo := by
    intro f hr ho
    rw [State.recordFault, if_neg (by simp [hv]), State.fld, hr, reg_setReg_other _ _ _ _ _ _ _ _ addrRecord,
      reg_setReg_other _ _ _ _ _ _ _ _ pcRecord, reg_setReg_same, bitsOf_mod_64 _ _ _ (Fld.ok_spec ho).2]
  have bits : natOfBool level ≤ 1 ∧ natOfBool precise ≤ 1 := by cases level <;> cases precise <;> decide
  obtain ⟨levelBit, preciseBit⟩ := bits
  refine ⟨?_, ?_, ?_, ?_⟩
  · rw [record TL_FAULT_cause rfl rfl]
    simp only [bitsOf, TL_FAULT_cause, Nat.shiftLeft_eq, Nat.shiftRight_eq_div_pow]
    omega
  · have bit : ∀ v : Nat, v = natOfBool precise → (v == 1) = precise := by rintro v rfl; cases precise <;> rfl
    rw [State.flag, record TL_FAULT_precise rfl rfl]
    apply bit
    simp only [bitsOf, TL_FAULT_precise, Nat.shiftLeft_eq, Nat.shiftRight_eq_div_pow]
    omega
  · have bit : ∀ v : Nat, v = natOfBool level → (v == 1) = level := by rintro v rfl; cases level <;> rfl
    rw [State.flag, record TL_FAULT_level rfl rfl]
    apply bit
    simp only [bitsOf, TL_FAULT_level, Nat.shiftLeft_eq, Nat.shiftRight_eq_div_pow]
    omega
  · rw [State.recordFault, if_neg (by simp [hv]), State.fld]
    simp only [TL_FAULT_PC_pc]
    rw [reg_setReg_other _ _ _ _ _ _ _ _ addrPc, reg_setReg_same, bitsOf_mod_64 _ _ _ (by decide)]
    simp [bitsOf]

/-- An abort changes tiles and nothing else. -/
theorem abortSlot_frame (s : State) (n k : Nat) : s.abortSlot n k = { s with tiles := (s.abortSlot n k).tiles } := by
  unfold State.abortSlot State.markReady
  dsimp only
  repeat' split
  all_goals rfl

/-- What an abort leaves of its tile: all but its slots, its task's commands, and the sequencer's wait (R58, R102). -/
theorem tile_abortSlot (s : State) (n k : Nat) :
    let y := (s.abortSlot n k).tile n
    y = { s.tile n with
      slots := y.slots, matq := y.matq, vecq := y.vecq, dma := (s.tile n).dma.map fun c : DmaChan => c.drop k, puts := y.puts
      wait := y.wait, watch := y.watch } := by
  unfold State.abortSlot
  dsimp only
  split
  · rw [tile_markReady]
    simp only [State.onTile, tile_setTile_same]
    rfl
  · simp only [State.onTile, tile_setTile_same]
    rfl

theorem lfind_lt {α : Type} (p : α → Bool) (l : List α) (k : Nat) (h : lfind p l = some k) : k < l.length := by
  induction l generalizing k with
  | nil => cases h
  | cons a l ih =>
    simp only [lfind] at h
    split at h
    · cases h; simp
    · obtain ⟨j, hj, rfl⟩ := Option.map_eq_some_iff.mp h
      simpa using ih j hj

/-- The abort of the task in RUN, where there is one, as a fault has it. -/
def State.abortRunning (s : State) (n : Nat) : State :=
  match (s.tile n).runSlot with
  | some k => s.abortSlot n k
  | none => s

/-- What the abort of the task in RUN leaves unchanged, and that its slot is in ABORT. -/
structure RunAborted (n : Nat) (s t : State) : Prop where
  frame : t = { s with tiles := t.tiles }
  others : TilesKept n s t
  g : (t.tile n).g = (s.tile n).g
  pc : (t.tile n).pc = (s.tile n).pc
  v : (t.tile n).v = (s.tile n).v
  idle : ∀ ch, ((s.tile n).chan ch).queue = [] → ((t.tile n).chan ch).queue = []
  aborted : ∀ k, (s.tile n).runSlot = some k → ((t.tile n).slot k).state = .abort

/-- A channel without commands has none after those of a slot are dropped. -/
theorem queue_chan_drop (l : List DmaChan) (ch k : Nat) (h : (lget l ch DmaChan.empty).queue = []) :
    (lget (l.map fun c : DmaChan => c.drop k) ch DmaChan.empty).queue = [] := by
  simp only [lget, List.getElem?_map] at h ⊢
  cases hc : l[ch]? with
  | none => rfl
  | some c =>
    rw [hc] at h
    have empty : c.queue = [] := h
    simp [DmaChan.drop, DmaChan.dropWhere, empty]

theorem runAborted_abortRunning (s : State) (n : Nat) : RunAborted n s (s.abortRunning n) := by
  unfold State.abortRunning
  split
  next k hk =>
    have changed := tile_abortSlot s n k
    refine ⟨abortSlot_frame s n k, (TileStopped.abortSlot s n k).others, ?_, ?_, ?_, fun ch hq => ?_, fun j hj => ?_⟩
    · rw [changed]
    · rw [changed]
    · rw [changed]
    · rw [changed]; exact queue_chan_drop _ ch k hq
    · obtain rfl : k = j := Option.some.inj (hk.symm.trans hj)
      exact slot_abortSlot s n k (lfind_lt _ _ _ hk)
  next hk => exact ⟨rfl, fun _ _ => rfl, rfl, rfl, rfl, fun _ h => h, fun j hj => by rw [hk] at hj; cases hj⟩

/-- A precise fault at T level is a fault record and the abort of the task in RUN (R177, R179). -/
theorem preciseFault_eq (s : State) (n cause pc addr unit : Nat) (h : (s.tile n).sLevel = false) :
    s.preciseFault n cause pc addr unit
      = (s.recordFault n cause false true (s.runTask n).1 unit (s.runTask n).2 pc addr).abortRunning n := by
  cases hk : (s.tile n).runSlot <;> simp [State.preciseFault, State.abortRunning, tile_recordFault, h, hk]

/-- An imprecise fault is a fault record and the abort of the task in RUN (R179). -/
theorem impreciseFault_eq (s : State) (n cause unit pc : Nat) :
    s.impreciseFault n cause unit pc
      = (s.recordFault n cause false false (s.runTask n).1 unit (s.runTask n).2 pc 0).abortRunning n := rfl

/-- An instruction that faults at T level aborts its task, the fault recorded (R177, R179, R180). -/
theorem taskFaults_faultHere (s : State) (n cause addr : Nat) (hl : (s.tile n).sLevel = false) (hc : cause < 32) :
    TaskFaults n cause s (s.faultHere n cause addr) := by
  rw [State.faultHere, preciseFault_eq _ _ _ _ _ _ hl]
  have tileKept := tile_recordFault s n cause false true (s.runTask n).1 unitSeq (s.runTask n).2 (s.tile n).pc.toNat addr
  have shown := recordFault_first s n cause false true (s.runTask n).1 unitSeq (s.runTask n).2 (s.tile n).pc.toNat addr hc
  obtain ⟨frame, kept⟩ := recordFault_frame s n cause false true (s.runTask n).1 unitSeq (s.runTask n).2
    (s.tile n).pc.toNat addr
  generalize s.recordFault n cause false true (s.runTask n).1 unitSeq (s.runTask n).2 (s.tile n).pc.toNat addr = r at *
  have abort := runAborted_abortRunning r n
  generalize r.abortRunning n = t at abort
  have regs : t.regs = r.regs := by rw [abort.frame]
  have fuse : t.fuse = r.fuse := by rw [abort.frame]
  have meters : t.meters = r.meters := by rw [abort.frame]
  have fields : ∀ f, t.fld f n = r.fld f n := fun f => by simp only [State.fld, State.reg, regs, fuse]
  refine ⟨?_, fun m hm => (abort.others m hm).trans (tileKept m), RegsKept.trans kept (RegsKept.of_eq regs meters),
    abort.g.trans (by rw [tileKept]), abort.pc.trans (by rw [tileKept]), abort.v.trans (by rw [tileKept]),
    fun k hk => abort.aborted k (by rw [tileKept]; exact hk), fun hv => ?_⟩
  · have changed := abort.frame
    rw [frame] at changed
    rw [regs]
    exact changed
  · obtain ⟨cause', precise, level, pc⟩ := shown hv
    have pcLt := (s.tile n).pc.isLt
    simp only [State.flag, fields] at precise level ⊢
    exact ⟨cause', precise, level, pc.trans (Nat.mod_eq_of_lt pcLt)⟩

/-- The instruction at the PC faults. -/
theorem completes_fault {s : State} {c : Instr} {n cause : Nat} (addr : Nat) (he : exec c s = .next (s.faultHere n cause addr))
    (hl : (s.tile n).sLevel = false) (hc : cause < 32) : Completes c s (TaskFaults n cause s) :=
  ⟨_, he, taskFaults_faultHere s n cause addr hl hc⟩

/-- The instruction at the PC retires with its result in the tile. -/
theorem completes_retire {s : State} {c : Instr} {n : Nat} (f : Tile → Tile) (he : exec c s = .next (s.retire n f)) :
    Completes c s (Retired n (f (s.tile n)) s) := ⟨_, he, retired_retire s n f⟩

end Sys2Proof.Machine
end

section
/-! SUPPORT. Bytes of numbers, and what a read and a write of a scratchpad by its tile do (R93). -/
namespace Sys2Proof.Machine
open Sys2Proof.Safety

/-! ### Bytes -/

@[simp] theorem length_bytesOf (n v : Nat) : (bytesOf n v).length = n := by
  induction n generalizing v with
  | zero => rfl
  | succ n ih => simp [bytesOf, ih]

@[simp] theorem length_memLoad (m : List Host.Cell) (a n : Nat) : (memLoad m a n).length = n := by
  induction n generalizing a with
  | zero => rfl
  | succ n ih => simp [memLoad, ih]

theorem ofBytes_lt (bs : List Byte) : ofBytes bs < 2 ^ (8 * bs.length) := by
  induction bs with
  | nil => decide
  | cons b bs ih =>
    have := b.isLt
    rw [List.length_cons, Nat.mul_succ, Nat.pow_add]
    simp only [ofBytes]
    omega

/-- A number stored reads back as its bytes. -/
theorem memLoad_memStore_bytesOf (m : List Host.Cell) (a n v : Nat) (h : memWf m = true) :
    memLoad (memStore m a (bytesOf n v)) a n = bytesOf n v := by
  simpa using memLoad_memStore (bytesOf n v) m a h

/-! ### Scratchpad accesses -/

/-- Of the tile's own marks of scratchpad errors only the words that wait to be rewritten may have changed, beside registers:
what a read without an uncorrectable error does (R93). -/
structure SpadRead (n : Nat) (s t : State) : Prop where
  frame : t = { s with regs := t.regs, tiles := t.tiles }
  others : TilesKept n s t
  tile : t.tile n = { s.tile n with spadRewrite := (t.tile n).spadRewrite }

theorem SpadRead.refl (n : Nat) (s : State) : SpadRead n s s := ⟨rfl, fun _ _ => rfl, rfl⟩

theorem SpadRead.trans {n : Nat} {s t u : State} (h : SpadRead n s t) (k : SpadRead n t u) : SpadRead n s u := by
  obtain ⟨h1, h2, h3⟩ := h
  obtain ⟨k1, k2, k3⟩ := k
  refine ⟨?_, fun m hm => (k2 m hm).trans (h2 m hm), ?_⟩
  · rw [h1] at k1; exact k1
  · rw [h3] at k3; exact k3

theorem SpadRead.mem {n : Nat} {s t : State} (h : SpadRead n s t) : t.mem = s.mem := by rw [h.frame]

theorem SpadRead.spadUe {n : Nat} {s t : State} (h : SpadRead n s t) : (t.tile n).spadUe = (s.tile n).spadUe := by rw [h.tile]

/-- Corrected errors are counted, and their words wait to be rewritten. -/
theorem spadRead_correctSpad (n : Nat) (ws : List Nat) (s : State) : SpadRead n s (s.correctSpad n ws) := by
  induction ws generalizing s with
  | nil => exact SpadRead.refl n s
  | cons w ws ih =>
    simp only [State.correctSpad]
    split
    · apply SpadRead.trans _ (ih _)
      exact ⟨rfl, fun m hm => tile_setTile_other _ n m _ hm, by simp only [tile_setTile_same]⟩
    · exact ih s

/-- A read whose words hold no double-bit error meets none. -/
theorem spadRead_good (s : State) (n off len : Nat) (h : ∀ w ∈ spadWords off len, w ∉ (s.tile n).spadUe) :
    (s.spadRead n off len).1 = false ∧ SpadRead n s (s.spadRead n off len).2 := by
  have corrected := spadRead_correctSpad n (spadWords off len) s
  have none : ((spadWords off len).find? fun w => ((s.correctSpad n (spadWords off len)).tile n).spadUe.contains w) = none := by
    simpa [corrected.spadUe] using h
  unfold State.spadRead
  simp only [none]
  exact ⟨trivial, corrected⟩

/-- What a write of whole words of a scratchpad changes: the bytes it stores, and its tile's marks of errors (R93). -/
structure SpadWritten (n : Nat) (m : List Host.Cell) (s t : State) : Prop where
  frame : t = { s with regs := t.regs, tiles := t.tiles, mem := t.mem }
  others : TilesKept n s t
  tile : t.tile n = { s.tile n with
    spadUe := (t.tile n).spadUe, spadCe := (t.tile n).spadCe, spadRewrite := (t.tile n).spadRewrite }
  mem : t.mem = m

theorem noteSpadUe_frame (s : State) (n : Nat) (ws : List Nat) : s.noteSpadUe n ws = { s with regs := (s.noteSpadUe n ws).regs } := by
  unfold State.noteSpadUe
  split <;> rfl

theorem spadWritten_spadWrite (s : State) (n off : Nat) (bs : List Byte) :
    SpadWritten n (memStore s.mem (spadKey n off) bs) s (s.spadWrite n off bs) := by
  have noted := noteSpadUe_frame s n (spadWords off bs.length)
  have tiles : ∀ m, (s.noteSpadUe n (spadWords off bs.length)).tile m = s.tile m := fun m => by rw [noted]; rfl
  refine ⟨?_, fun m hm => ?_, ?_, ?_⟩
  · unfold State.spadWrite
    dsimp only
    generalize s.noteSpadUe n (spadWords off bs.length) = r at noted
    rw [noted]
    rfl
  · simp only [State.spadWrite, tile_setTile_other _ n m _ hm]
    exact tiles m
  · simp only [State.spadWrite, tile_setTile_same, tiles]
  · have mem : (s.noteSpadUe n (spadWords off bs.length)).mem = s.mem := by rw [noted]
    simp only [State.spadWrite, State.setTile, State.store, mem]

theorem SpadWritten.trans {n : Nat} {m m' : List Host.Cell} {s t u : State} (h : SpadWritten n m s t)
    (k : SpadWritten n m' t u) : SpadWritten n m' s u := by
  obtain ⟨h1, h2, h3, h4⟩ := h
  obtain ⟨k1, k2, k3, k4⟩ := k
  refine ⟨?_, fun m hm => (k2 m hm).trans (h2 m hm), ?_, k4⟩
  · rw [h1] at k1; exact k1
  · rw [h3] at k3; exact k3

/-- The bytes that a write of whole words stores, and no others. -/
theorem SpadWritten.bytes {n a len v : Nat} {s t : State} (h : SpadWritten n (memStore s.mem a (bytesOf len v)) s t)
    (hm : memWf s.mem = true) : memLoad t.mem a len = bytesOf len v ∧ BytesKept a len s t := by
  refine ⟨by rw [h.mem, memLoad_memStore_bytesOf _ _ _ _ hm], fun b hb => ?_⟩
  rw [h.mem, memByte_memStore_outside _ _ _ _ (by simpa using hb)]

end Sys2Proof.Machine
end

section
/-! Matrix commands (O13). -/
namespace Sys2Proof.Machine
open Sys2Proof.Safety

/-! ### Issue -/

/-- The command that a matrix word queues. -/
def State.matCmd (s : State) (n w : Nat) (kind : MatKind) : MatCmd :=
  let x := s.tile n
  ⟨kind, iCtl w, x.gr (iF1 w), x.gr (iF2 w), x.gr (iF3 w), x.gr (iF4 w), x.pc.toNat, s.cmdSlot n⟩

/-- A tile with a matrix command queued. -/
def Tile.queueMat (x : Tile) (now : Nat) (m : MatCmd) : Tile :=
  { x with
    matq := x.matq ++ [m], cmdNo := x.cmdNo + 1
    watch := if x.matq.isEmpty then { x.watch with mat := now } else x.watch }

section
variable {n w sub : Nat} {s : State} {kind : MatKind}

/-- A matrix word at issue: the first failing check faults, a full queue lets it wait, and else its command is queued (R81, R158). -/
theorem issueMat_of_issues (ho : iOp w = 0x28) (hs : iSubE w = sub) (hr : matReserved sub w = false)
    (h : Issues n w ⟨[iF1 w, iF2 w, iF3 w, iF4 w], []⟩ s) :
    (∀ cause a, matFault w (s.matCmd n w kind) = some (cause, a) → s.issueMat n kind sub = s.faultHere n cause a)
      ∧ (matFault w (s.matCmd n w kind) = none →
          (16 ≤ (s.tile n).matq.length → s.issueMat n kind sub = s)
            ∧ ((s.tile n).matq.length < 16 →
                s.issueMat n kind sub = s.retire n fun x => x.queueMat s.now (s.matCmd n w kind))) := by
  have act := issue_of_issues h (fun w => iOp w == 0x28 && iSubE w == sub) (fun w => !matReserved sub w)
    (fun w => ⟨[iF1 w, iF2 w, iF3 w, iF4 w], []⟩)
  refine ⟨fun cause a hf => ?_, fun hf => ⟨fun full => ?_, fun room => ?_⟩⟩ <;> unfold State.issueMat <;>
    rw [act _ (by simp [ho, hs]) (by simp [hr]) rfl] <;> unfold State.matCmd at hf <;> simp only [hf]
  · rw [if_pos full]
  · rw [if_neg (by omega)]; rfl

theorem matFault_lt (m : MatCmd) (cause a : Nat) (h : matFault w m = some (cause, a)) : cause < 32 := by
  unfold matFault at h
  split at h
  · cases h; decide
  · dsimp only at h
    split at h
    · cases h; decide
    · split at h <;> cases h
      decide

end

/-- Each of the four commands issues under its own code. -/
theorem exec_matrix (n sub : Nat) (kind : MatKind) (c : Instr) (s : State)
    (hc : kind = .mclr ∧ sub = 0 ∧ c = .mclr n ∨ kind = .macc ∧ sub = 1 ∧ c = .macc n
      ∨ kind = .mdrn ∧ sub = 2 ∧ c = .mdrn n ∨ kind = .mldp ∧ sub = 3 ∧ c = .mldp n) :
    exec c s = .next (s.issueMat n kind sub) := by
  rcases hc with ⟨rfl, rfl, rfl⟩ | ⟨rfl, rfl, rfl⟩ | ⟨rfl, rfl, rfl⟩ | ⟨rfl, rfl, rfl⟩ <;> rfl

/-- What MSTAT reads of a plane: its flags, its anchor and its busy bit (R160). -/
def Tile.planeStat (x : Tile) (k : Nat) : Nat :=
  (x.plane k).summary % 32 + ((x.plane k).anchor % 256) <<< 8 + natOfBool (x.planeBusy k) <<< 16

theorem planeStat_eq (x : Tile) (k : Nat) :
    x.planeStat k = (x.plane k).summary % 32 + (x.plane k).anchor % 256 * 2 ^ 8 + (if x.planeBusy k then 2 ^ 16 else 0) := by
  have busy : ∀ b : Bool, natOfBool b <<< 16 = if b then 2 ^ 16 else 0 := by decide
  rw [Tile.planeStat, busy, Nat.shiftLeft_eq]

theorem exec_mstat (n w : Nat) (s : State) (ho : iOp w = 0x28) (hs : iSubE w = 4) (hr : matReserved 4 w = false)
    (h : Issues n w ⟨[iF1 w], []⟩ s) (h2 : iF2 w = 0) (h3 : iF3 w = 0) (h4 : iF4 w = 0) :
    exec (.mstat n) s = .next (s.retire n fun x => x.setG (iF1 w) (x.planeStat (mcPlane (iCtl w)))) := by
  have act := issue_of_issues h (fun w => iOp w == 0x28 && iSubE w == 4) (fun w => !matReserved 4 w) (fun w => ⟨[iF1 w], []⟩)
  change execMstat n s = _
  unfold execMstat
  rw [act _ (by simp [ho, hs]) (by simp [hr]) rfl]
  simp only [h2, h3, h4, bne_self_eq_false, Bool.or_self, Bool.false_eq_true, if_false]
  rfl

/-! ### Completion -/

/-- The operands of a matrix command as the scratchpad holds them. -/
def State.operandValues (s : State) (n : Nat) (os : List MatOperand) : List Nat :=
  os.map fun o => ofBytes (memLoad s.mem (spadKey n o.off) o.size)

/-- Operands without a double-bit error are read as the scratchpad holds them (R93). -/
theorem readOperands_good (n : Nat) (os : List MatOperand) (s : State)
    (h : ∀ o ∈ os, ∀ w ∈ spadWords o.off o.size, w ∉ (s.tile n).spadUe) :
    (s.readOperands n os).1 = false ∧ (s.readOperands n os).2.1 = s.operandValues n os
      ∧ SpadRead n s (s.readOperands n os).2.2 := by
  induction os generalizing s with
  | nil => exact ⟨rfl, rfl, SpadRead.refl n s⟩
  | cons o os ih =>
    obtain ⟨good, read⟩ := spadRead_good s n o.off o.size (h o (by simp))
    obtain ⟨goods, values, reads⟩ := ih (s.spadRead n o.off o.size).2 fun p hp => by
      rw [read.spadUe]; exact h p (by simp [hp])
    refine ⟨?_, ?_, read.trans reads⟩
    · simp only [State.readOperands, good, goods, Bool.or_self]
    · simp only [State.readOperands, values, State.operandValues, State.bytes, read.mem, List.map_cons]

/-- What the run of a matrix command that meets no double-bit error does (R85, R134, R157, R159). -/
structure MatrixRun (n : Nat) (c : MatCmd) (s t : State) : Prop where
  others : TilesKept n s t
  tile : t.tile n = { s.tile n with
    planes := (t.tile n).planes, spadUe := (t.tile n).spadUe, spadCe := (t.tile n).spadCe
    spadRewrite := (t.tile n).spadRewrite }
  planes : ∀ q, q ≠ mcPlane c.ctl → (t.tile n).plane q = (s.tile n).plane q
  mclr : c.kind = .mclr → t.mem = s.mem ∧ (t.tile n).plane (mcPlane c.ctl) = ⟨[], mcAnchor c.ctl, 0⟩
  macc : c.kind = .macc →
    let v := s.operandValues n (matOperands c)
    t.mem = s.mem ∧ (t.tile n).plane (mcPlane c.ctl)
      = Machine.macc ((s.tile n).plane (mcPlane c.ctl)) c.ctl c.r3 (lget v 0 0) (lget v 1 0)
          (if mcMxA c.ctl then lget v 2 0 else 0) (if mcMxB c.ctl then lget v (if mcMxA c.ctl then 3 else 2) 0 else 0)
  mldp : c.kind = .mldp → t.mem = s.mem ∧ (t.tile n).plane (mcPlane c.ctl)
    = Machine.mldp (lget (s.operandValues n (matOperands c)) 0 0) (mcAnchor c.ctl)
  mdrn : c.kind = .mdrn → mcMx c.ctl = false →
    let bytes := storedBytes (mcFmtA c.ctl) (mcUpk c.ctl) 16384
    (t.tile n).plane (mcPlane c.ctl) = (s.tile n).plane (mcPlane c.ctl)
      ∧ BytesKept (spadKey n (bitsOf c.r1 22 0)) bytes s t
      ∧ memLoad t.mem (spadKey n (bitsOf c.r1 22 0)) bytes
          = bytesOf bytes (packElems (storedBits (mcFmtA c.ctl) (mcUpk c.ctl))
              (drainElem ((s.tile n).plane (mcPlane c.ctl)) c.ctl c.r2 c.r3) 16384 0)

theorem mcPlane_lt (ctl : Nat) : mcPlane ctl < 4 := bitsOf_lt ctl 9 8

/-- A plane replaced after reads of the scratchpad. -/
structure PlaneSet (n k : Nat) (p : Plane) (s t : State) : Prop where
  others : TilesKept n s t
  tile : t.tile n = { s.tile n with planes := (t.tile n).planes, spadRewrite := (t.tile n).spadRewrite }
  mem : t.mem = s.mem
  same : (t.tile n).plane k = p
  other : ∀ q, q ≠ k → (t.tile n).plane q = (s.tile n).plane q

theorem SpadRead.setPlane {n k : Nat} {s u : State} (h : SpadRead n s u) (p : Plane) (hk : k < (s.tile n).planes.length) :
    PlaneSet n k p s (u.onTile n fun x => x.setPlane k p) := by
  have planes : (u.tile n).planes = (s.tile n).planes := by rw [h.tile]
  refine ⟨fun m hm => (tile_setTile_other u n m _ hm).trans (h.others m hm), ?_, h.mem, ?_, fun q hq => ?_⟩
  · simp only [State.onTile, tile_setTile_same]
    rw [h.tile]
    rfl
  · simp only [State.onTile, tile_setTile_same, Tile.plane, Tile.setPlane]
    exact lget_lset_same _ _ _ _ (planes ▸ hk)
  · simp only [State.onTile, tile_setTile_same, Tile.plane, Tile.setPlane, planes]
    exact lget_lset_other _ _ _ _ _ (Ne.symm hq)

/-- The run of a command that replaces its plane. -/
theorem MatrixRun.of_planeSet {n : Nat} {c : MatCmd} {p : Plane} {s t : State} (h : PlaneSet n (mcPlane c.ctl) p s t)
    (hd : c.kind ≠ .mdrn) (hclr : c.kind = .mclr → p = ⟨[], mcAnchor c.ctl, 0⟩)
    (hacc : c.kind = .macc →
      let v := s.operandValues n (matOperands c)
      p = Machine.macc ((s.tile n).plane (mcPlane c.ctl)) c.ctl c.r3 (lget v 0 0) (lget v 1 0)
          (if mcMxA c.ctl then lget v 2 0 else 0) (if mcMxB c.ctl then lget v (if mcMxA c.ctl then 3 else 2) 0 else 0))
    (hldp : c.kind = .mldp → p = Machine.mldp (lget (s.operandValues n (matOperands c)) 0 0) (mcAnchor c.ctl)) :
    MatrixRun n c s t := by
  refine ⟨h.others, ?_, h.other, fun k => ⟨h.mem, h.same.trans (hclr k)⟩, fun k => ⟨h.mem, h.same.trans (hacc k)⟩,
    fun k => ⟨h.mem, h.same.trans (hldp k)⟩, fun k => absurd k hd⟩
  rw [h.tile]

/-- The run of a drain, by the scratchpad bytes that it writes. -/
theorem MatrixRun.of_spadWritten {n : Nat} {c : MatCmd} {m : List Host.Cell} {s t : State} (h : SpadWritten n m s t)
    (hk : c.kind = .mdrn)
    (hb : mcMx c.ctl = false →
      let bytes := storedBytes (mcFmtA c.ctl) (mcUpk c.ctl) 16384
      memLoad t.mem (spadKey n (bitsOf c.r1 22 0)) bytes
          = bytesOf bytes (packElems (storedBits (mcFmtA c.ctl) (mcUpk c.ctl))
              (drainElem ((s.tile n).plane (mcPlane c.ctl)) c.ctl c.r2 c.r3) 16384 0)
        ∧ BytesKept (spadKey n (bitsOf c.r1 22 0)) bytes s t) : MatrixRun n c s t := by
  have planes : ∀ q, (t.tile n).plane q = (s.tile n).plane q := fun q => by rw [h.tile]; rfl
  refine ⟨h.others, ?_, fun q _ => planes q, ?_, ?_, ?_, fun _ mx => ⟨planes _, (hb mx).2, (hb mx).1⟩⟩
  · rw [h.tile]
  all_goals intro k; rw [hk] at k; cases k

/-- A command whose operands hold no double-bit error runs (R93, R157, R159). -/
theorem runMat_good (s : State) (n : Nat) (c : MatCmd) (hm : memWf s.mem = true) (hp : (s.tile n).planes.length = 4)
    (h : ∀ o ∈ matOperands c, ∀ w ∈ spadWords o.off o.size, w ∉ (s.tile n).spadUe) :
    (s.runMat n c).1 = false ∧ MatrixRun n c s (s.runMat n c).2 := by
  have inPlanes : mcPlane c.ctl < (s.tile n).planes.length := hp ▸ mcPlane_lt c.ctl
  obtain ⟨good, values, read⟩ := readOperands_good n (matOperands c) s h
  unfold State.runMat
  cases hk : c.kind with
  | mclr =>
    refine ⟨rfl, .of_planeSet ((SpadRead.refl n s).setPlane _ inPlanes) ?_ ?_ ?_ ?_⟩ <;> simp [hk]
  | macc =>
    simp only [good, values, Bool.false_eq_true, if_false]
    refine ⟨trivial, .of_planeSet (read.setPlane _ inPlanes) ?_ ?_ ?_ ?_⟩ <;> simp [hk]
  | mldp =>
    simp only [good, values, Bool.false_eq_true, if_false]
    refine ⟨trivial, .of_planeSet (read.setPlane _ inPlanes) ?_ ?_ ?_ ?_⟩ <;> simp [hk]
  | mdrn =>
    refine ⟨rfl, ?_⟩
    have drained := spadWritten_spadWrite s n (bitsOf c.r1 22 0)
      (bytesOf (storedBytes (mcFmtA c.ctl) (mcUpk c.ctl) 16384) (packElems (storedBits (mcFmtA c.ctl) (mcUpk c.ctl))
        (drainElem ((s.tile n).plane (mcPlane c.ctl)) c.ctl c.r2 c.r3) 16384 0))
    by_cases mx : mcMx c.ctl = true
    · simp only [mx, if_true]
      exact .of_spadWritten (drained.trans (spadWritten_spadWrite _ n _ _)) hk fun no => by rw [mx] at no; cases no
    · simp only [mx]
      exact .of_spadWritten drained hk fun _ => drained.bytes hm

/-- The state with the `k`-th queued matrix command taken from its queue (R128). -/
def State.takeMat (s : State) (n k : Nat) : State :=
  s.setTile n { s.tile n with matq := ldel (s.tile n).matq k, watch := { (s.tile n).watch with mat := s.now } }

/-- A matrix command that may complete and meets no double-bit error leaves the queue and runs (R86, R128). -/
theorem completes_matrixCmdDone (n k : Nat) (s : State) (c : MatCmd) (hn : n < 144) (hr : s.chipReset = false)
    (hg : s.gateOpen n = true) (hi : Engine.matrix ∉ (s.tile n).inReset) (hm : memWf s.mem = true) (ht : TileOk (s.tile n))
    (hc : (s.tile n).matq[k]? = some c) (first : ∀ d ∈ (s.tile n).matq.take k, mcPlane d.ctl ≠ mcPlane c.ctl)
    (h : ∀ o ∈ matOperands c, ∀ w ∈ spadWords o.off o.size, w ∉ (s.tile n).spadUe) :
    Completes (.matrixCmdDone n k) s fun t => ∃ u, MatrixRun n c (s.takeMat n k) u ∧ TallyOnly n u t := by
  obtain ⟨-, -, -, -, -, planes, -⟩ := ht
  have taken : (s.takeMat n k).tile n
      = { s.tile n with matq := ldel (s.tile n).matq k, watch := { (s.tile n).watch with mat := s.now } } :=
    tile_setTile_same s n _
  obtain ⟨good, run⟩ := runMat_good (s.takeMat n k) n c hm (by rw [taken]; exact planes) (by rw [taken]; exact h)
  have idle : (decide (144 ≤ n) || s.chipReset || !s.gateOpen n || (s.tile n).inReset.contains .matrix
      || ((s.tile n).matq.take k).any fun d => mcPlane d.ctl == mcPlane c.ctl) = false := by
    simp only [hr, hg, Bool.or_eq_false_iff, decide_eq_false_iff_not, List.any_eq_false, beq_iff_eq]
    refine ⟨⟨⟨⟨by omega, trivial⟩, rfl⟩, ?_⟩, first⟩
    simpa using hi
  have done : exec (.matrixCmdDone n k) s = .next (if c.kind = .macc then ((s.takeMat n k).runMat n c).2.tally n 0x010 c.r3
      else ((s.takeMat n k).runMat n c).2) := by
    change execMatrixCmdDone n k s = _
    unfold execMatrixCmdDone
    simp only [hc, idle, Bool.false_eq_true, if_false]
    change (if ((s.takeMat n k).runMat n c).1 = true then _ else _) = _
    rw [good]
    rfl
  refine ⟨_, done, _, run, ?_⟩
  split
  · exact tally_frame _ n _ _
  · exact TallyOnly.refl n _

/-- Settles O13: a matrix word's checks decide whether its command is queued, and a queued one runs on its own plane. -/
theorem matrixEngine : Obligations.MatrixEngine := by
  unfold Obligations.MatrixEngine
  refine ⟨fun n w s => ⟨fun kind sub c hc ho hs hr hi => ?_, fun ho hs hr hi h2 h3 h4 => ?_⟩,
    fun n k s c hn hr hg hi hm ht hc first h => ?_⟩
  · obtain ⟨faults, passes⟩ := issueMat_of_issues (kind := kind) ho hs hr hi
    have run := exec_matrix n sub kind c s hc
    refine ⟨fun hf room => ?_, fun hf full => ?_, fun cause a hf hl => ?_⟩
    · obtain ⟨-, queued⟩ := passes hf
      exact completes_retire (fun x => x.queueMat s.now (s.matCmd n w kind)) (run.trans (congrArg _ (queued room)))
    · obtain ⟨waits, -⟩ := passes hf
      exact run.trans (congrArg _ (waits full))
    · exact completes_fault a (run.trans (congrArg _ (faults cause a hf))) hl (matFault_lt _ cause a hf)
  · have stat := completes_retire _ (exec_mstat n w s ho hs hr hi h2 h3 h4)
    rw [planeStat_eq] at stat
    exact stat
  · obtain ⟨t, ht, u, run, tally⟩ := completes_matrixCmdDone n k s c hn hr hg hi hm ht hc first h
    have taken : (s.takeMat n k).tile n
        = { s.tile n with matq := ldel (s.tile n).matq k, watch := { (s.tile n).watch with mat := s.now } } :=
      tile_setTile_same s n _
    have tiles : ∀ m, t.tile m = u.tile m := fun m => tile_of_tiles (by rw [tally.1]) m
    have mem : t.mem = u.mem := by rw [tally.1]
    have planes : ∀ q, ((s.takeMat n k).tile n).plane q = (s.tile n).plane q := fun q => by rw [taken]; rfl
    refine ⟨t, ht, ?_, fun m hm => ?_, ?_, ?_, fun q hq => ?_, fun hk => ?_, fun hk => ?_, fun hk => ?_, fun hk mx => ?_⟩
    · rw [tiles, run.tile, taken]
    · rw [tiles, run.others m hm, State.takeMat, tile_setTile_other s n m _ hm]
    · rw [tiles, run.tile, taken]
    · rw [tiles, run.tile, taken]
    · rw [tiles, run.planes q hq, planes]
    · obtain ⟨kept, plane⟩ := run.mclr hk
      exact ⟨mem.trans kept, (tiles n ▸ plane)⟩
    · obtain ⟨kept, plane⟩ := run.macc hk
      rw [planes] at plane
      exact ⟨mem.trans kept, (tiles n ▸ plane)⟩
    · obtain ⟨kept, plane⟩ := run.mldp hk
      exact ⟨mem.trans kept, (tiles n ▸ plane)⟩
    · obtain ⟨plane, kept, stored⟩ := run.mdrn hk mx
      rw [planes] at plane stored
      refine ⟨tiles n ▸ plane, fun b hb => ?_, mem ▸ stored⟩
      rw [mem]
      exact kept b hb

end Sys2Proof.Machine
end

section
/-! DMA commands (O15). -/
namespace Sys2Proof.Machine
open Sys2Proof.Safety

/-! ### Issue -/

/-- The command that a DMA word queues. -/
def State.dmaCmd (s : State) (n w : Nat) (kind : DmaKind) : DmaCmd :=
  let x := s.tile n
  let k := iCtl w
  ⟨kind, x.gr (iF1 w), x.gr (iF2 w), x.gr (iF3 w), x.gr (iF4 w), dcDstDom k, dcAckDom k, dcAckEn k, dcFlen k, x.pc.toNat,
    s.cmdSlot n, s.producerA n, x.cmdNo, false, 0, 0, 0, .toRequest, 0, 0, 0⟩

section
variable {n w sub : Nat} {s : State} {kind : DmaKind}

/-- A DMA word at issue (R81, R163 to R167): an illegal command, an address that fails, and a domain that the tile's paddock
does not own fault, in this order (log entry 31); a full channel lets the command wait, and else it is queued. -/
theorem issueDma_of_issues (ho : iOp w = 0x2C) (hs : iSubE w = sub) (hr : bitsOf (iCtl w) 30 25 = 0)
    (h : Issues n w ⟨[iF1 w, iF2 w, iF3 w, iF4 w], []⟩ s) :
    let m := s.dmaCmd n w kind
    let ch := (s.tile n).chan (dcChan (iCtl w))
    (s.dmaIllegal m w = true → s.issueDma n kind sub = s.faultHere n 2 0)
      ∧ (s.dmaIllegal m w = false →
        (∀ cause a, dmaAddrFault m = some (cause, a) → s.issueDma n kind sub = s.faultHere n cause a)
        ∧ (dmaAddrFault m = none →
          (s.dmaDomainBad n m = true → s.issueDma n kind sub = s.faultHere n 7 0)
          ∧ (s.dmaDomainBad n m = false →
            (16 ≤ ch.occupied → s.issueDma n kind sub = s)
            ∧ (ch.occupied < 16 →
              s.issueDma n kind sub = s.retire n fun x =>
                { x.setChan (dcChan (iCtl w)) { ch with queue := ch.queue ++ [m] } with cmdNo := x.cmdNo + 1 })))) := by
  have act := issue_of_issues h (fun w => iOp w == 0x2C && iSubE w == sub) (fun w => bitsOf (iCtl w) 30 25 == 0)
    (fun w => ⟨[iF1 w, iF2 w, iF3 w, iF4 w], []⟩)
  unfold State.issueDma
  rw [act _ (by simp [ho, hs]) (by simp [hr]) rfl]
  unfold State.dmaCmd
  refine ⟨fun bad => ?_, fun good => ⟨fun cause a hf => ?_, fun hf => ⟨fun dom => ?_, fun dom => ⟨fun full => ?_, fun room => ?_⟩⟩⟩⟩
  · simp only [bad, if_true]
  · simp only [good, hf, Bool.false_eq_true, if_false]
  · simp only [good, hf, dom, Bool.false_eq_true, if_false, if_true]
  · simp only [good, hf, dom, full, Bool.false_eq_true, if_false, if_true]
  · simp only [good, hf, dom, Nat.not_le.mpr room, Bool.false_eq_true, if_false]

theorem dmaAddrFault_lt (m : DmaCmd) (cause a : Nat) (h : dmaAddrFault m = some (cause, a)) : cause < 32 := by
  unfold dmaAddrFault at h
  split at h
  all_goals
    repeat' split at h
    all_goals cases h
    all_goals decide

end

/-- Each of the five commands issues under its own code. -/
theorem exec_dma (n sub : Nat) (kind : DmaKind) (c : Instr) (s : State)
    (hc : kind = .copy ∧ sub = 0 ∧ c = .dmaCopy n ∨ kind = .copy2d ∧ sub = 1 ∧ c = .dmaCopy2d n
        ∨ kind = .fill ∧ sub = 2 ∧ c = .dmaFill n ∨ kind = .graphSend ∧ sub = 3 ∧ c = .graphSend n
        ∨ kind = .flaggedWrite ∧ sub = 4 ∧ c = .flaggedWriteCmd n) :
    exec c s = .next (s.issueDma n kind sub) := by
  rcases hc with ⟨rfl, rfl, rfl⟩ | ⟨rfl, rfl, rfl⟩ | ⟨rfl, rfl, rfl⟩ | ⟨rfl, rfl, rfl⟩ | ⟨rfl, rfl, rfl⟩ <;> rfl

/-! ### The head of a channel's queue -/

theorem chan_setChan_same (x : Tile) (ch : Nat) (c : DmaChan) (h : ch < x.dma.length) : (x.setChan ch c).chan ch = c :=
  lget_lset_same _ _ _ _ h

/-- What the head command's start changes: nothing but the tile's channels. -/
theorem onlyTile_setDma (s : State) (n : Nat) (l : List DmaChan) :
    OnlyTile n [] s (s.setTile n { s.tile n with dma := l })
      ∧ (s.setTile n { s.tile n with dma := l }).tile n
          = { s.tile n with dma := ((s.setTile n { s.tile n with dma := l }).tile n).dma } :=
  ⟨⟨rfl, RegsKept.of_eq rfl rfl, fun m hm => tile_setTile_other s n m _ hm⟩, by simp only [tile_setTile_same]⟩

/-- A command that moves bytes, or that has none to move (R98). -/
def DmaCmd.Moves (c : DmaCmd) : Prop := c.kind = .graphSend ∨ c.kind = .flaggedWrite ∨ (c.rows.1 ≠ 0 ∧ c.rows.2.1 ≠ 0)

theorem moves_iff (c : DmaCmd) :
    c.Moves ↔ ((c.kind = .copy || c.kind = .copy2d || c.kind = .fill) && (c.rows.1 = 0 || c.rows.2.1 = 0)) = false := by
  cases hk : c.kind <;> simp [DmaCmd.Moves, hk]

section
variable {n ch : Nat} {s : State} {c : DmaCmd} {cs : List DmaCmd}

/-- The head command of a channel starts, completes at once, or stops its channel (R98, R100). -/
theorem exec_dmaCmdStart (hr : s.dmaRuns n = true) (hch : ch < 4) (hq : ((s.tile n).chan ch).queue = c :: cs)
    (hs : c.started = false) :
    (s.dmaStartCause c ≠ 0 → exec (.dmaCmdStart n ch) s = .next (s.dmaStop n ch (s.dmaStartCause c) c))
      ∧ (s.dmaStartCause c = 0 →
        (¬c.Moves → exec (.dmaCmdStart n ch) s = .next (s.onTile n fun x => x.dropHead ch))
        ∧ (c.Moves → exec (.dmaCmdStart n ch) s = .next (s.onTile n fun x =>
            (x.setChan ch { x.chan ch with since := if (x.chan ch).active then (x.chan ch).since else s.now }).setHead ch
              { c with started := true }))) := by
  change (_ → execDmaCmdStart n ch s = _) ∧ (_ → (_ → execDmaCmdStart n ch s = _) ∧ (_ → execDmaCmdStart n ch s = _))
  unfold execDmaCmdStart
  rw [if_neg (by simp [hr, hch])]
  simp only [hq, hs, Bool.false_eq_true, if_false]
  refine ⟨fun bad => ?_, fun good => ⟨fun still => ?_, fun moves => ?_⟩⟩
  · rw [if_pos (by simpa using bad)]
  · rw [moves_iff, Bool.not_eq_false] at still
    rw [if_neg (by simp [good]), if_pos still]
  · rw [moves_iff] at moves
    rw [if_neg (by simp [good]), if_neg (by rw [moves]; decide)]

end

/-! ### A command that fails the checks of its ranges -/

theorem dmaRange_lt (s : State) (a n : Nat) : s.dmaRange a n < 16 := by
  unfold State.dmaRange
  dsimp only
  repeat' split
  all_goals decide

theorem worstRange_lt (l : List Nat) : worstRange l < 16 := by
  unfold worstRange
  repeat' split
  all_goals decide

theorem dmaStartCause_lt (s : State) (c : DmaCmd) : s.dmaStartCause c < 16 := by
  unfold State.dmaStartCause
  split
  · decide
  · exact dmaRange_lt s _ _
  · dsimp only
    split
    · decide
    · exact worstRange_lt _

/-- A field at none of the listed offsets keeps its value. -/
theorem fld_of_regsKept {l : List Nat} {s t : State} (h : RegsKept l s t) (hf : t.fuse = s.fuse) (f : Fld) (i j : Nat)
    (ho : f.reg.offset i j ∉ l) : t.fld f i j = s.fld f i j := by
  simp only [State.fld, State.reg, h.1 _ ho, hf]

/-- What the stop of a channel leaves (R100): an empty queue, the cause recorded, and the task in RUN aborted. -/
structure ChannelStopped (n ch cause : Nat) (s t : State) : Prop where
  others : TilesKept n s t
  mem : t.mem = s.mem
  queue : ((t.tile n).chan ch).queue = []
  cause : t.fld TL_DMA_STAT_last_cause n ch = cause
  event : t.flag TL_EVT_dma_error n = true
  aborted : ∀ k, (s.tile n).runSlot = some k → ((t.tile n).slot k).state = .abort

/-- The state of a stopped channel before its fault: the queue empty, the event set, and the cause recorded. -/
def State.haltChannel (s : State) (n ch cause : Nat) : State :=
  (((s.setTile n ((s.tile n).setChan ch { (s.tile n).chan ch with queue := [] })).event TL_EVT_dma_error n).dmaCause n ch cause)

theorem fld_haltChannel (s : State) (n ch cause : Nat) (h4 : ch < 4) (hc : cause < 16) :
    (s.haltChannel n ch cause).fld TL_DMA_STAT_last_cause n ch = cause
      ∧ (s.haltChannel n ch cause).fld TL_EVT_dma_error n = 1 := by
  refine ⟨(fld_setFld_same _ TL_DMA_STAT_last_cause n ch cause (by decide)).trans (Nat.mod_eq_of_lt hc), ?_⟩
  refine (fld_setFld_other _ TL_DMA_STAT_last_cause TL_EVT_dma_error n ch n 0 cause ?_).trans
    (fld_setFld_same _ TL_EVT_dma_error n 0 1 (by decide))
  simp only [TL_DMA_STAT_last_cause, TL_EVT_dma_error, RegId.offset, RegId.desc]
  omega

theorem dmaStop_stops (s : State) (n ch cause : Nat) (c : DmaCmd) (hch : ch < (s.tile n).dma.length) (h4 : ch < 4)
    (hc : cause < 16) : ChannelStopped n ch cause s (s.dmaStop n ch cause c) := by
  have tile : (s.haltChannel n ch cause).tile n = (s.tile n).setChan ch { (s.tile n).chan ch with queue := [] } :=
    tile_setTile_same s n _
  have others : ∀ m, m ≠ n → (s.haltChannel n ch cause).tile m = s.tile m := fun m hm => tile_setTile_other s n m _ hm
  have mem : (s.haltChannel n ch cause).mem = s.mem := rfl
  obtain ⟨shown, event⟩ := fld_haltChannel s n ch cause h4 hc
  have stop : s.dmaStop n ch cause c = (s.haltChannel n ch cause).impreciseFault n 0x0A (unitDma ch) c.pc := rfl
  rw [stop]
  generalize s.haltChannel n ch cause = u at *
  rw [impreciseFault_eq]
  have tiles := fun m => tile_recordFault u n 0x0A false false (u.runTask n).1 (unitDma ch) (u.runTask n).2 c.pc 0 m
  obtain ⟨frame, kept⟩ := recordFault_frame u n 0x0A false false (u.runTask n).1 (unitDma ch) (u.runTask n).2 c.pc 0
  generalize u.recordFault n 0x0A false false (u.runTask n).1 (unitDma ch) (u.runTask n).2 c.pc 0 = r at *
  have abort := runAborted_abortRunning r n
  generalize r.abortRunning n = t at abort
  have fields : ∀ f i j, f.reg.offset i j ∉ faultOffs n → t.fld f i j = u.fld f i j := fun f i j ho => by
    have fuse : r.fuse = u.fuse := by rw [frame]
    rw [abort.frame]
    exact fld_of_regsKept kept fuse f i j ho
  refine ⟨fun m hm => ?_, ?_, ?_, ?_, ?_, fun k hk => ?_⟩
  · rw [abort.others m hm, tiles, others m hm]
  · rw [abort.frame, frame, ← mem]
  · refine abort.idle ch ?_
    rw [tiles, tile, chan_setChan_same _ _ _ hch]
  · rw [fields _ _ _ ?_, shown]
    simp only [faultOffs, TL_DMA_STAT_last_cause, RegId.offset, RegId.desc, List.mem_cons, List.not_mem_nil, or_false]
    omega
  · rw [State.flag, fields _ _ _ ?_, event]
    · rfl
    · simp only [faultOffs, TL_EVT_dma_error, RegId.offset, RegId.desc, List.mem_cons, List.not_mem_nil, or_false]
      omega
  · refine abort.aborted k ?_
    rw [tiles, tile]
    exact hk

/-- Settles O15: a DMA word's checks decide whether its command is queued (their order is log entry 31, the model's choice),
and the checks of its ranges whether it starts. -/
theorem dmaCommandsStart : Obligations.DmaCommandsStart := by
  unfold Obligations.DmaCommandsStart
  refine ⟨fun n w s kind sub c hc ho hs hr hi => ?_, fun n ch s c cs ht hr hch hq hs => ?_⟩
  · obtain ⟨illegal, legal⟩ := issueDma_of_issues (kind := kind) ho hs hr hi
    have run := exec_dma n sub kind c s hc
    refine ⟨fun bad hl => ?_, fun good => ?_⟩
    · exact completes_fault 0 (run.trans (congrArg _ (illegal bad))) hl (by decide)
    · obtain ⟨misaddressed, inRange⟩ := legal good
      refine ⟨fun cause a hf hl => ?_, fun hf => ?_⟩
      · exact completes_fault a (run.trans (congrArg _ (misaddressed cause a hf))) hl (dmaAddrFault_lt _ cause a hf)
      · obtain ⟨foreign, owned⟩ := inRange hf
        refine ⟨fun dom hl => ?_, fun dom room => ?_, fun dom full => ?_⟩
        · exact completes_fault 0 (run.trans (congrArg _ (foreign dom))) hl (by decide)
        · obtain ⟨-, queued⟩ := owned dom
          exact completes_retire _ (run.trans (congrArg _ (queued room)))
        · obtain ⟨waits, -⟩ := owned dom
          exact run.trans (congrArg _ (waits full))
  · obtain ⟨-, -, -, -, -, -, channels⟩ := ht
    have inDma : ch < (s.tile n).dma.length := channels ▸ hch
    obtain ⟨fails, passes⟩ := exec_dmaCmdStart hr hch hq hs
    refine ⟨fun good moves => ?_, fun good still => ?_, fun bad => ?_⟩
    · obtain ⟨-, starts⟩ := passes good
      obtain ⟨only, tile⟩ := onlyTile_setDma s n _
      refine ⟨_, starts moves, only, ?_, tile⟩
      simp only [State.onTile, tile_setTile_same]
      rw [Tile.setHead, chan_setChan_same _ _ _ (by simpa [Tile.setChan] using inDma), chan_setChan_same _ _ _ inDma, hq]
      rfl
    · obtain ⟨ends, -⟩ := passes good
      obtain ⟨only, tile⟩ := onlyTile_setDma s n _
      refine ⟨_, ends still, only, ?_, tile⟩
      simp only [State.onTile, tile_setTile_same]
      rw [Tile.dropHead, chan_setChan_same _ _ _ inDma, hq]
      rfl
    · have stopped := dmaStop_stops s n ch (s.dmaStartCause c) c inDma hch (dmaStartCause_lt s c)
      exact ⟨_, fails bad, stopped.others, stopped.mem, stopped.queue, stopped.cause, stopped.event, stopped.aborted⟩

end Sys2Proof.Machine
end

section
/-! SUPPORT. The elements of vector registers (R88), and the integer operations on them (R162). -/
namespace Sys2Proof.Machine
open Sys2Proof.Safety

/-! ### Elements -/

section
variable {w v i j e : Nat}

/-- An element is a bit field. -/
theorem elem_eq_bitsOf (hw : 0 < w) : elem w v i = bitsOf v (w * i + (w - 1)) (w * i) := by
  rw [elem, bitsOf, show w * i + (w - 1) + 1 - w * i = w by omega]

theorem setElem_eq_withBits (hw : 0 < w) : setElem w v i e = withBits v (w * i + (w - 1)) (w * i) e := by
  rw [setElem, withBits, elem_eq_bitsOf hw, show w * i + (w - 1) + 1 - w * i = w by omega]

theorem elem_lt : elem w v i < 2 ^ w := Nat.mod_lt _ (Nat.two_pow_pos _)

theorem elem_setElem_same (hw : 0 < w) : elem w (setElem w v i e) i = e % 2 ^ w := by
  rw [elem_eq_bitsOf hw, setElem_eq_withBits hw, bitsOf_withBits_same _ _ _ _ (by omega),
    show w * i + (w - 1) + 1 - w * i = w by omega]

theorem elem_setElem_other (hw : 0 < w) (h : i ≠ j) : elem w (setElem w v i e) j = elem w v j := by
  have apart : w * j + w ≤ w * i ∨ w * i + w ≤ w * j := by
    rcases Nat.lt_or_gt_of_ne h with c | c
    · exact .inr (Nat.mul_le_mul_left w c)
    · exact .inl (Nat.mul_le_mul_left w c)
  rw [elem_eq_bitsOf hw, elem_eq_bitsOf hw, setElem_eq_withBits hw, bitsOf_withBits_other _ _ _ _ _ _ (by omega) (by omega)]

theorem setElem_lt {n : Nat} (hw : 0 < w) (hi : w * i + w ≤ n) (hv : v < 2 ^ n) : setElem w v i e < 2 ^ n := by
  rw [setElem_eq_withBits hw]
  exact withBits_lt _ _ _ _ _ (by omega) (by omega) hv

end

section
variable {w mask old : Nat} (f : Nat → Nat)

theorem mapLanes_succ (n : Nat) :
    mapLanes w (n + 1) mask old f
      = if bitAt mask n then setElem w (mapLanes w n mask old f) n (f n) else mapLanes w n mask old f := by
  simp only [mapLanes, List.range_succ, List.foldl_append, List.foldl_cons, List.foldl_nil]

/-- The active elements below the count are taken from the function, and the others stay (R88). -/
theorem elem_mapLanes (hw : 0 < w) (n i : Nat) :
    elem w (mapLanes w n mask old f) i = if i < n ∧ bitAt mask i = true then f i % 2 ^ w else elem w old i := by
  induction n with
  | zero => simp [mapLanes]
  | succ n ih =>
    rw [mapLanes_succ]
    by_cases hn : n = i
    · subst hn
      split
      next active => rw [elem_setElem_same hw, if_pos ⟨by omega, active⟩]
      next idle => rw [ih, if_neg (by omega), if_neg (fun h => idle h.2)]
    · have below : i < n + 1 ↔ i < n := by omega
      split
      · simp only [elem_setElem_other hw hn, ih, below]
      · simp only [ih, below]

theorem mapLanes_lt {k : Nat} (hw : 0 < w) (hv : old < 2 ^ k) (n : Nat) (hn : w * n ≤ k) : mapLanes w n mask old f < 2 ^ k := by
  induction n with
  | zero => simpa [mapLanes] using hv
  | succ n ih =>
    rw [Nat.mul_succ] at hn
    rw [mapLanes_succ]
    split
    · exact setElem_lt hw hn (ih (by omega))
    · exact ih (by omega)

end

/-! ### Integer operations -/

/-- The integer operations that fill an element. -/
def intOps : List VecOp := [.iadd, .isub, .imul, .isll, .isrl, .isra, .iand, .ior, .ixor]

theorem intLane_add (a b : BitVec 32) : intLane .iadd a.toNat b.toNat = (a + b).toNat := (BitVec.toNat_add a b).symm

theorem intLane_sub (a b : BitVec 32) : intLane .isub a.toNat b.toNat = (a - b).toNat := by
  rw [BitVec.toNat_sub, intLane]
  have := b.isLt
  congr 1
  omega

theorem intLane_mul (a b : BitVec 32) : intLane .imul a.toNat b.toNat = (a * b).toNat := (BitVec.toNat_mul a b).symm

theorem intLane_sll (a b : BitVec 32) : intLane .isll a.toNat b.toNat = (a <<< (b.toNat % 32)).toNat :=
  BitVec.toNat_shiftLeft.symm

theorem intLane_srl (a b : BitVec 32) : intLane .isrl a.toNat b.toNat = (a >>> (b.toNat % 32)).toNat :=
  (BitVec.toNat_ushiftRight a _).symm

theorem signedOf_toNat (a : BitVec 32) : signedOf 32 a.toNat = a.toInt := by
  have := a.isLt
  rw [BitVec.toInt_eq_toNat_cond, signedOf, Nat.mod_eq_of_lt this]
  split <;> split <;> omega

theorem intLane_sra (a b : BitVec 32) : intLane .isra a.toNat b.toNat = (a.sshiftRight (b.toNat % 32)).toNat := by
  rw [intLane, signedOf_toNat, BitVec.sshiftRight, BitVec.toNat_ofInt, Int.shiftRight_eq_div_pow]
  rfl

theorem intLane_and (a b : BitVec 32) : intLane .iand a.toNat b.toNat = (a &&& b).toNat := (BitVec.toNat_and a b).symm

theorem intLane_or (a b : BitVec 32) : intLane .ior a.toNat b.toNat = (a ||| b).toNat := (BitVec.toNat_or a b).symm

theorem intLane_xor (a b : BitVec 32) : intLane .ixor a.toNat b.toNat = (a ^^^ b).toNat := (BitVec.toNat_xor a b).symm

/-- An integer operation on 32-bit elements gives one: it is an operation of 32-bit words. -/
theorem intLane_lt {op : VecOp} (h : op ∈ intOps) {a b : Nat} (ha : a < 2 ^ 32) (hb : b < 2 ^ 32) : intLane op a b < 2 ^ 32 := by
  have word : ∀ x : BitVec 32, x.toNat < 2 ^ 32 := fun x => x.isLt
  obtain ⟨x, rfl⟩ : ∃ x : BitVec 32, x.toNat = a := ⟨BitVec.ofNat 32 a, Nat.mod_eq_of_lt ha⟩
  obtain ⟨y, rfl⟩ : ∃ y : BitVec 32, y.toNat = b := ⟨BitVec.ofNat 32 b, Nat.mod_eq_of_lt hb⟩
  simp only [intOps, List.mem_cons, List.not_mem_nil, or_false] at h
  rcases h with rfl | rfl | rfl | rfl | rfl | rfl | rfl | rfl | rfl
  · rw [intLane_add]; exact word _
  · rw [intLane_sub]; exact word _
  · rw [intLane_mul]; exact word _
  · rw [intLane_sll]; exact word _
  · rw [intLane_srl]; exact word _
  · rw [intLane_sra]; exact word _
  · rw [intLane_and]; exact word _
  · rw [intLane_or]; exact word _
  · rw [intLane_xor]; exact word _

end Sys2Proof.Machine
end

section
/-! Vector commands (O14). -/
namespace Sys2Proof.Machine
open Sys2Proof.Safety

/-! ### Issue -/

/-- A tile with a vector command queued. -/
def Tile.queueVec (x : Tile) (now : Nat) (c : VecCmd) : Tile :=
  { x with
    vecq := x.vecq ++ [c], cmdNo := x.cmdNo + 1
    watch := if x.vecq.isEmpty then { x.watch with vec := now } else x.watch }

theorem queueVec_room (s : State) (n : Nat) (c : VecCmd) (h : (s.tile n).vecq.length < 32) :
    s.queueVec n c = s.retire n fun x => x.queueVec s.now c := if_neg (by omega)

theorem queueVec_full (s : State) (n : Nat) (c : VecCmd) (h : 32 ≤ (s.tile n).vecq.length) : s.queueVec n c = s := if_pos h

/-- An operation's word at issue: a format or rounding mode outside its set faults, and else the command is queued (R162). -/
theorem issueVec_of_issues {n w : Nat} {s : State} {op : VecOp} (hg : vecGroup op w = true) (hf : vecFnLegal w = true)
    (hp : vecPredDest op = true → iF1 w < 8) (h : Issues n w (vecUses op w) s) :
    (vecFmtOk op w = false → s.issueVec n (iOp w) op = s.faultHere n 0x02 0)
      ∧ (vecFmtOk op w = true → s.issueVec n (iOp w) op = s.queueVec n (s.vecCmd n op w)) := by
  have legal : (vecFnLegal w && (!vecPredDest op || predField (iF1 w))) = true := by
    cases hd : vecPredDest op
    · simp [hf]
    · simp [hf, predField, hp hd]
  have act := issue_of_issues h (fun v => iOp v == iOp w && (vecGroup op v || !vecFnLegal v))
    (fun w => vecFnLegal w && (!vecPredDest op || predField (iF1 w))) (vecUses op)
  unfold State.issueVec
  rw [act _ (by simp [hg]) legal rfl]
  exact ⟨fun bad => if_pos (by rw [bad]; rfl), fun good => if_neg (by rw [good]; decide)⟩

/-- Each of the three instructions issues under its own opcode. -/
theorem exec_vec (n w : Nat) (op : VecOp) (c : Instr) (s : State)
    (hc : iOp w = 0x20 ∧ c = .varith n op ∨ iOp w = 0x21 ∧ c = .vconv n op ∨ iOp w = 0x22 ∧ c = .vreduce n op) :
    exec c s = .next (s.issueVec n (iOp w) op) := by
  rcases hc with ⟨ho, rfl⟩ | ⟨ho, rfl⟩ | ⟨ho, rfl⟩ <;> rw [ho] <;> rfl

/-- The command that a vector load or store queues, at its base address. -/
def State.vecMemCmd (s : State) (n w : Nat) (op : VecOp) : VecCmd :=
  let x := s.tile n
  ⟨op, w, (x.gr (iF2 w) + iDisp w) % 2 ^ 64, x.gr (iSubM w), x.pc.toNat, s.cmdSlot n, x.sLevel⟩

/-- A vector load or store at issue: its first address that fails a check faults, and else the command is queued (R161). -/
theorem issueVecMem_of_issues {n w : Nat} {s : State} {op : VecOp} (hs : iSz w < 2)
    (h : Issues n w ⟨iF2 w :: (if iSz w = 1 then [iSubM w] else []), []⟩ s) :
    let m := s.vecMemCmd n w op
    (∀ cause a, s.vecFault n w m.x m.y = some (cause, a) → s.issueVecMem n (iOp w) op = s.faultHere n cause a)
      ∧ (s.vecFault n w m.x m.y = none → s.issueVecMem n (iOp w) op = s.queueVec n m) := by
  have act := issue_of_issues h (hasOp (iOp w)) (fun w => decide (iSz w < 2))
    (fun w => ⟨iF2 w :: (if iSz w = 1 then [iSubM w] else []), []⟩)
  unfold State.issueVecMem
  rw [act _ (by simp [hasOp]) (by simpa using hs) rfl]
  unfold State.vecMemCmd
  refine ⟨fun cause a hf => ?_, fun hf => ?_⟩ <;> simp only [hf]

theorem exec_vecMem (n w : Nat) (op : VecOp) (c : Instr) (s : State)
    (hc : iOp w = 0x18 ∧ op = .vld ∧ c = .vld n ∨ iOp w = 0x19 ∧ op = .vst ∧ c = .vst n) :
    exec c s = .next (s.issueVecMem n (iOp w) op) := by
  rcases hc with ⟨ho, rfl, rfl⟩ | ⟨ho, rfl, rfl⟩ <;> rw [ho] <;> rfl

/-- The causes that the address rules of R153 give. -/
theorem target_fault_lt (s : State) (n a size align cause : Nat) (regs : Bool)
    (h : s.target n a size align regs = .fault cause) : cause < 32 := by
  unfold State.target at h
  split at h
  · cases h; decide
  · dsimp only at h
    split at h
    all_goals
      repeat' split at h
      all_goals cases h
      all_goals decide

theorem vecFault_lt (s : State) (n w base stride cause a : Nat) (h : s.vecFault n w base stride = some (cause, a)) :
    cause < 32 := by
  unfold State.vecFault at h
  split at h
  · split at h
    next hc => cases h; exact target_fault_lt _ _ _ _ _ _ _ hc
    next => cases h
  · obtain ⟨i, -, hi⟩ := List.exists_of_findSome?_eq_some h
    split at hi
    next hc => cases hi; exact target_fault_lt _ _ _ _ _ _ _ hc
    next => cases hi

/-! ### Completion -/

theorem aset_aset {α : Type} (t : Assoc α) (k : Nat) (v u : α) : aset (aset t k v) k u = aset t k u := by
  induction t with
  | nil => simp [aset]
  | cons e t ih =>
    obtain ⟨j, x⟩ := e
    by_cases below : k < j
    · simp [aset, below]
    · by_cases same : k = j
      · simp [aset, same]
      · simp [aset, below, same, ih]

theorem setTile_setTile (s : State) (n : Nat) (x y : Tile) : (s.setTile n x).setTile n y = s.setTile n y := by
  simp only [State.setTile, aset_aset]

theorem toNat_ofNat_of_lt {k v : Nat} (h : v < 2 ^ k) : (BitVec.ofNat k v).toNat = v := by
  rw [BitVec.toNat_ofNat, Nat.mod_eq_of_lt h]

theorem vr_setV_same (x : Tile) (r v : Nat) (hr : r < x.v.length) (hv : v < 2 ^ 2048) : (x.setV r v).vr r = v := by
  rw [Tile.vr, Tile.setV, lget_lset_same _ _ _ _ hr]
  exact toNat_ofNat_of_lt hv

theorem toNat_lt {k : Nat} (v : BitVec k) : v.toNat < 2 ^ k := v.isLt

theorem vr_lt (x : Tile) (r : Nat) : x.vr r < 2 ^ 2048 := toNat_lt _

theorem vr_setV_other (x : Tile) (r q v : Nat) (h : q ≠ r) : (x.setV r v).vr q = x.vr q := by
  rw [Tile.vr, Tile.setV, lget_lset_other _ _ _ _ _ (Ne.symm h)]; rfl

theorem iF1_lt (w : Nat) : iF1 w < 32 := bitsOf_lt w 53 49

/-- A tile whose oldest vector command has left the queue, `cs` behind it. -/
def Tile.takeVec (x : Tile) (now : Nat) (cs : List VecCmd) : Tile :=
  { x with vecq := cs, watch := { x.watch with vec := now } }

/-- The state with the oldest vector command taken from its queue. -/
def State.takeVec (s : State) (n : Nat) (cs : List VecCmd) : State := s.setTile n ((s.tile n).takeVec s.now cs)

section
variable {n : Nat} {s : State} {c : VecCmd} {cs : List VecCmd}

/-- A vector command that may complete: a load or store is performed, another one changes its tile (R81, R161). -/
theorem exec_vectorCmdDone (hn : n < 144) (hr : s.chipReset = false) (hg : s.gateOpen n = true)
    (hi : Engine.vector ∉ (s.tile n).inReset) (hc : (s.tile n).vecq = c :: cs) (hf : s.vecFits n c = true) :
    (c.op = .vld ∨ c.op = .vst → ((s.takeVec n cs).vecMem n c).1 = 0 →
        exec (.vectorCmdDone n) s = .next (((s.takeVec n cs).vecMem n c).2.tally n 0x012))
      ∧ (c.op ≠ .vld → c.op ≠ .vst → exec (.vectorCmdDone n) s
          = .next ((((s.takeVec n cs).onTile n fun x => x.vecLanes c).vecOpen n c (s.tile n)).tally n 0x012)) := by
  have idle : (decide (144 ≤ n) || s.chipReset || !s.gateOpen n || (s.tile n).inReset.contains .vector
      || !s.vecFits n c) = false := by
    simp only [hr, hg, hf, Bool.or_eq_false_iff, decide_eq_false_iff_not]
    refine ⟨⟨⟨⟨by omega, trivial⟩, rfl⟩, ?_⟩, rfl⟩
    simpa using hi
  change (_ → _ → execVectorCmdDone n s = _) ∧ (_ → _ → execVectorCmdDone n s = _)
  unfold execVectorCmdDone
  simp only [hc, idle, Bool.false_eq_true, if_false]
  refine ⟨fun access good => ?_, fun load store => ?_⟩
  · rw [if_pos (by simpa using access)]
    change (if (((s.takeVec n cs).vecMem n c).1 != 0) = true then _ else _) = _
    rw [if_neg (by simp [good])]
    rfl
  · rw [if_neg (by simp [load, store])]
    rfl

/-- An integer operation sets the active elements of its destination (R88, R162). -/
theorem vecLanes_int (x : Tile) (h : c.op ∈ intOps) :
    x.vecLanes c = x.setV (iF1 c.word) (mapLanes 32 64 (x.pr (iPm c.word)) (x.vr (iF1 c.word)) fun i =>
      intLane c.op (elem 32 (x.vr (iF2 c.word)) i) (elem 32 (x.vr (iF3 c.word)) i)) := by
  simp only [intOps, List.mem_cons, List.not_mem_nil, or_false] at h
  rcases h with h | h | h | h | h | h | h | h | h <;> simp only [Tile.vecLanes, h]

/-- The elements of the destination after an integer operation (R88, R162). -/
theorem elem_vecLanes_int (x : Tile) (h : c.op ∈ intOps) (hv : x.v.length = 32) (i : Nat) (hi : i < 64) :
    elem 32 ((x.vecLanes c).vr (iF1 c.word)) i
      = if bitAt (x.pr (iPm c.word)) i
        then intLane c.op (elem 32 (x.vr (iF2 c.word)) i) (elem 32 (x.vr (iF3 c.word)) i)
        else elem 32 (x.vr (iF1 c.word)) i := by
  rw [vecLanes_int x h, vr_setV_same _ _ _ (hv ▸ iF1_lt _) (mapLanes_lt _ (by decide) (vr_lt _ _) 64 (by decide)),
    elem_mapLanes _ (by decide), Nat.mod_eq_of_lt (intLane_lt h elem_lt elem_lt)]
  simp only [hi, true_and]

/-- Every lane of an integer operation has a stated value. -/
theorem vecOpen_int (u : State) (x : Tile) (h : c.op ∈ intOps) : u.vecOpen n c x = u := by
  simp only [intOps, List.mem_cons, List.not_mem_nil, or_false] at h
  rcases h with h | h | h | h | h | h | h | h | h <;> simp only [State.vecOpen, h]

/-- An integer operation that completes writes its destination alone, each active element from its own two (R88, R162). -/
theorem completes_vectorCmdDone_int (hn : n < 144) (hr : s.chipReset = false) (hg : s.gateOpen n = true)
    (hi : Engine.vector ∉ (s.tile n).inReset) (hv : (s.tile n).v.length = 32) (hc : (s.tile n).vecq = c :: cs)
    (h : c.op ∈ intOps) :
    let x := s.tile n
    let vd := iF1 c.word
    Completes (.vectorCmdDone n) s fun t =>
      OnlyTile n (tallyOffs n) s t ∧ (t.tile n).vecq = cs ∧ (t.tile n).g = x.g ∧ (t.tile n).p = x.p
        ∧ (∀ r, r ≠ vd → (t.tile n).vr r = x.vr r)
        ∧ ∀ i, i < 64 → elem 32 ((t.tile n).vr vd) i
            = if bitAt (x.pr (iPm c.word)) i
              then intLane c.op (elem 32 (x.vr (iF2 c.word)) i) (elem 32 (x.vr (iF3 c.word)) i)
              else elem 32 (x.vr vd) i := by
  intro x vd
  have load : c.op ≠ .vld := fun e => by rw [e] at h; exact absurd h (by decide)
  have store : c.op ≠ .vst := fun e => by rw [e] at h; exact absurd h (by decide)
  have done := (exec_vectorCmdDone hn hr hg hi hc (by simp [State.vecFits, load])).2 load store
  rw [vecOpen_int _ _ h, State.onTile, State.takeVec, setTile_setTile, tile_setTile_same] at done
  obtain ⟨only, tile⟩ := onlyTile_tally_setTile s n _ 0x012 1
  refine ⟨_, done, only, ?_, ?_, ?_, fun r hr => ?_, fun i hi => ?_⟩ <;> rw [tile]
  · rw [vecLanes_int _ h]; rfl
  · rw [vecLanes_int _ h]; rfl
  · rw [vecLanes_int _ h]; rfl
  · rw [vecLanes_int _ h]
    exact vr_setV_other _ _ _ _ hr
  · exact elem_vecLanes_int ((s.tile n).takeVec s.now cs) h hv i hi

/-- A whole-register load that meets no double-bit error takes 256 bytes of the scratchpad (R93, R161). -/
theorem completes_vectorCmdDone_load (hn : n < 144) (hr : s.chipReset = false) (hg : s.gateOpen n = true)
    (hi : Engine.vector ∉ (s.tile n).inReset) (hv : (s.tile n).v.length = 32) (hc : (s.tile n).vecq = c :: cs)
    {off : Nat} (hx : targetOf c.x = .spad off) (hz : iSz c.word = 0) (ho : c.op = .vld) (hf : s.vecFits n c = true)
    (good : ∀ w ∈ spadWords off 256, w ∉ (s.tile n).spadUe) :
    let x := s.tile n
    Completes (.vectorCmdDone n) s fun t =>
      (t.tile n).vecq = cs ∧ (t.tile n).vr (iF1 c.word) = ofBytes (memLoad s.mem (spadKey n off) 256)
        ∧ (∀ r, r ≠ iF1 c.word → (t.tile n).vr r = x.vr r) ∧ (t.tile n).g = x.g ∧ t.mem = s.mem ∧ TilesKept n s t := by
  intro x
  have taken : (s.takeVec n cs).tile n = x.takeVec s.now cs := tile_setTile_same s n _
  have others : ∀ m, m ≠ n → (s.takeVec n cs).tile m = s.tile m := fun m hm => tile_setTile_other s n m _ hm
  have mem : (s.takeVec n cs).mem = s.mem := rfl
  have done := (exec_vectorCmdDone hn hr hg hi hc hf).1 (.inl ho)
  generalize s.takeVec n cs = u at *
  obtain ⟨none, read⟩ := spadRead_good u n off 256 (by rw [taken]; exact good)
  have run : u.vecMem n c = (0, (u.spadRead n off 256).2.onTile n fun x =>
      x.setV (iF1 c.word) (ofBytes (memLoad s.mem (spadKey n off) 256))) := by
    simp only [State.vecMem, ho, hz, hx, State.engineRead, none, State.bytes, read.mem, mem]
    rfl
  have bytes := ofBytes_lt (memLoad s.mem (spadKey n off) 256)
  rw [length_memLoad, show 8 * 256 = 2048 from rfl] at bytes
  rw [run] at done
  obtain ⟨tally, -⟩ := tally_frame ((u.spadRead n off 256).2.onTile n fun x =>
      x.setV (iF1 c.word) (ofBytes (memLoad s.mem (spadKey n off) 256))) n 0x012 1
  generalize (u.spadRead n off 256).2 = r at *
  refine ⟨_, done rfl, ?_, ?_, fun q hq => ?_, ?_, ?_, fun m hm => ?_⟩
  · rw [tile_tally, State.onTile, tile_setTile_same, read.tile, taken]; rfl
  · rw [tile_tally, State.onTile, tile_setTile_same, vr_setV_same _ _ _ _ bytes]
    rw [read.tile, taken]
    exact hv ▸ iF1_lt _
  · rw [tile_tally, State.onTile, tile_setTile_same, vr_setV_other _ _ _ _ hq, read.tile, taken]; rfl
  · rw [tile_tally, State.onTile, tile_setTile_same, read.tile, taken]; rfl
  · rw [tally]
    exact read.mem.trans mem
  · rw [tile_tally, State.onTile, tile_setTile_other _ _ _ _ hm, read.others m hm, others m hm]

/-- A write of whole words of a scratchpad meets no error (R93). -/
theorem engineWrite_spad (u : State) (n off : Nat) (bs : List Byte) (hl : bs.length % 8 = 0) (ha : off % 8 = 0) :
    u.engineWrite n (.spad off) bs = (0, u.spadWrite n off bs) := if_pos (by simp [hl, ha])

theorem vecMem_store (u : State) (ho : c.op = .vst) (hz : iSz c.word = 0) :
    u.vecMem n c = u.engineWrite n (targetOf c.x) (bytesOf 256 ((u.tile n).vr (iF1 c.word))) := by
  unfold State.vecMem
  rw [if_neg (by rw [ho]; decide), if_pos hz]

/-- A whole-register store writes 256 bytes of the scratchpad and no other byte (R93, R161). -/
theorem completes_vectorCmdDone_store (hn : n < 144) (hr : s.chipReset = false) (hg : s.gateOpen n = true)
    (hi : Engine.vector ∉ (s.tile n).inReset) (hm : memWf s.mem = true) (hc : (s.tile n).vecq = c :: cs)
    {off : Nat} (hx : targetOf c.x = .spad off) (hz : iSz c.word = 0) (ho : c.op = .vst) (ha : off % 8 = 0) :
    let x := s.tile n
    Completes (.vectorCmdDone n) s fun t =>
      (t.tile n).vecq = cs ∧ memLoad t.mem (spadKey n off) 256 = bytesOf 256 (x.vr (iF1 c.word))
        ∧ BytesKept (spadKey n off) 256 s t ∧ (t.tile n).v = x.v ∧ (t.tile n).g = x.g ∧ TilesKept n s t := by
  intro x
  have taken : (s.takeVec n cs).tile n = x.takeVec s.now cs := tile_setTile_same s n _
  have others : ∀ m, m ≠ n → (s.takeVec n cs).tile m = s.tile m := fun m hm => tile_setTile_other s n m _ hm
  have mem : (s.takeVec n cs).mem = s.mem := rfl
  have done := (exec_vectorCmdDone hn hr hg hi hc (by simp [State.vecFits, ho])).1 (.inr ho)
  generalize s.takeVec n cs = u at *
  have run : u.vecMem n c = (0, u.spadWrite n off (bytesOf 256 (x.vr (iF1 c.word)))) := by
    rw [vecMem_store u ho hz, hx, engineWrite_spad _ _ _ _ (by rw [length_bytesOf]) ha, taken]
    rfl
  rw [run] at done
  have written := spadWritten_spadWrite u n off (bytesOf 256 (x.vr (iF1 c.word)))
  obtain ⟨tally, -⟩ := tally_frame (u.spadWrite n off (bytesOf 256 (x.vr (iF1 c.word)))) n 0x012 1
  generalize u.spadWrite n off (bytesOf 256 (x.vr (iF1 c.word))) = r at *
  obtain ⟨stored, kept⟩ := written.bytes (mem ▸ hm)
  have memory : (r.tally n 0x012).mem = r.mem := by rw [tally]
  refine ⟨_, done rfl, ?_, ?_, fun b hb => ?_, ?_, ?_, fun m hm => ?_⟩
  · rw [tile_tally, written.tile, taken]; rfl
  · rw [memory]; exact stored
  · rw [memory, kept b hb, mem]
  · rw [tile_tally, written.tile, taken]; rfl
  · rw [tile_tally, written.tile, taken]; rfl
  · rw [tile_tally, written.others m hm, others m hm]

end

/-- Settles O14: a vector word's checks decide whether its command is queued, and a queued one acts on its destination
alone, with the integer operations of 32-bit words. -/
theorem vectorEngine : Obligations.VectorEngine := by
  unfold Obligations.VectorEngine
  refine ⟨fun n w s => ⟨fun op c hc hg hf hp hi => ?_, fun op c hc hs hi => ?_⟩,
    fun n s c cs hn hr hg hi hm ht hc => ⟨fun h => ?_, fun off hx hz => ⟨fun ho hf good => ?_, fun ho ha => ?_⟩⟩,
    fun a b => ?_⟩
  · obtain ⟨faults, passes⟩ := issueVec_of_issues hg hf hp hi
    have run := exec_vec n w op c s hc
    refine ⟨fun ok room => ?_, fun ok full => ?_, fun bad hl => ?_⟩
    · exact completes_retire (fun x => x.queueVec s.now (s.vecCmd n op w))
        (run.trans (congrArg _ ((passes ok).trans (queueVec_room s n _ room))))
    · exact run.trans (congrArg _ ((passes ok).trans (queueVec_full s n _ full)))
    · exact completes_fault 0 (run.trans (congrArg _ (faults bad))) hl (by decide)
  · obtain ⟨faults, passes⟩ := issueVecMem_of_issues (op := op) hs hi
    have run := exec_vecMem n w op c s hc
    refine ⟨fun ok room => ?_, fun ok full => ?_, fun cause a bad hl => ?_⟩
    · exact completes_retire (fun x => x.queueVec s.now (s.vecMemCmd n w op))
        (run.trans (congrArg _ ((passes ok).trans (queueVec_room s n _ room))))
    · exact run.trans (congrArg _ ((passes ok).trans (queueVec_full s n _ full)))
    · exact completes_fault a (run.trans (congrArg _ (faults cause a bad))) hl (vecFault_lt _ _ _ _ _ cause a bad)
  · obtain ⟨-, -, -, -, hv, -⟩ := ht
    exact completes_vectorCmdDone_int hn hr hg hi hv hc h
  · obtain ⟨-, -, -, -, hv, -⟩ := ht
    exact completes_vectorCmdDone_load hn hr hg hi hv hc hx hz ho hf good
  · exact completes_vectorCmdDone_store hn hr hg hi hm hc hx hz ho ha
  · exact ⟨intLane_add a b, intLane_sub a b, intLane_mul a b, intLane_sll a b, intLane_srl a b, intLane_sra a b,
      intLane_and a b, intLane_or a b, intLane_xor a b⟩

end Sys2Proof.Machine
end

section
/-! Loads and caches (O8), and the packets of a DMA channel (O16): each statement fails in a state written out here. -/
namespace Sys2Proof.Machine
open Sys2Proof.Safety

/-! ### A load miss beyond an interleave table of length 0 -/

/-- An LD of one byte at the HBM offset whose entry of an interleave table of length 0 lies at tile 0's first tally counter. -/
def loadPastTable : Nat := 0x10 <<< 58 + 0xFF601000

/-- HBM in service with the interleave length at its reset value 0, and tile 0 about to issue the load, its first tally
counter counting misses of the data cache (R468). -/
def unsetInterleave : State :=
  ((((State.reset.setFld MGT_CAP_MEMORY_hbm_gib 0 0 5).setFld HBM_ILV_CTRL_state 0 0 2).setFld HBM_ILV_CTRL_state 1 0 2).setFld
    TL_TALLY_CFG_event 0 0 0x005).setTile 0
      { Tile.reset with
        slots := [{ Slot.empty with state := .run }], icache := [⟨0, BitVec.ofNat 512 loadPastTable, false⟩] }

set_option maxRecDepth 20000 in
set_option exponentiation.threshold 600 in
/-- The load asks for its line at stack 1: a table of length 0 has no last entry, and the miss has advanced the counter that
the look-up then reads as the entry. -/
theorem ld_unsetInterleave : Completes (.ld 0) unsetInterleave fun t => t.reads = [⟨0, 1 * 32⟩] := ⟨_, rfl, by decide⟩

set_option maxRecDepth 20000 in
set_option exponentiation.threshold 600 in
/-- Refutes O8: the read of a load miss is asked for at the stack that the interleave table names after the miss was
counted, which is another one than before where a table of length 0 reaches the counter itself. No commit of the interleave
puts HBM in service with this length (R213, R216), but the statement has no hypothesis that excludes it. -/
theorem not_loadsAndCaches : ¬ Obligations.LoadsAndCaches := by
  unfold Obligations.LoadsAndCaches
  rintro ⟨loads, -⟩
  obtain ⟨-, misses, -⟩ := loads 0 loadPastTable 0xFF601000 unsetInterleave (by decide) (by decide)
  obtain ⟨t, ht, -, -, -, -, asked⟩ := misses (by decide) (by unfold Issues; decide) (by decide) (by decide)
  obtain ⟨u, hu, reads⟩ := ld_unsetInterleave
  obtain rfl : t = u := by rw [ht] at hu; injection hu
  rw [reads] at asked
  exact absurd asked (by decide)

/-! ### A copy from another tile's scratchpad -/

/-- A copy of 16 bytes from the scratchpad of tile 1 to node 5, started. -/
def copyFromTile1 : DmaCmd :=
  ⟨.copy, spadAddr 0 1 0, hbmAddr 5 0, 16, 0, 0, 0, false, 0, 0, 0, 0, 0, true, 0, 0, 0, .toRequest, 0, 0, 0⟩

/-- Channel 0 of tile 0 holds the copy, and the first word of tile 1's scratchpad has a single-bit error (R93). -/
def correctableSource : State :=
  ((State.reset.setFld FUS_FP_TILE_usable 1 0 1).setTile 0
      { Tile.reset with dma := { DmaChan.empty with queue := [copyFromTile1] } :: List.replicate 3 DmaChan.empty }).setTile 1
    { Tile.reset with spadCe := [0] }

set_option maxRecDepth 20000 in
/-- The packet's read corrects the word, which then waits at tile 1 to be rewritten (R93). -/
theorem dmaPacketSend_correctableSource :
    Completes (.dmaPacketSend 0 0) correctableSource fun t => (t.tile 1).spadRewrite = [0] := ⟨_, rfl, by decide⟩

/-- Refutes O16: a put may take its bytes from another tile's scratchpad, where the read leaves a corrected word to be
rewritten, so that a tile other than the channel's own changes. -/
theorem not_dmaPackets : ¬ Obligations.DmaPackets := by
  unfold Obligations.DmaPackets
  rintro ⟨packets, -⟩
  obtain ⟨-, copies, -⟩ := packets 0 0 correctableSource copyFromTile1 [] (by unfold TileOk; decide) (by decide) (by decide)
    (by decide)
  obtain ⟨t, ht, -, kept, -⟩ := copies (.inl (by decide)) (by decide)
  obtain ⟨u, hu, rewrite⟩ := dmaPacketSend_correctableSource
  obtain rfl : t = u := by rw [ht] at hu; injection hu
  rw [kept 1 (by decide)] at rewrite
  exact absurd rewrite (by decide)

end Sys2Proof.Machine
end

section
/-! SUPPORT. Changes of one tile, instructions that wait, and waits that end (R143, R169 to R177). -/
namespace Sys2Proof.Machine
open Sys2Proof.Safety

/-! ### Changes of one tile -/

theorem OnlyTile.trans {n : Nat} {l : List Nat} {s t u : State} (h : OnlyTile n l s t) (k : OnlyTile n l t u) :
    OnlyTile n l s u := by
  obtain ⟨h1, h2, h3⟩ := h
  obtain ⟨k1, k2, k3⟩ := k
  refine ⟨?_, RegsKept.trans h2 k2, fun m hm => (k3 m hm).trans (h3 m hm)⟩
  rw [h1] at k1
  exact k1

theorem onlyTile_setTile (s : State) (n : Nat) (l : List Nat) (x : Tile) : OnlyTile n l s (s.setTile n x) :=
  ⟨rfl, RegsKept.of_eq rfl rfl, fun m hm => tile_setTile_other s n m x hm⟩

theorem onlyTile_tally (s : State) (n ev v : Nat) : OnlyTile n (tallyOffs n) s (s.tally n ev v) := by
  obtain ⟨frame, kept⟩ := tally_frame s n ev v
  exact ⟨by rw [frame], kept, fun m _ => tile_tally s n ev v m⟩

theorem tile_onTile_same (s : State) (n : Nat) (f : Tile → Tile) : (s.onTile n f).tile n = f (s.tile n) :=
  tile_setTile_same s n _

/-! ### Issue -/

/-- A word that issues under an instruction that takes it has that instruction's effect (R143). -/
theorem exec_of_issues {c : Instr} {n w : Nat} {u : Uses} {s : State} {accepts legal : Nat → Bool} {uses : Nat → Uses}
    {act : State → Nat → State} (he : exec c s = .next (s.issue n accepts legal uses act)) (h : Issues n w u s)
    (ha : accepts w = true) (hl : legal w = true) (hu : uses w = u) : exec c s = .next (act s w) :=
  he.trans (congrArg _ (issue_of_issues h accepts legal uses act ha hl hu))

theorem hasFn_of_eq {op fn w : Nat} (ho : iOp w = op) (hf : iFnS w = fn) : hasFn op fn w = true := by simp [hasFn, ho, hf]

theorem hasOp_of_eq {op w : Nat} (ho : iOp w = op) : hasOp op w = true := by simp [hasOp, ho]

theorem waits_waitHere (s : State) (n : Nat) (k : WaitKind) (w : Nat) (puts : List Nat) :
    Waits n k w puts s (s.waitHere n k w puts) := ⟨onlyTile_setTile s n [] _, tile_onTile_same s n _⟩

/-- An instruction that waits at its PC. -/
theorem completes_waitHere {s : State} {c : Instr} {n w : Nat} {k : WaitKind} {puts : List Nat}
    (he : exec c s = .next (s.waitHere n k w puts)) : Completes c s (Waits n k w puts s) := ⟨_, he, waits_waitHere s n k w puts⟩

/-- A wait that ends, the result in the tile and the PC past the instruction. -/
theorem completes_endWait {s : State} {c : Instr} {n : Nat} (f : Tile → Tile) (he : exec c s = .next (s.endWait n f)) :
    Completes c s (Retired n { f (s.tile n) with wait := none } s) := ⟨_, he, retired_retire s n _⟩

end Sys2Proof.Machine
end

section
/-! SUPPORT. The register files (R142, R144), and the integer operations of 64-bit words (R151). -/
namespace Sys2Proof.Machine
open Sys2Proof.Safety

/-! ### The register files -/

/-- A register of a file reads as what was written to it, to its width. -/
theorem toNat_lget_lset {k : Nat} (l : List (BitVec k)) (i v : Nat) (h : i < l.length) :
    (lget (lset l i (BitVec.ofNat k v)) i 0).toNat = v % 2 ^ k := by
  rw [lget_lset_same _ _ _ _ h, BitVec.toNat_ofNat]

section
variable {x : Tile} {r q v : Nat}

/-- A write of g24 to g31 at S level goes to the S bank (R144). -/
theorem setG_sBank (h0 : r ≠ 0) (hb : (x.sLevel && decide (24 ≤ r)) = true) :
    x.setG r v = { x with gS := lset x.gS (r - 24) (BitVec.ofNat 64 v) } := by
  rw [Tile.setG, if_neg h0, if_pos hb]

/-- A write of another register goes to the T bank (R142). -/
theorem setG_tBank (h0 : r ≠ 0) (hb : (x.sLevel && decide (24 ≤ r)) = false) :
    x.setG r v = { x with g := lset x.g r (BitVec.ofNat 64 v) } := by
  rw [Tile.setG, if_neg h0, if_neg (by simp [hb])]

theorem setG_zero (x : Tile) (v : Nat) : x.setG 0 v = x := rfl

theorem gr_setG_same (hx : TileOk x) (hr : r < 32) (h0 : r ≠ 0) : (x.setG r v).gr r = v % 2 ^ 64 := by
  obtain ⟨-, hg, hs, -⟩ := hx
  cases hb : x.sLevel && decide (24 ≤ r) with
  | true =>
    rw [setG_sBank h0 hb, Tile.gr, if_neg h0, if_pos hb, toNat_lget_lset _ _ _ (by omega)]
  | false =>
    rw [setG_tBank h0 hb, Tile.gr, if_neg h0, if_neg (by simp [hb]), toNat_lget_lset _ _ _ (by omega)]

theorem gr_setG_other (h : q ≠ r) : (x.setG r v).gr q = x.gr q := by
  by_cases h0 : r = 0
  · rw [h0, setG_zero]
  cases hb : x.sLevel && decide (24 ≤ r) with
  | true =>
    rw [setG_sBank h0 hb]
    simp only [Tile.gr]
    rw [Bool.and_eq_true, decide_eq_true_eq] at hb
    split
    · rfl
    · split
      next hq =>
        rw [Bool.and_eq_true, decide_eq_true_eq] at hq
        rw [lget_lset_other _ _ _ _ _ (by omega)]
      next => rfl
  | false =>
    rw [setG_tBank h0 hb]
    simp only [Tile.gr, lget_lset_other _ _ _ _ _ (Ne.symm h)]

theorem pr_setP_same (hx : TileOk x) (hr : r < 8) (h0 : r ≠ 0) : (x.setP r v).pr r = v % 2 ^ 64 := by
  obtain ⟨-, -, -, hp, -⟩ := hx
  rw [Tile.setP, if_neg h0, Tile.pr, if_neg h0, toNat_lget_lset _ _ _ (by omega)]

theorem pr_setP_other (h : q ≠ r) : (x.setP r v).pr q = x.pr q := by
  by_cases h0 : r = 0
  · rw [h0]; rfl
  · rw [Tile.setP, if_neg h0]
    simp only [Tile.pr, lget_lset_other _ _ _ _ _ (Ne.symm h)]

/-- The T bank of g24 to g31 does not show a write at S level (R144). -/
theorem setG_keeps_tBank (hr : 24 ≤ r) (hl : x.sLevel = true) :
    (x.setG r v).g = x.g ∧ { x.setG r v with sLevel := false }.gr r = { x with sLevel := false }.gr r := by
  rw [setG_sBank (by omega) (by simp [hr, hl])]
  exact ⟨rfl, rfl⟩

theorem vr_setV_mod (hx : TileOk x) (hr : r < 32) : (x.setV r v).vr r = v % 2 ^ 2048 := by
  obtain ⟨-, -, -, -, hv, -⟩ := hx
  exact toNat_lget_lset x.v r v (hv ▸ hr)

end

/-! ### Integer operations -/

theorem signedOf_toNat_64 (a : Word64) : signedOf 64 a.toNat = a.toInt := by
  have := a.isLt
  rw [BitVec.toInt_eq_toNat_cond, signedOf, Nat.mod_eq_of_lt this]
  split <;> split <;> omega

theorem wrap64_eq (x : Int) : wrap64 x = (BitVec.ofInt 64 x).toNat := (BitVec.toNat_ofInt x).symm

section
variable (a b : Word64) (p : Bool)

theorem aluValue_add : aluValue .add a.toNat b.toNat p = (a + b).toNat := (BitVec.toNat_add a b).symm

theorem aluValue_sub : aluValue .sub a.toNat b.toNat p = (a - b).toNat := by
  rw [BitVec.toNat_sub, aluValue, Nat.mod_eq_of_lt b.isLt, Nat.add_comm]

theorem aluValue_and : aluValue .and a.toNat b.toNat p = (a &&& b).toNat := (BitVec.toNat_and a b).symm

theorem aluValue_or : aluValue .or a.toNat b.toNat p = (a ||| b).toNat := (BitVec.toNat_or a b).symm

theorem aluValue_xor : aluValue .xor a.toNat b.toNat p = (a ^^^ b).toNat := (BitVec.toNat_xor a b).symm

theorem aluValue_andn : aluValue .andn a.toNat b.toNat p = (a &&& ~~~b).toNat := by
  rw [BitVec.toNat_and, BitVec.toNat_not, aluValue, notBits, Nat.mod_eq_of_lt b.isLt]

theorem aluValue_sll : aluValue .sll a.toNat b.toNat p = (a <<< (b.toNat % 64)).toNat := BitVec.toNat_shiftLeft.symm

theorem aluValue_srl : aluValue .srl a.toNat b.toNat p = (a >>> (b.toNat % 64)).toNat := (BitVec.toNat_ushiftRight a _).symm

theorem aluValue_sra : aluValue .sra a.toNat b.toNat p = (a.sshiftRight (b.toNat % 64)).toNat := by
  rw [aluValue, signedOf_toNat_64, wrap64_eq, BitVec.sshiftRight, Int.shiftRight_eq_div_pow]
  rfl

theorem aluValue_mul : aluValue .mul a.toNat b.toNat p = (a * b).toNat := (BitVec.toNat_mul a b).symm

theorem toNat_eq_zero_iff : b.toNat = 0 ↔ b = 0 := ⟨fun h => BitVec.eq_of_toNat_eq h, fun h => by rw [h]; rfl⟩

theorem aluValue_divU : aluValue .divU a.toNat b.toNat p = (if b = 0 then BitVec.allOnes 64 else a / b).toNat := by
  simp only [aluValue, divU64, toNat_eq_zero_iff]
  split
  · rfl
  · exact (BitVec.toNat_udiv).symm

theorem aluValue_remU : aluValue .remU a.toNat b.toNat p = (if b = 0 then a else a % b).toNat := by
  simp only [aluValue, remU64, toNat_eq_zero_iff]
  split
  · rfl
  · exact (BitVec.toNat_umod).symm

theorem aluValue_divS : aluValue .divS a.toNat b.toNat p = (if b = 0 then BitVec.allOnes 64 else a.sdiv b).toNat := by
  simp only [aluValue, divS64, toNat_eq_zero_iff, signedOf_toNat_64, wrap64_eq]
  split
  · rfl
  · exact congrArg BitVec.toNat (BitVec.eq_of_toInt_eq (by rw [BitVec.toInt_ofInt, BitVec.toInt_sdiv]))

theorem aluValue_remS : aluValue .remS a.toNat b.toNat p = (if b = 0 then a else a.srem b).toNat := by
  simp only [aluValue, remS64, toNat_eq_zero_iff, signedOf_toNat_64, wrap64_eq]
  split
  · rfl
  · rw [← BitVec.toInt_srem, BitVec.ofInt_toInt]

theorem aluValue_lt : aluValue (.cmp .lt) a.toNat b.toNat p = if a.slt b then 1 else 0 := by
  rw [aluValue, relHolds, signedOf_toNat_64, signedOf_toNat_64]
  rfl

theorem aluValue_ltu : aluValue (.cmp .ltu) a.toNat b.toNat p = if a.ult b then 1 else 0 := rfl

theorem aluValue_minS : aluValue .minS a.toNat b.toNat p = (if a.sle b then a else b).toNat := by
  rw [aluValue, signedOf_toNat_64, signedOf_toNat_64, BitVec.sle, apply_ite BitVec.toNat]
  simp only [decide_eq_true_eq]

theorem aluValue_sel (k : Nat) : aluValue (.sel k) a.toNat b.toNat p = (if p then a else b).toNat := by
  cases p <;> rfl

end

end Sys2Proof.Machine
end

section
/-! Scalar instructions, branches and the register files (O6). -/
namespace Sys2Proof.Machine
open Sys2Proof.Safety

/-! ### Scalar and predicate instructions -/

/-- The selecting predicate's bit of an ALU operation (R151). -/
def Tile.selBit (x : Tile) : AluOp → Bool
  | .sel k => bitAt (x.pr (k % 8)) 0
  | _ => false

/-- A compare into a predicate sets or clears all its bits (R143, R151). -/
theorem aluWrite_cmpP (r : Rel) (w v : Nat) (x : Tile) :
    aluWrite (.cmpP r) w v x = x.setP (iF1 w) (if v = 1 then 2 ^ 64 - 1 else 0) := by
  simp only [aluWrite, allBits, beq_iff_eq]

section
variable {n w : Nat} {s : State}

theorem exec_alu (op : AluOp) (ho : iOp w = 0x01 ∨ iOp w = 0x02) (hl : aluLegal op w = true)
    (h : Issues n w (aluUses op w) s) :
    exec (.alu n op) s = .next (s.retire n (aluWrite op w
      (aluValue op ((s.tile n).gr (iF2 w)) (aluB (s.tile n) w) ((s.tile n).selBit op)))) := by
  have act := exec_of_issues (c := .alu n op) rfl h (by simpa using ho) hl rfl
  exact act

theorem exec_li (ho : iOp w = 0x03) (h : Issues n w ⟨[iF1 w], []⟩ s) :
    exec (.li n) s = .next (s.retire n fun x => x.setG (iF1 w) (liValue w (x.gr (iF1 w)))) := by
  have act := exec_of_issues (c := .li n) rfl h (hasOp_of_eq ho) rfl rfl
  exact act

theorem exec_predicate (op : PredOp) (ho : iOp w = 0x04) (hl : predLegal op w = true) (h : Issues n w (predUses op w) s) :
    exec (.predicate n op) s = .next (s.retire n (predWrite op w)) := by
  have act := exec_of_issues (c := .predicate n op) rfl h (hasOp_of_eq ho) hl rfl
  exact act

/-! ### Branches and jumps -/

/-- No tally counter of a tile lies at the capability table. -/
theorem hbmCap_of_onlyTile {t : State} (h : OnlyTile n (tallyOffs n) s t) : t.hbmCap = s.hbmCap := by
  obtain ⟨frame, kept, -⟩ := h
  have apart : MGT_CAP_MEMORY_hbm_gib.reg.offset 0 0 ∉ tallyOffs n := by
    simp only [tallyOffs, List.mem_map, List.mem_range, MGT_CAP_MEMORY_hbm_gib, RegId.offset, RegId.desc]
    omega
  rw [State.hbmCap, State.hbmCap, fld_of_regsKept kept (by rw [frame]) _ _ _ apart]

/-- A jump to a target within the installed capacity sets the PC (R152). -/
theorem jumpTo_inside {target : BitVec 40} {z : Int} (hz : z = target.toNat) (inside : target.toNat < s.hbmCap) :
    s.jumpTo n z = s.onTile n fun x => { x with pc := target } := by
  unfold State.jumpTo
  rw [if_neg (by simp only [Bool.or_eq_true, decide_eq_true_eq]; omega), hz, Int.toNat_natCast, BitVec.ofNat_toNat,
    BitVec.setWidth_eq]

/-- A jump after a change of its tile sets the PC beside it. -/
theorem onlyTile_jumpTo {t : State} {target : BitVec 40} {z : Int} (h : OnlyTile n (tallyOffs n) s t)
    (hz : z = target.toNat) (inside : target.toNat < s.hbmCap) :
    OnlyTile n (tallyOffs n) s (t.jumpTo n z) ∧ (t.jumpTo n z).tile n = { t.tile n with pc := target } := by
  rw [jumpTo_inside hz (by rw [hbmCap_of_onlyTile h]; exact inside)]
  exact ⟨OnlyTile.trans h (onlyTile_setTile _ n _ _), tile_onTile_same _ n _⟩

/-- A jump that writes its link retires with both (R152). -/
theorem linked_jumpTo {target : BitVec 40} {z : Int} (x : Tile) (hz : z = target.toNat)
    (inside : target.toNat < s.hbmCap) :
    let t := ((s.setTile n x).tally n 0x001).jumpTo n z
    OnlyTile n (tallyOffs n) s t ∧ t.tile n = { x with pc := target } := by
  obtain ⟨only, tile⟩ := onlyTile_tally_setTile s n x 0x001 1
  have jump := onlyTile_jumpTo only hz inside
  rw [tile] at jump
  exact jump

/-- A branch at issue: the jump where it is taken, and else the next instruction (R152). -/
theorem exec_br (ho : iOp w = 0x08) (hc : iCond w < 6 ∨ iCond w < 8 ∧ iF1 w < 8)
    (h : Issues n w (if iCond w < 6 then ⟨[iF1 w, iF2 w], []⟩ else ⟨[], [iF1 w]⟩) s) :
    exec (.br n) s = .next (if brTaken (s.tile n) w then (s.tally n 0x001).jumpTo n (brTargetInt (s.tile n) w)
      else (s.tally n 0x001).onTile n Tile.advance) := by
  have act := exec_of_issues (c := .br n) rfl h (hasOp_of_eq ho)
    (by simp only [predField, Bool.and_eq_true, Bool.or_eq_true, decide_eq_true_eq]; omega) rfl
  exact act

theorem exec_j (ho : iOp w = 0x09) (h2 : iF2 w = 0) (hc : iCond w = 0) (h : Issues n w ⟨[iF1 w], []⟩ s) :
    exec (.j n) s = .next (((s.setTile n ((s.tile n).setG (iF1 w) ((s.tile n).pc + 8).toNat)).tally n 0x001).jumpTo n
      (brTargetInt (s.tile n) w)) := by
  have act := exec_of_issues (c := .j n) rfl h (hasOp_of_eq ho) (by simp [h2, hc]) rfl
  exact act

/-- A JR at issue: a misaligned target faults, and else the link is written and the jump made (R152). -/
theorem exec_jr (ho : iOp w = 0x0A) (h : Issues n w ⟨[iF1 w, iF2 w], []⟩ s) :
    exec (.jr n) s = .next (if jrTarget (s.tile n) w % 8 != 0
      then s.faultHere n 0x04 (hbmAddr s.selfId (twosOf 40 (jrTarget (s.tile n) w)))
      else ((s.setTile n ((s.tile n).setG (iF1 w) ((s.tile n).pc + 8).toNat)).tally n 0x001).jumpTo n
        (jrTarget (s.tile n) w)) := by
  have act := exec_of_issues (c := .jr n) rfl h (hasOp_of_eq ho) rfl rfl
  exact act

end

/-- Settles O6: each instruction's effect at issue, the operations as those of 64-bit words, and the register files bank by
bank. -/
theorem scalarInstructions : Obligations.ScalarInstructions := by
  unfold Obligations.ScalarInstructions
  refine ⟨fun n w s => ⟨fun op ho hl h => ?_, fun ho h => completes_retire _ (exec_li ho h),
      fun op ho hl h => completes_retire _ (exec_predicate op ho hl h)⟩,
    fun n w s target inside => ⟨fun ho hc h hz => ?_, fun ho h2 hc h hz => ?_, fun ho h hz ha => ?_, fun ho h ha hl => ?_⟩,
    fun a b p => ?_, fun x r q v hx hr hq => ?_⟩
  · have run := completes_retire _ (exec_alu op ho hl h)
    cases op
    case cmpP => rw [aluWrite_cmpP] at run; exact run
    all_goals exact run
  · refine ⟨_, exec_br ho hc h, ?_⟩
    have counted := onlyTile_tally s n 0x001 1
    cases taken : brTaken (s.tile n) w with
    | true =>
      have jump := onlyTile_jumpTo counted hz inside
      rw [tile_tally] at jump
      exact jump
    | false =>
      exact ⟨OnlyTile.trans counted (onlyTile_setTile _ n _ _), (tile_onTile_same _ n _).trans (by rw [tile_tally]; rfl)⟩
  · exact ⟨_, exec_j ho h2 hc h, linked_jumpTo _ hz inside⟩
  · have aligned : ¬(jrTarget (s.tile n) w % 8 != 0) = true := by rw [jrTarget, hz, bne_iff_ne, not_ne_iff]; omega
    exact ⟨_, (exec_jr ho h).trans (congrArg _ (if_neg aligned)), linked_jumpTo _ hz inside⟩
  · exact completes_fault _ ((exec_jr ho h).trans (congrArg _ (if_pos (by simpa using ha)))) hl (by decide)
  · exact ⟨aluValue_add a b p, aluValue_sub a b p, aluValue_and a b p, aluValue_or a b p, aluValue_xor a b p,
      aluValue_andn a b p, aluValue_sll a b p, aluValue_srl a b p, aluValue_sra a b p, aluValue_mul a b p,
      aluValue_divU a b p, aluValue_remU a b p, aluValue_divS a b p, aluValue_remS a b p, aluValue_lt a b p,
      aluValue_ltu a b p, aluValue_minS a b p, aluValue_sel a b p 1⟩
  · exact ⟨rfl, rfl, rfl, rfl, gr_setG_same hx hr, gr_setG_other, fun h0 h8 => pr_setP_same hx h8 h0, pr_setP_other,
      setG_keeps_tBank, vr_setV_mod hx hr, vr_setV_other x r q v⟩

end Sys2Proof.Machine
end

section
/-! SUPPORT. The bytes of a cache line, and what a store to the data cache changes (R94). -/
namespace Sys2Proof.Machine
open Sys2Proof.Safety

/-! ### Bytes of a line -/

theorem ofBytes_bytesOf (n v : Nat) : ofBytes (bytesOf n v) = v % 2 ^ (8 * n) := by
  induction n generalizing v with
  | zero => simp [bytesOf, ofBytes, Nat.mod_one]
  | succ n ih =>
    rw [bytesOf, ofBytes, ih, BitVec.toNat_ofNat, show 8 * (n + 1) = 8 + 8 * n by omega, Nat.pow_add]
    exact (Nat.mod_mul).symm

/-- The bytes of a number depend on its low bits alone. -/
theorem bytesOf_mod (n v : Nat) : bytesOf n (v % 2 ^ (8 * n)) = bytesOf n v := by
  induction n generalizing v with
  | zero => rfl
  | succ n ih =>
    have low : v % 2 ^ (8 * (n + 1)) = v % 256 + 256 * (v / 256 % 2 ^ (8 * n)) := by
      rw [show 8 * (n + 1) = 8 + 8 * n by omega, Nat.pow_add]
      exact Nat.mod_mul
    rw [bytesOf, bytesOf, low, ← ih (v / 256)]
    congr 1
    · apply BitVec.eq_of_toNat_eq
      simp only [BitVec.toNat_ofNat]
      omega
    · congr 1
      omega

theorem drop_bytesOf (o n v : Nat) : (bytesOf (o + n) v).drop o = bytesOf n (v >>> (8 * o)) := by
  induction o generalizing v with
  | zero => simp
  | succ o ih =>
    rw [show o + 1 + n = o + n + 1 by omega, bytesOf, List.drop_succ_cons, ih, Nat.shiftRight_eq_div_pow,
      Nat.shiftRight_eq_div_pow, Nat.div_div_eq_div_mul, show 8 * (o + 1) = 8 + 8 * o by omega, Nat.pow_add]

theorem take_bytesOf (n k v : Nat) : (bytesOf (n + k) v).take n = bytesOf n v := by
  induction n generalizing v with
  | zero => simp [bytesOf]
  | succ n ih => rw [show n + 1 + k = n + k + 1 by omega, bytesOf, List.take_succ_cons, ih, bytesOf]

/-- The `n` bytes at offset `o` of a line. -/
theorem lineBytes_range (d : BitVec 512) (o n : Nat) (h : o + n ≤ 64) :
    ((lineBytes d).drop o).take n = bytesOf n (d.toNat >>> (8 * o) % 2 ^ (8 * n)) := by
  obtain ⟨k, hk⟩ : ∃ k, 64 = o + (n + k) := ⟨64 - (o + n), by omega⟩
  rw [lineBytes, bytesOf_mod, hk, drop_bytesOf, take_bytesOf]

/-- Bit `j` of a spread mask is the bit of its byte. -/
theorem testBit_spreadMask (n m j : Nat) : (spreadMask n m).testBit j = (decide (j / 8 < n) && m.testBit (j / 8)) := by
  induction n generalizing m j with
  | zero => simp [spreadMask]
  | succ n ih =>
    have low : (if m % 2 = 1 then 255 else 0) < 2 ^ 8 := by split <;> decide
    rw [spreadMask, Nat.add_comm, show (256 : Nat) = 2 ^ 8 from rfl, Nat.testBit_two_pow_mul_add _ low]
    split
    next inside =>
      rw [show j / 8 = 0 by omega, Nat.testBit_zero]
      have ones : ∀ i, i < 8 → Nat.testBit 255 i = true := by decide
      by_cases odd : m % 2 = 1 <;> simp [odd, ones j inside]
    next beyond =>
      obtain ⟨k, rfl⟩ : ∃ k, j = k + 8 := ⟨j - 8, by omega⟩
      rw [ih, Nat.add_sub_cancel, show (k + 8) / 8 = k / 8 + 1 by omega, Nat.testBit_succ]
      simp

theorem testBit_rangeMask (o n k : Nat) :
    (rangeMask o n).toNat.testBit k = (decide (k < 64) && (decide (o ≤ k) && decide (k - o < n))) := by
  rw [rangeMask, BitVec.toNat_ofNat, Nat.testBit_mod_two_pow, Nat.testBit_shiftLeft, Nat.testBit_two_pow_sub_one]

/-- The bytes of a range merged into a line read as the new ones. -/
theorem mergeLine_range (old : BitVec 512) (o : Nat) (bs : List Byte) (h : o + bs.length ≤ 64) :
    (mergeLine (rangeMask o bs.length) old (BitVec.ofNat 512 (ofBytes bs <<< (8 * o)))).toNat >>> (8 * o)
      % 2 ^ (8 * bs.length) = ofBytes bs := by
  apply Nat.eq_of_testBit_eq
  intro i
  rw [Nat.testBit_mod_two_pow, Nat.testBit_shiftRight]
  by_cases inside : i < 8 * bs.length
  · have line : 8 * o + i < 512 := by omega
    have masked : (BitVec.ofNat 512 (spreadMask 64 (rangeMask o bs.length).toNat)).getLsbD (8 * o + i) = true := by
      rw [BitVec.getLsbD_ofNat, testBit_spreadMask, testBit_rangeMask]
      simp only [Bool.and_eq_true, decide_eq_true_eq]
      omega
    have new : (BitVec.ofNat 512 (ofBytes bs <<< (8 * o))).getLsbD (8 * o + i) = (ofBytes bs).testBit i := by
      rw [BitVec.getLsbD_ofNat, Nat.testBit_shiftLeft, Nat.add_sub_cancel_left]
      simp [line]
    rw [BitVec.testBit_toNat, mergeLine, BitVec.getLsbD_or, BitVec.getLsbD_and, BitVec.getLsbD_and, BitVec.getLsbD_not,
      masked, new]
    simp [inside]
  · have small : ofBytes bs < 2 ^ i := Nat.lt_of_lt_of_le (ofBytes_lt bs) (Nat.pow_le_pow_right (by omega) (by omega))
    rw [Nat.testBit_lt_two_pow small]
    simp [inside]

/-! ### Lines of the data cache -/

theorem lfind_some {α : Type} {p : α → Bool} {l : List α} {i : Nat} (h : lfind p l = some i) (d : α) :
    p (lget l i d) = true := by
  induction l generalizing i with
  | nil => cases h
  | cons a l ih =>
    rw [lfind] at h
    split at h
    next ha => cases h; exact ha
    next =>
      obtain ⟨j, hj, rfl⟩ := Option.map_eq_some_iff.mp h
      exact ih hj

theorem lfind_none {α : Type} {p : α → Bool} {l : List α} : lfind p l = none ↔ ∀ a ∈ l, p a = false := by
  induction l with
  | nil => simp [lfind]
  | cons a l ih =>
    rw [lfind]
    split
    next ha => simp [ha]
    next ha => simp [ha, ih]

theorem lfind_map {α : Type} {p : α → Bool} {f : α → α} (h : ∀ a, p (f a) = p a) (l : List α) :
    lfind p (l.map f) = lfind p l := by
  induction l with
  | nil => rfl
  | cons a l ih => rw [List.map_cons, lfind, lfind, h, ih]

theorem lfind_append {α : Type} {p : α → Bool} {a : α} (ha : p a = true) (l : List α) (h : lfind p l = none) :
    lfind p (l ++ [a]) = some l.length := by
  induction l with
  | nil => simp [lfind, ha]
  | cons b l ih =>
    rw [lfind_none] at h
    rw [List.cons_append, lfind, if_neg (by simp [h b (by simp)]), ih (lfind_none.mpr fun c hc => h c (by simp [hc]))]
    rfl

theorem lget_map {α : Type} (f : α → α) (l : List α) (i : Nat) (d : α) (h : i < l.length) :
    lget (l.map f) i d = f (lget l i d) := by
  simp [lget, h]

/-- Nothing changes but the data cache of tile `n`, its waiting write-backs, and registers and measures. -/
structure CacheChanged (n : Nat) (s t : State) : Prop where
  frame : t = { s with regs := t.regs, tiles := t.tiles, meters := t.meters }
  others : TilesKept n s t
  tile : t.tile n = { s.tile n with dcache := (t.tile n).dcache, plru := (t.tile n).plru, wb := (t.tile n).wb }

theorem CacheChanged.trans {n : Nat} {s t u : State} (h : CacheChanged n s t) (k : CacheChanged n t u) :
    CacheChanged n s u := by
  obtain ⟨h1, h2, h3⟩ := h
  obtain ⟨k1, k2, k3⟩ := k
  refine ⟨?_, fun m hm => (k2 m hm).trans (h2 m hm), ?_⟩
  · rw [h1] at k1; exact k1
  · rw [h3] at k3; exact k3

theorem CacheChanged.mem {n : Nat} {s t : State} (h : CacheChanged n s t) : t.mem = s.mem := by rw [h.frame]

theorem CacheChanged.refl (n : Nat) (s : State) : CacheChanged n s s := ⟨rfl, fun _ _ => rfl, rfl⟩

theorem CacheChanged.tally (n : Nat) (s : State) (ev v : Nat) : CacheChanged n s (s.tally n ev v) := by
  obtain ⟨frame, -⟩ := tally_frame s n ev v
  exact ⟨by rw [frame], fun m _ => tile_tally s n ev v m, by rw [tile_tally]⟩

theorem CacheChanged.onTile (n : Nat) (s : State) (f : Tile → Tile)
    (h : ∀ x, f x = { x with dcache := (f x).dcache, plru := (f x).plru, wb := (f x).wb }) :
    CacheChanged n s (s.onTile n f) :=
  ⟨rfl, fun m hm => tile_setTile_other s n m _ hm, by rw [tile_onTile_same]; exact h _⟩

theorem tile_correctLine (s : State) (n : Nat) (l : DLine) (m : Nat) : (s.correctLine n l).tile m = s.tile m := by
  unfold State.correctLine
  split <;> rfl

theorem CacheChanged.correctLine (n : Nat) (s : State) (l : DLine) : CacheChanged n s (s.correctLine n l) := by
  refine ⟨?_, fun m _ => tile_correctLine s n l m, by rw [tile_correctLine]⟩
  unfold State.correctLine
  split <;> rfl

/-- A tile with a line taken out of its data cache, a dirty one left to its write-back (R96). -/
def Tile.evictLine (x : Tile) (l : DLine) : Tile :=
  { x with
    dcache := x.dcache.filter fun m => m.line != l.line
    wb := if l.dirty = 0 then x.wb else x.wb ++ [{ l with ce := false }] }

theorem evict_eq (s : State) (n : Nat) (l : DLine) :
    s.evict n l = if l.dirty = 0 then s.onTile n fun x => x.evictLine l
      else ((s.onTile n fun x => x.evictLine l).correctLine n l).tally n 0x006 := rfl

/-- An eviction counts what it corrects, and takes its line out of the cache (R96). -/
theorem evict_spec (s : State) (n : Nat) (l : DLine) :
    CacheChanged n s (s.evict n l) ∧ (s.evict n l).tile n = (s.tile n).evictLine l := by
  have taken : CacheChanged n s (s.onTile n fun x => x.evictLine l) := CacheChanged.onTile n s _ fun _ => rfl
  have out : (s.onTile n fun x => x.evictLine l).tile n = (s.tile n).evictLine l := tile_onTile_same s n _
  rw [evict_eq]
  generalize s.onTile n (fun x => x.evictLine l) = r at taken out ⊢
  split
  · exact ⟨taken, out⟩
  · exact ⟨(taken.trans (CacheChanged.correctLine n r l)).trans (CacheChanged.tally n _ 0x006 1), by
      rw [tile_tally, tile_correctLine, out]⟩

theorem dFind_evictLine {x : Tile} {line : Nat} (l : DLine) (h : x.dFind line = none) : (x.evictLine l).dFind line = none := by
  rw [Tile.dFind, lfind_none] at h ⊢
  exact fun m hm => h m (List.mem_filter.mp hm).1

theorem dFind_dTouch (x : Tile) (l : DLine) (line : Nat) : (x.dTouch l).dFind line = x.dFind line := rfl

/-- A line allocated is found in the data cache, whichever line it evicts (R94). -/
theorem dAlloc_spec (s : State) (n line : Nat) (h : (s.tile n).dFind line = none) :
    CacheChanged n s (s.dAlloc n line) ∧ ∃ i, ((s.dAlloc n line).tile n).dFind line = some i := by
  have alloc : ∀ (r : State) (l : DLine), CacheChanged n s r → (r.tile n).dFind line = none → l.line = line →
      CacheChanged n s (r.onTile n fun x => ({ x with dcache := x.dcache ++ [l] }).dTouch l)
        ∧ ∃ i, ((r.onTile n fun x => ({ x with dcache := x.dcache ++ [l] }).dTouch l).tile n).dFind line = some i := by
    intro r l changed none hl
    refine ⟨changed.trans (CacheChanged.onTile n r _ fun _ => rfl), (r.tile n).dcache.length, ?_⟩
    rw [tile_onTile_same, dFind_dTouch]
    exact lfind_append (by simp [hl]) _ none
  unfold State.dAlloc
  dsimp only
  split
  next l _ =>
    obtain ⟨changed, out⟩ := evict_spec s n l
    exact alloc _ _ changed (by rw [out]; exact dFind_evictLine l h) rfl
  next => exact alloc s _ (CacheChanged.refl n s) h rfl

/-- The line that the data cache holds at a position. -/
def Tile.dLineAt (x : Tile) (i : Nat) : DLine := lget x.dcache i ⟨0, 0, 0, 0, 0, 0, false, false⟩

/-- A line replaced stands where it was found. -/
theorem dPut_found {x : Tile} {line i : Nat} {l : DLine} (h : x.dFind line = some i) (hl : l.line = line) :
    (x.dPut l).dFind line = some i ∧ (x.dPut l).dLineAt i = l := by
  have same : (x.dLineAt i).line = line := beq_iff_eq.mp (lfind_some h _)
  refine ⟨?_, ?_⟩
  · rw [← h]
    refine lfind_map (fun m => ?_) x.dcache
    split
    next hm => rw [hm]
    next => rfl
  · rw [Tile.dLineAt, Tile.dPut, lget_map _ _ _ _ (lfind_lt _ _ _ h)]
    exact if_pos (same.trans hl.symm)

/-- A line with bytes stored at offset `o`: they are valid and dirty (R94). -/
def DLine.store (l : DLine) (o : Nat) (bs : List Byte) : DLine :=
  let mask := rangeMask o bs.length
  { l with
    data := mergeLine mask l.data (BitVec.ofNat 512 (ofBytes bs <<< (8 * o))), valid := l.valid ||| mask
    dirty := l.dirty ||| mask }

/-- A tile with bytes stored in the line of its data cache that takes them. -/
def Tile.cacheStore (x : Tile) (a : Nat) (bs : List Byte) : Tile :=
  match x.dFind (a / 64) with
  | none => x
  | some i => (x.dPut ((x.dLineAt i).store (a % 64) bs)).dTouch (x.dLineAt i)

/-- The state in which the data cache holds a line: allocated without fetching it where it is not there (R94). -/
def State.withLine (s : State) (n line : Nat) : State :=
  match (s.tile n).dFind line with
  | some _ => s
  | none => (s.tally n 0x005).dAlloc n line

theorem dStore_eq (s : State) (n a : Nat) (bs : List Byte) :
    s.dStore n a bs = (s.withLine n (a / 64)).onTile n fun x => x.cacheStore a bs := by
  unfold State.dStore
  dsimp only
  congr 1

theorem withLine_spec (s : State) (n line : Nat) :
    CacheChanged n s (s.withLine n line) ∧ ∃ i, ((s.withLine n line).tile n).dFind line = some i := by
  unfold State.withLine
  split
  next i hf => exact ⟨CacheChanged.refl n s, i, hf⟩
  next hf =>
    obtain ⟨changed, found⟩ := dAlloc_spec (s.tally n 0x005) n line (by rw [tile_tally]; exact hf)
    exact ⟨(CacheChanged.tally n s 0x005 1).trans changed, found⟩

/-- The bytes stored in a line that the cache holds read back from it. -/
theorem cachedBytes_cacheStore {x : Tile} {a i : Nat} {bs : List Byte} (hf : x.dFind (a / 64) = some i)
    (h : a % 64 + bs.length ≤ 64) : (x.cacheStore a bs).cachedBytes a bs.length = bytesOf bs.length (ofBytes bs) := by
  obtain ⟨found, line⟩ := dPut_found (l := (x.dLineAt i).store (a % 64) bs) hf (beq_iff_eq.mp (lfind_some hf _))
  rw [Tile.cacheStore, hf, Tile.cachedBytes, dFind_dTouch, found]
  change ((lineBytes ((x.dPut _).dLineAt i).data).drop (a % 64)).take bs.length = _
  rw [line, lineBytes_range _ _ _ h, DLine.store, mergeLine_range _ _ _ h]

/-- A store within one line of the data cache changes the cache alone, and its bytes then read as stored (R94). -/
theorem dStore_spec (s : State) (n a size v : Nat) (h : a % 64 + size ≤ 64) :
    CacheChanged n s (s.dStore n a (bytesOf size v))
      ∧ ((s.dStore n a (bytesOf size v)).tile n).cachedBytes a size = bytesOf size v := by
  obtain ⟨changed, i, found⟩ := withLine_spec s n (a / 64)
  have read := cachedBytes_cacheStore found (bs := bytesOf size v) (by rw [length_bytesOf]; exact h)
  rw [length_bytesOf, ofBytes_bytesOf, bytesOf_mod] at read
  rw [dStore_eq, tile_onTile_same]
  refine ⟨changed.trans (CacheChanged.onTile n _ _ fun x => ?_), read⟩
  unfold Tile.cacheStore
  split <;> rfl

end Sys2Proof.Machine
end

section
/-! Scalar stores (O7). -/
namespace Sys2Proof.Machine
open Sys2Proof.Safety

/-! ### Issue -/

section
variable {n w : Nat} {s : State}

theorem exec_st (ho : iOp w = 0x11) (hl : memLegal w = true) (h : Issues n w ⟨[iF1 w, iF2 w], []⟩ s) :
    exec (.st n) s = .next (s.storeAt n w (s.target n (memAddr (s.tile n) w) (memSize w) (memSize w) true)) := by
  have act := exec_of_issues (c := .st n) rfl h (hasOp_of_eq ho) hl rfl
  exact act

/-- A tile with the store `w` to a target buffered. -/
def Tile.bufferStore (x : Tile) (n w : Nat) (tg : Target) : Tile :=
  { x with stores := x.stores ++ [⟨tg.key n, memSize w, x.gr (iF1 w), x.pc.toNat⟩] }

/-- A store to memory enters the store buffer, and waits where that is full (R154). -/
theorem storeAt_memory {tg : Target} {off : Nat} (ht : tg = .hbm off ∨ tg = .spad off) :
    s.storeAt n w tg = if 8 ≤ (s.tile n).stores.length then s else s.retire n fun x => x.bufferStore n w tg := by
  rcases ht with rfl | rfl <;> rfl

end

/-! ### The oldest buffered store -/

/-- Bytes stored in a scratchpad after a read that met no error. -/
theorem SpadRead.store {n : Nat} {s u : State} (h : SpadRead n s u) (a : Nat) (bs : List Byte) :
    SpadWritten n (memStore s.mem a bs) s (u.store a bs) := by
  refine ⟨?_, h.others, ?_, by rw [State.store, h.mem]⟩
  · rw [h.frame]; rfl
  · change u.tile n = { s.tile n with
      spadUe := (u.tile n).spadUe, spadCe := (u.tile n).spadCe, spadRewrite := (u.tile n).spadRewrite }
    rw [h.tile]

section
variable {s : State} {n off : Nat} {bs : List Byte}

/-- A write within a word of a scratchpad that holds no double-bit error stores its bytes (R93). -/
theorem spadWritten_spadWritePart (good : ∀ w ∈ spadWords off bs.length, w ∉ (s.tile n).spadUe) :
    (s.spadWritePart n off bs).1 = false
      ∧ SpadWritten n (memStore s.mem (spadKey n off) bs) s (s.spadWritePart n off bs).2 := by
  unfold State.spadWritePart
  split
  · exact ⟨rfl, spadWritten_spadWrite s n off bs⟩
  · obtain ⟨none, read⟩ := spadRead_good s n off bs.length good
    simp only [none, Bool.false_eq_true, if_false]
    exact ⟨trivial, read.store _ bs⟩

/-- A write of a scratchpad by its tile, to words without a double-bit error, stores its bytes (R93). -/
theorem spadWritten_engineWrite (good : ∀ w ∈ spadWords off bs.length, w ∉ (s.tile n).spadUe) :
    (s.engineWrite n (.spad off) bs).1 = 0
      ∧ SpadWritten n (memStore s.mem (spadKey n off) bs) s (s.engineWrite n (.spad off) bs).2 := by
  simp only [State.engineWrite]
  split
  · exact ⟨rfl, spadWritten_spadWrite s n off bs⟩
  · obtain ⟨none, written⟩ := spadWritten_spadWritePart good
    exact ⟨by rw [none]; rfl, written⟩

end

theorem cachedWrite_nil (k : Nat) (s : State) (n off : Nat) : State.cachedWrite k s n off [] = s := by cases k <;> rfl

/-- A write of bytes within one line of HBM goes to the data cache as one store (R94). -/
theorem engineWrite_hbm (s : State) (n off : Nat) (bs : List Byte) (hb : bs ≠ []) (h : off % 64 + bs.length ≤ 64) :
    s.engineWrite n (.hbm off) bs = (0, s.dStore n off bs) := by
  obtain ⟨b, rest, rfl⟩ := List.exists_cons_of_ne_nil hb
  have line : ∀ k, State.cachedWrite (k + 1) s n off (b :: rest) = s.dStore n off (b :: rest) := fun k => by
    simp only [State.cachedWrite]
    rw [List.take_of_length_le (by omega), List.drop_of_length_le (by omega), cachedWrite_nil]
  exact congrArg (Prod.mk 0) (line _)

/-- The state with the oldest buffered store taken from the buffer, `bs` behind it. -/
def State.takeStore (s : State) (n : Nat) (bs : List BufStore) : State := s.setTile n { s.tile n with stores := bs }

section
variable {n : Nat} {s : State} {b : BufStore} {bs : List BufStore}

/-- The oldest buffered store is performed, where its write meets no error (R154). -/
theorem exec_storePerformed (hn : n < 144) (held : s.tileHeld n = false) (parked : s.parked = false)
    (hb : (s.tile n).stores = b :: bs)
    (hw : ((s.takeStore n bs).engineWrite n b.target (bytesOf b.size b.data)).1 = 0) :
    exec (.storePerformed n) s = .next ((s.takeStore n bs).engineWrite n b.target (bytesOf b.size b.data)).2 := by
  change execStorePerformed n s = _
  unfold execStorePerformed
  simp only [hb, held, parked, Bool.or_false, decide_eq_true_eq]
  rw [if_neg (by omega)]
  exact congrArg Host.Outcome.next (if_neg (by rw [bne_iff_ne, not_ne_iff]; exact hw))

theorem tile_takeStore : (s.takeStore n bs).tile n = { s.tile n with stores := bs } := tile_setTile_same s n _

theorem others_takeStore : TilesKept n s (s.takeStore n bs) := fun m hm => tile_setTile_other s n m _ hm

/-- A buffered store to the scratchpad stores its bytes and no others (R93). -/
theorem completes_storePerformed_spad (hm : memWf s.mem = true) (hn : n < 144) (held : s.tileHeld n = false)
    (parked : s.parked = false) (hb : (s.tile n).stores = b :: bs) {off : Nat} (ht : b.target = .spad off)
    (good : ∀ k ∈ spadWords off b.size, k ∉ (s.tile n).spadUe) :
    Completes (.storePerformed n) s fun t =>
      (t.tile n).stores = bs ∧ TilesKept n s t ∧ memLoad t.mem (spadKey n off) b.size = bytesOf b.size b.data
        ∧ BytesKept (spadKey n off) b.size s t ∧ (t.tile n).g = (s.tile n).g := by
  have taken : (s.takeStore n bs).tile n = { s.tile n with stores := bs } := tile_takeStore
  obtain ⟨none, written⟩ := spadWritten_engineWrite (s := s.takeStore n bs) (off := off) (bs := bytesOf b.size b.data)
    (by rw [taken, length_bytesOf]; exact good)
  have done := exec_storePerformed hn held parked hb (ht ▸ none)
  rw [ht] at done
  obtain ⟨stored, kept⟩ := written.bytes hm
  refine ⟨_, done, ?_, fun m hm => (written.others m hm).trans (others_takeStore m hm), stored, kept, ?_⟩
  all_goals rw [written.tile, taken]

/-- A buffered store to HBM goes into the data cache, and memory keeps every byte (R94). -/
theorem completes_storePerformed_hbm (hn : n < 144) (held : s.tileHeld n = false) (parked : s.parked = false)
    (hb : (s.tile n).stores = b :: bs) {off : Nat} (ht : b.target = .hbm off) (size : 0 < b.size)
    (line : off % 64 + b.size ≤ 64) :
    Completes (.storePerformed n) s fun t =>
      (t.tile n).stores = bs ∧ TilesKept n s t ∧ t.mem = s.mem
        ∧ (t.tile n).cachedBytes off b.size = bytesOf b.size b.data ∧ (t.tile n).g = (s.tile n).g := by
  have taken : (s.takeStore n bs).tile n = { s.tile n with stores := bs } := tile_takeStore
  have write := engineWrite_hbm (s.takeStore n bs) n off (bytesOf b.size b.data)
    (List.ne_nil_of_length_pos (by rw [length_bytesOf]; exact size)) (by rw [length_bytesOf]; exact line)
  have done := exec_storePerformed hn held parked hb (by rw [ht, write])
  rw [ht, write] at done
  obtain ⟨changed, read⟩ := dStore_spec (s.takeStore n bs) n off b.size b.data line
  refine ⟨_, done, ?_, fun m hm => (changed.others m hm).trans (others_takeStore m hm), changed.mem, read, ?_⟩
  all_goals rw [changed.tile, taken]

end

/-- A buffered store to HBM is at the offset of its address. -/
theorem addr_of_target_hbm {b : BufStore} {off : Nat} (h : b.target = .hbm off) : off = b.addr := by
  unfold BufStore.target at h
  split at h <;> cases h
  rfl

/-- Settles O7: a store's target decides what its issue does, and the oldest buffered store's target what is written. -/
theorem storesReachMemory : Obligations.StoresReachMemory := by
  unfold Obligations.StoresReachMemory
  refine ⟨fun n w s ho hl h => ⟨fun off ht => ⟨fun room => ?_, fun full => ?_⟩, fun off ht => ?_, fun c ht level => ?_⟩,
    fun n s b bs inv hn held parked hb size align => ⟨fun off ht good => ?_, fun off ht => ?_⟩⟩
  · exact completes_retire (fun x => x.bufferStore n w _) ((exec_st ho hl h).trans
      (congrArg _ ((storeAt_memory ht).trans (if_neg (by omega)))))
  · exact (exec_st ho hl h).trans (congrArg _ ((storeAt_memory ht).trans (if_pos full)))
  · exact (exec_st ho hl h).trans (by rw [ht]; rfl)
  · exact completes_fault _ ((exec_st ho hl h).trans (by rw [ht]; rfl)) level (target_fault_lt _ _ _ _ _ _ _ ht)
  · obtain ⟨mem, -⟩ := inv
    exact completes_storePerformed_spad mem hn held parked hb ht good
  · have line : off % 64 + b.size ≤ 64 := by
      rw [addr_of_target_hbm ht]
      rcases size with k | k | k | k <;> rw [k] at align ⊢ <;> omega
    exact completes_storePerformed_hbm hn held parked hb ht (by omega) line

end Sys2Proof.Machine
end

section
/-! FENCE, EWAIT and CWAIT (O10). -/
namespace Sys2Proof.Machine
open Sys2Proof.Safety

section
variable {n w : Nat} {s : State} {ps : List Nat} {dw : Bool}

theorem exec_fence (ho : iOp w = 0x34) (hf : iFnS w = 0) (h : Issues n w ⟨[], []⟩ s) :
    exec (.fence n) s = .next (s.waitHere n .fence w []) := by
  have act := exec_of_issues (c := .fence n) rfl h (hasFn_of_eq ho hf) rfl rfl
  exact act

theorem exec_ewait (ho : iOp w = 0x34) (hf : iFnS w = 1) (h : Issues n w ⟨[], []⟩ s) :
    exec (.ewait n) s = .next (s.waitHere n .ewait w []) := by
  have act := exec_of_issues (c := .ewait n) rfl h (hasFn_of_eq ho hf) rfl rfl
  exact act

/-- A FENCE ends once the store buffer is empty (R169). -/
theorem exec_fenceDone (h : s.waiting n = some ⟨.fence, w, ps, dw⟩) :
    exec (.fenceDone n) s = .next (if (s.tile n).stores.isEmpty then s.endWait n id else s) := by
  change execFenceDone n s = _
  unfold execFenceDone
  simp only [h]
  split <;> rfl

/-- An EWAIT ends once the units that it names are done (R170). -/
theorem exec_ewaitDone (h : s.waiting n = some ⟨.ewait, w, ps, dw⟩) :
    exec (.ewaitDone n) s = .next (if (s.tile n).ewaitDone (iImmS w) then s.endWait n id else s) := by
  change execEwaitDone n s = _
  unfold execEwaitDone
  simp only [h]
  split <;> rfl

/-- Whether the condition of the CWAIT `w` holds (R174). -/
def State.cwaitHolds (s : State) (n w : Nat) : Bool :=
  s.cwaitMet ((s.tile n).gr (iF2 w) % 1024) ((s.tile n).gr (iF3 w) % 2 ^ 32)

/-- What the CWAIT `w` leaves in rd (R174). -/
def State.cwaitResult (s : State) (n w : Nat) (timed : Bool) : Nat :=
  s.cwaitValue ((s.tile n).gr (iF2 w) % 1024) ((s.tile n).gr (iF3 w) % 2 ^ 32) timed

theorem natOfBool_shiftLeft (b : Bool) (k : Nat) : natOfBool b <<< k = if b then 2 ^ k else 0 := by
  cases b <;> simp [natOfBool, Nat.shiftLeft_eq]

/-- The count, reached, error and timed out, each in its place (R174). -/
theorem cwaitValue_eq (s : State) (d e : Nat) (timed : Bool) :
    s.cwaitValue d e timed = s.fld GI_CD_count d + (if s.reached d e then 2 ^ 32 else 0)
      + (if s.flag GI_CD_err d then 2 ^ 33 else 0) + (if timed then 2 ^ 34 else 0) := by
  unfold State.cwaitValue
  generalize s.fld GI_CD_count d = count, s.reached d e = reached, s.flag GI_CD_err d = err
  rw [natOfBool_shiftLeft, natOfBool_shiftLeft, natOfBool_shiftLeft]

/-- A CWAIT at issue: a foreign domain faults, a limit of 1 reads at once, and another one waits (R174). -/
theorem exec_cwait (ho : iOp w = 0x34) (hf : iFnS w = 4) (h : Issues n w ⟨[iF1 w, iF2 w, iF3 w, iF4 w], []⟩ s) :
    exec (.cwait n) s = .next (if !s.tileOwns n ((s.tile n).gr (iF2 w) % 1024) then s.faultHere n 0x07 0
      else if (s.tile n).gr (iF4 w) = 1 then s.retire n fun x => x.setG (iF1 w) (s.cwaitResult n w (!s.cwaitHolds n w))
      else s.waitHere n .cwait w []) := by
  have act := exec_of_issues (c := .cwait n) rfl h (hasFn_of_eq ho hf) rfl rfl
  exact act

/-- A CWAIT ends once its condition holds (R174). -/
theorem exec_cwaitDone (h : s.waiting n = some ⟨.cwait, w, ps, dw⟩) :
    exec (.cwaitDone n) s
      = .next (if s.cwaitHolds n w then s.endWait n fun x => x.setG (iF1 w) (s.cwaitResult n w false) else s) := by
  change execCwaitDone n s = _
  unfold execCwaitDone State.cwaitHolds
  simp only [h]
  split <;> rfl

/-- A CWAIT with a limit ends with it where its condition does not hold (R174). -/
theorem exec_cwaitTimeout (h : s.waiting n = some ⟨.cwait, w, ps, dw⟩) :
    exec (.cwaitTimeout n) s = .next (if (s.tile n).gr (iF4 w) != 0 && !s.cwaitHolds n w
      then s.endWait n fun x => x.setG (iF1 w) (s.cwaitResult n w true) else s) := by
  change execCwaitTimeout n s = _
  unfold execCwaitTimeout State.cwaitHolds
  simp only [h]
  split <;> rfl

end

/-- Each bit of an EWAIT names one unit (R170). -/
theorem ewaitDone_iff (x : Tile) (imm : Nat) :
    x.ewaitDone imm = true ↔
      (bitAt imm 0 = true → x.vecq = []) ∧ (∀ c, c < 4 → bitAt imm (1 + c) = true → (x.chan c).done = true)
        ∧ (bitAt imm 5 = true → x.tokq = [])
        ∧ (∀ k, k < 4 → bitAt imm (6 + k) = true → ∀ c ∈ x.matq, mcPlane c.ctl ≠ k)
        ∧ (bitAt imm 10 = true → x.matq = []) := by
  have names : ∀ b u : Bool, (!b || u) = true ↔ (b = true → u = true) := by decide
  have idle : ∀ k, (!x.planeBusy k) = true ↔ ∀ c ∈ x.matq, mcPlane c.ctl ≠ k := fun k => by simp [Tile.planeBusy]
  simp only [Tile.ewaitDone, Bool.and_eq_true, List.all_eq_true, List.mem_range, names, idle, List.isEmpty_iff, and_assoc]

/-- Settles O10: each wait begins at issue, and its condition alone decides whether it ends. -/
theorem waitsBeginAndEnd : Obligations.WaitsBeginAndEnd := by
  unfold Obligations.WaitsBeginAndEnd
  refine ⟨fun n w s => ⟨fun ho hf h => completes_waitHere (exec_fence ho hf h),
    fun ho hf h => completes_waitHere (exec_ewait ho hf h), fun ps dw h => ⟨fun drained => ?_, fun more => ?_⟩,
    fun ps dw h => ⟨fun done => ?_, fun busy => ?_⟩,
    fun ho hf h => ⟨fun own limit => ?_, fun own limit => ?_, fun foreign level => ?_⟩,
    fun ps dw h => ⟨fun met => ?_, fun unmet => ?_, fun unmet limit => ?_⟩⟩, ewaitDone_iff⟩
  · exact completes_endWait id ((exec_fenceDone h).trans (congrArg _ (if_pos (by simp [drained]))))
  · exact (exec_fenceDone h).trans (congrArg _ (if_neg (by simpa using more)))
  · exact completes_endWait id ((exec_ewaitDone h).trans (congrArg _ (if_pos done)))
  · exact (exec_ewaitDone h).trans (congrArg _ (if_neg (by simp [busy])))
  · exact completes_waitHere ((exec_cwait ho hf h).trans (by rw [own, if_neg (by decide), if_neg limit]))
  · have read := completes_retire _ ((exec_cwait ho hf h).trans (by rw [own, if_neg (by decide), if_pos limit]))
    rw [State.cwaitResult, cwaitValue_eq] at read
    exact read
  · exact completes_fault 0 ((exec_cwait ho hf h).trans (congrArg _ (if_pos (by simp [foreign])))) level (by decide)
  · have ended := completes_endWait _ ((exec_cwaitDone h).trans (congrArg _ (if_pos met)))
    rw [State.cwaitResult, cwaitValue_eq] at ended
    exact ended
  · exact (exec_cwaitDone h).trans (congrArg _ (if_neg (Bool.not_eq_true _ ▸ unmet)))
  · have ended := completes_endWait _ ((exec_cwaitTimeout h).trans (congrArg _ (if_pos
      (by rw [show s.cwaitHolds n w = false from unmet]; simpa using limit))))
    rw [State.cwaitResult, cwaitValue_eq] at ended
    exact ended

end Sys2Proof.Machine
end

section
/-! Privilege, control registers and illegal words (O12). -/
namespace Sys2Proof.Machine
open Sys2Proof.Safety

/-! ### Entry to S level and return -/

theorem onlyTile_markReady (s : State) (n : Nat) (l : List Nat) : OnlyTile n l s (s.markReady n) := by
  unfold State.markReady
  split
  · exact onlyTile_setTile s n l _
  · exact ⟨rfl, RegsKept.refl l s, fun _ _ => rfl⟩

section
variable {n w : Nat} {s : State}

/-- SYSCALL at T level with a handler enters it behind the instruction (R145). -/
theorem exec_syscall (ho : iOp w = 0x3C) (hf : iFnS w = 3) (h : Issues n w ⟨[], []⟩ s) (hl : (s.tile n).sLevel = false)
    (he : s.fld TL_SEQ_EVEC_evec n ≠ 0) :
    exec (.syscall n) s = .next ((s.enterS n (iImmS w % 65536) ((s.tile n).pc + 8)).tally n 0x001) := by
  have act := exec_of_issues (c := .syscall n) rfl h (hasFn_of_eq ho hf) rfl rfl
  exact act.trans (congrArg _ (if_neg (by simp [hl, he])))

/-- RTI returns from S level, and is a privilege fault at T level (R145). -/
theorem exec_rti (ho : iOp w = 0x3C) (hf : iFnS w = 4) (h : Issues n w ⟨[], []⟩ s) :
    exec (.rti n) s = .next (if !(s.tile n).sLevel then s.faultHere n 0x05 0
      else ((s.onTile n Tile.returnS).tally n 0x001).markReady n) := by
  have act := exec_of_issues (c := .rti n) rfl h (hasFn_of_eq ho hf) rfl rfl
  exact act

/-- A return changes its tile's level, PC and slots alone, beside the tally counters (R67, R145). -/
theorem returned_rti (s : State) (n : Nat) :
    let x := s.tile n
    let t := ((s.onTile n Tile.returnS).tally n 0x001).markReady n
    OnlyTile n (tallyOffs n) s t
      ∧ t.tile n = { x with sLevel := x.prev, ie := true, pc := x.epc, slots := (t.tile n).slots } := by
  obtain ⟨only, tile⟩ := onlyTile_tally_setTile s n (s.tile n).returnS 0x001 1
  have marked := tile_markReady ((s.onTile n Tile.returnS).tally n 0x001) n
  rw [show ((s.onTile n Tile.returnS).tally n 0x001).tile n = (s.tile n).returnS from tile] at marked
  exact ⟨OnlyTile.trans only (onlyTile_markReady _ n _), marked⟩

/-- An interrupt that may be presented enters the handler at the PC (R145). -/
theorem exec_interruptEntry (hn : n < 144) (held : s.tileHeld n = false) (parked : s.parked = false)
    (source : s.ticAny n = true) (hie : (s.tile n).ie = true) (hl : (s.tile n).sLevel = false)
    (he : s.fld TL_SEQ_EVEC_evec n ≠ 0) (hw : interruptible (s.tile n).wait = true) :
    exec (.interruptEntry n) s = .next (s.enterS n 0xFFFF (s.tile n).pc) := by
  change execInterruptEntry n s = _
  unfold execInterruptEntry
  rw [if_pos (by simp [hn, held, parked, source, hie, hl, he, hw])]

/-! ### Control registers, tally counters and the instruction cache -/

/-- CSRR of a listed number: one beyond the user's needs S level (R144, R146). -/
theorem exec_csrr {v : Nat} (ho : iOp w = 0x3C) (hf : iFnS w = 6) (h : Issues n w ⟨[iF1 w], []⟩ s)
    (hv : s.csrRead n (iImmS w % 4096) = some v) :
    exec (.csrr n) s = .next (if !csrUser (iImmS w % 4096) && !(s.tile n).sLevel then s.faultHere n 0x05 0
      else s.retire n fun x => x.setG (iF1 w) v) := by
  have act := exec_of_issues (c := .csrr n) rfl h (hasFn_of_eq ho hf) rfl rfl
  simp only [hv] at act
  exact act

/-- CSRW at S level writes a listed register that may be written (R146). -/
theorem completes_csrw {c : Nat} (ho : iOp w = 0x3C) (hf : iFnS w = 7) (h : Issues n w ⟨[iF2 w], []⟩ s)
    (hl : (s.tile n).sLevel = true) (hc : iImmS w % 4096 = c) (listed : (s.csrRead n c).isSome = true)
    (hw : csrWritable c = true) :
    Completes (.csrw n) s (Retired n ((s.tile n).csrWrite c ((s.tile n).gr (iF2 w))) s) := by
  have act := exec_of_issues (c := .csrw n) rfl h (hasFn_of_eq ho hf) rfl rfl
  obtain ⟨v, hv⟩ := Option.isSome_iff_exists.mp listed
  simp only [hc, hv, hl, hw, Bool.not_true, Bool.and_false, Bool.false_eq_true, if_false] at act
  exact completes_retire (fun x => x.csrWrite c (x.gr (iF2 w))) act

/-- TRD needs S level or the paddock's leave (R144, R175). -/
theorem exec_trd (ho : iOp w = 0x38) (hf : iFnS w = 0) (hs : iImmS w % 16 < 9) (h : Issues n w ⟨[iF1 w], []⟩ s) :
    exec (.trd n) s = .next (if !(s.tile n).sLevel && !s.tallyUser n then s.faultHere n 0x06 0
      else s.retire n fun x => x.setG (iF1 w) (s.trdValue n (iImmS w % 16))) := by
  have act := exec_of_issues (c := .trd n) rfl h (hasFn_of_eq ho hf) (by simpa using hs) rfl
  exact act

theorem trdValue_eq (s : State) (n sel : Nat) :
    s.trdValue n sel = if sel = 8 then s.cycles n % 2 ^ 64
      else s.fld TL_TALLY_CNT_count n sel + s.fld TL_TALLY_CNT_ovf n sel * 2 ^ 63 := by
  unfold State.trdValue
  rw [Nat.shiftLeft_eq]

theorem exec_icinv (ho : iOp w = 0x3C) (hf : iFnS w = 2) (h : Issues n w ⟨[], []⟩ s) :
    exec (.icinv n) s = .next (s.retire n fun x => { x with icache := [] }) := by
  have act := exec_of_issues (c := .icinv n) rfl h (hasFn_of_eq ho hf) rfl rfl
  exact act

/-! ### Illegal words -/

/-- A word that names no instruction faults whatever its guard and its registers (R143, R147). -/
theorem exec_illegal (hi : illegalWord w = true) (active : s.seqActive n = true) (inside : (s.tile n).pc.toNat < s.hbmCap)
    (fetched : (s.tile n).fetch (s.tile n).pc.toNat = some w) : exec (.illegal n) s = .next (s.faultHere n 0x01 0) := by
  change execIllegal n s = _
  unfold execIllegal State.issue
  simp only [active, Nat.not_le.mpr inside, fetched, hi, Bool.not_true, Bool.not_false, Bool.false_eq_true, if_false, if_true]
  rfl

end

/-- Settles O12: what the level, the handler's address and the named register allow decides between the effect and the
fault. -/
theorem privilegeAndControlRegisters : Obligations.PrivilegeAndControlRegisters := by
  unfold Obligations.PrivilegeAndControlRegisters
  refine fun n w s => ⟨fun ho hf h hl he => ?_, fun ho hf h => ⟨fun hl => ?_, fun hl => ?_⟩,
    fun hn held parked source hie hl he hw => ?_, fun v ho hf h hv => ⟨fun may => ?_, fun priv hl => ?_⟩,
    fun ho hf h hl => ⟨fun hc => completes_csrw ho hf h hl hc rfl rfl, fun hc => completes_csrw ho hf h hl hc rfl rfl,
      fun hc => completes_csrw ho hf h hl hc rfl rfl⟩,
    fun ho hf hs h => ⟨fun may => ?_, fun hl foreign => ?_⟩,
    fun ho hf h => completes_retire _ (exec_icinv ho hf h),
    fun hi active inside fetched hl => completes_fault 0 (exec_illegal hi active inside fetched) hl (by decide)⟩
  · exact ⟨_, exec_syscall ho hf h hl he, onlyTile_tally_setTile s n _ 0x001 1⟩
  · exact ⟨_, (exec_rti ho hf h).trans (congrArg _ (if_neg (by simp [hl]))), returned_rti s n⟩
  · exact completes_fault 0 ((exec_rti ho hf h).trans (congrArg _ (if_pos (by simp [hl])))) hl (by decide)
  · exact ⟨_, exec_interruptEntry hn held parked source hie hl he hw, onlyTile_setTile s n [] _, tile_setTile_same s n _⟩
  · exact completes_retire (fun x => x.setG (iF1 w) v) ((exec_csrr ho hf h hv).trans
      (congrArg _ (if_neg (by rcases may with may | may <;> simp [may]))))
  · exact completes_fault 0 ((exec_csrr ho hf h hv).trans (congrArg _ (if_pos (by simp [priv, hl])))) hl (by decide)
  · have read := completes_retire _ ((exec_trd ho hf hs h).trans
      (congrArg _ (if_neg (by rcases may with may | may <;> simp [may]))))
    rw [trdValue_eq] at read
    exact read
  · exact completes_fault 0 ((exec_trd ho hf hs h).trans (congrArg _ (if_pos (by simp [hl, foreign])))) hl (by decide)

end Sys2Proof.Machine
end

section
/-! Accesses past the data cache (O9): the statement fails in a state written out here. -/
namespace Sys2Proof.Machine
open Sys2Proof.Safety

/-- An LDA word with size code 7, of 128 bytes at HBM offset 0. Decoding takes words of 4 and 8 bytes alone (R173), so that
no LDA issues with it. -/
def longLda : Nat := 0x12 <<< 58 + 7 <<< 41

/-- HBM in service, tile 0 waiting with that word, and an uncorrectable error in the second of the two granules that it
reads (R221). -/
def badSecondGranule : State :=
  { (((State.reset.setFld MGT_CAP_MEMORY_hbm_gib 0 0 1).setFld HBM_ILV_CTRL_state 0 0 2).setFld HBM_ILV_CTRL_state 1 0 2).setTile
      0 { Tile.reset with wait := some ⟨.lda, longLda, [], false⟩ } with
    hbmUe := [1] }

set_option maxRecDepth 20000 in
/-- The read meets the error and faults (R197): the PC stays. -/
theorem ldaDone_badSecondGranule : Completes (.ldaDone 0) badSecondGranule fun t => (t.tile 0).pc = 0 := ⟨_, rfl, by decide⟩

set_option maxRecDepth 20000 in
/-- Refutes O9: a waiting LDA whose word covers more than one granule faults on an error in the second one, where the
statement asks only for a good granule at the word's offset. An LDA that issued has 4 or 8 bytes, but the statement
demands a legal word only of the store-release. -/
theorem not_atomicAccesses : ¬ Obligations.AtomicAccesses := by
  unfold Obligations.AtomicAccesses
  rintro ⟨accesses, -⟩
  obtain ⟨-, -, -, completions⟩ := accesses 0 longLda badSecondGranule
  obtain ⟨-, loads, -⟩ := completions (by decide) (by decide) (by decide) (by decide) (by decide)
  obtain ⟨t, ht, -, advanced, -⟩ := loads [] false (by decide) (.inr ⟨0, by decide⟩) (by decide)
  obtain ⟨u, hu, stays⟩ := ldaDone_badSecondGranule
  obtain rfl : t = u := by rw [ht] at hu; injection hu
  rw [stays] at advanced
  exact absurd advanced (by decide)

end Sys2Proof.Machine
end

section
/-! SUPPORT. Writes of HBM (R206, R221): what they change, the bytes that they store, and the bytes that they leave. -/
namespace Sys2Proof.Machine
open Sys2Proof.Safety

/-! ### Registers that packets leave -/

/-- The offsets of the registers that neither an access of HBM nor a packet that is sent writes: those that a reset spares,
with the pair's configuration and lease among them, and the graph intake's, with the completion domains. -/
def steady (o : Nat) : Bool := spared o || (decide (0x700000 ≤ o) && decide (o < 0x800000))

theorem steady_of_spared (o : Nat) (h : spared o = true) : steady o = true := by simp [steady, h]

theorem steady_domain (d : Nat) (h : d < 1024) : steady (RegId.offset .GI_CD d 0) = true := by
  have e : RegId.offset .GI_CD d 0 = 0x704000 + 8 * d := by simp only [RegId.offset, RegId.desc]; omega
  simp only [steady, e, Bool.or_eq_true, Bool.and_eq_true, decide_eq_true_eq]
  omega

/-- The registers of stacks and tiles are not among them. -/
theorem not_steady_of_ge (o : Nat) (h : 0x800000 ≤ o) : steady o = false := by
  simp only [steady, not_spared_of_ge o h, Bool.false_or, Bool.and_eq_false_iff, decide_eq_false_iff_not]
  omega

theorem KeptAt.spared {s t : State} (h : KeptAt steady s t) : SparedKept s t := h.mono steady_of_spared

/-! ### The checks of an access -/

/-- What the checks of an access of HBM change: registers of the stacks, marks of errors that it corrects, and counts of
activates (R221, R224). -/
def HbmChecked (s t : State) : Prop :=
  t = { s with regs := t.regs, hbmCe := t.hbmCe, hbmOndie := t.hbmOndie, bankActs := t.bankActs } ∧ KeptAt steady s t

theorem HbmChecked.refl (s : State) : HbmChecked s s := ⟨rfl, KeptAt.refl s⟩

theorem HbmChecked.trans {s t u : State} (h : HbmChecked s t) (k : HbmChecked t u) : HbmChecked s u := by
  obtain ⟨h1, h2⟩ := h
  obtain ⟨k1, k2⟩ := k
  refine ⟨?_, h2.trans k2⟩
  rw [h1] at k1
  exact k1

theorem HbmChecked.mem {s t : State} (h : HbmChecked s t) : t.mem = s.mem := by rw [h.1]

theorem HbmChecked.hbmUe {s t : State} (h : HbmChecked s t) : t.hbmUe = s.hbmUe := by rw [h.1]

/-- A register of a stack or a tile written. -/
theorem HbmChecked.setFld (s : State) (f : Fld) (i j v : Nat) (h : 0x800000 ≤ f.reg.offset i j) :
    HbmChecked s (s.setFld f i j v) := ⟨rfl, KeptAt.setFld s f i j v (not_steady_of_ge _ h)⟩

theorem hbmEcc_ge (k : Nat) : 0x800000 ≤ RegId.offset .HBM_ECC k 0 := by simp only [RegId.offset, RegId.desc]; omega

theorem hbmUeLog_ge (k : Nat) : 0x800000 ≤ RegId.offset .HBM_UE_LOG k 0 := by simp only [RegId.offset, RegId.desc]; omega

theorem hbmEvt_ge (k : Nat) : 0x800000 ≤ RegId.offset .HBM_EVT k 0 := by simp only [RegId.offset, RegId.desc]; omega

theorem HbmChecked.logHbmUe (s : State) (a : Nat) (scrub : Bool) : HbmChecked s (s.logHbmUe a scrub) :=
  (HbmChecked.setFld s HBM_ECC_ue _ 0 _ (hbmEcc_ge _)).trans <|
    (HbmChecked.setFld _ HBM_UE_LOG_local _ 0 _ (hbmUeLog_ge _)).trans <|
      (HbmChecked.setFld _ HBM_UE_LOG_pc _ 0 _ (hbmUeLog_ge _)).trans <|
        (HbmChecked.setFld _ HBM_UE_LOG_scrub _ 0 _ (hbmUeLog_ge _)).trans <|
          (HbmChecked.setFld _ HBM_UE_LOG_valid _ 0 _ (hbmUeLog_ge _)).trans <|
            HbmChecked.setFld _ HBM_EVT_ue _ 0 _ (hbmEvt_ge _)

theorem HbmChecked.activateGranule (s : State) (g : Nat) : HbmChecked s (s.activateGranule g) :=
  ⟨rfl, KeptAt.of_eq rfl rfl⟩

theorem HbmChecked.correctGranule (s : State) (g : Nat) : HbmChecked s (s.correctGranule g) := by
  have count (u : State) (f : Fld) (k : Nat) (h : f.reg = .HBM_ECC) : HbmChecked u (u.satCount f k) :=
    HbmChecked.setFld u f k 0 _ (h ▸ hbmEcc_ge k)
  have ondie (u : State) (k : Nat) : HbmChecked u (if u.hbmOndie.contains g then
      { (u.satCount HBM_ECC_ondie k) with hbmOndie := u.hbmOndie.filter (· != g) } else u) := by
    split
    · exact (count u HBM_ECC_ondie k rfl).trans ⟨rfl, KeptAt.of_eq rfl rfl⟩
    · exact HbmChecked.refl u
  have ce (u : State) (k : Nat) : HbmChecked u (if u.hbmCe.contains g then
      { (u.satCount HBM_ECC_ce k) with hbmCe := u.hbmCe.filter (· != g) } else u) := by
    split
    · exact (count u HBM_ECC_ce k rfl).trans ⟨rfl, KeptAt.of_eq rfl rfl⟩
    · exact HbmChecked.refl u
  exact (ondie s _).trans (ce _ _)

theorem HbmChecked.correctHbm (gs : List Nat) (s : State) : HbmChecked s (s.correctHbm gs) := by
  induction gs generalizing s with
  | nil => exact HbmChecked.refl s
  | cons g gs ih =>
    exact (HbmChecked.activateGranule s g).trans ((HbmChecked.correctGranule _ g).trans (ih _))

/-! ### Writes -/

/-- What a write of HBM changes: beside what its checks change, memory and the marks of uncorrectable errors. -/
def HbmWritten (s t : State) : Prop :=
  t = { s with
      regs := t.regs, mem := t.mem, hbmUe := t.hbmUe, hbmCe := t.hbmCe, hbmOndie := t.hbmOndie, bankActs := t.bankActs }
    ∧ KeptAt steady s t

theorem HbmWritten.refl (s : State) : HbmWritten s s := ⟨rfl, KeptAt.refl s⟩

theorem HbmWritten.trans {s t u : State} (h : HbmWritten s t) (k : HbmWritten t u) : HbmWritten s u := by
  obtain ⟨h1, h2⟩ := h
  obtain ⟨k1, k2⟩ := k
  refine ⟨?_, h2.trans k2⟩
  rw [h1] at k1
  exact k1

theorem HbmChecked.written {s t : State} (h : HbmChecked s t) : HbmWritten s t := by
  obtain ⟨h1, h2⟩ := h
  exact ⟨by rw [h1], h2⟩

/-- The part of a write that falls in one granule is performed, and leaves no further granule with an uncorrectable error;
only where the granule holds one may it fail, and then it stores nothing. -/
theorem hbmWriteGranule_spec (s : State) (a : Nat) (bs : List Byte) :
    HbmWritten s (s.hbmWriteGranule a bs).2
      ∧ (((s.hbmWriteGranule a bs).1 = false ∧ (s.hbmWriteGranule a bs).2.mem = memStore s.mem (hbmKey a) bs
            ∧ ∀ g ∈ (s.hbmWriteGranule a bs).2.hbmUe, g ∈ s.hbmUe)
          ∨ (a / 64 ∈ s.hbmUe ∧ (s.hbmWriteGranule a bs).2.mem = s.mem)) := by
  have checked := HbmChecked.correctHbm [a / 64] s
  have store (u : State) (b : Nat) : HbmWritten u (u.store b bs) := ⟨rfl, KeptAt.of_eq rfl rfl⟩
  unfold State.hbmWriteGranule
  dsimp only
  split
  · exact ⟨((HbmChecked.activateGranule s _).written.trans (store _ _)).trans ⟨rfl, KeptAt.of_eq rfl rfl⟩,
      .inl ⟨rfl, rfl, fun g hg => (List.mem_filter.mp hg).1⟩⟩
  · split
    next bad =>
      have noted := checked.trans (HbmChecked.logHbmUe _ a false)
      exact ⟨noted.written, .inr ⟨by simpa using bad, noted.mem⟩⟩
    next =>
      refine ⟨checked.written.trans (store _ _), .inl ⟨rfl, ?_, fun g hg => ?_⟩⟩
      · simp only [State.store, checked.mem]
      · rwa [State.store_hbmUe, checked.hbmUe] at hg

theorem HbmWritten.hbmWriteAux (k : Nat) (s : State) (a : Nat) (bs : List Byte) :
    HbmWritten s (State.hbmWriteAux k s a bs).2 := by
  induction k generalizing s a bs with
  | zero => exact HbmWritten.refl s
  | succ k ih =>
    cases bs with
    | nil => exact HbmWritten.refl s
    | cons b bs => exact (hbmWriteGranule_spec s a _).1.trans (ih _ _ _)

theorem HbmWritten.hbmWrite (s : State) (a : Nat) (bs : List Byte) : HbmWritten s (s.hbmWrite a bs).2 :=
  HbmWritten.hbmWriteAux _ s a bs

/-- A list of bytes stored in two parts. -/
theorem memStore_take_drop (bs : List Byte) (n : Nat) (m : List Host.Cell) (a : Nat) :
    memStore (memStore m a (bs.take n)) (a + n) (bs.drop n) = memStore m a bs := by
  induction bs generalizing n m a with
  | nil => simp [memStore]
  | cons b bs ih =>
    cases n with
    | zero => rfl
    | succ n => simpa [memStore, Nat.add_assoc, Nat.add_comm 1 n] using ih n (memSet m a b) (a + 1)

theorem hbmKey_of_lt (a : Nat) (h : a < 2 ^ 40) : hbmKey a = a := Nat.mod_eq_of_lt h

/-- A write of HBM leaves every byte outside its range. -/
theorem memByte_hbmWriteAux_outside (k : Nat) (s : State) (a : Nat) (bs : List Byte) (b : Nat)
    (fits : a + bs.length ≤ 2 ^ 40) (hb : b < a ∨ a + bs.length ≤ b) :
    memByte (State.hbmWriteAux k s a bs).2.mem b = memByte s.mem b := by
  induction k generalizing s a bs with
  | zero => rfl
  | succ k ih =>
    cases bs with
    | nil => rfl
    | cons c cs =>
      simp only [List.length_cons] at fits hb
      have here : memByte (s.hbmWriteGranule a ((c :: cs).take (64 - a % 64))).2.mem b = memByte s.mem b := by
        obtain ⟨-, ⟨-, mem, -⟩ | ⟨-, mem⟩⟩ := hbmWriteGranule_spec s a ((c :: cs).take (64 - a % 64))
        · rw [mem, hbmKey_of_lt a (by omega), memByte_memStore_outside]
          simp only [List.length_take, List.length_cons]
          omega
        · rw [mem]
      by_cases more : 64 - a % 64 ≤ cs.length + 1
      · refine (ih _ _ _ ?_ ?_).trans here <;> (simp only [List.length_drop, List.length_cons]; omega)
      · have nil : (c :: cs).drop (64 - a % 64) = [] := List.drop_of_length_le (by simp only [List.length_cons]; omega)
        have rest (u : State) : (State.hbmWriteAux k u (a + (64 - a % 64)) []).2 = u := by cases k <;> rfl
        simp only [State.hbmWriteAux, nil, rest]
        exact here

theorem memByte_hbmWrite_outside (s : State) (a : Nat) (bs : List Byte) (b : Nat) (fits : a + bs.length ≤ 2 ^ 40)
    (hb : b < a ∨ a + bs.length ≤ b) : memByte (s.hbmWrite a bs).2.mem b = memByte s.mem b :=
  memByte_hbmWriteAux_outside _ s a bs b fits hb

/-- A write none of whose granules holds an uncorrectable error stores its bytes. -/
theorem hbmWriteAux_good (k : Nat) (s : State) (a : Nat) (bs : List Byte) (fuel : a % 64 + bs.length ≤ 64 * k)
    (fits : a + bs.length ≤ 2 ^ 40) (good : ∀ i, a ≤ i → i < a + bs.length → i / 64 ∉ s.hbmUe) :
    (State.hbmWriteAux k s a bs).1 = false ∧ (State.hbmWriteAux k s a bs).2.mem = memStore s.mem a bs := by
  induction k generalizing s a bs with
  | zero =>
    obtain rfl : bs = [] := List.length_eq_zero_iff.mp (by omega)
    exact ⟨rfl, rfl⟩
  | succ k ih =>
    cases bs with
    | nil => exact ⟨rfl, rfl⟩
    | cons c cs =>
      simp only [List.length_cons] at fuel fits good
      obtain ⟨-, ⟨fine, mem, left⟩ | ⟨bad, -⟩⟩ := hbmWriteGranule_spec s a ((c :: cs).take (64 - a % 64))
      · have rest : _ ∧ (State.hbmWriteAux k _ _ _).2.mem = memStore _ _ _ :=
          ih (s.hbmWriteGranule a ((c :: cs).take (64 - a % 64))).2 (a + (64 - a % 64)) ((c :: cs).drop (64 - a % 64))
          (by simp only [List.length_drop, List.length_cons]; omega)
          (by simp only [List.length_drop, List.length_cons]; omega)
          (fun i h1 h2 hi => good i (by omega) (by simp only [List.length_drop, List.length_cons] at h2; omega) (left _ hi))
        rw [mem, hbmKey_of_lt a (by omega), memStore_take_drop] at rest
        obtain ⟨fine', mem'⟩ := rest
        exact ⟨by simp only [State.hbmWriteAux, fine, fine', Bool.or_self], mem'⟩
      · exact absurd bad (good a (by omega) (by omega))

theorem mem_granules (a n i : Nat) (h1 : a ≤ i) (h2 : i < a + n) : i / 64 ∈ granules a n := by
  unfold granules
  rw [if_neg (by omega), List.mem_range'_1]
  omega

theorem hbmWrite_good (s : State) (a : Nat) (bs : List Byte) (fits : a + bs.length ≤ 2 ^ 40)
    (good : ∀ g ∈ granules a bs.length, g ∉ s.hbmUe) :
    (s.hbmWrite a bs).1 = false ∧ (s.hbmWrite a bs).2.mem = memStore s.mem a bs :=
  hbmWriteAux_good _ s a bs (by omega) fits fun i h1 h2 => good _ (mem_granules a _ i h1 h2)

end Sys2Proof.Machine
end

section
/-! SUPPORT. What a node that sends packets changes (R356, R361, R366), and what the receiver's bookkeeping leaves. -/
namespace Sys2Proof.Machine
open Sys2Proof.Safety

/-! ### Packets that are sent -/

/-- The registers that decide what a node keeps back, and where, are the same: those of its pair (R361). -/
theorem KeptAt.holds {s t : State} (h : SparedKept s t) :
    t.standby = s.standby ∧ t.fld RTR_PAIR_HOLD_base = s.fld RTR_PAIR_HOLD_base
      ∧ t.fld RTR_PAIR_HOLD_size_mib = s.fld RTR_PAIR_HOLD_size_mib := by
  refine ⟨?_, h.fld RTR_PAIR_HOLD_base 0 0 (by decide), h.fld RTR_PAIR_HOLD_size_mib 0 0 (by decide)⟩
  rw [State.standby, State.standby, State.paired, State.paired, h.flag RTR_PAIR_CTRL_enable 0 0 (by decide),
    h.fld RTR_PAIR_CTRL_role 0 0 (by decide)]

theorem memSent_of_mem {s t : State} (h : t.mem = s.mem) : MemSent s t := ⟨fun _ => h, fun _ _ => by rw [h]⟩

theorem MemSent.trans {s t u : State} (h : MemSent s t) (k : MemSent t u) (hr : SparedKept s t) : MemSent s u := by
  obtain ⟨h1, h2⟩ := h
  obtain ⟨k1, k2⟩ := k
  obtain ⟨standby, base, size⟩ := hr.holds
  rw [standby] at k1
  rw [base, size] at k2
  exact ⟨fun hs => (k1 hs).trans (h1 hs), fun b hb => (k2 b hb).trans (h2 b hb)⟩

/-- What a node that sends packets changes: the router's buffers, what the pair keeps, and on a standby the packets that
it stores in HBM (R361). -/
structure Sends (s t : State) : Prop where
  frame : t = { s with
    regs := t.regs, mem := t.mem, hbmUe := t.hbmUe, hbmCe := t.hbmCe, hbmOndie := t.hbmOndie, bankActs := t.bankActs
    input := t.input, pair := t.pair, fresh := t.fresh }
  kept : KeptAt steady s t
  mem : MemSent s t

theorem Sends.trans {s t u : State} (h : Sends s t) (k : Sends t u) : Sends s u := by
  obtain ⟨h1, h2, h3⟩ := h
  obtain ⟨k1, k2, k3⟩ := k
  refine ⟨?_, h2.trans k2, MemSent.trans h3 k3 h2.spared⟩
  rw [h1] at k1
  exact k1

theorem Sends.tiles {s t : State} (h : Sends s t) : t.tiles = s.tiles := by rw [h.frame]

theorem Sends.flagHold {s t : State} (h : Sends s t) : t.flagHold = s.flagHold := by rw [h.frame]

theorem Sends.refl (s : State) : Sends s s := ⟨rfl, KeptAt.refl s, memSent_of_mem rfl⟩

/-- A packet offered to the router, and what the pair keeps. -/
theorem Sends.offer (s : State) (port : Nat) (p : Packet) : Sends s (s.offer port p) :=
  ⟨rfl, KeptAt.of_eq rfl rfl, memSent_of_mem rfl⟩

theorem Sends.setPair (s : State) (x : Pair) : Sends s { s with pair := x } :=
  ⟨rfl, KeptAt.of_eq rfl rfl, memSent_of_mem rfl⟩

theorem Sends.of_sentFrom {s t : State} (h : SentFrom s t) : Sends s t := by
  obtain ⟨h1, h2⟩ := h
  exact ⟨by rw [h1], KeptAt.of_regsKept (by rw [h1]) h2 (by decide), memSent_of_mem (by rw [h1])⟩

@[simp] theorem length_bytesOfWords (ws : List Word64) : (bytesOfWords ws).length = 8 * ws.length := by
  induction ws with
  | nil => rfl
  | cons w ws ih =>
    simp only [bytesOfWords, List.flatMap_cons, List.length_append, length_bytesOf, List.length_cons] at ih ⊢
    omega

/-- A packet that finds room in a standby's hold is stored within the hold's region (R361). -/
theorem Sends.storeHold (s : State) (len : Nat) (hs : s.standby = true)
    (room : holdBytes s.pair.hold + 16 * len ≤ s.fld RTR_PAIR_HOLD_size_mib * 2 ^ 20) : Sends s (s.storeHold len) := by
  unfold State.storeHold
  dsimp only
  split
  next c =>
    simp only [Bool.and_eq_true, decide_eq_true_eq] at c
    obtain ⟨frame, kept⟩ := HbmWritten.hbmWrite { s with fresh := s.fresh + 2 * len }
      (s.fld RTR_PAIR_HOLD_base + holdBytes s.pair.hold)
      (bytesOfWords ((List.range (2 * len)).map fun i => Config.freeValue (s.fresh + i)))
    refine ⟨by rw [frame], (KeptAt.of_eq (s := s) rfl rfl).trans kept, fun n => by simp [n] at hs, fun b hb => ?_⟩
    have size : (bytesOfWords ((List.range (2 * len)).map fun i => Config.freeValue (s.fresh + i))).length = 16 * len := by
      simp only [length_bytesOfWords, List.length_map, List.length_range]
      omega
    have low : hbmKey (s.fld RTR_PAIR_HOLD_base) = s.fld RTR_PAIR_HOLD_base :=
      hbmKey_of_lt _ (fld_lt s RTR_PAIR_HOLD_base 0 0)
    rw [low] at hb
    exact memByte_hbmWrite_outside _ _ _ b (by omega) (by omega)
  next => exact Sends.refl s

/-- A standby keeps a packet back for which its hold has room, or whose note has come (R361). -/
theorem Sends.holdPacket (s : State) (port key : Nat) (p : Packet) (joined : Bool) (hs : s.standby = true)
    (room : s.pair.notes.any (fun n => n.1 == key) = false →
      holdBytes s.pair.hold + 16 * p.length ≤ s.fld RTR_PAIR_HOLD_size_mib * 2 ^ 20) :
    Sends s (s.holdPacket port key p joined) := by
  have keep (u : State) (su : Sends s u) (eu : u.pair.notes = s.pair.notes ∧ u.pair.hold = s.pair.hold) :
      Sends s (match lfind (fun n => n.1 == key) u.pair.notes with
        | some i => { u with pair := { u.pair with notes := ldel u.pair.notes i } }
        | none => { (u.storeHold p.length) with pair := { (u.storeHold p.length).pair with
            hold := (u.storeHold p.length).pair.hold ++ [⟨key, port, p, (u.storeHold p.length).now⟩] } }) := by
    obtain ⟨notes, hold⟩ := eu
    obtain ⟨standby, -, size⟩ := su.kept.spared.holds
    split
    next => exact su.trans (Sends.setPair _ _)
    next c =>
      refine su.trans ((Sends.storeHold u _ (standby.trans hs) ?_).trans (Sends.setPair _ _))
      rw [hold, size]
      exact room (List.any_eq_false.mpr fun n hn => ne_true_of_eq_false (lfind_none.mp (notes ▸ c) n hn))
  unfold State.holdPacket
  dsimp only
  cases joined
  · exact keep s (Sends.refl s) ⟨rfl, rfl⟩
  · exact keep _ ((Sends.offer s _ _).trans (Sends.setPair _ _)) ⟨rfl, rfl⟩

theorem Sends.sendKeyed (s : State) (port key : Nat) (p : Packet) (a b : Bool) : Sends s (s.sendKeyed port key p a b) := by
  by_cases hr : s.fld RTR_PAIR_CTRL_role = 2
  · unfold State.sendKeyed
    split
    next => exact Sends.offer s port _
    next c =>
      have hp : s.paired = true := by simp_all
      have hs : s.standby = true := by simp [State.standby, hp, hr]
      split
      · exact Sends.refl s
      · split
        · exact Sends.offer s port _
        · dsimp only
          split
          · exact Sends.trans ⟨rfl, KeptAt.setFld s RTR_PAIR_EVT_ledger_full 0 0 1 (by decide), memSent_of_mem rfl⟩
              (Sends.setPair _ _)
          next c' =>
            refine Sends.holdPacket s port key _ _ hs fun hn => ?_
            simp [hn, State.ledgerFull] at c'
            omega
  · exact Sends.of_sentFrom (sendKeyed_frame s port key p a b hr)

theorem Sends.respond (s : State) (port : Nat) (q : Packet) (i : Nat) (p : Packet) : Sends s (s.respond port q i p) :=
  Sends.sendKeyed s port _ p false false

theorem Sends.answerDiscard (s : State) (p : Packet) (cause : Nat) : Sends s (s.answerDiscard p cause) := by
  unfold State.answerDiscard
  split
  · exact Sends.respond s _ _ _ _
  · split
    · exact Sends.respond s _ _ _ _
    · exact (Sends.respond s _ _ _ _).trans ⟨rfl, KeptAt.of_eq rfl rfl, memSent_of_mem rfl⟩

theorem Sends.sendNaks (p : Packet) (refused : List (Nat × Word64)) (rs : List Nat) (s : State) :
    Sends s (s.sendNaks p refused rs) := by
  induction rs generalizing s with
  | nil => exact Sends.refl s
  | cons res rs ih =>
    simp only [State.sendNaks]
    split
    · exact ih s
    · exact (Sends.respond s _ _ _ _).trans (ih _)

/-! ### The receiver's bookkeeping -/

/-- Beside registers of other units and tiles nothing changes but what packets that are sent change. -/
structure Follows (s t : State) : Prop where
  kept : KeptAt steady s t
  flagHold : t.flagHold = s.flagHold
  mem : MemSent s t

theorem Follows.trans {s t u : State} (h : Follows s t) (k : Follows t u) : Follows s u :=
  ⟨h.kept.trans k.kept, k.flagHold.trans h.flagHold, MemSent.trans h.mem k.mem h.kept.spared⟩

theorem Follows.refl (s : State) : Follows s s := ⟨KeptAt.refl s, rfl, memSent_of_mem rfl⟩

theorem Sends.follows {s t : State} (h : Sends s t) : Follows s t := ⟨h.kept, h.flagHold, h.mem⟩

theorem Follows.setTile (s : State) (n : Nat) (x : Tile) : Follows s (s.setTile n x) :=
  ⟨KeptAt.of_eq rfl rfl, rfl, memSent_of_mem rfl⟩

theorem Follows.onTile (s : State) (n : Nat) (f : Tile → Tile) : Follows s (s.onTile n f) := Follows.setTile s n _

theorem Follows.setFld (s : State) (f : Fld) (i j v : Nat) (h : steady (f.reg.offset i j) = false) :
    Follows s (s.setFld f i j v) := ⟨KeptAt.setFld s f i j v h, rfl, memSent_of_mem rfl⟩

/-- A register of a tile written. -/
theorem Follows.setTileFld (s : State) (f : Fld) (i j v : Nat) (h : 0x800000 ≤ f.reg.desc.base) :
    Follows s (s.setFld f i j v) :=
  Follows.setFld s f i j v (not_steady_of_ge _ (by simp only [RegId.offset]; omega))

theorem Follows.of_tallyOnly {n : Nat} {s t : State} (h : TallyOnly n s t) : Follows s t := by
  obtain ⟨h1, h2⟩ := h
  refine ⟨KeptAt.of_regsKept (by rw [h1]) h2 fun o ho => ?_, by rw [h1], memSent_of_mem (by rw [h1])⟩
  obtain ⟨i, -, rfl⟩ := List.mem_map.mp ho
  exact not_steady_of_ge _ (by simp only [RegId.offset, RegId.desc]; omega)

theorem Follows.tallyInbound (s : State) (a part : Nat) (refused : Bool) : Follows s (s.tallyInbound a part refused) := by
  unfold State.tallyInbound
  split
  · split
    · exact Follows.of_tallyOnly (tallyFor_frame s _ _ _ _)
    · exact Follows.refl s
  · exact Follows.refl s

theorem tiles_tallyInbound (s : State) (a part : Nat) (refused : Bool) :
    (s.tallyInbound a part refused).tiles = s.tiles := by
  unfold State.tallyInbound
  split
  · split
    · rw [(tallyFor_frame s _ _ _ _).1]
    · rfl
  · rfl

theorem Follows.take (s : State) (p : Packet) : Follows s (s.take p) := by
  have h := take_frame s p
  exact ⟨KeptAt.of_eq (by rw [h]) (by rw [h]), by rw [h], memSent_of_mem (by rw [h])⟩

/-! ### Entries of token packets -/

theorem Follows.markSlot (s : State) (n k : Nat) : Follows s (s.markSlot n k) := by
  unfold State.markSlot
  dsimp only
  split
  · exact Follows.onTile s n _
  · exact Follows.refl s

theorem Follows.tokenOverflow (s : State) (n : Nat) (c : Bool) :
    Follows s (if c then s.event TL_EVT_token_overflow n else s) := by
  split
  · exact Follows.setTileFld s TL_EVT_token_overflow n 0 1 (by decide)
  · exact Follows.refl s

/-- An entry taken by its tile (R63, R65). -/
theorem Follows.applyEntry (s : State) (credit : Bool) (w : Word64) : Follows s (s.applyEntry credit w) := by
  unfold State.applyEntry
  dsimp only
  split
  · exact (Follows.setTile s _ _).trans <| (Follows.tokenOverflow _ _ _).trans <|
      (Follows.of_tallyOnly (tally_frame _ _ _ _)).trans (Follows.markSlot _ _ _)
  · split
    · exact (Follows.setTile s _ _).trans (Follows.tokenOverflow _ _ _)
    · exact Follows.setTile s _ _

theorem Follows.applyEntries (p : Packet) (credit : Bool) (ws : List Word64) (s : State) :
    Follows s (s.applyEntries p credit ws).2 := by
  induction ws generalizing s with
  | nil => exact Follows.refl s
  | cons w ws ih =>
    simp only [State.applyEntries]
    split
    · exact (Follows.applyEntry s credit w).trans (ih _)
    · exact ih s

theorem Follows.applyTokens (s : State) (p : Packet) : Follows s (s.applyTokens p) :=
  (Follows.applyEntries p _ _ s).trans (Sends.sendNaks p _ _ _).follows

end Sys2Proof.Machine
end

section
/-! SUPPORT. Data packets as their receiver takes them up (R184, R206, R258, R276): what they store, and where they are
counted. -/
namespace Sys2Proof.Machine
open Sys2Proof.Safety

/-! ### Data performed -/

/-- The data of a packet performed: memory holds its bytes, and what counts packets and what holds them is as before. -/
structure Performs (a : Nat) (bs : List Byte) (s t : State) : Prop where
  mem : t.mem = memStore s.mem (byteKey a) bs
  kept : KeptAt steady s t
  flagHold : t.flagHold = s.flagHold
  puts : ∀ n, (t.tile n).puts = (s.tile n).puts

theorem kept_spadWrite (s : State) (n off : Nat) (bs : List Byte) : KeptAt steady s (s.spadWrite n off bs) := by
  have noted : KeptAt steady s (s.noteSpadUe n (spadWords off bs.length)) := by
    unfold State.noteSpadUe
    split
    · exact (Follows.setTileFld s TL_EVT_spad_ue n 0 1 (by decide)).kept.trans
        (Follows.setTileFld _ TL_ECC_last_ue_offset n 0 _ (by decide)).kept
    · exact KeptAt.refl s
  exact noted.trans (KeptAt.of_eq rfl rfl)

/-- Data for a scratchpad, or for a good range of HBM in service, is performed (R206, R221). -/
theorem perform_good (s : State) (a : Nat) (bs : List Byte) (good : HbmGood a bs.length s) :
    (s.perform a bs).1 = 0 ∧ Performs a bs s (s.perform a bs).2 := by
  by_cases h : gaSpace a = 0
  · obtain ⟨on, fits, clean⟩ := good h
    obtain ⟨fine, mem⟩ := hbmWrite_good s (gaHbm a) bs fits clean
    obtain ⟨frame, kept⟩ := HbmWritten.hbmWrite s (gaHbm a) bs
    have e : s.perform a bs = (0, (s.hbmWrite (gaHbm a) bs).2) := by simp [State.perform, h, on, fine]
    rw [e]
    refine ⟨rfl, ?_, kept, by rw [frame], fun n => by rw [frame]; rfl⟩
    rw [mem, byteKey, if_pos h, hbmKey_of_lt (gaHbm a) (bitsOf_lt a 39 0)]
  · have e : s.perform a bs = (0, s.spadWrite (gaTile a) (gaSpad a) bs) := if_neg h
    obtain ⟨frame, others, tile, mem⟩ := spadWritten_spadWrite s (gaTile a) (gaSpad a) bs
    rw [e]
    refine ⟨rfl, ?_, kept_spadWrite s _ _ _, by rw [frame], fun n => ?_⟩
    · rw [mem, byteKey, if_neg h]
    · by_cases hn : n = gaTile a
      · rw [hn, tile]
      · rw [others n hn]

/-- Bytes that stand in memory before packets are sent are stored, whatever is sent. -/
theorem stored_of_memSent {a : Nat} {bs : List Byte} {s u t : State} (hm : memWf s.mem = true)
    (mem : u.mem = memStore s.mem a bs) (kept : SparedKept s u) (sent : MemSent u t) : Stored a bs s t := by
  obtain ⟨same, outside⟩ := sent
  obtain ⟨standby, base, size⟩ := kept.holds
  rw [standby] at same
  rw [base, size] at outside
  refine ⟨fun hs => ?_, fun b hb hh => ?_⟩
  · have e : t.mem = memStore s.mem a bs := (same hs).trans mem
    exact ⟨by rw [e, memLoad_memStore _ _ _ hm], fun b hb => by rw [e, memByte_memStore_outside _ _ _ _ hb]⟩
  · rw [outside b hh, mem, memByte_memStore_outside _ _ _ _ hb]

/-! ### Completion domains -/

theorem countPacket_zero (s : State) (d src seq : Nat) : s.countPacket d 0 src seq = s.countDomain d := rfl

theorem countPacket_uncounted (s : State) (d cause src seq : Nat) (h : cause = 3 ∨ cause = 8) :
    s.countPacket d cause src seq = s := by
  rcases h with rfl | rfl <;> rfl

theorem kept_countDomain (s : State) (d : Nat) : SparedKept s (s.countDomain d) := by
  refine KeptAt.setFld s GI_CD_count d 0 _ ?_
  have e : GI_CD_count.reg.offset d 0 = 0x704000 + 8 * d := by simp only [GI_CD_count, RegId.offset, RegId.desc]; omega
  rw [e, Bool.eq_false_iff, ne_eq, spared_iff]
  omega

theorem count_countDomain_same (s : State) (d : Nat) :
    (s.countDomain d).fld GI_CD_count d = (s.fld GI_CD_count d + 1) % 2 ^ 32 := by
  rw [State.countDomain, State.wrapCount, fld_setFld_same _ _ _ _ _ (by decide)]
  exact Nat.mod_mod _ _

theorem count_countDomain_other (s : State) (d e : Nat) (h : e ≠ d) :
    (s.countDomain d).fld GI_CD_count e = s.fld GI_CD_count e :=
  fld_setFld_other s _ _ _ _ _ _ _ (by simp only [GI_CD_count, RegId.offset, RegId.desc]; omega)

/-- The counts of the domains are among the registers that packets leave. -/
theorem KeptAt.count {s t : State} (h : KeptAt steady s t) (d : Nat) (hd : d < 1024) :
    t.fld GI_CD_count d = s.fld GI_CD_count d := h.fld GI_CD_count d 0 (steady_domain d hd)

/-! ### The receiver's checks -/

/-- Taking a packet from the delivered list leaves what the receiver checks. -/
theorem receiveCheck_take (s : State) (q p : Packet) (a n : Nat) (wr : Bool) (doms : List Nat) :
    (s.take q).receiveCheck p a n wr doms = s.receiveCheck p a n wr doms := by
  rw [take_frame]; rfl

theorem mem_take (s : State) (q : Packet) : (s.take q).mem = s.mem := by rw [take_frame]

theorem tiles_take (s : State) (q : Packet) : (s.take q).tiles = s.tiles := by rw [take_frame]

theorem tile_take (s : State) (q : Packet) (n : Nat) : (s.take q).tile n = s.tile n := tile_of_tiles (tiles_take s q) n

theorem staleFor_take (s : State) (q p : Packet) : (s.take q).staleFor p = s.staleFor p := by
  rw [take_frame]; rfl

theorem epochCheck_take (s : State) (q p : Packet) (h : s.epochCheck p = (true, s)) :
    (s.take q).epochCheck p = (true, s.take q) := by
  have entry : (s.take q).rankEntry p.src = s.rankEntry p.src := by rw [take_frame]; rfl
  unfold State.epochCheck at h ⊢
  rw [entry]
  generalize s.rankEntry p.src = r at h ⊢
  rw [take_frame]
  cases r with
  | none => rfl
  | some i =>
    dsimp only at h ⊢
    split at h
    next same => exact if_pos same
    next other =>
      split at h
      next newer =>
        have kept : s.setFld RTR_RANK_TBL_epoch i 0 p.epoch = s := (Prod.mk.inj h).2
        exact (if_neg other).trans <| (if_pos newer).trans <|
          congrArg (fun u : State => (true, { u with delivered := (s.take q).delivered })) kept
      next => exact absurd (Prod.mk.inj h).1 (by decide)

theorem TakenUp.take {p : Packet} {s : State} (h : TakenUp p s) (q : Packet) : TakenUp p (s.take q) := by
  obtain ⟨status, stale, epoch⟩ := h
  exact ⟨status, (staleFor_take s q p).trans stale, epochCheck_take s q p epoch⟩

/-- Where the epoch is the one that the rank table holds, the checks of R276 find what the receiver's own find. -/
theorem checkPacket_of_takenUp {p : Packet} {s : State} (h : TakenUp p s) (a n : Nat) (wr : Bool) (doms : List Nat) :
    s.checkPacket p a n wr doms = (s.receiveCheck p a n wr doms, s) := by
  obtain ⟨-, -, epoch⟩ := h
  unfold State.checkPacket
  dsimp only
  split
  · rfl
  next c =>
    have ok : s.receiveCheck p a n wr doms = 0 := by simpa using c
    rw [epoch, ok]
    rfl

/-! ### WRITE and GET_DATA -/

/-- A data packet checked, performed and counted in its domain (R192, R198). -/
def State.counted (s : State) (p : Packet) : State :=
  let r := (s.take p).arrive p [p.domain]
  r.2.countPacket p.domain r.1 p.src p.sequence

/-- A WRITE is followed by bookkeeping and by its completion. -/
theorem completes_write {p : Packet} {s : State} (h : TakenUp p s) : Completes (.write p) s (Follows (s.counted p)) := by
  obtain ⟨status, stale, -⟩ := TakenUp.take h p
  have e : exec (.write p) s = _ := (if_neg (by simp [stale])).trans (if_neg status)
  have tallied (c : Bool) : Follows (s.counted p) ((s.counted p).tallyInbound p.ownAddr p.partition c) :=
    Follows.tallyInbound _ _ _ c
  dsimp only at e
  split at e
  next asksCompletion => exact ⟨_, e, (tallied _).trans (Sends.respond _ _ _ _ _).follows⟩
  split at e
  next localCopy =>
    split at e
    next awaited =>
      split at e
      · exact ⟨_, e, tallied _⟩
      · exact ⟨_, e, (tallied _).trans (Follows.onTile _ _ _)⟩
    next => exact ⟨_, e, tallied _⟩
  next => exact ⟨_, e, tallied _⟩

/-- A GET_DATA that brings the data of no put is followed by bookkeeping (R164). -/
theorem completes_getData {p : Packet} {s : State} (h : TakenUp p s)
    (hf : ((s.counted p).tile (pcSrcTile p.control)).fetchedPut (pcChan p.control) p = none) :
    Completes (.getData p) s (Follows (s.counted p)) := by
  obtain ⟨status, stale, -⟩ := TakenUp.take h p
  have e : exec (.getData p) s = _ := (if_neg (by simp [stale])).trans (if_neg status)
  have late (u : State) : Follows u u.late := Follows.setFld u MGT_PEER_STAT_late 0 0 _ (by decide)
  have tallied (c : Bool) : Follows (s.counted p) ((s.counted p).tallyInbound p.ownAddr p.partition c) :=
    Follows.tallyInbound _ _ _ c
  have noted (u : State) (n ch : Nat) : Follows u (if p.status = 1 then u.dmaCause n ch 2 else u) := by
    split
    · exact Follows.setTileFld u TL_DMA_STAT_last_cause n ch 2 (by decide)
    · exact Follows.refl u
  have tiles (u : State) (c : Prop) [Decidable c] (n ch : Nat) : (if c then u.dmaCause n ch 2 else u).tiles = u.tiles := by
    split <;> rfl
  dsimp only at e
  split at e
  next noTile => exact ⟨_, e, (tallied _).trans (late _)⟩
  split at e
  next awaited =>
    split at e
    next put =>
      rw [tile_of_tiles ((tiles _ _ _ _).trans (tiles_tallyInbound _ _ _ _))] at put
      exact absurd (hf.symm.trans put) (by simp)
    next => exact ⟨_, e, ((tallied _).trans (noted _ _ _)).trans (Follows.onTile _ _ _)⟩
  next => exact ⟨_, e, ((tallied _).trans (noted _ _ _)).trans (late _)⟩

/-- A data packet that passes the checks and meets no error is performed, and counted once. -/
theorem counted_good {p : Packet} {s : State} (h : TakenUp p s) (status : p.status = 0)
    (check : s.receiveCheck p p.ownAddr p.payloadBytes.length true [p.domain] = 0)
    (good : HbmGood p.ownAddr p.payloadBytes.length s) :
    ∃ u, Performs p.ownAddr p.payloadBytes s u ∧ s.counted p = u.countDomain p.domain := by
  have taken := Follows.take s p
  have goodTaken : HbmGood p.ownAddr p.payloadBytes.length (s.take p) := by rw [take_frame]; exact good
  obtain ⟨fine, mem, kept, flagHold, puts⟩ := perform_good (s.take p) p.ownAddr p.payloadBytes goodTaken
  refine ⟨_, ⟨mem.trans (by rw [mem_take]), taken.kept.trans kept, flagHold.trans taken.flagHold,
    fun n => (puts n).trans (by rw [tile_take])⟩, ?_⟩
  have arrived : (s.take p).arrive p [p.domain] = (s.take p).perform p.ownAddr p.payloadBytes := by
    simp [State.arrive, checkPacket_of_takenUp (TakenUp.take h p), receiveCheck_take, check, status]
  simp only [State.counted, arrived, fine, countPacket_zero]

/-- A data packet that the checks refuse with cause 3 or 8 is stored and counted nowhere (R198). -/
theorem counted_refused {p : Packet} {s : State} (h : TakenUp p s) (cause : Nat) (hc : cause = 3 ∨ cause = 8)
    (check : s.receiveCheck p p.ownAddr p.payloadBytes.length true [p.domain] = cause) : s.counted p = s.take p := by
  have arrived : (s.take p).arrive p [p.domain] = (cause, s.take p) := by
    simp only [State.arrive, checkPacket_of_takenUp (TakenUp.take h p), receiveCheck_take, check]
    exact if_pos (by rcases hc with rfl | rfl <;> rfl)
  simp only [State.counted, arrived, countPacket_uncounted _ _ _ _ _ hc]

end Sys2Proof.Machine
end

section
/-! Data packets and flagged writes (O18). -/
namespace Sys2Proof.Machine
open Sys2Proof.Safety

/-! ### WRITE and GET_DATA -/

theorem fetchedPut_congr {x y : Tile} (h : x.puts = y.puts) (ch : Nat) (p : Packet) :
    x.fetchedPut ch p = y.fetchedPut ch p := by simp only [Tile.fetchedPut, h]

/-- A WRITE, or a GET_DATA that brings the data of no put, is followed by bookkeeping and packets alone. -/
theorem completes_counted {p : Packet} {s : State} {c : Instr} (hc : c = .write p ∨ c = .getData p) (h : TakenUp p s)
    (noPut : c = .getData p → (s.tile (pcSrcTile p.control)).fetchedPut (pcChan p.control) p = none)
    (puts : ∀ n, ((s.counted p).tile n).puts = (s.tile n).puts) : Completes c s (Follows (s.counted p)) := by
  rcases hc with rfl | rfl
  · exact completes_write h
  · exact completes_getData h ((fetchedPut_congr (puts _) _ _).trans (noPut rfl))

/-- A data packet that passes the checks is stored, and counted once in its domain (R184, R192, R206). -/
theorem dataPacket_stored {p : Packet} {s : State} {c : Instr} (hc : c = .write p ∨ c = .getData p)
    (hm : memWf s.mem = true) (h : TakenUp p s) (hd : p.domain < 1024)
    (noPut : c = .getData p → (s.tile (pcSrcTile p.control)).fetchedPut (pcChan p.control) p = none)
    (status : p.status = 0) (check : s.receiveCheck p p.ownAddr p.payloadBytes.length true [p.domain] = 0)
    (good : HbmGood p.ownAddr p.payloadBytes.length s) :
    Completes c s fun t =>
      Stored (byteKey p.ownAddr) p.payloadBytes s t
        ∧ t.fld GI_CD_count p.domain = (s.fld GI_CD_count p.domain + 1) % 2 ^ 32
        ∧ ∀ d, d < 1024 → d ≠ p.domain → t.fld GI_CD_count d = s.fld GI_CD_count d := by
  obtain ⟨u, ⟨mem, kept, -, puts⟩, counted⟩ := counted_good h status check good
  obtain ⟨t, ht, follows⟩ := completes_counted hc h noPut (by rw [counted]; exact puts)
  rw [counted] at follows
  refine ⟨t, ht, ?_, ?_, fun d hd' ne => ?_⟩
  · exact stored_of_memSent (u := u.countDomain p.domain) hm mem (kept.spared.trans (kept_countDomain u _)) follows.mem
  · rw [follows.kept.count _ hd, count_countDomain_same, kept.count _ hd]
  · rw [follows.kept.count _ hd', count_countDomain_other _ _ _ ne, kept.count _ hd']

/-- One that is refused with cause 3 or 8 is neither stored nor counted (R198). -/
theorem dataPacket_refused {p : Packet} {s : State} {c : Instr} (hc : c = .write p ∨ c = .getData p) (h : TakenUp p s)
    (noPut : c = .getData p → (s.tile (pcSrcTile p.control)).fetchedPut (pcChan p.control) p = none) (cause : Nat)
    (check : s.receiveCheck p p.ownAddr p.payloadBytes.length true [p.domain] = cause) (refused : cause = 3 ∨ cause = 8) :
    Completes c s fun t => MemSent s t ∧ ∀ d, d < 1024 → t.fld GI_CD_count d = s.fld GI_CD_count d := by
  have counted := counted_refused h cause refused check
  obtain ⟨t, ht, follows⟩ := completes_counted hc h noPut fun n => by rw [counted, tile_take]
  obtain ⟨kept, -, mem⟩ := (Follows.take s p).trans (counted ▸ follows)
  exact ⟨t, ht, mem, fun d hd => kept.count d hd⟩

/-! ### Malformed packets -/

/-- The commands with which a unit takes up a packet (R258). -/
def receptions (p : Packet) (l : List Nat) : List Instr :=
  [.intakeReq p, .graph p, .token p, .credit p, .tokenNak ⟨p, l⟩, .intakeGrantReceive p, .write p, .flaggedWrite p,
    .getReq p, .getData p, .completion p, .foldData p, .foldCredit p, .foldResend p, .foldConfirm p, .foldReleaseMsg p,
    .foldFault p, .foldAbortMsg p, .grant p, .bump p, .note p, .join p, .ack p, .lost p, .peerState p, .mgmtReq p,
    .musterData p l, .musterPoll p, .musterReport p, .musterClose p]

/-- Each of them discards a packet with status 3, before or after it asks whether a stale node leaves the packet alone. -/
theorem exec_malformed {p : Packet} {s : State} (l : List Nat) (stale : s.staleFor p = false) (status : p.status = 3) :
    ∀ c ∈ receptions p l, exec c s = .next (s.take p).dropMalformed := by
  have first (rest : Host.Outcome State Fault Refusal) :
      (if p.status = 3 then .next (s.take p).dropMalformed else rest) = .next (s.take p).dropMalformed := if_pos status
  have second (rest : Host.Outcome State Fault Refusal) :
      (if (s.take p).staleFor p then .next (s.take p)
        else if p.status = 3 then .next (s.take p).dropMalformed else rest) = .next (s.take p).dropMalformed :=
    (if_neg (by simp [staleFor_take, stale])).trans (if_pos status)
  simp only [receptions, List.forall_mem_cons]
  exact ⟨first _, if_pos (by simp [status]), first _, first _, first _, first _, second _, second _,
    second _, second _, second _, first _, first _, first _, first _, first _,
    first _, first _, first _, first _, first _, first _, first _, first _, first _, first _,
    first _, first _, first _, first _, by simp⟩

theorem satAdd_eq_min (m a n : Nat) : satAdd m a n = min m (a + n) := by
  unfold satAdd
  split <;> omega

/-- A malformed packet is counted at the port of the management complex and changes nothing else (log entry 51). -/
theorem dropMalformed_take (s : State) (p : Packet) :
    (s.take p).dropMalformed
        = { s with delivered := (s.take p).dropMalformed.delivered, regs := (s.take p).dropMalformed.regs }
      ∧ RegsKept [RegId.RTR_PORT_STAT.offset portM 0] s (s.take p).dropMalformed
      ∧ (s.take p).dropMalformed.fld RTR_PORT_STAT_malformed portM
          = min RTR_PORT_STAT_malformed.max (s.fld RTR_PORT_STAT_malformed portM + 1) := by
  have taken := take_frame s p
  generalize s.take p = u at taken ⊢
  have fields : ∀ f i, u.fld f i = s.fld f i := fun f i => by rw [taken]; rfl
  refine ⟨by rw [taken]; rfl, ?_, ?_⟩
  · exact RegsKept.trans (RegsKept.of_eq (by rw [taken]) (by rw [taken]))
      (RegsKept.setFld u RTR_PORT_STAT_malformed portM 0 _ (by simp [RTR_PORT_STAT_malformed]))
  · rw [State.dropMalformed, State.countMalformed, State.satCount, fld_setFld_same _ _ _ _ _ (by decide), fields,
      satAdd_eq_min]
    exact Nat.mod_eq_of_lt (Nat.lt_of_le_of_lt (Nat.min_le_left _ _) (by decide))

/-! ### Flagged writes -/

/-- A flagged write applied (R202, R203) stores its data; the buffer is as before. -/
theorem applyFlaggedWrite_stored (s : State) (p : Packet) (hm : memWf s.mem = true)
    (good : HbmGood p.ownAddr p.payloadBytes.length s) :
    Stored (byteKey p.ownAddr) p.payloadBytes s (s.applyFlaggedWrite p)
      ∧ (s.applyFlaggedWrite p).flagHold = s.flagHold := by
  obtain ⟨fine, mem, kept, flagHold, -⟩ := perform_good s p.ownAddr p.payloadBytes good
  generalize hr : s.perform p.ownAddr p.payloadBytes = r at fine mem kept flagHold
  obtain ⟨cause, u⟩ := r
  obtain rfl : cause = 0 := fine
  have e : s.perform (bitsOf p.addr 47 0) (bytesOfWords p.payload) = (0, u) := hr
  have counted (v : State) (keptV : SparedKept u v) (memV : v.mem = u.mem) (holdV : v.flagHold = u.flagHold) :
      Stored (byteKey p.ownAddr) p.payloadBytes s
          ((v.tallyInbound (bitsOf p.addr 47 0) p.partition false).respond (addrPort p.addr) p 0 (completionOf p 0 0))
        ∧ ((v.tallyInbound (bitsOf p.addr 47 0) p.partition false).respond (addrPort p.addr) p 0
          (completionOf p 0 0)).flagHold = s.flagHold := by
    obtain ⟨-, hold, sent⟩ := (Follows.tallyInbound v (bitsOf p.addr 47 0) p.partition false).trans
      (Sends.respond _ (addrPort p.addr) p 0 (completionOf p 0 0)).follows
    exact ⟨stored_of_memSent hm (memV.trans mem) (kept.spared.trans keptV) sent, hold.trans (holdV.trans flagHold)⟩
  unfold State.applyFlaggedWrite
  rw [e]
  cases sigDom p with
  | none => exact counted u (KeptAt.refl u) rfl rfl
  | some d => exact counted (u.countDomain d) (kept_countDomain u d) rfl rfl

/-- What comes of a flagged write by what the flag-hold buffer does with it (R201). -/
def State.flagActed (s : State) (p : Packet) (q : Nat) : FlagAction → State
  | .discard => s.answerDiscard p 6
  | .apply => s.applyFlaggedWrite p
  | .hold => s.holdFlag p q
  | .retry => ((s.eventBit GI_CD_EVT_fh_refused q).satCount GI_FH_STAT_retries).respond portM p 0 (completionOf p 2 0)

/-- A flagged write that passes the checks is left to the flag-hold buffer. -/
theorem exec_flaggedWrite {p : Packet} {s : State} {q : Nat} (h : TakenUp p s) (status : p.status = 0)
    (pad : s.padOfPartition p.partition = some q)
    (check : s.receiveCheck p p.ownAddr p.payloadBytes.length true (p.domain :: (sigDom p).toList) = 0) :
    exec (.flaggedWrite p) s = .next ((s.take p).flagActed p q ((s.take p).flagAction p q)) := by
  have padTaken : (s.take p).padOfPartition p.partition = some q := by rw [take_frame]; exact pad
  have checked : (s.take p).checkPacket p p.ownAddr p.payloadBytes.length true (p.domain :: (sigDom p).toList)
      = (0, s.take p) := by
    rw [checkPacket_of_takenUp (TakenUp.take h p), receiveCheck_take, check]
  obtain ⟨-, stale, -⟩ := TakenUp.take h p
  have e : exec (.flaggedWrite p) s = execFlaggedWrite p s := rfl
  rw [e, execFlaggedWrite]
  simp only [stale, checked, padTaken, Packet.sentCause, status]
  cases (s.take p).flagAction p q <;> rfl

/-- What the buffer decides of a flagged write (R201), told by the state before it was taken. -/
theorem flagAction_take {p : Packet} {s : State} {q : Nat} (hp : p.type = tFLAGGED_WRITE) :
    (s.take p).flagAction p q
      = if s.flag GI_CD_err p.domain then .discard
        else if s.reached p.domain (pcExt p.control) then .apply
        else if decide (s.flagHold.length < 256)
            && decide ((s.flagHold.filter fun h => h.pad == q).length < s.fhQuota q) then .hold
        else .retry := by
  have e : expectOf p = pcExt p.control := if_pos hp
  rw [State.flagAction, e, take_frame]
  rfl

theorem stored_take {a : Nat} {bs : List Byte} {s t : State} {p : Packet} (h : Stored a bs (s.take p) t) :
    Stored a bs s t := by
  rw [take_frame] at h
  exact h

/-- A held packet waits behind those before it; only the peak of the occupancy may change beside (R200, R211). -/
theorem holdFlag_frame (s : State) (p : Packet) (q : Nat) :
    (s.holdFlag p q).mem = s.mem ∧ (s.holdFlag p q).tiles = s.tiles
      ∧ (s.holdFlag p q).flagHold = s.flagHold ++ [⟨p, q⟩] := by
  unfold State.holdFlag
  dsimp only
  split <;> exact ⟨rfl, rfl, rfl⟩

section
variable {p : Packet} {s : State} {q : Nat} (h : TakenUp p s) (status : p.status = 0)
  (pad : s.padOfPartition p.partition = some q)
  (check : s.receiveCheck p p.ownAddr p.payloadBytes.length true (p.domain :: (sigDom p).toList) = 0)
  (hp : p.type = tFLAGGED_WRITE)
include h status pad check hp

/-- A flagged write whose domain has reached its expected value is applied at once. -/
theorem flaggedWrite_applied (hm : memWf s.mem = true) (err : s.flag GI_CD_err p.domain = false)
    (reached : s.reached p.domain (pcExt p.control) = true) (good : HbmGood p.ownAddr p.payloadBytes.length s) :
    Completes (.flaggedWrite p) s fun t =>
      Stored (byteKey p.ownAddr) p.payloadBytes s t ∧ t.flagHold = s.flagHold := by
  have action : (s.take p).flagAction p q = .apply := by simp [flagAction_take hp, err, reached]
  have e := exec_flaggedWrite h status pad check
  rw [action] at e
  have goodTaken : HbmGood p.ownAddr p.payloadBytes.length (s.take p) := by rw [take_frame]; exact good
  obtain ⟨stored, hold⟩ := applyFlaggedWrite_stored (s.take p) p ((mem_take s p).symm ▸ hm) goodTaken
  exact ⟨_, e, stored_take stored, hold.trans (Follows.take s p).flagHold⟩

/-- One whose domain has not reached it waits, where the buffer and its paddock's quota have room. -/
theorem flaggedWrite_held (err : s.flag GI_CD_err p.domain = false)
    (reached : s.reached p.domain (pcExt p.control) = false) (room : s.flagHold.length < 256)
    (quota : (s.flagHold.filter fun h => h.pad == q).length < s.fhQuota q) :
    Completes (.flaggedWrite p) s fun t => t.mem = s.mem ∧ t.tiles = s.tiles ∧ t.flagHold = s.flagHold ++ [⟨p, q⟩] := by
  have action : (s.take p).flagAction p q = .hold := by simp [flagAction_take hp, err, reached, room, quota]
  have e := exec_flaggedWrite h status pad check
  rw [action] at e
  have held := holdFlag_frame (s.take p) p q
  exact ⟨_, e, by rwa [take_frame] at held ⊢⟩

/-- One whose domain has an error is discarded. -/
theorem flaggedWrite_discarded (err : s.flag GI_CD_err p.domain = true) :
    Completes (.flaggedWrite p) s fun t => MemSent s t ∧ t.tiles = s.tiles ∧ t.flagHold = s.flagHold := by
  have action : (s.take p).flagAction p q = .discard := by simp [flagAction_take hp, err]
  have e := exec_flaggedWrite h status pad check
  rw [action] at e
  have sends := Sends.answerDiscard (s.take p) p 6
  exact ⟨_, e, MemSent.trans (Follows.take s p).mem sends.mem (Follows.take s p).kept.spared,
    sends.tiles.trans (tiles_take s p), sends.flagHold.trans (Follows.take s p).flagHold⟩

end

/-! ### The flag-hold buffer -/

/-- The first eligible entry is applied, and leaves the buffer (R202). -/
theorem exec_flagHoldApply {k : Nat} {s : State} {h : HeldFlag} (at_ : s.flagHold[k]? = some h) (el : s.eligible h = true)
    (firstOne : ∀ g ∈ s.flagHold.take k, s.eligible g = false) :
    exec (.flagHoldApply k) s = .next ({ s with flagHold := ldel s.flagHold k }.applyHeld h.packet) := by
  have noneBefore : (s.flagHold.take k).any s.eligible = false :=
    List.any_eq_false.mpr fun g hg => ne_true_of_eq_false (firstOne g hg)
  have e : exec (.flagHoldApply k) s = execFlagHoldApply k s := rfl
  simp only [e, execFlagHoldApply, at_, el, noneBefore]
  rfl

theorem exec_flagHoldApply_waits {k : Nat} {s : State} {h : HeldFlag} (at_ : s.flagHold[k]? = some h)
    (el : s.eligible h = false) : exec (.flagHoldApply k) s = .next s := by
  have e : exec (.flagHoldApply k) s = execFlagHoldApply k s := rfl
  simp only [e, execFlagHoldApply, at_, el]
  rfl

/-- A held flagged write applied. -/
theorem heldWrite_applied {k : Nat} {s : State} {h : HeldFlag} (at_ : s.flagHold[k]? = some h) (el : s.eligible h = true)
    (firstOne : ∀ g ∈ s.flagHold.take k, s.eligible g = false) (hp : h.packet.type = tFLAGGED_WRITE)
    (hm : memWf s.mem = true) (good : HbmGood h.packet.ownAddr h.packet.payloadBytes.length s) :
    Completes (.flagHoldApply k) s fun t =>
      t.flagHold = ldel s.flagHold k ∧ Stored (byteKey h.packet.ownAddr) h.packet.payloadBytes s t := by
  obtain ⟨stored, hold⟩ := applyFlaggedWrite_stored { s with flagHold := ldel s.flagHold k } h.packet hm good
  exact ⟨_, (exec_flagHoldApply at_ el firstOne).trans (congrArg _ (if_pos hp)), hold, stored⟩

/-- Held tokens applied. -/
theorem heldTokens_applied {k : Nat} {s : State} {h : HeldFlag} (at_ : s.flagHold[k]? = some h) (el : s.eligible h = true)
    (firstOne : ∀ g ∈ s.flagHold.take k, s.eligible g = false) (hp : h.packet.type ≠ tFLAGGED_WRITE) :
    Completes (.flagHoldApply k) s fun t => t.flagHold = ldel s.flagHold k ∧ MemSent s t := by
  have follows := Follows.applyTokens { s with flagHold := ldel s.flagHold k } h.packet
  exact ⟨_, (exec_flagHoldApply at_ el firstOne).trans (congrArg _ (if_neg hp)), follows.flagHold, follows.mem⟩

/-- The `k`-th held entry taken from the buffer, its discard recorded and counted (R204). -/
def State.timedOut (s : State) (k pad : Nat) : State :=
  ({ s with flagHold := ldel s.flagHold k }.eventBit GI_CD_EVT_fh_discard pad).satCount GI_FH_STAT_timeouts

theorem exec_flagHoldTimeout {k : Nat} {s : State} {h : HeldFlag} (at_ : s.flagHold[k]? = some h)
    (timed : s.fld GI_FH_CTRL_hold_timeout_ms ≠ 0) :
    exec (.flagHoldTimeout k) s = .next ((s.timedOut k h.pad).answerDiscard h.packet 6) := by
  have e : exec (.flagHoldTimeout k) s = execFlagHoldTimeout k s := rfl
  simp only [e, execFlagHoldTimeout, at_]
  exact if_neg timed

theorem fld_timedOut (s : State) (k pad : Nat) (h : pad < 8) :
    (s.timedOut k pad).fld GI_CD_EVT_fh_discard = withBit (s.fld GI_CD_EVT_fh_discard) pad true := by
  rw [State.timedOut, State.satCount, fld_setFld_other _ _ _ _ _ _ _ _ (by decide)]
  exact fld_eventBit_same _ GI_CD_EVT_fh_discard pad 0 (by decide) (Nat.le_of_lt_succ h)

theorem kept_timedOut (s : State) (k pad : Nat) : SparedKept s (s.timedOut k pad) :=
  (KeptAt.setFld (P := spared) { s with flagHold := ldel s.flagHold k } GI_CD_EVT_fh_discard 0 0 _ (by decide)).trans
    (KeptAt.setFld _ GI_FH_STAT_timeouts 0 0 _ (by decide))

/-- An entry that has waited too long is discarded, and its paddock told (R204). -/
theorem flagHoldTimeout_discards {k : Nat} {s : State} {h : HeldFlag} (at_ : s.flagHold[k]? = some h)
    (timed : s.fld GI_FH_CTRL_hold_timeout_ms ≠ 0) (pad : h.pad < 8) :
    Completes (.flagHoldTimeout k) s fun t =>
      t.flagHold = ldel s.flagHold k ∧ MemSent s t ∧ t.tiles = s.tiles
        ∧ t.fld GI_CD_EVT_fh_discard = withBit (s.fld GI_CD_EVT_fh_discard) h.pad true := by
  have sends := Sends.answerDiscard (s.timedOut k h.pad) h.packet 6
  have quiet : MemSent s (s.timedOut k h.pad) := memSent_of_mem rfl
  refine ⟨_, exec_flagHoldTimeout at_ timed, sends.flagHold, MemSent.trans quiet sends.mem (kept_timedOut s k h.pad),
    sends.tiles, ?_⟩
  rw [sends.kept.fld GI_CD_EVT_fh_discard 0 0 (by decide), fld_timedOut s k h.pad pad]

/-- Settles O18: a data packet is performed, counted and followed by bookkeeping and packets alone; each unit discards a
malformed packet first; and a flagged write does what the flag-hold buffer decides. -/
theorem dataPackets : Obligations.DataPackets := by
  unfold Obligations.DataPackets
  refine ⟨fun p s c hc hm h hd noPut => ⟨fun status check good => ?_, fun refused => ?_⟩,
    fun p s c l stale status hc => ?_, fun p s q hm h status pad check => ⟨?_, ?_, ?_⟩,
    fun k s h at_ => ⟨fun el firstOne => ⟨fun hp hm good => ?_, fun hp => ?_⟩, fun el => ?_, fun timed pad => ?_⟩⟩
  · exact dataPacket_stored hc hm h hd noPut status check good
  · exact dataPacket_refused hc h noPut _ rfl refused
  · exact ⟨_, exec_malformed l stale status c hc, dropMalformed_take s p⟩
  · exact fun err reached hp good => flaggedWrite_applied h status pad check hp hm err reached good
  · exact fun err reached hp room quota => flaggedWrite_held h status pad check hp err reached room quota
  · exact fun err hp => flaggedWrite_discarded h status pad check hp err
  · exact heldWrite_applied at_ el firstOne hp hm good
  · exact heldTokens_applied at_ el firstOne hp
  · exact exec_flagHoldApply_waits at_ el
  · exact flagHoldTimeout_discards at_ timed pad

end Sys2Proof.Machine
end

section
/-! The ports' training, lanes and link layer (O22 to O25): each statement fails in a state written out here. A packet in a
router buffer names the virtual channel in whose buffer it stands and the one on which its units came, and the registers
RTR_VC_* of these channels change as it leaves (R266, R283). A port has eight channels (R265), and no well-formed command
brings a packet on another one; but the statements have no hypothesis that excludes it, and 1016 steps of 0x40 beyond port
0's registers lie those of port 1: RTR_VC_CREDIT at RTR_LINK_MAP, and RTR_VC_DEPTH at RTR_LINK_REPLAY. -/
namespace Sys2Proof.Machine
open Sys2Proof.Safety

/-- What a command's next state is known to be in two ways holds of one state. -/
theorem completes_both {c : Instr} {s : State} {P Q : State → Prop} (h : Completes c s P) (k : Completes c s Q) :
    ∃ t, P t ∧ Q t := by
  obtain ⟨t, ht, p⟩ := h
  obtain ⟨u, hu, q⟩ := k
  obtain rfl : t = u := by rw [ht] at hu; injection hu
  exact ⟨t, p, q⟩

/-- A bell that waits at output port 1, all five units of it in the buffer of channel 1016 of input port 0. -/
def strayBell : OutPacket :=
  ⟨1, { Packet.blank with vc := 6, type := tBELL, length := 5 }, 0, 0, 1016, 1016, 5, 0, false⟩

/-- Port 1 in a training state, its lane map written with the value that it has at reset. -/
def portOneIn (state : Nat) : State :=
  (State.reset.setFld RTR_LINK_STAT_tstate 1 0 state).setFld RTR_LINK_MAP_map 1 0 0xfac688

/-- Port 1 in DETECT with a cable, the bell still in the router with a second copy, which stands in port 1's own buffer. -/
def strayInDetect : State :=
  { (portOneIn tsDetect).setFld RTR_PORT_CABLE_present 1 0 1 with output := [strayBell, { strayBell with inPort := 1 }] }

/-- Port 1 in ACTIVE towards a far end that heft agreed with, having sent RETRAIN, with the bell to send. -/
def strayInActive : State :=
  { ((portOneIn tsActive).setFld RTR_HEFT_FAR1_state 1 0 2).setLink 1 { LinkPort.reset with retrainAsked := true } with
    output := [strayBell] }

/-- As the training begins the port's buffer is flushed (R266): the grant of channel 1016 falls by the bell's units, and the
lane map with it is no permutation any more (R237). -/
theorem linkLock_strayInDetect : Completes (.linkLock 1 255) strayInDetect fun t => t.tstate 1 = tsFailed :=
  ⟨_, rfl, by decide⟩

/-- A port that leaves ACTIVE drops the bells that wait at it (R343), with the same end. -/
theorem retrain_strayInActive : Completes (.retrain 1) strayInActive fun t => t.tstate 1 = tsFailed := ⟨_, rfl, by decide⟩

/-- The same retrain where it begins as the far end falls silent. -/
theorem blockLockLoss_strayInActive : Completes (.blockLockLoss 8) strayInActive fun t => t.tstate 1 = tsFailed :=
  ⟨_, rfl, by decide⟩

/-- The bell leaves in a block: the highest occupancy of channel 1016 rises to 5, which sets bits of the next sequence. -/
theorem linkBlockSend_strayInActive :
    Completes (.linkBlockSend 1) strayInActive fun t => t.fld RTR_LINK_REPLAY_next_seq 1 = 21 := ⟨_, rfl, by decide⟩

/-- Refutes O22: a port whose lane map is a permutation fails as it enters LOCK, where the units that leave the router's
buffers come from a channel that no port has. The statement lacks the premise that packets name channels below 8. -/
theorem not_portsTrain : ¬ Obligations.PortsTrain := by
  unfold Obligations.PortsTrain
  intro trains
  obtain ⟨-, locks, -⟩ := trains 1 strayInDetect (by decide)
  obtain ⟨t, ⟨-, -, -, -, -, kept, -⟩, failed⟩ :=
    completes_both (locks 255 (by decide) (by decide) (by decide)) linkLock_strayInDetect
  obtain ⟨locked, -⟩ := kept (by decide)
  exact absurd (locked.symm.trans failed) (by decide)

/-- No lane of port 1 is in use. -/
theorem lanes_unused_strayInActive (m : Nat) (h : m / 8 = 1) : strayInActive.flag LN_STAT_in_use m = false := by
  have all : ∀ n, n < 16 → strayInActive.flag LN_STAT_in_use n = false := by decide
  exact all m (by omega)

/-- Refutes O23: the retrain that begins when the far end is taken to have left ACTIVE ends in FAILED instead of LOCK, where
the bell that is dropped stands in a channel that no port has. -/
theorem not_lanesTrainAndFail : ¬ Obligations.LanesTrainAndFail := by
  unfold Obligations.LanesTrainAndFail
  rintro ⟨-, -, -, -, silent, -⟩
  have unused : ∀ m, m / 8 = 8 / 8 → m ≠ 8 → strayInActive.flag LN_STAT_in_use m = true →
      strayInActive.flag LN_STAT_lock m = false := by
    intro m port _ used
    rw [lanes_unused_strayInActive m port] at used
    cases used
  obtain ⟨t, ⟨locked, -⟩, failed⟩ := completes_both
    (silent 8 strayInActive (by decide) (by decide) (by decide) (by decide) unused) blockLockLoss_strayInActive
  exact absurd (locked.symm.trans failed) (by decide)

/-- Refutes O24: a data block that takes a packet out of a channel that no port has leaves another next sequence than the one
that follows the sequence before. -/
theorem not_linkBlocks : ¬ Obligations.LinkBlocks := by
  unfold Obligations.LinkBlocks
  rintro ⟨-, sends, -⟩
  obtain ⟨inSlot, -⟩ := sends 1 strayInActive (by decide)
  obtain ⟨-, -, fresh, -⟩ := inSlot (by decide) (by decide)
  obtain ⟨data, -⟩ := fresh (by decide) (by decide)
  obtain ⟨t, ⟨-, -, -, counted, -⟩, seq⟩ := completes_both (data 6 [strayBell] (.inl ⟨rfl, _, rfl⟩)) linkBlockSend_strayInActive
  exact absurd (counted.symm.trans seq) (by decide)

/-- Refutes O25: a RETRAIN received by an ACTIVE port whose lane map is a permutation ends in FAILED instead of LOCK, where
the bell that is dropped stands in a channel that no port has. -/
theorem not_linkControlTakesEffect : ¬ Obligations.LinkControlTakesEffect := by
  unfold Obligations.LinkControlTakesEffect
  intro control
  obtain ⟨-, -, retrains, -⟩ := control 1 strayInActive (by decide) (by decide) (by decide)
  obtain ⟨t, ⟨locked, -⟩, failed⟩ := completes_both retrains retrain_strayInActive
  exact absurd (locked.symm.trans failed) (by decide)

end Sys2Proof.Machine
end

section
/-! SUPPORT. The router's lookup (R269, R270, R272, R295), and the words that spell a packet (R255). -/
namespace Sys2Proof.Machine
open Sys2Proof.Safety

/-! ### The lookup -/

section
variable {s : State} {port : Nat} {p : Packet}

/-- A node without an ID holds every packet (R336). -/
theorem routeAct_of_invalid (valid : s.flag RTR_NODE_ID_valid = false) : s.routeAct port p = .hold := by
  simp [State.routeAct, valid]

theorem routeAct_circuit (valid : s.flag RTR_NODE_ID_valid = true) (vc : p.vc = 4) :
    s.routeAct port p = s.routeCircuit p := by
  simp [State.routeAct, valid, vc]

theorem routeAct_own (valid : s.flag RTR_NODE_ID_valid = true) (vc : p.vc ≠ 4) (unicast : p.mcast = false)
    (own : p.dst = s.node) : s.routeAct port p = .deliver := by
  simp [State.routeAct, valid, vc, unicast, own]

theorem routeAct_group (valid : s.flag RTR_NODE_ID_valid = true) (vc : p.vc ≠ 4) (group : p.mcast = true) :
    s.routeAct port p = .replicate (s.mcEntry (p.dst % 4096)) := by
  simp [State.routeAct, valid, vc, group]

/-- A circuit that is not valid for the packet's partition refuses it (R298). -/
theorem routeCircuit_invalid
    (bad : circValid (s.circuit p.circuitId) = false ∨ circPartition (s.circuit p.circuitId) ≠ p.partition) :
    s.routeCircuit p = .refuse := by
  simp only [State.routeCircuit]
  rw [if_pos (by simpa using bad)]

theorem routeCircuit_valid (valid : circValid (s.circuit p.circuitId) = true)
    (part : circPartition (s.circuit p.circuitId) = p.partition) (out : circOut (s.circuit p.circuitId) < 8)
    (up : s.down (circOut (s.circuit p.circuitId)) = false)
    (claims : s.claimsFor (circOut (s.circuit p.circuitId)) p.circuitId = true) :
    s.routeCircuit p = .send (circOut (s.circuit p.circuitId)) 4 := by
  simp only [State.routeCircuit]
  rw [if_neg (by simp [valid, part]), if_neg (by omega), if_neg (by simp [up, claims]; omega)]

/-- Whether a packet is bulk data, which goes by VC2 where a port has credit for all of it (R270). -/
def Packet.isBulk (p : Packet) : Bool :=
  (p.vc == 2 || p.vc == 3) && (p.type == tWRITE || p.type == tGET_DATA || p.type == tGRAPH)

variable (valid : s.flag RTR_NODE_ID_valid = true) (vc : p.vc ≠ 4) (unicast : p.mcast = false)
  (other : s.isOwn p.dst = false)
include valid vc unicast other

/-- An entry of the unicast table may name a group (R269). -/
theorem routeAct_entryGroup (group : ucMcast (s.ucEntry p.dst) = true) :
    s.routeAct port p = .replicate (s.mcEntry (ucGroup (s.ucEntry p.dst))) := by
  simp only [State.isOwn, Bool.or_eq_false_iff] at other
  obtain ⟨node, rank⟩ := other
  simp [State.routeAct, valid, vc, unicast, node, rank, group]

variable (single : ucMcast (s.ucEntry p.dst) = false) (primary : ucPrimary (s.ucEntry p.dst) ≠ 8)
  (alternate : ucAlternate (s.ucEntry p.dst) ≠ 8)
include single primary alternate

/-- The entry of a unicast destination names the port in use: the packet waits while that is down, a bulk packet takes
the port of the two that can take it whole, and any other leaves by the port in use. -/
theorem routeAct_entryPort :
    let q := s.portInUse p.dst
    let a := ucAlternate (s.ucEntry p.dst)
    let first := s.takesWhole q p.length
    let second := s.takesWhole a p.length
    s.routeAct port p =
      if s.down q then .hold
      else if p.isBulk then
        .send (if first then (if second then s.richer q a else q) else if second then a else q)
          (if first || second then 2 else 3)
      else .send q p.vc := by
  intro q a first second
  simp only [State.isOwn, Bool.or_eq_false_iff] at other
  obtain ⟨node, rank⟩ := other
  have named : q ≠ 8 := by
    simp only [q, State.portInUse]
    split <;> assumption
  have looked : s.routeAct port p = (if s.down q then .hold
      else if p.isBulk then
        match first, second with
        | true, true => .send (s.richer q a) 2
        | true, false => .send q 2
        | false, true => .send a 2
        | false, false => .send q 3
      else .send q p.vc) := by
    simp only [State.routeAct]
    rw [if_neg (by simp [valid]), if_neg vc, if_neg (by simp [node, rank]), if_neg (by simp [unicast]),
      if_neg (by simp [single]), if_neg primary]
    exact if_neg named
  rw [looked]
  cases first <;> cases second <;> rfl

/-- What becomes of a unicast packet to another node, by what the port in use and the alternate can take (R270). -/
theorem routeAct_entryPort_cases :
    let q := s.portInUse p.dst
    let a := ucAlternate (s.ucEntry p.dst)
    let first := s.takesWhole q p.length
    let second := s.takesWhole a p.length
    (s.down q = true → s.routeAct port p = .hold)
      ∧ (s.down q = false → p.isBulk = false → s.routeAct port p = .send q p.vc)
      ∧ (s.down q = false → p.isBulk = true →
        (first = true → second = false → s.routeAct port p = .send q 2)
        ∧ (first = false → second = true → s.routeAct port p = .send a 2)
        ∧ (first = false → second = false → s.routeAct port p = .send q 3)
        ∧ (first = true → second = true → s.freeCredit a 2 ≤ s.freeCredit q 2 → s.routeAct port p = .send q 2)
        ∧ (first = true → second = true → s.freeCredit q 2 < s.freeCredit a 2 → s.routeAct port p = .send a 2)) := by
  intro q a first second
  rw [routeAct_entryPort valid vc unicast other single primary alternate]
  refine ⟨fun down => if_pos down, fun up plain => ?_, fun up bulk => ?_⟩
  · rw [if_neg (by simp [q, up]), if_neg (by simp [plain])]
  · rw [if_neg (by simp [q, up]), if_pos bulk]
    refine ⟨fun f g => ?_, fun f g => ?_, fun f g => ?_, fun f g le => ?_, fun f g lt => ?_⟩
    all_goals
      change RouteAct.send (if first then (if second then s.richer q a else q) else if second then a else q)
        (if first || second then 2 else 3) = _
      rw [f, g]
    iterate 3 rfl
    · exact congrArg (RouteAct.send · 2) (if_neg (Nat.not_lt.mpr le))
    · exact congrArg (RouteAct.send · 2) (if_pos lt)

end

/-! ### The words of a packet -/

theorem natOfBool_lt (b : Bool) : natOfBool b < 2 := by cases b <;> decide

theorem natOfBool_beq_one (b : Bool) : (natOfBool b == 1) = b := by cases b <;> rfl

/-- The fields of a header whose values fit their bits, one beside the other, read as they were packed (R255). -/
theorem packetOfWords_packetWords (p : Packet) (dst : p.dst < 2 ^ 16) (src : p.src < 2 ^ 16) (length : p.length < 2 ^ 14)
    (vc : p.vc < 8) (type : p.type < 32) (status : p.status < 4) (sequence : p.sequence < 2 ^ 16)
    (epoch : p.epoch < 2 ^ 16) (partition : p.partition < 2 ^ 12) (domain : p.domain < 2 ^ 10)
    (operation : p.operation < 2 ^ 6) (whole : p.body.length + 2 = 2 * p.length) :
    packetOfWords (packetWords p) = some p := by
  have words : packetWords p = headerWord0 p :: headerWord1 p :: p.body := by simp [packetWords, whole]
  rw [words]
  obtain ⟨_, _, _, _, _, _, flagged, raddle, mcast, _, _, _, _, _, _⟩ := p
  have f := natOfBool_lt flagged
  have r := natOfBool_lt raddle
  have m := natOfBool_lt mcast
  simp only [packetOfWords, headerWord0, headerWord1, BitVec.toNat_ofNat, bitsOf, bitAt, Nat.shiftLeft_eq,
    Nat.shiftRight_eq_div_pow, Option.some.injEq, Packet.mk.injEq, and_true] at *
  refine ⟨?_, ?_, ?_, ?_, ?_, ?_, ?flagged, ?raddle, ?mcast, ?_, ?_, ?_, ?_, ?_⟩
  case flagged => exact (congrArg (· == 1) (by omega)).trans (natOfBool_beq_one flagged)
  case raddle => exact (congrArg (· == 1) (by omega)).trans (natOfBool_beq_one raddle)
  case mcast => exact (congrArg (· == 1) (by omega)).trans (natOfBool_beq_one mcast)
  all_goals omega

end Sys2Proof.Machine
end

section
/-! SUPPORT. Packets taken from the delivered list, and packets that a unit puts at an external port (R252, R287, R346). -/
namespace Sys2Proof.Machine
open Sys2Proof.Safety

/-- A counter that stops reads one step further, or its largest value. -/
theorem fld_satCount_same (s : State) (f : Fld) (i j n : Nat) (h : f.ok = true) :
    (s.satCount f i j n).fld f i j = min f.max (s.fld f i j + n) := by
  obtain ⟨h1, -⟩ := Fld.ok_spec h
  rw [State.satCount, fld_setFld_same _ _ _ _ _ h, satAdd_eq_min]
  refine Nat.mod_eq_of_lt (Nat.lt_of_le_of_lt (Nat.min_le_left _ _) ?_)
  have := Nat.two_pow_pos (f.hi + 1 - f.lo)
  unfold Fld.max
  omega

theorem Packet.word_lt (p : Packet) (i : Nat) : p.word i < 2 ^ 64 := by
  unfold Packet.word
  exact BitVec.isLt _

/-- A packet as the router sends it for this node without a lookup: whole units, with the node's ID as its source. -/
def Packet.outgoing (p : Packet) (src : Nat) : Packet := { p.sized with src := src, epoch := 0 }

/-- Filling the body to whole units adds words that read as before. -/
@[simp] theorem word_outgoing (p : Packet) (src i : Nat) : (p.outgoing src).word i = p.word i := by
  simp only [Packet.word, Packet.outgoing, Packet.sized]
  rw [List.getElem?_append]
  split
  · rfl
  next short =>
    rw [List.getElem?_eq_none (l := p.body) (by omega)]
    cases h : (List.replicate (p.body.length % 2) (0 : Word64))[i - 2 - p.body.length]? with
    | none => rfl
    | some w => rw [List.eq_of_mem_replicate (List.mem_of_getElem? h)]; rfl

/-- A packet put at a port that is not Dormant waits there, and nothing else changes (R246). -/
theorem sendOnPort_awake (s : State) (k : Nat) (p : Packet) (awake : s.fld RTR_LINK_STAT_pstate k ≠ 2) :
    s.sendOnPort k p = { s with
      output := s.output ++ [⟨k, p.outgoing s.node, 0, portM, p.vc, p.vc, p.sized.length, s.routed, false⟩]
      routed := s.routed + 1 } :=
  if_neg fun h => awake (of_decide_eq_true (Bool.and_eq_true_iff.mp h).2)

/-! ### What the taking of a packet leaves -/

/-- A read of a register does not depend on what the router has delivered. -/
theorem grantReads_setDelivered (s : State) (d : List (Nat × Packet)) (rs : List HbmRead) (held shared : Assoc Nat) :
    ({ s with delivered := d } : State).grantReads rs held shared = s.grantReads rs held shared := by
  induction rs generalizing held shared with
  | nil => rfl
  | cons r rs ih =>
    simp only [State.grantReads, ih]
    rfl

theorem freeBuffers_setDelivered (s : State) (d : List (Nat × Packet)) (k : Nat) :
    ({ s with delivered := d } : State).freeBuffers k = s.freeBuffers k :=
  congrArg (fun l : List HbmRead => 3072 - (l.filter fun r => r.channel / 192 == k).length)
    (grantReads_setDelivered s d s.openReads [] [])

theorem readReg_setDelivered (s : State) (d : List (Nat × Packet)) (r : RegId) (i j : Nat) :
    ({ s with delivered := d } : State).readReg r i j = s.readReg r i j := by
  have live : ({ s with delivered := d } : State).live r i j = s.live r i j := by
    unfold State.live
    split
    case h_19 => exact congrArg (withBits (s.reg .HBM_RRB_CTRL i j) 43 32) (freeBuffers_setDelivered s d i)
    all_goals rfl
  rw [State.readReg, State.readReg, live]

theorem readReg_lt (s : State) (r : RegId) (i j : Nat) : s.readReg r i j < 2 ^ 64 := Nat.mod_lt _ (Nat.two_pow_pos 64)

/-- Nothing but the delivered list has changed, as when a unit takes a packet from it. -/
def Took (s u : State) : Prop := u = { s with delivered := u.delivered }

section
variable {s u : State} (took : Took s u)
include took

theorem Took.fld (f : Fld) (i j : Nat) : u.fld f i j = s.fld f i j := by rw [took]; rfl

theorem Took.agreed (k : Nat) : u.agreed k = s.agreed k := by rw [took]; rfl

theorem Took.readReg (r : RegId) (i j : Nat) : u.readReg r i j = s.readReg r i j := by
  rw [took]; exact readReg_setDelivered s _ r i j

/-- A command that takes a packet from the delivered list and puts one at a port that is not Dormant. -/
theorem Took.completes_sendOnPort {c : Instr} {k : Nat} {q : Packet}
    (he : exec c s = .next (u.sendOnPort k q)) (awake : s.fld RTR_LINK_STAT_pstate k ≠ 2) :
    Completes c s fun t => t = { s with delivered := t.delivered, output := t.output, routed := s.routed + 1 }
      ∧ ∃ o : OutPacket, t.output = s.output ++ [o] ∧ o.port = k ∧ o.packet = q.outgoing s.node := by
  rw [← took.fld] at awake
  rw [sendOnPort_awake u k q awake] at he
  refine ⟨_, he, ?_, ?_⟩
  · rw [took]
  · rw [took]
    exact ⟨_, rfl, rfl, rfl⟩

/-- A command that takes a packet from the delivered list and writes one register. -/
theorem Took.completes_setFld {c : Instr} {f : Fld} {i j v : Nat} (he : exec c s = .next (u.setFld f i j v)) :
    Completes c s fun t => t = { s with delivered := t.delivered, regs := t.regs }
      ∧ RegsKept [f.reg.offset i j] s t ∧ t = u.setFld f i j v := by
  refine ⟨_, he, ?_, ?_, rfl⟩
  · rw [took]; rfl
  · rw [took]; exact RegsKept.setFld _ f i j v List.mem_cons_self

end

end Sys2Proof.Machine
end

section
/-! SUPPORT. The fields of directed packets (R344). -/
namespace Sys2Proof.Machine
open Sys2Proof.Safety

/-- A field below bit `n` of a number taken to `n` bits. -/
theorem bitsOf_mod_two_pow (v hi lo n : Nat) (h : hi < n) : bitsOf (v % 2 ^ n) hi lo = bitsOf v hi lo := by
  apply Nat.eq_of_testBit_eq
  intro i
  rw [testBit_bitsOf, testBit_bitsOf, Nat.testBit_mod_two_pow]
  by_cases c : i < hi + 1 - lo
  · simp [show lo + i < n by omega]
  · simp [c]

theorem bitAt_eq_bitsOf (v i : Nat) : bitAt v i = (bitsOf v i i == 1) := by simp [bitAt, bitsOf]

/-! ### The fields of a directed packet -/

theorem dqRet_lt (p : Packet) : dqRet p < 2 ^ 96 := by
  have low : bitsOf (p.word 4) 63 32 < 2 ^ 32 := bitsOf_lt _ _ _
  have high := p.word_lt 5
  unfold dqRet
  rw [Nat.shiftLeft_eq]
  omega

theorem dqIdx_lt (p : Packet) : dqIdx p < 32 := bitsOf_lt (p.word 2) 12 8

section
variable (p : Packet) (w ret data : Nat)

/-- The fields of a directed packet's first word lie below bit 50, where the reserved bits begin. -/
theorem bitsOf_word_dqWith (hi lo : Nat) (h : hi < 50) : bitsOf ((dqWith p w ret data).word 2) hi lo = bitsOf w hi lo := by
  have word : (dqWith p w ret data).word 2 = w % 2 ^ 50 := by
    show (BitVec.ofNat 64 (w % 2 ^ 50)).toNat = _
    rw [BitVec.toNat_ofNat]
    omega
  rw [word, bitsOf_mod_two_pow _ _ _ _ h]

@[simp] theorem word_three_dqWith : (dqWith p w ret data).word 3 = p.word 3 :=
  toNat_ofNat_of_lt (p.word_lt 3)

@[simp] theorem word_six_dqWith : (dqWith p w ret data).word 6 = p.word 6 :=
  toNat_ofNat_of_lt (p.word_lt 6)

theorem word_seven_dqWith (h : data < 2 ^ 64) : (dqWith p w ret data).word 7 = data := toNat_ofNat_of_lt h

theorem word_four_dqWith : (dqWith p w ret data).word 4 = bitsOf (p.word 4) 28 0 + ret % 2 ^ 32 * 2 ^ 32 := by
  have path := bitsOf_lt (p.word 4) 28 0
  show (BitVec.ofNat 64 (bitsOf (p.word 4) 28 0 + (ret % 2 ^ 32) <<< 32)).toNat = _
  rw [BitVec.toNat_ofNat, Nat.shiftLeft_eq]
  omega

@[simp] theorem dqPath_dqWith (j : Nat) : dqPath (dqWith p w ret data) j = dqPath p j := by
  have path : bitsOf ((dqWith p w ret data).word 4) 28 0 = bitsOf (p.word 4) 28 0 := by
    have := bitsOf_lt (p.word 4) 28 0
    rw [word_four_dqWith]
    simp only [bitsOf, Nat.shiftRight_eq_div_pow] at *
    omega
  simp only [dqPath, word_three_dqWith, path]

theorem dqRet_dqWith (h : ret < 2 ^ 96) : dqRet (dqWith p w ret data) = ret := by
  have five : (dqWith p w ret data).word 5 = ret / 2 ^ 32 := by
    show (BitVec.ofNat 64 (ret >>> 32)).toNat = _
    rw [BitVec.toNat_ofNat, Nat.shiftRight_eq_div_pow]
    omega
  have path : bitsOf (p.word 4) 28 0 < 2 ^ 29 := bitsOf_lt _ _ _
  unfold dqRet
  rw [five, word_four_dqWith, Nat.shiftLeft_eq]
  generalize bitsOf (p.word 4) 28 0 = b at path ⊢
  simp only [bitsOf, Nat.shiftRight_eq_div_pow]
  omega

end

/-! ### A request at a node (R345, R346) -/

/-- The request with its arrival port recorded. -/
def dqArrived (port : Nat) (p : Packet) : Packet :=
  dqWith p (p.word 2) (withBits (dqRet p) (3 * dqIdx p + 2) (3 * dqIdx p) port) (p.word 7)

/-- The arrival port of each node of a path has its place in the field of arrival ports. -/
theorem withBits_dqRet_lt (port : Nat) (p : Packet) :
    withBits (dqRet p) (3 * dqIdx p + 2) (3 * dqIdx p) port < 2 ^ 96 := by
  have := dqIdx_lt p
  exact withBits_lt _ _ _ _ _ (by omega) (by omega) (dqRet_lt p)

section
variable (port : Nat) (p : Packet)

@[simp] theorem dqIdx_arrived : dqIdx (dqArrived port p) = dqIdx p := bitsOf_word_dqWith _ _ _ _ 12 8 (by decide)
@[simp] theorem dqHops_arrived : dqHops (dqArrived port p) = dqHops p := bitsOf_word_dqWith _ _ _ _ 7 3 (by decide)
@[simp] theorem dqOrigin_arrived : dqOrigin (dqArrived port p) = dqOrigin p :=
  bitsOf_word_dqWith _ _ _ _ 28 13 (by decide)
@[simp] theorem dqPath_arrived (j : Nat) : dqPath (dqArrived port p) j = dqPath p j := dqPath_dqWith _ _ _ _ j
@[simp] theorem word_six_arrived : (dqArrived port p).word 6 = p.word 6 := word_six_dqWith _ _ _ _

@[simp] theorem dqWrite_arrived : dqWrite (dqArrived port p) = dqWrite p := by
  rw [dqWrite, dqWrite, bitAt_eq_bitsOf, bitAt_eq_bitsOf]
  exact congrArg (· == 1) (bitsOf_word_dqWith _ _ _ _ 29 29 (by decide))

theorem dqRet_arrived : dqRet (dqArrived port p) = withBits (dqRet p) (3 * dqIdx p + 2) (3 * dqIdx p) port :=
  dqRet_dqWith _ _ _ _ (withBits_dqRet_lt port p)

theorem dqBack_arrived (h : port < 8) : dqBack (dqArrived port p) (dqIdx p) = port := by
  rw [dqBack, dqRet_arrived, bitsOf_withBits_same _ _ _ _ (by omega),
    show 3 * dqIdx p + 2 + 1 - 3 * dqIdx p = 3 by omega]
  exact Nat.mod_eq_of_lt h

theorem dqBack_arrived_other (j : Nat) (h : j ≠ dqIdx p) : dqBack (dqArrived port p) j = dqBack p j := by
  rw [dqBack, dqRet_arrived, bitsOf_withBits_other _ _ _ _ _ _ (by omega) (by omega)]
  rfl

end

section
variable (p : Packet) (src : Nat)

-- A packet that leaves keeps the fields of R344.
@[simp] theorem dqIdx_outgoing : dqIdx (p.outgoing src) = dqIdx p := by
  rw [dqIdx, dqIdx, word_outgoing]
@[simp] theorem dqHops_outgoing : dqHops (p.outgoing src) = dqHops p := by
  rw [dqHops, dqHops, word_outgoing]
@[simp] theorem dqOrigin_outgoing : dqOrigin (p.outgoing src) = dqOrigin p := by
  rw [dqOrigin, dqOrigin, word_outgoing]
@[simp] theorem dqPath_outgoing (j : Nat) : dqPath (p.outgoing src) j = dqPath p j := by
  rw [dqPath, dqPath, word_outgoing, word_outgoing]
theorem dqRet_outgoing : dqRet (p.outgoing src) = dqRet p := by
  unfold dqRet
  rw [word_outgoing p src, word_outgoing p src]
@[simp] theorem dqBack_outgoing (j : Nat) : dqBack (p.outgoing src) j = dqBack p j := by
  rw [dqBack, dqBack, dqRet_outgoing]

end

/-- A directed packet as it goes on, with the index of the next node. -/
def dqStepped (i : Nat) (p : Packet) : Packet := dqWith p (withBits (p.word 2) 12 8 i) (dqRet p) (p.word 7)

section
variable (i : Nat) (p : Packet)

theorem dqIdx_stepped (h : i < 32) : dqIdx (dqStepped i p) = i := by
  rw [dqIdx, dqStepped, bitsOf_word_dqWith _ _ _ _ _ _ (by decide), bitsOf_withBits_same _ _ _ _ (by decide)]
  exact Nat.mod_eq_of_lt h

/-- The other fields of the first word stay. -/
theorem bitsOf_word_stepped (hi lo : Nat) (h : hi < 50) (d : hi < 8 ∨ 12 < lo) :
    bitsOf ((dqStepped i p).word 2) hi lo = bitsOf (p.word 2) hi lo := by
  rw [dqStepped, bitsOf_word_dqWith _ _ _ _ _ _ h, bitsOf_withBits_other _ _ _ _ _ _ (by decide) d]

@[simp] theorem dqHops_stepped : dqHops (dqStepped i p) = dqHops p :=
  bitsOf_word_stepped i p 7 3 (by decide) (by decide)
@[simp] theorem dqOrigin_stepped : dqOrigin (dqStepped i p) = dqOrigin p :=
  bitsOf_word_stepped i p 28 13 (by decide) (by decide)
@[simp] theorem dqPath_stepped (j : Nat) : dqPath (dqStepped i p) j = dqPath p j := dqPath_dqWith _ _ _ _ j
@[simp] theorem dqBack_stepped (j : Nat) : dqBack (dqStepped i p) j = dqBack p j := by
  rw [dqBack, dqStepped, dqRet_dqWith _ _ _ _ (dqRet_lt p)]
  rfl
@[simp] theorem word_seven_stepped : (dqStepped i p).word 7 = p.word 7 := word_seven_dqWith _ _ _ _ (p.word_lt 7)

end

section
variable (p : Packet) (result data : Nat)

@[simp] theorem dqIdx_response : dqIdx (dqResponse p result data) = dqIdx p := by
  rw [dqIdx, dqResponse, bitsOf_word_dqWith _ _ _ _ _ _ (by decide), bitsOf_withBits_other _ _ _ _ _ _ (by decide) (by decide),
    bitsOf_withBits_other _ _ _ _ _ _ (by decide) (by decide)]
  rfl

@[simp] theorem dqBack_response (j : Nat) : dqBack (dqResponse p result data) j = dqBack p j := by
  rw [dqBack, dqResponse, dqRet_dqWith _ _ _ _ (dqRet_lt p)]
  rfl

theorem bitsOf_word_response_kind : bitsOf ((dqResponse p result data).word 2) 2 0 = 2 := by
  rw [dqResponse, bitsOf_word_dqWith _ _ _ _ _ _ (by decide), bitsOf_withBits_other _ _ _ _ _ _ (by decide) (by decide),
    bitsOf_withBits_same _ _ _ _ (by decide)]
  decide

theorem bitsOf_word_response_result (h : result < 16) : bitsOf ((dqResponse p result data).word 2) 33 30 = result := by
  rw [dqResponse, bitsOf_word_dqWith _ _ _ _ _ _ (by decide), bitsOf_withBits_same _ _ _ _ (by decide)]
  exact Nat.mod_eq_of_lt h

theorem word_seven_response (h : data < 2 ^ 64) : (dqResponse p result data).word 7 = data := word_seven_dqWith _ _ _ _ h

end

end Sys2Proof.Machine
end

section
/-! The router's lookup, packets on the wire and directed packets (O26). -/
namespace Sys2Proof.Machine
open Sys2Proof.Safety

/-! ### What the node does with a directed packet -/

section
variable {s : State} {port : Nat} {p : Packet}

/-- A response goes back by the port on which the request arrived at this node. -/
theorem sendBack_agreed (agreed : s.agreed (dqBack p (dqIdx p)) = true) :
    s.sendBack p = s.sendOnPort (dqBack p (dqIdx p)) (dqStepped (dqIdx p - 1) p) := if_pos agreed

/-- The result of a register access as a directed response gives it (R346), and its data. -/
def RegAns.result : RegAns → Nat
  | .done _ => 0
  | .refused => 1
  | .resetting => 2

def RegAns.data : RegAns → Nat
  | .done v => v
  | _ => 0

/-- What a node does with a request whose arrival port it has recorded. -/
theorem dqAdvance_eq : s.dqAdvance port p =
    if dqIdx p < dqHops p then
      if dqPath p (dqIdx p) = port || !s.agreed (dqPath p (dqIdx p)) then
        (s.event RTR_HEFT_EVT_directed_undeliverable).sendBack (dqResponse (dqArrived port p) 3 0)
      else s.sendOnPort (dqPath p (dqIdx p)) (dqStepped (dqIdx p + 1) (dqArrived port p))
    else if dqIdx p = dqHops p && dqOrigin p = s.fld RTR_HEFT_CTRL_fm_node then
      let r := s.mgmtAccess (gaReg (p.word 6)) 8 (dqWrite p) ((dqArrived port p).word 7)
      r.2.sendBack (dqResponse (dqArrived port p) r.1.result r.1.data)
    else s.event RTR_HEFT_EVT_directed_refused := by
  rw [← dqHops_arrived port p, ← dqPath_arrived port p, ← dqOrigin_arrived port p, ← dqWrite_arrived port p,
    ← word_six_arrived port p]
  unfold State.dqAdvance
  generalize e : dqArrived port p = q
  unfold dqArrived at e
  dsimp only
  rw [e]
  generalize s.mgmtAccess (gaReg (q.word 6)) 8 (dqWrite q) (q.word 7) = r
  obtain ⟨a, t⟩ := r
  cases a <;> rfl

theorem dqAdvance_forward (more : dqIdx p < dqHops p) (on : dqPath p (dqIdx p) ≠ port)
    (agreed : s.agreed (dqPath p (dqIdx p)) = true) :
    s.dqAdvance port p = s.sendOnPort (dqPath p (dqIdx p)) (dqStepped (dqIdx p + 1) (dqArrived port p)) := by
  rw [dqAdvance_eq, if_pos more, if_neg (by simp [on, agreed])]

theorem dqAdvance_refused (last : dqIdx p = dqHops p) (origin : dqOrigin p ≠ s.fld RTR_HEFT_CTRL_fm_node) :
    s.dqAdvance port p = s.event RTR_HEFT_EVT_directed_refused := by
  rw [dqAdvance_eq, if_neg (by omega), if_neg (by simp [origin])]

/-- A management access that reads a register whose read does nothing else answers its value (R262). -/
theorem mgmtAccess_read {off data : Nat} {r : RegId} {a b : Nat} (fits : accessFits off 8 = true)
    (found : s.decodeReg off = some (r, a, b)) (held : s.blockHeld r a = false)
    (plain : r ∉ [.RTR_TBL_DATA, .BT_TBL_DATA, .FWU_DUMP_DATA]) :
    s.mgmtAccess off 8 false data = (.done (s.readReg r a b), s) := by
  have aligned : off / 8 * 8 = off := by
    simp only [accessFits, Bool.and_eq_true, beq_iff_eq] at fits
    omega
  have effect : s.readEffect r = s := by
    simp only [List.mem_cons, not_or] at plain
    obtain ⟨h1, h2, h3, -⟩ := plain
    unfold State.readEffect
    split
    · contradiction
    · contradiction
    · contradiction
    · rfl
  have read : s.readAccess off 8 = (.done (s.readReg r a b), s) := by
    simp only [State.readAccess, fits, aligned, found, held, effect]
    rfl
  simp only [State.mgmtAccess, read]
  rfl

theorem dqAdvance_read {r : RegId} {a b : Nat} (last : dqIdx p = dqHops p)
    (origin : dqOrigin p = s.fld RTR_HEFT_CTRL_fm_node) (read : dqWrite p = false)
    (fits : accessFits (gaReg (p.word 6)) 8 = true) (found : s.decodeReg (gaReg (p.word 6)) = some (r, a, b))
    (held : s.blockHeld r a = false) (plain : r ∉ [.RTR_TBL_DATA, .BT_TBL_DATA, .FWU_DUMP_DATA]) :
    s.dqAdvance port p = s.sendBack (dqResponse (dqArrived port p) 0 (s.readReg r a b)) := by
  rw [dqAdvance_eq, if_neg (by omega), if_pos (by simp [last, origin]), read]
  simp only [mgmtAccess_read fits found held plain]
  rfl

end

/-! ### Requests and responses as commands -/

section
variable {s : State} {port : Nat} {p : Packet} (low : port < 8) (status : p.status ≠ 3)
include low status

theorem exec_directedRequest (role : s.fld RTR_PORT_ROLE_role port ≠ 7) :
    exec (.directedRequest port p) s = .next (if s.agreed port
      then (s.take p).dqAdvance port p else (s.take p).satCount RTR_HEFT_FAR1_blocked port) := by
  show execDirectedRequest port p s = _
  have took : Took s (s.take p) := take_frame s p
  rw [← took.fld] at role
  rw [← took.agreed]
  unfold execDirectedRequest
  dsimp only
  rw [if_neg status, if_neg (by omega), if_neg role]
  cases (s.take p).agreed port <;> rfl

theorem exec_directedResponse : exec (.directedResponse port p) s = .next ((s.take p).sendBack p) := by
  show execDirectedResponse port p s = _
  unfold execDirectedResponse
  dsimp only
  rw [if_neg status, if_pos low]

end

section
variable {s : State} {port : Nat} {p : Packet} (low : port < 8) (status : p.status ≠ 3)
  (role : s.fld RTR_PORT_ROLE_role port ≠ 7)
include low status role

theorem completes_directedRequest_blocked (agreed : s.agreed port = false) :
    Completes (.directedRequest port p) s fun t =>
      t = { s with delivered := t.delivered, regs := t.regs } ∧ RegsKept [RegId.RTR_HEFT_FAR1.offset port 0] s t
        ∧ t.fld RTR_HEFT_FAR1_blocked port = min (2 ^ 14 - 1) (s.fld RTR_HEFT_FAR1_blocked port + 1) := by
  have took : Took s (s.take p) := take_frame s p
  have he := exec_directedRequest low status role
  rw [agreed] at he
  obtain ⟨t, ht, frame, kept, rfl⟩ := took.completes_setFld (f := RTR_HEFT_FAR1_blocked) he
  refine ⟨_, ht, frame, kept, ?_⟩
  exact (fld_satCount_same _ RTR_HEFT_FAR1_blocked port 0 1 (by decide)).trans (by rw [took.fld]; rfl)

variable (agreed : s.agreed port = true)
include agreed

theorem completes_directedRequest_forward (more : dqIdx p < dqHops p) (on : dqPath p (dqIdx p) ≠ port)
    (next : s.agreed (dqPath p (dqIdx p)) = true) (awake : s.fld RTR_LINK_STAT_pstate (dqPath p (dqIdx p)) ≠ 2) :
    Completes (.directedRequest port p) s fun t =>
      t = { s with delivered := t.delivered, output := t.output, routed := s.routed + 1 }
        ∧ ∃ o : OutPacket, t.output = s.output ++ [o] ∧ o.port = dqPath p (dqIdx p) ∧ o.packet.type = tHEFT
            ∧ o.packet.dst = 0 ∧ dqIdx o.packet = dqIdx p + 1 ∧ dqHops o.packet = dqHops p ∧ dqOrigin o.packet = dqOrigin p
            ∧ dqBack o.packet (dqIdx p) = port ∧ (∀ j, j ≠ dqIdx p → j < 32 → dqBack o.packet j = dqBack p j)
            ∧ ∀ j, j < 31 → dqPath o.packet j = dqPath p j := by
  have took : Took s (s.take p) := take_frame s p
  have he := exec_directedRequest low status role
  rw [if_pos agreed, dqAdvance_forward more on ((took.agreed _).trans next)] at he
  have idx : dqIdx p + 1 < 32 := by
    have : dqHops p < 32 := bitsOf_lt _ _ _
    omega
  obtain ⟨t, ht, frame, o, out, place, packet⟩ := took.completes_sendOnPort he awake
  refine ⟨t, ht, frame, o, out, place, ?_⟩
  rw [packet]
  refine ⟨rfl, rfl, ?_, ?_, ?_, ?_, fun j other _ => ?_, fun j _ => ?_⟩
  · rw [dqIdx_outgoing, dqIdx_stepped _ _ idx]
  · simp
  · simp
  · simp [dqBack_arrived port p low]
  · simp [dqBack_arrived_other port p j other]
  · simp

theorem completes_directedRequest_refused (last : dqIdx p = dqHops p)
    (origin : dqOrigin p ≠ s.fld RTR_HEFT_CTRL_fm_node) :
    Completes (.directedRequest port p) s fun t =>
      t = { s with delivered := t.delivered, regs := t.regs } ∧ RegsKept [RegId.RTR_HEFT_EVT.offset 0 0] s t
        ∧ t.flag RTR_HEFT_EVT_directed_refused = true := by
  have took : Took s (s.take p) := take_frame s p
  have he := exec_directedRequest low status role
  rw [if_pos agreed, dqAdvance_refused last (by rwa [took.fld])] at he
  obtain ⟨t, ht, frame, kept, rfl⟩ := took.completes_setFld (f := RTR_HEFT_EVT_directed_refused) he
  exact ⟨_, ht, frame, kept, flag_event_same _ RTR_HEFT_EVT_directed_refused 0 (by decide) rfl⟩

/-- The response carries the register's value, and leaves by the port on which the request arrived. -/
theorem completes_directedRequest_read (awake : s.fld RTR_LINK_STAT_pstate port ≠ 2) {r : RegId} {a b : Nat}
    (last : dqIdx p = dqHops p) (origin : dqOrigin p = s.fld RTR_HEFT_CTRL_fm_node) (read : dqWrite p = false)
    (fits : accessFits (gaReg (p.word 6)) 8 = true) (found : s.decodeReg (gaReg (p.word 6)) = some (r, a, b))
    (held : s.blockHeld r a = false) (plain : r ∉ [.RTR_TBL_DATA, .BT_TBL_DATA, .FWU_DUMP_DATA]) :
    Completes (.directedRequest port p) s fun t =>
      t = { s with delivered := t.delivered, output := t.output, routed := s.routed + 1 }
        ∧ ∃ o : OutPacket, t.output = s.output ++ [o] ∧ o.port = port ∧ o.packet.type = tHEFT
            ∧ bitsOf (o.packet.word 2) 2 0 = 2 ∧ bitsOf (o.packet.word 2) 33 30 = 0
            ∧ o.packet.word 7 = s.readReg r a b := by
  have took : Took s (s.take p) := take_frame s p
  have found' : (s.take p).decodeReg (gaReg (p.word 6)) = some (r, a, b) := by rw [took]; exact found
  have held' : (s.take p).blockHeld r a = false := by rw [took]; exact held
  have he := exec_directedRequest low status role
  rw [if_pos agreed, dqAdvance_read last (by rwa [took.fld]) read fits found' held' plain, took.readReg] at he
  have idx := dqIdx_response (dqArrived port p) 0 (s.readReg r a b)
  have back := dqBack_response (dqArrived port p) 0 (s.readReg r a b)
  rw [dqIdx_arrived] at idx
  have home : dqBack (dqResponse (dqArrived port p) 0 (s.readReg r a b))
      (dqIdx (dqResponse (dqArrived port p) 0 (s.readReg r a b))) = port := by
    rw [idx, back, dqBack_arrived port p low]
  rw [sendBack_agreed (by rw [home, took.agreed]; exact agreed), home] at he
  obtain ⟨t, ht, frame, o, out, place, packet⟩ := took.completes_sendOnPort he awake
  refine ⟨t, ht, frame, o, out, place, ?_⟩
  rw [packet]
  refine ⟨rfl, ?_, ?_, ?_⟩
  · rw [word_outgoing, bitsOf_word_stepped _ _ 2 0 (by decide) (by decide), bitsOf_word_response_kind]
  · rw [word_outgoing, bitsOf_word_stepped _ _ 33 30 (by decide) (by decide), bitsOf_word_response_result _ _ _ (by decide)]
  · rw [word_outgoing, word_seven_stepped, word_seven_response _ _ _ (readReg_lt s r a b)]

end

theorem completes_directedResponse {s : State} {port : Nat} {p : Packet} (low : port < 8) (status : p.status ≠ 3)
    (agreed : s.agreed (dqBack p (dqIdx p)) = true) (awake : s.fld RTR_LINK_STAT_pstate (dqBack p (dqIdx p)) ≠ 2) :
    Completes (.directedResponse port p) s fun t =>
      t = { s with delivered := t.delivered, output := t.output, routed := s.routed + 1 }
        ∧ ∃ o : OutPacket, t.output = s.output ++ [o] ∧ o.port = dqBack p (dqIdx p) ∧ o.packet.type = tHEFT
            ∧ dqIdx o.packet = dqIdx p - 1 ∧ o.packet.word 7 = p.word 7 := by
  have took : Took s (s.take p) := take_frame s p
  have he := exec_directedResponse low status (s := s)
  rw [sendBack_agreed ((took.agreed _).trans agreed)] at he
  have idx := dqIdx_lt p
  obtain ⟨t, ht, frame, o, out, place, packet⟩ := took.completes_sendOnPort he awake
  refine ⟨t, ht, frame, o, out, place, ?_⟩
  rw [packet]
  refine ⟨rfl, ?_, ?_⟩
  · rw [dqIdx_outgoing, dqIdx_stepped _ _ (by omega)]
  · rw [word_outgoing, word_seven_stepped]

/-- Settles O26: the lookup by its cases, the words by the header's fields, and a directed packet by what each node on its
path does with it. -/
theorem lookupAndDirectedPackets : Obligations.LookupAndDirectedPackets := by
  unfold Obligations.LookupAndDirectedPackets
  refine ⟨fun port p s => ?_, packetOfWords_packetWords, ?_, ?_, ?_⟩
  · intro e a q bulk
    have inUse : q = s.portInUse p.dst := by simp [q, a, e, State.portInUse]
    have isBulk : bulk ↔ p.isBulk = true := by simp [bulk, Packet.isBulk, or_assoc]
    rw [inUse, isBulk]
    refine ⟨routeAct_of_invalid, fun valid => ⟨routeAct_own valid, routeAct_group valid, routeAct_entryGroup valid, ?_, ?_⟩⟩
    · intro vc unicast other single primary alternate
      simpa using routeAct_entryPort_cases valid vc unicast other single primary alternate
    · intro vc c
      rw [routeAct_circuit valid vc]
      exact ⟨routeCircuit_invalid, routeCircuit_valid⟩
  · intro port p s low status role agreed
    exact completes_directedRequest_blocked low status role agreed
  · intro port p s low status role agreed awake i
    refine ⟨fun more on next nextAwake => ?_, fun last origin => ?_, fun r a b last origin read fits found held plain => ?_⟩
    · exact completes_directedRequest_forward low status role agreed more on next nextAwake
    · exact completes_directedRequest_refused low status role agreed last origin
    · exact completes_directedRequest_read low status role agreed awake last origin read fits found held plain
  · intro port p s low status agreed awake
    exact completes_directedResponse low status agreed awake

end Sys2Proof.Machine
end

section
/-! Packets at the router, the routing tables, and beats (O27, O28, O30): each statement fails in a state written out here.
O27 and O30 lack the premise that the packets in the router's buffers name channels below 8 (R265), as O22 to O25 do, and
O28 the premise that the keys of a routing table rise, so that an index has one entry: no hypothesis excludes such states. -/
namespace Sys2Proof.Machine
open Sys2Proof.Safety

/-! ### A packet for a Dormant port -/

/-- A completion to node 5, whole in the buffer of internal port 13. -/
def completionToFive : InPacket :=
  ⟨13, { Packet.blank with dst := 5, length := 2, vc := 1, type := tCOMPLETION }, 1, 2, false, false, false⟩

/-- Port 1 Dormant with the bell of channel 1016 still to send, and a completion whose destination's entry names port 1. -/
def strayInDormant : State :=
  { (strayInActive.setFld RTR_LINK_STAT_pstate 1 0 2).setFld RTR_NODE_ID_valid 0 0 1 with
    uc0 := [(5, 0x11)], input := [completionToFive] }

/-- The port that the completion wakes leaves ACTIVE, drops the bell (R343) and with it alters its own lane map. -/
theorem packetRoute_strayInDormant :
    Completes (.packetRoute 13 1) strayInDormant fun t => t.tstate 1 = tsFailed := ⟨_, rfl, by decide⟩

/-- Refutes O27: a packet put at a Dormant port whose lane map is a permutation fails the port instead of waking it to LOCK,
where the bell that is dropped stands in a channel that no port has. -/
theorem not_packetsRouted : ¬ Obligations.PacketsRouted := by
  unfold Obligations.PacketsRouted
  rintro ⟨routes, -⟩
  obtain ⟨-, -, -, fits⟩ :=
    routes 13 1 0 strayInDormant completionToFive (by decide) (by decide) (by decide) rfl (by decide)
  obtain ⟨-, accepted⟩ := fits (by decide) (by decide) (by decide) (.inl (by decide))
  obtain ⟨-, looked⟩ := accepted (.inl rfl)
  obtain ⟨-, -, sends, -⟩ := looked (.inl (by decide))
  obtain ⟨-, wakes⟩ := sends 1 1 (by decide)
  obtain ⟨t, ⟨-, -, locked, -⟩, failed⟩ :=
    completes_both (wakes (by decide) (by decide) (by decide)) packetRoute_strayInDormant
  exact absurd (locked.symm.trans failed) (by decide)

/-! ### A shadow table with an index twice -/

/-- The shadow bank of the unicast table with two entries of index 0. -/
def doubledEntry : State := { State.reset with uc1 := [(0, 1), (0, 2)] }

/-- A write of the value that an unlisted entry holds takes the first of the two out, and the second one is read. -/
theorem rtrTblDataAccess_doubledEntry :
    Completes (.rtrTblDataAccess true 0xFF) doubledEntry fun t => t.tblRead = 2 := ⟨_, rfl, by decide⟩

/-- Refutes O28: an entry of the shadow bank does not read as it was written where its table lists the index twice. -/
theorem not_routingTablesAndNodeId : ¬ Obligations.RoutingTablesAndNodeId := by
  unfold Obligations.RoutingTablesAndNodeId
  intro tables
  obtain ⟨-, -, writes, -⟩ := tables doubledEntry
  obtain ⟨t, ⟨-, -, -, -, reads, -⟩, second⟩ := completes_both (writes 0xFF (by decide)) rtrTblDataAccess_doubledEntry
  obtain ⟨written, -⟩ := reads (by decide)
  exact absurd (written.symm.trans second) (by decide)

/-! ### A beat that discards a packet -/

/-- A WRITE on circuit 0 of which one unit has left by port 0; it stands in the buffer of channel 15352 of input port 0, whose
count of packets would lie at the offset of RTR_TBL_CTRL. -/
def strayCircuitPacket : OutPacket :=
  ⟨0, { Packet.blank with vc := 4, type := tWRITE, length := 2, body := [0, 0] }, 1, 0, 15352, 0, 2, 0, false⟩

/-- A flip of the slot tables armed for the next beat, and none of the routing tables. No circuit is valid. -/
def strayBeforeFlip : State := { State.reset.setFld BT_FLIP_armed 0 0 1 with output := [strayCircuitPacket] }

/-- The flip discards the packet (R298, R299), and the count of packets that have left rises. -/
theorem beatStart_strayBeforeFlip :
    Completes .beatStart strayBeforeFlip fun t => t.flag RTR_TBL_CTRL_active = true := ⟨_, rfl, by decide⟩

/-- Refutes O30: the active bank of the routing tables changes at the start of a beat with no flip of them armed, where a
packet that the flip of the slot tables discards stands in a channel that no port has. -/
theorem not_beatsAndBells : ¬ Obligations.BeatsAndBells := by
  unfold Obligations.BeatsAndBells
  rintro ⟨begins, -⟩
  obtain ⟨t, ⟨-, -, -, -, -, -, -, unarmed, -⟩, flipped⟩ := completes_both (begins strayBeforeFlip) beatStart_strayBeforeFlip
  obtain ⟨kept, -⟩ := unarmed (.inl (by decide))
  exact absurd (kept.symm.trans flipped) (by decide)

end Sys2Proof.Machine
end
